-- ==== Sys2Proof/Word.lean ====
section
/-! DEFINITION. The word types of the block and their plainest arithmetic: bytes, and the saturating count that the
manual gives every 32-bit counter. -/

namespace Sys2Proof

/-- One byte of device memory (00 R5). -/
abbrev Byte := BitVec 8

/-- A 32-bit word: A32 patterns, event counters, ring indices. -/
abbrev Word := BitVec 32

/-- A 64-bit word: W64 patterns, hall time, bus addresses. -/
abbrev DWord := BitVec 64

/-- A count of `w` bits that stops at its largest value. -/
def satAdd (w a b : Nat) : Nat := min (a + b) (2 ^ w - 1)

/-- `a` is newer than `b` in `w`-bit serial arithmetic: the difference lies from 1 to half the range less one. -/
def serialNewer (w a b : Nat) : Bool :=
  let d := (a + 2 ^ w - b % 2 ^ w) % 2 ^ w
  0 < d && d < 2 ^ (w - 1)

end Sys2Proof
end

