-- ==== Sys2Proof/Syntax.lean ====
section
/-! DEFINITION. The commands of the block: one constructor of `Instr` per row of spec/opcode_table.json, in the table's order,
with the operands that the row's agent supplies. -/

namespace Sys2Proof

/-- Who makes a dictionary request (14 R443, R444): the PCI Express port, or a management requester by its source address and
UDP port, inside a secure session or not (14 R440, R442). -/
inductive Requester where
  | pcie
  | mgmt (addr : BitVec 128) (udp : BitVec 16) (secure : Bool)
deriving DecidableEq, Repr

/-- What the host answers to a read that the device issues (14 R424): the bytes, or UR, CA, EP or a time-out; `part` says that only the
requests for the named bytes (offset from the body's start, length) failed. -/
inductive HostReply where
  | data (bytes : List Byte)
  | failed
  | part (bytes : List Byte) (failed : List (Nat × Nat))
deriving DecidableEq, Repr

/-- A memory error that a read of the operation finds (09 R271-R273), by the device address of its unit. -/
structure EccHit where
  addr : Nat
  uncorrectable : Bool
deriving DecidableEq, Repr

/-- What the patrol scrubber finds in the unit that it reads, and whether it is uncorrectable (09 R277); `later` lists errors that arise in
memory and that the next read of a command without an operand for them finds. -/
structure ScrubFind where
  error : Option Bool
  later : List EccHit
deriving DecidableEq, Repr

/-- The rest of a read of BAR2: how many bytes, and the errors that it finds (09 R271). -/
structure BarRead where
  length : Nat
  ecc : List EccHit
deriving DecidableEq, Repr

/-- What a Retriever request of a remote device carries (09 R275, R287): the bytes written and their poison marks, or how many bytes are read
and whether it is a restore (12 R388). -/
structure RetrBody where
  bytes : List Byte
  marks : List Bool
  length : Nat
  restore : Bool
deriving DecidableEq, Repr

/-- What a remote device answers to a Retriever request (09 R275, R283-R288): served or refused; the bytes read, the poison mark of
each (none past the list's end), and the fingerprint record read with them. -/
structure RemoteReply where
  served : Bool
  bytes : List Byte
  marks : List Bool
  record : List Byte
deriving DecidableEq, Repr

/-- The shadow record of one shard as the Littermate returns it (12 R381, R388): the valid rows of W, c, m and v, and the
fingerprint record. -/
structure ShadowRec where
  shard : Nat
  w : List Byte
  c : List Byte
  m : List Byte
  v : List Byte
  fprint : List Byte
deriving DecidableEq, Repr

/-- A flit on the wire (10 R299): the 16 header bytes as one value, the 240 payload bytes, and whether it touches an RS codeword
that the decoder could not correct (10 R302). -/
structure Flit where
  header : BitVec 128
  payload : List Byte
  fecBad : Bool
deriving DecidableEq, Repr

/-- The content of a flit that is no DATA flit, with the `ACK` of its header, where that is valid (10 R300, R308). -/
structure Carried (w : Nat) where
  value : BitVec w
  ack : Option (BitVec 12)
deriving DecidableEq, Repr

/-- What a lane of a port reports (10 R319, first two causes; R323): loss of signal or of FEC lock, or what its FEC decoder finds: codewords
that it cannot correct, symbols that it corrects. -/
inductive LinkFault where
  | lossOfSignal
  | fec (lane : Fin 32) (codewords corrected : Nat)
deriving DecidableEq, Repr

/-- The 64-bit ring registers of 04 R94 that a configuration write may name. -/
inductive RingReg where
  | ringBase | ringCfg | cplBase | cplCfg
deriving DecidableEq, Repr

/-- The event-queue registers of 14 R431 that a configuration write may name. -/
inductive EvqReg where
  | evqBase | evqCfg
deriving DecidableEq, Repr

/-- Which part of a 64-bit register an access of 4 or 8 bytes covers (14 R421). -/
inductive Part where
  | whole | low | high
deriving DecidableEq, Repr

/-- A write of 4 or 8 bytes to half an entry of the MSI-X table: its vector, and whether it is the half that holds the data and the control
word (14 R421, R426). -/
structure MsixWrite where
  vector : Fin 2048
  upper : Bool
  part : Part
  value : DWord
deriving DecidableEq, Repr

/-- A management datagram (14 R437, R438): the source, the destination, its VLAN identifier (none when untagged), whether it arrived
inside a secure session, the 32-byte header and the data. -/
structure MgmtFrame where
  addr : BitVec 128
  udp : BitVec 16
  dst : BitVec 128
  dport : BitVec 16
  vlan : Option Nat
  secure : Bool
  header : BitVec 256
  data : List Byte
deriving DecidableEq, Repr

/-- Where an SPDM message arrives (18 R536). -/
inductive SpdmPort where
  | doe
  | mgmt (addr : BitVec 128) (udp : BitVec 16)
deriving DecidableEq, Repr

/-- An SPDM request, by the fields the manual's rules use (18 R535-R539). `late` says that its response needs more than the time
of 18 R537. -/
inductive SpdmReq where
  | getVersion
  | getCapabilities
  | negotiateAlgorithms (offersAll : Bool)
  | getDigests
  | getCertificate (slot offset length : Nat)
  | challenge (slot : Nat) (nonce : BitVec 256)
  | getMeasurements (block : Nat)
  | keyExchange (slot : Nat)
  | finish (session : Nat)
  | heartbeat (session : Nat)
  | keyUpdate (session : Nat)
  | endSession (session : Nat)
  | respondIfReady (token : Nat)
  | setCertificate (slot : Nat)
  | other (code : Nat)
deriving DecidableEq, Repr

/-- An answer of the SPDM responder (18 R535-R539), by the content the manual's rules give. -/
inductive SpdmReply where
  | version
  | capabilities
  | algorithms
  | digests (digests : List (BitVec 384))
  | certificate (slot : Nat) (bytes : List Byte) (remaining : Nat)
  | challengeAuth (nonce : BitVec 256) (summary : BitVec 384) (signature : List Byte)
  | measurements (count : Nat) (blocks : List (Nat × List Byte))
  | keyExchanged (session : Nat)
  | finished (session : Nat)
  | heartbeatAck (session : Nat)
  | keyUpdated (session : Nat)
  | sessionEnded (session : Nat)
  | unsupportedRequest (code : Nat)
  | unexpectedRequest
  | invalidRequest
  | sessionLimitExceeded
  | responseNotReady (exponent token : Nat)
deriving DecidableEq, Repr

/-- What an SPDM operation frame or a DOE object carries: a message, or a secured message whose data are one object-access frame
(18 R538). -/
inductive SpdmBody where
  | message (r : SpdmReq)
  | secured (session : Nat) (frame : MgmtFrame)
deriving DecidableEq, Repr

/-- A data object in the DOE mailbox (14 R427): type 0 discovery, which asks for the type at `index`,
1 CMA/SPDM, 2 Secured CMA/SPDM. -/
structure DoeObject where
  vendor : Nat
  kind : Nat
  dwords : Nat
  index : Nat
  body : SpdmBody
deriving DecidableEq, Repr

/-- What the SPD of a Kennel channel says (09 R267, R268): fitted, capacity, rate, identity (maker and organisation), whether it is a DDR5 MRDIMM
with ECC, the width of its DRAM, of a sub-channel, and how many modules the channel carries. -/
structure KModule where
  fitted : Bool
  gb : Nat
  rate : Nat
  ident : Nat
  mrdimm : Bool
  ecc : Bool
  dramWidth : Nat
  subWidth : Nat
  count : Nat
deriving DecidableEq, Repr

/-- What a step of the power-state chain finds: the modules by channel, and the stacks and channels that fail to train
(09 R268, R279). -/
structure StepEnv where
  modules : List KModule
  nearFail : List Nat
  kennelFail : List Nat
deriving DecidableEq, Repr

/-- An IEEE 1588 message at the management PHY (11 R337): stamps in nanoseconds. -/
inductive PtpMsg where
  | sync (domain : Nat) (twoStep : Bool) (t1 : Int)
  | followUp (domain : Nat) (t1 : Int)
  | delayResp (domain : Nat) (t3 t4 : Int)
deriving DecidableEq, Repr

/-- What the clock monitor sees at a trip (17 R515): a stopped source, or a count outside its window. -/
inductive TripKind where
  | stopped | count
deriving DecidableEq, Repr

/-- A write of `LP_REF` or of `LP_FREQ` (17 R508). -/
inductive LoopReg where
  | ref | freq
deriving DecidableEq, Repr

/-- Which part of a Sniffer context is written (13 R408). -/
inductive SnCtx where
  | value | bytes
deriving DecidableEq, Repr

/-- What one of the firmware update's flash operations finished (18 R541). -/
inductive FlashJob where
  | erase | staging
deriving DecidableEq, Repr

/-- An instruction on the IEEE 1149.1 test port (18 R543, 20 R588). -/
inductive TestInstr where
  | mandatory
  | extest
  | clamp
  | shepherdDebug
  | privateTest (code : Nat)
deriving DecidableEq, Repr

/-- What a power-on finds in the flash: whether the manufacture area holds the chain of the identity key (18 R535), and what is wrong: records whose CRC fails, as segment number and place in the segment; segments
whose header fails its CRC; how many of the newest lifetime records fail theirs; the image slots whose trailer page fails its own (18 R530;
19 R562, R570). -/
structure FlashFound where
  chain : Bool
  torn : List (Nat × Nat)
  badHeaders : List Nat
  lifeBad : Nat
  trailerBad : List Nat
deriving DecidableEq, Repr

/-- The commands, one per row of spec/opcode_table.json. -/
inductive Instr where
  | doorbellWrite (ring : Fin 64) (value : Word)
  | eventCounterWrite (counter : Fin 4096) (value : Word)
  | ringConfigWrite (ring : Fin 64) (reg : RingReg) (part : Part) (value : DWord)
  | ringEnable (ring : Fin 64)
  | ringDisable (ring : Fin 64)
  | ringReset (ring : Fin 64) (also : BitVec 3)
  | ringAbort (ring : Fin 64) (also : BitVec 3)
  | ringResume (ring : Fin 64) (also : BitVec 3)
  | cplHeadWrite (ring : Fin 64) (value : Word)
  | descriptorIssue (host : HostReply) (ecc : List EccHit)
  | descriptorCompletion (id : Nat)
  | waitWatchExpired (id : Nat)
  | arrayMatmul (id : Nat) (ecc : List EccHit)
  | arrayTwin (id : Nat) (ecc : List EccHit)
  | arrayDrain (id : Nat) (ecc : List EccHit)
  | tapFlush
  | vecMap (id : Nat) (ecc : List EccHit)
  | vecNorm (id : Nat) (ecc : List EccHit)
  | vecSoftmax (id : Nat) (ecc : List EccHit)
  | vecLoss (id : Nat) (ecc : List EccHit)
  | vecReduce (id : Nat) (ecc : List EccHit)
  | vecConvert (id : Nat) (ecc : List EccHit)
  | moveCopy (id : Nat) (ecc : List EccHit)
  | moveFromHost (id : Nat) (host : HostReply) (ecc : List EccHit)
  | moveToHost (id : Nat) (ecc : List EccHit)
  | moveFill (id : Nat)
  | retrieveFetch (id : Nat) (first second : RemoteReply)
  | retrievePrefetch (id : Nat) (ecc : List EccHit)
  | retrieveOffload (id : Nat) (remote : RemoteReply) (ecc : List EccHit)
  | retrieveRestore (id : Nat) (remote : RemoteReply) (ecc : List EccHit)
  | remoteRetrieverRequest (port : Fin 6) (source : BitVec 14) (write : Bool) (addr : Nat) (body : RetrBody) (ecc : List EccHit)
  | collReduceScatter (id : Nat) (ecc : List EccHit)
  | collAllGather (id : Nat) (ecc : List EccHit)
  | collBroadcast (id : Nat) (ecc : List EccHit)
  | collPermute (id : Nat) (ecc : List EccHit)
  | collExactReduce (id : Nat) (ecc : List EccHit)
  | ceRoot (id : Nat) (ecc : List EccHit)
  | ceCholInv (id : Nat) (ecc : List EccHit)
  | ceLsq (id : Nat) (ecc : List EccHit)
  | sweepNormCheck (id : Nat) (ecc : List EccHit)
  | sweepShards (id : Nat) (shadows : List ShadowRec) (ecc : List EccHit)
  | vringClaim (shadows : List ShadowRec) (ecc : List EccHit)
  | vringClaimWait
  | sweepShardEligible (shadows : List ShadowRec) (ecc : List EccHit)
  | sweepResidencyWait (entry : Nat)
  | sweepVerify (id : Nat) (shadows : List ShadowRec) (ecc : List EccHit)
  | syncNop (id : Nat)
  | syncWaitHt (id : Nat)
  | syncCounterSet (id : Nat)
  | syncStepBoundary (id : Nat)
  | syncMarker (id : Nat)
  | patrolScrub (addr : Nat) (found : ScrubFind)
  | bar2Read (offset : Nat) (read : BarRead)
  | bar2Write (offset : Nat) (bytes : List Byte)
  | pcieConfigRequest (write : Bool) (offset : Nat) (value : Word)
  | pcieLinkDown
  | msixUnmask (write : MsixWrite)
  | doeRequest (object : DoeObject)
  | evqConfigWrite (reg : EvqReg) (part : Part) (value : DWord)
  | evqHeadWrite (value : Word)
  | odRead (sel : BitVec 24)
  | odWrite (sel : BitVec 24) (data : BitVec 256)
  | odEntryWrite (who : Requester) (sel : BitVec 24) (data : BitVec 256)
  | mgmtRead (frame : MgmtFrame)
  | mgmtWrite (frame : MgmtFrame)
  | mgmtSubscribe (frame : MgmtFrame)
  | mgmtEventAck (frame : MgmtFrame)
  | mgmtSpdm (frame : MgmtFrame) (body : SpdmBody)
  | mgmtBadMagicFrame (frame : MgmtFrame)
  | mgmtEventResend (subscriber : Fin 4) (eseq : Word)
  | mgmtSpeedAlternate
  | mgmtLinkChange (up : Bool)
  | ptpMessageReceived (msg : PtpMsg)
  | leashAcquire (who : Requester) (leash : Fin 32)
  | leashArbitration (leash : Fin 32)
  | leashRenew (who : Requester) (leash : Fin 32)
  | leashRelease (who : Requester) (leash : Fin 32)
  | leashExpired (leash : Fin 32)
  | getVersion (port : SpdmPort)
  | getCapabilities (port : SpdmPort)
  | negotiateAlgorithms (port : SpdmPort) (offersAll : Bool)
  | getDigests (port : SpdmPort)
  | getCertificate (port : SpdmPort) (slot offset length : Nat)
  | challenge (port : SpdmPort) (late : Bool) (slot : Nat) (nonce : BitVec 256)
  | getMeasurements (port : SpdmPort) (late : Bool) (block : Nat)
  | keyExchange (port : SpdmPort) (late : Bool) (slot : Nat)
  | finish (port : SpdmPort) (session : Nat)
  | heartbeat (port : SpdmPort) (session : Nat)
  | keyUpdate (port : SpdmPort) (session : Nat)
  | endSession (port : SpdmPort) (session : Nat)
  | respondIfReady (port : SpdmPort) (token : Nat)
  | setCertificate (port : SpdmPort) (slot : Nat)
  | spdmUnsupportedRequest (port : SpdmPort) (code : Nat)
  | laneSignalDetected (port : Fin 6)
  | trainingComplete (port : Fin 6)
  | alignComplete (port : Fin 6) (reversed : Bool)
  | trainTimeout (port : Fin 6)
  | discoveryReceived (port : Fin 6) (round2 : Bool) (record : Carried 512)
  | discoverySend (port : Fin 6)
  | linkFaultDetected (port : Fin 6) (cause : LinkFault)
  | retrainTimeout (port : Fin 6)
  | forceDown (who : Requester) (port : Fin 6) (also : BitVec 4)
  | rearm (who : Requester) (port : Fin 6) (also : BitVec 4)
  | retrain (who : Requester) (port : Fin 6) (also : BitVec 4)
  | rediscover (who : Requester) (port : Fin 6) (also : BitVec 4)
  | dataFlitReceived (port : Fin 6) (flit : Flit)
  | linkCtrlReceived (port : Fin 6) (flit : Flit)
  | nakResendTimeout (port : Fin 6)
  | replayTimeout (port : Fin 6)
  | timeMarkSend (port : Fin 6)
  | timeMarkReceived (port : Fin 6) (mark : Carried 384) (arrivalFrac : BitVec 16)
  | timeHoldover
  | trefPpsEdge (highNs : Nat)
  | trefPpsLoss
  | tref10mLoss
  | barkSend (port : Fin 6)
  | barkReceived (port : Fin 6) (bark : Carried 256)
  | neighbourLost (port : Fin 6)
  | howlReceived (port : Fin 6) (flit : Flit)
  | stepAbandonWrite (who : Requester) (value : DWord)
  | howlSendWrite (who : Requester) (value : BitVec 16)
  | slotStart (port : Fin 6)
  | forwardSlot (port : Fin 6)
  | swapArm (who : Requester)
  | swapDisarm (who : Requester)
  | swapLoadComplete (ecc : List EccHit)
  | slotSwap
  | collDataChunkReceived
  | fingerprintChunkReceived
  | segAckReceived
  | chunkNakReceived
  | refetchReqReceived
  | chunkStreamTimeout (source : BitVec 14) (collId : BitVec 16) (detour : Bool)
  | collAckTimeout (segment : Nat)
  | earlyHoldExpired
  | shadowDataReceived
  | shadowCommitReceived
  | shadowCommitHoldTimeout (slot : Fin 4)
  | shadowCommitSend
  | trailFreeze (who : Requester)
  | trailResume (who : Requester)
  | trailDump (who : Requester) (flashOk : Bool)
  | trailPostFreeze
  | trailMarkWrite (who : Requester) (value : DWord)
  | trailEntryRead (who : Requester)
  | snClose (who : Requester) (unit : Fin 8)
  | snReset (who : Requester) (unit : Fin 8)
  | snDeferredClose (unit : Fin 8)
  | snContextWrite (who : Requester) (unit : Fin 8) (field : SnCtx) (value : DWord)
  | snifferRun (id groups : Nat)
  | epochValueWrite (who : Requester) (value : BitVec 16)
  | pstateCmdStandby (who : Requester)
  | pstateCmdHold (who : Requester)
  | pstateCmdReady (who : Requester)
  | pstateCmdRun (who : Requester)
  | pstateStepComplete (env : StepEnv)
  | heelPeriod (pace power : Nat) (rails : List (Nat × Nat))
  | avsbusFault (rail : Fin 4) (command : BitVec 8)
  | avsbusRetry (rail : Fin 4) (answered : Bool)
  | sensorConversion (sensor : Fin 128) (tenths : Int)
  | sensorFailed (sensor : Fin 128)
  | railOutOfWindow (rail : Fin 16)
  | vrFaultAsserted
  | vrFaultLatchClear
  | clkMonitorTrip (source : Fin 32) (kind : TripKind)
  | clkSourceReady (source : Fin 32)
  | oscillatorStartFailed (source : Fin 32)
  | loopRelockAttempt (loop : Fin 12) (locked : Bool)
  | domainSourceWrite (who : Requester) (domain : Fin 14) (source : Byte)
  | clkForcedSwitch (domain : Fin 14)
  | loopConfigWrite (who : Requester) (reg : LoopReg) (loop : Fin 12) (value : Word)
  | fioTrim (errorPpb : Int)
  | rollbackCommit (who : Requester) (value : Byte)
  | debugTokenDataWrite (who : Requester) (data : BitVec 256)
  | debugTokenSubmit (who : Requester)
  | debugLock (who : Requester)
  | fwUpdBegin (who : Requester)
  | fwUpdDataWrite (who : Requester) (data : BitVec 256)
  | fwUpdVerify (who : Requester)
  | fwVerifyComplete (flashOk : Bool)
  | fwUpdCancel (who : Requester)
  | fwUpdActivate (who : Requester)
  | firmwareConfirm
  | powerOnReset (pins : BitVec 16) (found : FlashFound)
  | warmReset (who : Requester)
  | fullReset (who : Requester) (pins : BitVec 16)
  | perstAsserted (pins : BitVec 16)
  | perstDeasserted
  | hotReset (pins : BitVec 16)
  | functionLevelReset
  | strapsCheck (pins : BitVec 16)
  | stopNChange (level : Bool)
  | stopLockoutEnd
  | ledgerCommit (flashOk : Bool)
  | ledgerAck (who : Requester) (value : Word)
  | ledgerCompaction
  | trailDumpRelease (who : Requester) (slot : Byte)
  | lifetimeRecordWrite (flashOk : Bool)
  | calendarWrite (who : Requester) (value : DWord)
  | standbySupplyLoss
  | pcieLinkUp
  | memDeviceFailed (device : Fin 32)
  | kennelClockStopTimeout (half : Fin 2)
  | tref10mRestored
  | fwUpdFlashDone (job : FlashJob)
  | testPortAccess (instr : TestInstr)
deriving DecidableEq, Repr

end Sys2Proof
end

