-- ==== Sys2Proof/Decode.lean ====
section
/-! DEFINITION. What a word spells as a command: nothing, since spec/opcode_table.json gives no row any bits. -/

namespace Sys2Proof

/-- The command that a word of `nbits` bits spells by the table's bits. -/
def decodeTableWord (_nbits _w : Nat) : Option Instr := none

end Sys2Proof
end

