-- ==== Sys2Proof/Config.lean ====
section
/-! DEFINITION. What is fixed for one part, and the free values: opaque constants with no body, so that no proof can see
them. Each free value is marked in the assumption log. -/

namespace Sys2Proof

/-- The fused serial number (15 R465, 18 R526). -/
opaque Config.serial : BitVec 64

/-- The fused MAC address (15 R465, 18 R526). -/
opaque Config.macAddress : BitVec 48

/-- The fused SHA-384 of the root key (15 R473, 18 R525). -/
opaque Config.rootKeyHash : BitVec 384

/-- The root hash built into the boot ROM (18 R525). -/
opaque Config.romRootHash : BitVec 384

/-- The Umatas root public key, 97 bytes (18, "The device trusts one key"). -/
opaque Config.rootKey : List Byte

/-- SHA-384 of the boot ROM (18 R539, block 1). -/
opaque Config.romDigest : BitVec 384

/-- SHA-384 (18, "The device trusts one key"): another standard's function, free here. -/
opaque Config.sha384 : List Byte → BitVec 384

/-- ECDSA on brainpoolP384r1 with SHA-384: key, message, signature, verdict. Free: another standard's function. -/
opaque Config.ecdsaVerify : List Byte → List Byte → List Byte → Bool

/-- The signature that the security block makes with the identity key (18 R534). Free. -/
opaque Config.identitySign : List Byte → List Byte

/-- The 97-byte public point of a DER certificate, if it parses (18 R528). Free: X.509 is another standard. -/
opaque Config.certKey : List Byte → Option (List Byte)

/-- The to-be-signed bytes and the signature of a DER certificate (18 R529, check 5). Free. -/
opaque Config.certTbs : List Byte → Option (List Byte × List Byte)

/-- Whether a DER certificate's key usage includes digitalSignature (18 R528). Free. -/
opaque Config.certSigns : List Byte → Bool

/-- The length of the first DER item of a byte string (two certificates stand back to back, 18 R528). Free. -/
opaque Config.derLength : List Byte → Nat

/-- The public key that the ROM derives at every reset (18 R534). Free. -/
opaque Config.identityKey : List Byte

/-- The number a random draw gives: DEBUG_NONCE (18 R545) and INCARNATION (10 R312), by the draw's number. Free. -/
opaque Config.draw : Nat → BitVec 64

/-- The error of EXP, RECIP, RSQRT, GELU, SILU and their derivatives (04 R127) in units of the last place, by function and
input pattern. The model clamps it to two units of A32. Free. -/
opaque Config.ulpError : Nat → Nat → Int

/-- The logarithm of `VEC_LOSS` SEED, whose accuracy the manual does not state (04 R128), by W64 pattern. Free. -/
opaque Config.logW64 : BitVec 64 → BitVec 64

/-- The exponential in a log-sum-exp pair of `COLL_EXACT_REDUCE` (04 R132), by W64 pattern. Free. -/
opaque Config.expW64 : BitVec 64 → BitVec 64

/-- Contents the manual leaves unspecified, by the draw's number and the position: a torn tile (03 R77), a sweep's tiles
(08 R240), the bytes of a failed fetch (08 R250), late-poisoned solver output (07 R220). Free. -/
opaque Config.unspecified : Nat → Nat → Nat

/-- The rate of its reference that the time base learns, in units of 2^-32 ns each nanosecond, by the draw's number: no rule says how it is
learnt (11 R333, R336). The model keeps it within 50 ppm. Free. -/
opaque Config.learntRate : Nat → Int

/-- How many flits a Retriever message takes, by the bytes it asks for or carries: no rule gives its layout (09 R283, 11 R349). Free. -/
opaque Config.retrFlits : Nat → Nat

/-- The handshakes an array operation occupies beyond its passes when it does not directly follow another: about 4,096 by 03, "Rates";
by the operation's number. Free. -/
opaque Config.arrayFill : Nat → Nat

/-- Where a capability of 14 R419 lies in the configuration space, by its place in that rule's list (0 power management, 1 PCI Express,
2 MSI-X, 4 serial number, 5 Resizable BAR, 6 DOE): the rule places none. Free. -/
opaque Config.capOffset : Nat → Nat

/-- The register of MSI-X Message Control, those that select the PCI power state and the size of BAR2, and DOE Control. -/
def Config.msixControl : Nat := Config.capOffset 2
def Config.pmControl : Nat := Config.capOffset 0 + 4
def Config.rebarControl : Nat := Config.capOffset 5 + 8
def Config.doeControl : Nat := Config.capOffset 6 + 8

/-- What the bits of a PCI Express configuration register outside 14 R417-R420 answer, by its offset and the value last written to it (0 for
none). Free: PCI Express is another standard. -/
opaque Config.pcieRegister : Nat → Nat → BitVec 32

/-- The length in bytes of an SPDM answer, whose encoding SPDM gives. Free: another standard. -/
opaque Config.spdmLength : SpdmReply → Nat

/-- How long after a reset, in ns, the firmware serves the dictionary (19 R554), by the draw's number: the rules give a limit only. Free. -/
opaque Config.bootTime : Nat → Nat

/-- The identity certificate chain that the manufacture area holds (18 R535, 19 R550). Free. -/
opaque Config.identityChain : List Byte

/-- The levels that the boundary scan drives outside STANDBY, whose effect is unspecified (20 R588). Free. -/
opaque Config.scanEffect : Nat → Nat

end Sys2Proof
end

