-- ==== Sys2Proof/Machine/Bits.lean ====
section
/-! DEFINITION. Bit fields, little-endian bytes, the canonical sparse map that holds every table of the state, and the
cyclic redundancy checks of the manual. -/

namespace Sys2Proof.Machine

/-- A sparse table by number, in one canonical form: keys rise strictly and no entry equals what an unlisted key holds. -/
abbrev SMap (α : Type) := List (Nat × α)

/-- What the table holds at `k`; `d` says what an unlisted key holds. -/
def sget {α : Type} (d : Nat → α) : SMap α → Nat → α
  | [], k => d k
  | (k', v) :: t, k => if k' = k then v else sget d t k

/-- The table with every entry of key `k` taken out. -/
def serase {α : Type} (k : Nat) : SMap α → SMap α
  | [] => []
  | (k', v) :: t => if k' = k then serase k t else (k', v) :: serase k t

/-- The table with `(k, v)` put before the first larger key. -/
def sinsert {α : Type} (k : Nat) (v : α) : SMap α → SMap α
  | [] => [(k, v)]
  | (k', v') :: t => if k < k' then (k, v) :: (k', v') :: t else (k', v') :: sinsert k v t

/-- The table with `v` at `k`, in canonical form. -/
def sset {α : Type} [DecidableEq α] (d : Nat → α) (m : SMap α) (k : Nat) (v : α) : SMap α :=
  if v = d k then serase k m else sinsert k v (serase k m)

/-- The canonical form: keys rise strictly and no entry equals what an unlisted key holds. -/
def swf {α : Type} [DecidableEq α] (d : Nat → α) : SMap α → Bool
  | [] => true
  | [(k, v)] => !(decide (v = d k))
  | (k, v) :: (k', v') :: t => !(decide (v = d k)) && decide (k < k') && swf d ((k', v') :: t)

/-- The `w` bits of `n` from bit `lo` upwards (00 R4). -/
def bits (n lo w : Nat) : Nat := (n >>> lo) % 2 ^ w

/-- Bit `i` of `n`. -/
def bit (n i : Nat) : Bool := bits n i 1 == 1

/-- `n` with the `w` bits from `lo` replaced by `v`. -/
def setBits (n lo w v : Nat) : Nat :=
  (n >>> (lo + w)) <<< (lo + w) + (v % 2 ^ w) <<< lo + n % 2 ^ lo

/-- A flag as a number. -/
def b2n (b : Bool) : Nat := if b then 1 else 0

/-- The signed value of the low `w` bits. -/
def sgn (w n : Nat) : Int :=
  let m := n % 2 ^ w
  if m < 2 ^ (w - 1) then (m : Int) else (m : Int) - (2 ^ w : Nat)

/-- The `w`-bit two's-complement pattern of a signed value. -/
def unsgn (w : Nat) (i : Int) : Nat := (i % ((2 ^ w : Nat) : Int)).toNat

/-- `n` as `k` bytes, least significant first (00 R5). -/
def toBytes : Nat → Nat → List Byte
  | 0, _ => []
  | k + 1, n => BitVec.ofNat 8 n :: toBytes k (n / 256)

/-- The number that bytes hold, least significant first (00 R5). -/
def ofBytes : List Byte → Nat
  | [] => 0
  | b :: t => b.toNat + 256 * ofBytes t

/-- The number that bytes hold, most significant first. -/
def ofBytesBE (l : List Byte) : Nat := ofBytes l.reverse

/-- `n` reversed over its low `w` bits. -/
def reverseBits : Nat → Nat → Nat
  | 0, _ => 0
  | w + 1, n => (n % 2) <<< w + reverseBits w (n / 2)

/-- Parameters of a check value (13 R399, R400). -/
structure CrcSet where
  width : Nat
  poly : Nat
  init : Nat
  refin : Bool
  refout : Bool
  xorout : Nat
deriving DecidableEq, Repr

/-- One of the eight shifts of the fold (13 R399). -/
def crcShift (c : CrcSet) : Nat → Nat → Nat
  | 0, r => r
  | k + 1, r =>
    crcShift c k (if bit r (c.width - 1) then ((r <<< 1) ^^^ c.poly) % 2 ^ c.width else (r <<< 1) % 2 ^ c.width)

/-- Fold one byte into the unreflected register (13 R399). -/
def crcByte (c : CrcSet) (r : Nat) (b : Byte) : Nat :=
  let x := if c.refin then reverseBits 8 b.toNat else b.toNat
  crcShift c 8 (r ^^^ (x <<< (c.width - 8)))

/-- The register after folding bytes in order (13 R399). -/
def crcFold (c : CrcSet) : Nat → List Byte → Nat
  | r, [] => r
  | r, b :: t => crcFold c (crcByte c r b) t

/-- The result that a close forms from the w-bit register (13 R399). -/
def crcOut (c : CrcSet) (r : Nat) : Nat :=
  (if c.refout then reverseBits c.width r else bits r 0 c.width) ^^^ c.xorout

/-- CRC-32C (10 R301, 13 R400 set 1). -/
def crc32cSet : CrcSet := ⟨32, 0x1EDC6F41, 0xFFFFFFFF, true, true, 0xFFFFFFFF⟩
/-- CRC-32 of IEEE 802.3 (13 R400 set 2). -/
def crc32Set : CrcSet := ⟨32, 0x04C11DB7, 0xFFFFFFFF, true, true, 0xFFFFFFFF⟩
/-- CRC-64 of ECMA-182, the fingerprint code (08 R248, 13 R400 set 3). -/
def crc64Set : CrcSet := ⟨64, 0x42F0E1EBA9EA3693, 0, false, false, 0⟩
/-- CRC-16/CCITT (13 R400 set 4). -/
def crc16Set : CrcSet := ⟨16, 0x1021, 0xFFFF, false, false, 0⟩

/-- The check value of a byte string. -/
def crcOf (c : CrcSet) (l : List Byte) : Nat := crcOut c (crcFold c c.init l)

/-- CRC-32C of a byte string (10 R301). -/
def crc32c (l : List Byte) : Nat := crcOf crc32cSet l

/-- The numbers from `a`, `n` of them, in ascending order. -/
def upFrom : Nat → Nat → List Nat
  | _, 0 => []
  | a, n + 1 => a :: upFrom (a + 1) n

/-- The numbers below `n`, in ascending order. -/
def below (n : Nat) : List Nat := upFrom 0 n

/-- The list cut into pieces of `k`; `fuel` bounds the pieces. -/
def chunksOf {α : Type} (k : Nat) : Nat → List α → List (List α)
  | 0, _ => []
  | fuel + 1, l => if l.isEmpty then [] else l.take k :: chunksOf k fuel (l.drop k)

/-- The list with its `i`-th member changed. -/
def modifyAt {α : Type} (f : α → α) : Nat → List α → List α
  | _, [] => []
  | 0, a :: t => f a :: t
  | i + 1, a :: t => a :: modifyAt f i t

end Sys2Proof.Machine
end

