-- ==== Sys2Proof/Machine/OdTable.lean ====
section
/-! DEFINITION. The object dictionary as a table: for every entry its index and sub-index range, its size in bytes, its access
code and its default (15 R453-R464 and the entry tables of each chapter). -/

namespace Sys2Proof.Machine

/-- The access codes of 00 R7. -/
inductive Access where
  | const | ro | rw | rwq | wo
deriving DecidableEq, Repr

/-- A row of the dictionary: indices `i0` to `i1`, sub-indices `s0` to `s1` of each, size, access, default. -/
structure OdRow where
  i0 : Nat
  i1 : Nat
  s0 : Nat
  s1 : Nat
  size : Nat
  access : Access
  dflt : Nat
deriving DecidableEq, Repr

/-- Entries of 02 R61. -/
def odRows02R61 : List OdRow := [
  ⟨0x5020, 0x5020, 0x1, 0x1, 1, .rwq, 0⟩, -- PEDIGREE_ENABLE
  ⟨0x5020, 0x5020, 0x2, 0x2, 1, .ro, 0⟩, -- PEDIGREE_ACTIVE
  ⟨0x5030, 0x5030, 0x1, 0x1, 1, .rw, 16⟩, -- LS_EXP
  ⟨0x5030, 0x5030, 0x2, 0x2, 1, .rw, 1⟩, -- LS_AUTO
  ⟨0x5030, 0x5030, 0x3, 0x3, 2, .rw, 2000⟩, -- LS_INTERVAL
  ⟨0x5030, 0x5030, 0x4, 0x4, 2, .ro, 0⟩, -- LS_CLEAN_RUN
  ⟨0x5030, 0x5030, 0x5, 0x5, 4, .ro, 0⟩, -- LS_SKIPS
  ⟨0x5040, 0x5040, 0x1, 0x1, 8, .rwq, 0⟩, -- SR_SEED
  ⟨0x5050, 0x5050, 0x1, 0x1, 8, .rwq, 0x0F002FE00000⟩, -- SCALE_TABLE_BASE
  ⟨0x5050, 0x5050, 0x2, 0x2, 4, .ro, 0⟩ ] -- SCALE_CURRENT_COUNT

/-- Entries of 03 R91. -/
def odRows03R91 : List OdRow := [
  ⟨0x5010, 0x5010, 0x1, 0x1, 1, .rwq, 0⟩, -- ACC_VISIBILITY
  ⟨0x5010, 0x5010, 0x2, 0x2, 1, .ro, 0⟩, -- ACC_VIS_ACTIVE
  ⟨0x5060, 0x5060, 0x1, 0x1, 8, .rwq, 0x0F001FE00000⟩, -- SPILL_BASE
  ⟨0x5070, 0x5070, 0x1, 0x10, 4, .ro, 0⟩ ] -- ACC_STATUS

/-- Entries of 04 R145. -/
def odRows04R145 : List OdRow := [
  ⟨0x5080, 0x5080, 0x1, 0x1, 4, .rw, 1000⟩, -- WAIT_WATCH
  ⟨0x5080, 0x5080, 0x2, 0x2, 2, .ro, 0⟩, -- SB_OCCUPANCY
  ⟨0x5080, 0x5080, 0x3, 0x3, 8, .ro, 0⟩, -- SB_FULL_TIME
  ⟨0x5080, 0x5080, 0x4, 0x4, 8, .rwq, 0⟩ ] -- STEP_COUNTER

/-- Entries of 05 R167. -/
def odRows05R167 : List OdRow := [
  ⟨0x5090, 0x5090, 0x1, 0x1, 8, .rwq, 0x0F001FDC0000⟩, -- VRING_TABLE_BASE
  ⟨0x5090, 0x5090, 0x2, 0x2, 4, .ro, 0⟩, -- VRING_CLAIM_WAITS
  ⟨0x5090, 0x5090, 0x3, 0x3, 4, .ro, 0⟩ ] -- VRING_EVICT_FAULTS

/-- Entries of 06 R187. -/
def odRows06R187 : List OdRow := [
  ⟨0x6100, 0x6100, 0x1, 0x1, 1, .rw, 0⟩, -- NOISE_ENABLE
  ⟨0x6100, 0x6100, 0x2, 0x2, 8, .rwq, 0x0F001FDA0000⟩, -- NOISE_BASE
  ⟨0x6110, 0x6110, 0x1, 0x1, 8, .ro, 0⟩, -- TAP_OPS
  ⟨0x6110, 0x6110, 0x2, 0x2, 4, .ro, 0⟩, -- TAP_MERGES
  ⟨0x6110, 0x6110, 0x3, 0x3, 4, .ro, 0⟩, -- TAP_BLOCKS_SKIPPED
  ⟨0x6110, 0x6110, 0x4, 0x4, 4, .ro, 0⟩ ] -- NOISE_NONFINITE

/-- Entries of 07 R223. -/
def odRows07R223 : List OdRow := [
  ⟨0x6000, 0x6000, 0x1, 0x1, 1, .rwq, 0⟩, -- ROOT_STORE_EN
  ⟨0x6000, 0x6000, 0x2, 0x2, 8, .rwq, 0⟩, -- ROOT_STORE_BASE
  ⟨0x6000, 0x6000, 0x3, 0x6, 8, .rwq, 0⟩, -- CE_SCRATCH_BASE
  ⟨0x6000, 0x6000, 0x7, 0x7, 4, .rwq, 0⟩, -- CE_SCRATCH_SIZE
  ⟨0x6010, 0x6010, 0x1, 0x1, 8, .ro, 0⟩, -- CE_JOBS
  ⟨0x6010, 0x6010, 0x2, 0x2, 4, .ro, 0⟩, -- CE_WARM_ACCEPTED
  ⟨0x6010, 0x6010, 0x3, 0x3, 4, .ro, 0⟩, -- CE_WARM_REJECTED
  ⟨0x6010, 0x6010, 0x4, 0x4, 4, .ro, 0⟩, -- CE_WARM_DIVERGENT
  ⟨0x6010, 0x6010, 0x5, 0x5, 4, .ro, 0⟩, -- CE_PIVOTS_DAMPED
  ⟨0x6010, 0x6010, 0x6, 0x6, 4, .ro, 0⟩ ] -- CE_RANGE_EXCEEDED

/-- Entries of 08 R258. -/
def odRows08R258 : List OdRow := [
  ⟨0x50A0, 0x50A0, 0x1, 0x1, 8, .rwq, 0x0F001FD80000⟩, -- READY_MAP_BASE
  ⟨0x50A0, 0x50A0, 0x2, 0x2, 4, .rw, 100⟩, -- VERIFY_INTERVAL
  ⟨0x50A0, 0x50A0, 0x3, 0x3, 8, .ro, 0⟩, -- SWEEP_SHARDS_DONE
  ⟨0x50A0, 0x50A0, 0x4, 0x4, 8, .ro, 0⟩, -- VERIFY_CHECKS
  ⟨0x50A0, 0x50A0, 0x5, 0x5, 4, .ro, 0⟩, -- VERIFY_UNCHECKED
  ⟨0x50A0, 0x50A0, 0x6, 0x6, 4, .ro, 0⟩, -- VERIFY_MISMATCHES
  ⟨0x50A0, 0x50A0, 0x7, 0x7, 8, .ro, 0⟩, -- RESIDENCY_STALL
  ⟨0x50A0, 0x50A0, 0x8, 0x8, 4, .ro, 0⟩ ] -- FETCH_REFETCHES

/-- Entries of 09 R290. -/
def odRows09R290 : List OdRow := [
  ⟨0x4000, 0x4000, 0x1, 0x1, 8, .const, 1152000000000⟩, -- NEAR_CAPACITY
  ⟨0x4010, 0x4010, 0x1, 0x1, 1, .rwq, 0⟩, -- KENNEL_CHANNELS
  ⟨0x4010, 0x4010, 0x2, 0x2, 2, .rwq, 8800⟩, -- KENNEL_RATE
  ⟨0x4010, 0x4010, 0x3, 0x3, 2, .ro, 0⟩, -- KENNEL_MODULE_GB
  ⟨0x4010, 0x4010, 0x4, 0x4, 8, .ro, 0⟩, -- KENNEL_CAPACITY
  ⟨0x4020, 0x4020, 0x1, 0x1, 4, .rw, 86400⟩, -- SCRUB_NEAR_PERIOD
  ⟨0x4020, 0x4020, 0x2, 0x2, 4, .rw, 86400⟩, -- SCRUB_KENNEL_PERIOD
  ⟨0x4020, 0x4020, 0x3, 0x3, 4, .rw, 3600⟩, -- SCRUB_TILE_PERIOD
  ⟨0x4030, 0x4030, 0x1, 0x10, 4, .ro, 0⟩, -- NEAR_CORRECTED
  ⟨0x4030, 0x4030, 0x11, 0x20, 4, .ro, 0⟩, -- KENNEL_CORRECTED
  ⟨0x4030, 0x4030, 0x21, 0x21, 4, .ro, 0⟩, -- TILE_CORRECTED
  ⟨0x4030, 0x4030, 0x22, 0x22, 4, .ro, 0⟩, -- ACC_CORRECTED
  ⟨0x4031, 0x4031, 0x1, 0x10, 4, .ro, 0⟩, -- NEAR_UNCORRECTABLE
  ⟨0x4031, 0x4031, 0x11, 0x20, 4, .ro, 0⟩, -- KENNEL_UNCORRECTABLE
  ⟨0x4031, 0x4031, 0x21, 0x21, 4, .ro, 0⟩, -- TILE_UNCORRECTABLE
  ⟨0x4031, 0x4031, 0x22, 0x22, 4, .ro, 0⟩, -- ACC_UNCORRECTABLE
  ⟨0x4032, 0x4032, 0x1, 0x1, 16, .ro, 0⟩, -- MEM_ERR_OVF
  ⟨0x4033, 0x4033, 0x1, 0x20, 16, .ro, 0⟩, -- MEM_ERR_LOG
  ⟨0x4040, 0x4040, 0x1, 0x8, 8, .rw, 0⟩, -- APERTURE_BASE
  ⟨0x4041, 0x4041, 0x1, 0x8, 8, .rw, 0⟩, -- APERTURE_LEN
  ⟨0x4050, 0x4050, 0x1, 0x1, 1, .rw, 6⟩, -- RETR_PREFETCH_SHARE
  ⟨0x4050, 0x4050, 0x2, 0x2, 4, .ro, 0⟩, -- RETR_REFUSED
  ⟨0x4050, 0x4050, 0x3, 0x3, 8, .ro, 0⟩ ] -- RETR_BYTES

/-- Entries of 10 R323. -/
def odRows10R323 : List OdRow := [
  ⟨0x3000, 0x3000, 0x1, 0x1, 2, .ro, 0⟩, -- STRAPS
  ⟨0x3010, 0x3010, 0x1, 0x6, 4, .rwq, 0x00001000⟩, -- PORT_CFG
  ⟨0x3011, 0x3011, 0x1, 0x6, 1, .wo, 0⟩, -- PORT_CTRL
  ⟨0x3012, 0x3012, 0x1, 0x6, 4, .ro, 0⟩, -- PORT_STATUS
  ⟨0x3013, 0x3013, 0x1, 0x6, 8, .ro, 0⟩, -- NB_SERIAL
  ⟨0x3014, 0x3014, 0x1, 0x6, 4, .ro, 0⟩, -- NB_FW_VERSION
  ⟨0x3015, 0x3015, 0x1, 0x1, 8, .ro, 0⟩, -- PORT_ERR_OVF
  ⟨0x3020, 0x3025, 0x1, 0x1, 8, .ro, 0⟩, -- FLITS_TX
  ⟨0x3020, 0x3025, 0x2, 0x2, 8, .ro, 0⟩, -- FLITS_RX
  ⟨0x3020, 0x3025, 0x3, 0x3, 4, .ro, 0⟩, -- CRC_ERRORS
  ⟨0x3020, 0x3025, 0x4, 0x4, 4, .ro, 0⟩, -- REPLAYS
  ⟨0x3020, 0x3025, 0x5, 0x5, 4, .ro, 0⟩, -- RETRAINS
  ⟨0x3020, 0x3025, 0x6, 0x6, 4, .ro, 0⟩, -- TRAIN_FAILS
  ⟨0x3020, 0x3025, 0x7, 0x7, 4, .ro, 0⟩, -- FEC_UNCORRECTABLE
  ⟨0x3020, 0x3025, 0x8, 0x8, 4, .ro, 0⟩, -- QUAR_DROPPED
  ⟨0x3020, 0x3025, 0x9, 0x9, 8, .ro, 0⟩, -- FEC_CORRECTED
  ⟨0x3020, 0x3025, 0xA, 0xA, 8, .ro, 0⟩, -- WINDOW_STALLS
  ⟨0x3020, 0x3025, 0xB, 0xB, 8, .ro, 0⟩, -- SLOTS_DISPLACED
  ⟨0x3100, 0x3100, 0x1, 0x1, 2, .rw, 0x3FFF⟩, -- TOPO_SELF
  ⟨0x3100, 0x3100, 0x2, 0x2, 2, .rw, 0⟩, -- TOPO_SELF_LOC
  ⟨0x3100, 0x3100, 0x3, 0x3, 4, .rw, 0⟩, -- FW_EXPECT
  ⟨0x3110, 0x3110, 0x1, 0x6, 8, .rw, 0⟩, -- PORT_EXPECT
  ⟨0x3111, 0x3111, 0x1, 0x6, 8, .rw, 0⟩ ] -- PORT_EXPECT_SERIAL

/-- Entries of 11 R368. -/
def odRows11R368a : List OdRow := [
  ⟨0x3200, 0x3200, 0x1, 0x1, 8, .ro, 0⟩, -- HT_NOW
  ⟨0x3200, 0x3200, 0x2, 0x2, 2, .ro, 0⟩, -- HT_FRAC
  ⟨0x3200, 0x3200, 0x3, 0x3, 1, .ro, 0⟩, -- TIME_STATE
  ⟨0x3200, 0x3200, 0x4, 0x4, 1, .ro, 0⟩, -- TIME_DEPTH
  ⟨0x3200, 0x3200, 0x5, 0x5, 4, .ro, 0⟩, -- TIME_OFFSET
  ⟨0x3200, 0x3200, 0x6, 0x6, 1, .ro, 7⟩, -- TIME_PARENT_ACTIVE
  ⟨0x3210, 0x3210, 0x1, 0x1, 1, .rwq, 0⟩, -- TIME_ROLE
  ⟨0x3210, 0x3210, 0x2, 0x2, 1, .rw, 7⟩, -- TIME_PARENT
  ⟨0x3210, 0x3210, 0x3, 0x3, 1, .rw, 7⟩, -- TIME_ALT_PARENT
  ⟨0x3210, 0x3210, 0x4, 0x4, 1, .rw, 8⟩, -- TIME_DEPTH_MAX
  ⟨0x3210, 0x3210, 0x5, 0x5, 8, .rw, 0⟩, -- TREF_SECONDS
  ⟨0x3210, 0x3210, 0x6, 0x6, 1, .rw, 0⟩, -- PTP_DOMAIN
  ⟨0x3210, 0x3210, 0x7, 0x7, 4, .rw, 0⟩, -- TREF_DELAY_PS
  ⟨0x3211, 0x3211, 0x1, 0x6, 2, .rw, 0⟩, -- ASYM_PS
  ⟨0x3220, 0x3220, 0x1, 0x1, 4, .ro, 0⟩, -- TREF_GLITCHES
  ⟨0x3220, 0x3220, 0x2, 0x2, 4, .ro, 0⟩, -- TIME_STEPS
  ⟨0x3220, 0x3220, 0x3, 0x3, 8, .ro, 0⟩, -- HOLDOVER_TIME
  ⟨0x3300, 0x3300, 0x1, 0x1, 8, .rw, 0⟩, -- SWAP_HT
  ⟨0x3300, 0x3300, 0x2, 0x2, 1, .wo, 0⟩, -- SWAP_CMD
  ⟨0x3300, 0x3300, 0x3, 0x3, 1, .ro, 0⟩, -- SWAP_STATE
  ⟨0x3300, 0x3300, 0x4, 0x4, 1, .ro, 0⟩, -- SWAP_REFUSE
  ⟨0x3300, 0x3300, 0x5, 0x5, 1, .ro, 0xFF⟩, -- ACTIVE_BANK
  ⟨0x3300, 0x3300, 0x6, 0x6, 4, .ro, 0⟩, -- SWAPS
  ⟨0x3310, 0x3310, 0x1, 0x6, 8, .rw, 0⟩, -- SLOT_IMAGE
  ⟨0x3310, 0x3310, 0x7, 0x7, 8, .rw, 0⟩, -- ROUTE_IMAGE
  ⟨0x3310, 0x3310, 0x8, 0x8, 8, .rw, 0⟩, -- TREE_IMAGE
  ⟨0x3320, 0x3320, 0x1, 0x6, 8, .ro, 0⟩, -- SLIPS
  ⟨0x3321, 0x3321, 0x1, 0x6, 4, .ro, 2147483647⟩, -- SLACK_MIN
  ⟨0x3322, 0x3322, 0x1, 0x6, 4, .ro, 2147483647⟩, -- SLACK_MIN_LAST
  ⟨0x3323, 0x3323, 0x1, 0x6, 8, .ro, 0⟩, -- SLOTS_DEAD
  ⟨0x3400, 0x3400, 0x1, 0x10, 1, .rw, 1⟩, -- TC_WEIGHT
  ⟨0x3410, 0x3410, 0x1, 0x1, 4, .ro, 0⟩ ] -- ROUTE_DROPS

/-- Entries of 11 R368. -/
def odRows11R368b : List OdRow := [
  ⟨0x3410, 0x3410, 0x2, 0x2, 4, .ro, 0⟩, -- FENCE_DROPS
  ⟨0x3410, 0x3410, 0x3, 0x3, 4, .ro, 0⟩, -- HOP_DROPS
  ⟨0x3420, 0x3420, 0x1, 0x6, 1, .rw, 0⟩, -- PORT_FENCE
  ⟨0x3500, 0x3500, 0x1, 0x1, 4, .rw, 5000⟩, -- COLL_ACK_TIMEOUT
  ⟨0x3500, 0x3500, 0x2, 0x2, 1, .rw, 2⟩, -- COLL_RESENDS
  ⟨0x3500, 0x3500, 0x3, 0x3, 4, .rw, 1000⟩, -- EARLY_HOLD
  ⟨0x3510, 0x3510, 0x1, 0x1, 8, .ro, 0⟩, -- STALE_CHUNKS
  ⟨0x3510, 0x3510, 0x2, 0x2, 8, .ro, 0⟩, -- DUP_CHUNKS
  ⟨0x3510, 0x3510, 0x3, 0x3, 4, .ro, 0⟩, -- ECRC_FAILS
  ⟨0x3510, 0x3510, 0x4, 0x4, 4, .ro, 0⟩, -- EARLY_DROPS
  ⟨0x3520, 0x3520, 0x1, 0x1, 2, .rw, 0⟩, -- EPOCH_TENSOR
  ⟨0x3520, 0x3520, 0x2, 0x2, 2, .rwq, 0⟩ ] -- EPOCH_VALUE

/-- Entries of 12 R395. -/
def odRows12R395a : List OdRow := [
  ⟨0x7100, 0x7100, 0x1, 0x1, 1, .wo, 0⟩, -- TRAIL_CTRL
  ⟨0x7100, 0x7100, 0x2, 0x2, 1, .ro, 0⟩, -- TRAIL_STATE
  ⟨0x7100, 0x7100, 0x3, 0x3, 1, .rw, 0x58⟩, -- TRAIL_TRIGGER
  ⟨0x7100, 0x7100, 0x4, 0x4, 2, .rw, 512⟩, -- TRAIL_POST
  ⟨0x7100, 0x7100, 0x5, 0x5, 2, .rw, 0x07FF⟩, -- TRAIL_KIND_MASK
  ⟨0x7100, 0x7100, 0x6, 0x6, 1, .rw, 1⟩, -- TRAIL_AUTODUMP
  ⟨0x7100, 0x7100, 0x7, 0x7, 4, .ro, 0⟩, -- TRAIL_TSEQ
  ⟨0x7100, 0x7100, 0x8, 0x8, 4, .ro, 0⟩, -- TRAIL_DUMPS_LOST
  ⟨0x7100, 0x7100, 0x9, 0x9, 8, .wo, 0⟩, -- TRAIL_MARK
  ⟨0x7110, 0x7110, 0x1, 0x1, 2, .rw, 0⟩, -- TRAIL_READ_INDEX
  ⟨0x7110, 0x7110, 0x2, 0x2, 32, .ro, 0⟩, -- TRAIL_ENTRY
  ⟨0x7200, 0x7200, 0x1, 0x1, 1, .rwq, 0⟩, -- LM_ENABLE
  ⟨0x7200, 0x7200, 0x2, 0x2, 2, .rwq, 0⟩, -- LM_ADDR
  ⟨0x7200, 0x7200, 0x3, 0x3, 8, .rwq, 0⟩, -- LM_MAP_BASE
  ⟨0x7200, 0x7200, 0x4, 0x4, 8, .ro, 0⟩, -- LM_COMMITTED
  ⟨0x7200, 0x7200, 0x5, 0x5, 1, .ro, 0⟩, -- LM_ATTEMPT
  ⟨0x7200, 0x7200, 0x6, 0x6, 8, .ro, 0⟩, -- LM_BYTES
  ⟨0x7200, 0x7200, 0x7, 0x7, 4, .ro, 0⟩, -- LM_STREAM_FAILS
  ⟨0x7200, 0x7200, 0x8, 0x8, 8, .ro, 0⟩, -- LM_COMMIT_WAIT
  ⟨0x7210, 0x7213, 0x1, 0x1, 2, .rwq, 0⟩, -- HOLD_OWNER
  ⟨0x7210, 0x7213, 0x2, 0x2, 8, .rwq, 0⟩, -- HOLD_BASE
  ⟨0x7210, 0x7213, 0x3, 0x3, 8, .rwq, 0⟩, -- HOLD_GEN_SIZE
  ⟨0x7210, 0x7213, 0x4, 0x4, 8, .ro, 0⟩, -- HOLD_COMMITTED
  ⟨0x7210, 0x7213, 0x5, 0x5, 1, .ro, 0⟩, -- HOLD_STATE
  ⟨0x7210, 0x7213, 0x6, 0x6, 4, .ro, 0⟩, -- HOLD_REJECTS
  ⟨0x7300, 0x7300, 0x1, 0x1, 1, .rw, 1⟩, -- HOWL_ON_STEP_FATAL
  ⟨0x7300, 0x7300, 0x2, 0x2, 2, .wo, 0⟩, -- HOWL_SEND
  ⟨0x7300, 0x7300, 0x3, 0x3, 2, .ro, 0⟩, -- HOWL_SEQ
  ⟨0x7300, 0x7300, 0x4, 0x4, 4, .ro, 0⟩, -- HOWLS_SENT
  ⟨0x7300, 0x7300, 0x5, 0x5, 4, .ro, 0⟩, -- HOWLS_RECEIVED
  ⟨0x7300, 0x7300, 0x6, 0x6, 8, .wo, 0⟩, -- STEP_ABANDON
  ⟨0x7310, 0x7310, 0x1, 0x10, 32, .ro, 0⟩ ] -- HOWL_LOG

/-- Entries of 12 R395. -/
def odRows12R395b : List OdRow := [
  ⟨0x7320, 0x7320, 0x1, 0x6, 4, .ro, 0⟩, -- BARK_LOSSES
  ⟨0x7321, 0x7321, 0x1, 0x6, 1, .ro, 0⟩ ] -- NB_HEALTH

/-- Entries of 13 R415. -/
def odRows13R415 : List OdRow := [
  ⟨0x7400, 0x7407, 0x1, 0x1, 1, .wo, 0⟩, -- SN_CTRL
  ⟨0x7400, 0x7407, 0x2, 0x2, 4, .rw, 0x00000220⟩, -- SN_MODE
  ⟨0x7400, 0x7407, 0x3, 0x3, 8, .rw, 0⟩, -- SN_POLY
  ⟨0x7400, 0x7407, 0x4, 0x4, 8, .rw, 0⟩, -- SN_INIT
  ⟨0x7400, 0x7407, 0x5, 0x5, 8, .rw, 0⟩, -- SN_XOROUT
  ⟨0x7400, 0x7407, 0x6, 0x6, 8, .rw, 0xFFFFFFFF⟩, -- SN_VALUE
  ⟨0x7400, 0x7407, 0x7, 0x7, 8, .rw, 0⟩, -- SN_BYTES
  ⟨0x7400, 0x7407, 0x8, 0x8, 4, .ro, 0⟩, -- SN_STATUS
  ⟨0x7400, 0x7407, 0x9, 0x9, 2, .ro, 0⟩, -- SN_ALIVE
  ⟨0x7400, 0x7407, 0xA, 0xA, 32, .ro, 0⟩, -- SN_RECORD
  ⟨0x7400, 0x7407, 0xB, 0xB, 1, .rw, 0⟩ ] -- SN_AUTO_CLOSE

/-- Entries of 14 R450. -/
def odRows14R450 : List OdRow := [
  ⟨0x1100, 0x1100, 0x1, 0x1, 4, .wo, 0⟩, -- LEASH_REQ
  ⟨0x1100, 0x1100, 0x2, 0x2, 4, .rw, 5000⟩, -- LEASE_TIME
  ⟨0x1110, 0x1110, 0x1, 0x20, 4, .ro, 0⟩, -- LEASH_STATE
  ⟨0x1120, 0x1120, 0x1, 0x20, 32, .ro, 0⟩, -- LEASH_MGMT_OWNER
  ⟨0x1200, 0x1200, 0x1, 0x1, 1, .rwq, 0⟩, -- MGMT_SPEED
  ⟨0x1200, 0x1200, 0x2, 0x2, 1, .rwq, 0⟩, -- MGMT_FEC
  ⟨0x1200, 0x1200, 0x3, 0x3, 2, .rwq, 0⟩, -- MGMT_VLAN
  ⟨0x1200, 0x1200, 0x4, 0x4, 16, .rwq, 0⟩, -- MGMT_IPV6
  ⟨0x1200, 0x1200, 0x5, 0x5, 1, .rwq, 64⟩, -- MGMT_PREFIX
  ⟨0x1200, 0x1200, 0x6, 0x6, 16, .rwq, 0⟩, -- MGMT_GATEWAY
  ⟨0x1200, 0x1200, 0x7, 0x7, 2, .rwq, 29150⟩, -- MGMT_UDP_PORT
  ⟨0x1200, 0x1200, 0x8, 0x8, 1, .rwq, 0⟩, -- MGMT_SECURE
  ⟨0x1200, 0x1200, 0x9, 0x9, 1, .ro, 0⟩, -- MGMT_LINK
  ⟨0x1210, 0x1210, 0x1, 0x1, 8, .ro, 0⟩, -- MGMT_REQUESTS
  ⟨0x1210, 0x1210, 0x2, 0x2, 4, .ro, 0⟩, -- MGMT_BAD_FRAMES
  ⟨0x1210, 0x1210, 0x3, 0x3, 4, .ro, 0⟩, -- MGMT_BUSY
  ⟨0x1210, 0x1210, 0x4, 0x4, 4, .ro, 0⟩, -- MGMT_EVT_DROPPED
  ⟨0x1220, 0x1220, 0x1, 0x4, 32, .ro, 0⟩, -- MGMT_SUBSCRIBER
  ⟨0x1300, 0x1300, 0x1, 0x1, 4, .ro, 0⟩, -- BAR2_HOLES
  ⟨0x1300, 0x1300, 0x2, 0x2, 4, .ro, 0⟩, -- HOST_WRITES_LOST
  ⟨0x1300, 0x1300, 0x3, 0x3, 4, .ro, 0⟩ ] -- EVENT_SEQ

/-- Entries of 15 R465. -/
def odRows15R465 : List OdRow := [
  ⟨0x1018, 0x1018, 0x1, 0x1, 2, .const, 0x1F3C⟩, -- VENDOR_ID
  ⟨0x1018, 0x1018, 0x2, 0x2, 2, .const, 0x0D01⟩, -- DEVICE_ID
  ⟨0x1018, 0x1018, 0x3, 0x3, 1, .const, 0xA1⟩, -- STEPPING
  ⟨0x1018, 0x1018, 0x4, 0x4, 16, .const, 317803763382923561291093⟩, -- PART_NUMBER
  ⟨0x1018, 0x1018, 0x5, 0x5, 8, .const, Config.serial.toNat⟩, -- SERIAL
  ⟨0x1018, 0x1018, 0x6, 0x6, 8, .const, Config.macAddress.toNat⟩, -- MAC_ADDRESS
  ⟨0x1018, 0x1018, 0x7, 0x7, 4, .ro, 0⟩, -- FW_VERSION
  ⟨0x1018, 0x1018, 0x8, 0x8, 1, .ro, 0⟩, -- FW_SLOT
  ⟨0x1018, 0x1018, 0x9, 0x9, 2, .const, 1⟩, -- OD_LAYOUT
  ⟨0x1018, 0x1018, 0xA, 0xA, 2, .const, 0x0300⟩ ] -- PROTO_VERSION

/-- Entries of 15 R466. -/
def odRows15R466 : List OdRow := [
  ⟨0x2000, 0x2000, 0x1, 0x1, 1, .rw, 0⟩, -- PSTATE_CMD
  ⟨0x2000, 0x2000, 0x2, 0x2, 1, .ro, 0⟩, -- PSTATE
  ⟨0x2000, 0x2000, 0x3, 0x3, 1, .ro, 0⟩, -- PSTATE_BUSY
  ⟨0x2000, 0x2000, 0x4, 0x4, 1, .ro, 0⟩, -- PROTECT_CAUSE
  ⟨0x2010, 0x2010, 0x1, 0x1, 2, .rw, 1500⟩, -- PACE_TARGET
  ⟨0x2010, 0x2010, 0x2, 0x2, 2, .rw, 880⟩, -- VCORE_LIMIT
  ⟨0x2010, 0x2010, 0x3, 0x3, 2, .rw, 2200⟩, -- POWER_CAP
  ⟨0x2010, 0x2010, 0x4, 0x4, 2, .ro, 0⟩, -- PACE_ACHIEVED
  ⟨0x2010, 0x2010, 0x5, 0x5, 1, .ro, 0⟩, -- PACE_SHORTFALL
  ⟨0x2010, 0x2010, 0x6, 0x6, 2, .ro, 0⟩, -- VCORE_NOW
  ⟨0x2010, 0x2010, 0x7, 0x7, 2, .ro, 0⟩, -- POWER_NOW
  ⟨0x2020, 0x2020, 0x1, 0x1, 1, .const, 115⟩, -- TJ_TRIP
  ⟨0x2020, 0x2020, 0x2, 0x2, 1, .rw, 105⟩, -- TJ_WARN
  ⟨0x2020, 0x2020, 0x3, 0x3, 2, .ro, 62806⟩, -- TJ_MAX_SEEN
  ⟨0x2030, 0x2030, 0x1, 0x80, 2, .ro, 62806⟩, -- TEMP
  ⟨0x2040, 0x2040, 0x1, 0x10, 2, .ro, 0⟩, -- RAIL_MV
  ⟨0x2041, 0x2041, 0x1, 0x10, 4, .ro, 0⟩ ] -- RAIL_MA

/-- Entries of 15 R469. -/
def odRows15R469a : List OdRow := [
  ⟨0x2100, 0x2100, 0x1, 0x1, 1, .rw, 4⟩, -- DOMAIN_SOURCE
  ⟨0x2100, 0x2100, 0x2, 0x2, 1, .rw, 16⟩, -- DOMAIN_SOURCE
  ⟨0x2100, 0x2100, 0x3, 0x3, 1, .rw, 17⟩, -- DOMAIN_SOURCE
  ⟨0x2100, 0x2100, 0x4, 0x4, 1, .rw, 18⟩, -- DOMAIN_SOURCE
  ⟨0x2100, 0x2100, 0x5, 0x5, 1, .rw, 19⟩, -- DOMAIN_SOURCE
  ⟨0x2100, 0x2100, 0x6, 0x6, 1, .rw, 20⟩, -- DOMAIN_SOURCE
  ⟨0x2100, 0x2100, 0x7, 0x7, 1, .rw, 21⟩, -- DOMAIN_SOURCE
  ⟨0x2100, 0x2100, 0x8, 0x8, 1, .rw, 22⟩, -- DOMAIN_SOURCE
  ⟨0x2100, 0x2100, 0x9, 0x9, 1, .rw, 23⟩, -- DOMAIN_SOURCE
  ⟨0x2100, 0x2100, 0xA, 0xA, 1, .rw, 24⟩, -- DOMAIN_SOURCE
  ⟨0x2100, 0x2100, 0xB, 0xB, 1, .rw, 1⟩, -- DOMAIN_SOURCE
  ⟨0x2100, 0x2100, 0xC, 0xC, 1, .rw, 25⟩, -- DOMAIN_SOURCE
  ⟨0x2100, 0x2100, 0xD, 0xD, 1, .rw, 26⟩, -- DOMAIN_SOURCE
  ⟨0x2100, 0x2100, 0xE, 0xE, 1, .rw, 27⟩, -- DOMAIN_SOURCE
  ⟨0x2110, 0x2110, 0x1, 0x1, 4, .ro, 0⟩, -- SOURCE_READY
  ⟨0x2120, 0x2120, 0x1, 0xE, 4, .ro, 0⟩, -- DOMAIN_STATUS
  ⟨0x2130, 0x2130, 0x1, 0x1, 1, .rwq, 3⟩, -- LP_REF
  ⟨0x2130, 0x2130, 0x2, 0x2, 1, .rwq, 3⟩, -- LP_REF
  ⟨0x2130, 0x2130, 0x3, 0x3, 1, .rwq, 3⟩, -- LP_REF
  ⟨0x2130, 0x2130, 0x4, 0x4, 1, .rwq, 3⟩, -- LP_REF
  ⟨0x2130, 0x2130, 0x5, 0x5, 1, .rwq, 3⟩, -- LP_REF
  ⟨0x2130, 0x2130, 0x6, 0x6, 1, .rwq, 3⟩, -- LP_REF
  ⟨0x2130, 0x2130, 0x7, 0x7, 1, .rwq, 2⟩, -- LP_REF
  ⟨0x2130, 0x2130, 0x8, 0x8, 1, .rwq, 2⟩, -- LP_REF
  ⟨0x2130, 0x2130, 0x9, 0x9, 1, .rwq, 2⟩, -- LP_REF
  ⟨0x2130, 0x2130, 0xA, 0xA, 1, .rwq, 3⟩, -- LP_REF
  ⟨0x2130, 0x2130, 0xB, 0xB, 1, .rwq, 2⟩, -- LP_REF
  ⟨0x2130, 0x2130, 0xC, 0xC, 1, .rwq, 2⟩, -- LP_REF
  ⟨0x2131, 0x2131, 0x1, 0x1, 4, .rwq, 1562500⟩, -- LP_FREQ
  ⟨0x2131, 0x2131, 0x2, 0x2, 4, .rwq, 1562500⟩, -- LP_FREQ
  ⟨0x2131, 0x2131, 0x3, 0x3, 4, .rwq, 1562500⟩, -- LP_FREQ
  ⟨0x2131, 0x2131, 0x4, 0x4, 4, .rwq, 1562500⟩ ] -- LP_FREQ

/-- Entries of 15 R469. -/
def odRows15R469b : List OdRow := [
  ⟨0x2131, 0x2131, 0x5, 0x5, 4, .rwq, 1562500⟩, -- LP_FREQ
  ⟨0x2131, 0x2131, 0x6, 0x6, 4, .rwq, 1562500⟩, -- LP_FREQ
  ⟨0x2131, 0x2131, 0x7, 0x7, 4, .rwq, 1100000⟩, -- LP_FREQ
  ⟨0x2131, 0x2131, 0x8, 0x8, 4, .rwq, 1100000⟩, -- LP_FREQ
  ⟨0x2131, 0x2131, 0x9, 0x9, 4, .rwq, 1000000⟩, -- LP_FREQ
  ⟨0x2131, 0x2131, 0xA, 0xA, 4, .rwq, 390625⟩, -- LP_FREQ
  ⟨0x2131, 0x2131, 0xB, 0xB, 4, .rwq, 200000⟩, -- LP_FREQ
  ⟨0x2131, 0x2131, 0xC, 0xC, 4, .rwq, 50000⟩, -- LP_FREQ
  ⟨0x2140, 0x2140, 0x1, 0x1, 1, .rw, 1⟩, -- FIO_TRIM_REF
  ⟨0x2140, 0x2140, 0x2, 0x2, 4, .ro, 0⟩, -- FIO_TRIM_ERROR
  ⟨0x2140, 0x2140, 0x3, 0x3, 4, .ro, 0⟩, -- CLK_MON_TRIPS
  ⟨0x2140, 0x2140, 0x4, 0x4, 4, .ro, 0⟩ ] -- FORCED_SWITCHES

/-- Entries of 15 R473. -/
def odRows15R473 : List OdRow := [
  ⟨0x8000, 0x8000, 0x1, 0x1, 1, .ro, 0⟩, -- ROLLBACK_COUNTER
  ⟨0x8000, 0x8000, 0x2, 0x2, 1, .ro, 0⟩, -- BOOT_STATUS
  ⟨0x8000, 0x8000, 0x3, 0x3, 1, .wo, 0⟩, -- ROLLBACK_COMMIT
  ⟨0x8010, 0x8010, 0x1, 0x1, 32, .const, ofBytes ((toBytes 48 Config.rootKeyHash.toNat).reverse.take 32)⟩, -- ROOT_KEY_HASH
  ⟨0x8010, 0x8010, 0x2, 0x2, 32, .const, ofBytes ((toBytes 48 Config.rootKeyHash.toNat).reverse.drop 32)⟩, -- ROOT_KEY_HASH
  ⟨0x8020, 0x8020, 0x1, 0x1, 1, .ro, 0⟩, -- DEBUG_STATE
  ⟨0x8020, 0x8020, 0x2, 0x2, 8, .ro, 0⟩, -- DEBUG_NONCE
  ⟨0x8020, 0x8020, 0x3, 0x3, 2, .rw, 0⟩, -- DEBUG_TOKEN_OFFSET
  ⟨0x8020, 0x8020, 0x4, 0x4, 32, .wo, 0⟩, -- DEBUG_TOKEN_DATA
  ⟨0x8020, 0x8020, 0x5, 0x5, 1, .wo, 0⟩, -- DEBUG_CMD
  ⟨0x8030, 0x8030, 0x1, 0x1, 1, .ro, 0⟩, -- MEAS_COUNT
  ⟨0x8030, 0x8030, 0x2, 0x2, 1, .ro, 0⟩ ] -- SPDM_SESSIONS

/-- Entries of 15 R475. -/
def odRows15R475 : List OdRow := [
  ⟨0x9000, 0x9000, 0x1, 0x1, 1, .wo, 0⟩, -- DEVICE_RESET
  ⟨0x9000, 0x9000, 0x2, 0x2, 8, .ro, 0⟩, -- SHEPHERD_UPTIME
  ⟨0x9010, 0x9010, 0x1, 0x1, 1, .ro, 0⟩, -- LEDGER_FILL
  ⟨0x9010, 0x9010, 0x2, 0x2, 4, .ro, 0⟩, -- LEDGER_NEXT_SEQ
  ⟨0x9010, 0x9010, 0x3, 0x3, 4, .rw, 0⟩, -- LEDGER_READ_SEQ
  ⟨0x9010, 0x9010, 0x4, 0x4, 32, .ro, 0⟩, -- LEDGER_REC_HDR
  ⟨0x9010, 0x9010, 0x5, 0xC, 32, .ro, 0⟩, -- LEDGER_REC_DATA
  ⟨0x9010, 0x9010, 0xD, 0xD, 4, .wo, 0⟩, -- LEDGER_ACK
  ⟨0x9010, 0x9010, 0xE, 0xE, 4, .ro, 0⟩, -- LEDGER_UNREAD_FAULTS
  ⟨0x9010, 0x9010, 0xF, 0xF, 4, .ro, 0⟩, -- LEDGER_DROPPED
  ⟨0x9020, 0x9020, 0x1, 0x1, 1, .const, 4⟩, -- TRAIL_DUMP_SLOTS
  ⟨0x9020, 0x9020, 0x2, 0x2, 1, .ro, 0⟩, -- TRAIL_DUMP_USED
  ⟨0x9020, 0x9020, 0x3, 0x3, 1, .wo, 0⟩, -- TRAIL_DUMP_RELEASE
  ⟨0x9100, 0x9100, 0x1, 0x1, 1, .wo, 0⟩, -- FW_UPD_CMD
  ⟨0x9100, 0x9100, 0x2, 0x2, 4, .rw, 0⟩, -- FW_UPD_OFFSET
  ⟨0x9100, 0x9100, 0x3, 0x3, 32, .wo, 0⟩, -- FW_UPD_DATA
  ⟨0x9100, 0x9100, 0x4, 0x4, 1, .ro, 0⟩, -- FW_UPD_STATE
  ⟨0x9100, 0x9100, 0x5, 0x5, 1, .ro, 0⟩, -- FW_UPD_RESULT
  ⟨0x9100, 0x9100, 0x6, 0x6, 4, .ro, 0⟩, -- FW_SLOT_A_VERSION
  ⟨0x9100, 0x9100, 0x7, 0x7, 4, .ro, 0⟩ ] -- FW_SLOT_B_VERSION

/-- Entries of 15 R479. -/
def odRows15R479 : List OdRow := [
  ⟨0xA000, 0xA000, 0x1, 0x1, 8, .rw, 0⟩, -- CALENDAR
  ⟨0xA000, 0xA000, 0x2, 0x2, 1, .ro, 0⟩, -- CAL_VALID
  ⟨0xA010, 0xA010, 0x1, 0x1, 4, .ro, 0⟩, -- POWER_ON_HOURS
  ⟨0xA010, 0xA010, 0x2, 0x2, 4, .ro, 0⟩, -- RUN_HOURS
  ⟨0xA010, 0xA010, 0x3, 0x3, 4, .ro, 0⟩, -- POWER_CYCLES
  ⟨0xA010, 0xA010, 0x4, 0x4, 4, .ro, 0⟩, -- RESETS
  ⟨0xA010, 0xA010, 0x5, 0x5, 4, .ro, 0⟩, -- PROTECT_ENTRIES
  ⟨0xA010, 0xA010, 0x6, 0x6, 4, .ro, 0⟩, -- ENERGY
  ⟨0xA010, 0xA010, 0x7, 0x7, 4, .ro, 0⟩, -- HOT_HOURS
  ⟨0xA010, 0xA010, 0x8, 0x8, 4, .ro, 0⟩, -- FLASH_ERASES_MAX
  ⟨0xA010, 0xA010, 0x9, 0x9, 4, .ro, 0⟩, -- FW_UPDATES
  ⟨0xA010, 0xA010, 0xA, 0xA, 8, .ro, 0⟩ ] -- LIFETIME_STEPS

/-- The whole dictionary (15 R464). -/
def odTable : List OdRow :=
  odRows02R61 ++ odRows03R91 ++ odRows04R145 ++ odRows05R167 ++ odRows06R187 ++
  odRows07R223 ++ odRows08R258 ++ odRows09R290 ++ odRows10R323 ++ odRows11R368a ++
  odRows11R368b ++ odRows12R395a ++ odRows12R395b ++ odRows13R415 ++ odRows14R450 ++
  odRows15R465 ++ odRows15R466 ++ odRows15R469a ++ odRows15R469b ++ odRows15R473 ++
  odRows15R475 ++ odRows15R479

/-- The row of an entry other than sub-index 00, if any table lists it (15 R455). -/
def odRow (index sub : Nat) : Option OdRow :=
  odTable.find? (fun r => r.i0 ≤ index && index ≤ r.i1 && r.s0 ≤ sub && sub ≤ r.s1)

/-- The value of sub-index 00: the highest sub-index of the index, 0 for an index without entries (15 R454). -/
def odTop (index : Nat) : Nat :=
  odTable.foldl (fun m r => if r.i0 ≤ index && index ≤ r.i1 then max m r.s1 else m) 0

/-- The number of an entry: index and sub-index together. -/
def odKey (index sub : Nat) : Nat := index * 256 + sub

/-- The default of an entry, by its number. -/
def odDefault (k : Nat) : Nat :=
  match odRow (k / 256) (k % 256) with
  | some r => r.dflt
  | none => 0

/-- The size in bytes of an entry, by its number: sub-index 00 is a u8. -/
def odSize (k : Nat) : Nat :=
  if k % 256 = 0 then (if odTop (k / 256) = 0 then 0 else 1)
  else match odRow (k / 256) (k % 256) with
  | some r => r.size
  | none => 0

end Sys2Proof.Machine
end

