-- ==== Sys2Proof/Machine/State.lean ====
section
/-! DEFINITION. The state of the block as plain data: every register, buffer, queue, counter and mode that spec/ names
(INVENTORY.md lists them), grouped by the unit that holds them, and the state right after reset. -/

namespace Sys2Proof.Machine

/-- Why the block stops with a fault. No rule of the spec stops the block with a fault, so no command raises one (safe). -/
inductive Fault where
  /-- Raised by no command: the spec gives the block no stop (safe). -/
  | stopped
deriving DecidableEq, Repr

/-- Why a command has no meaning here. -/
inductive Refusal where
  /-- Answered by `exec` for a command whose meaning is not written yet (safe). -/
  | notModelled (mnemonic : String)
  /-- Answered by TEST_PORT_ACCESS for a private test instruction or Shepherd processor debug while debug access is
  unlocked: 18 R543 makes them available and no rule gives their effect (safe). -/
  | privateTestInstruction (code : Nat)
deriving DecidableEq, Repr

/-! ## Power, links and other named modes -/

/-- The power states of 15 R467. -/
inductive PState where
  | standby | hold | ready | run | protect
deriving DecidableEq, Repr

/-- The states of a Gykai port (10 R297). -/
inductive LinkState where
  | disabled | detect | train | align | discover | active | quarantine | retrain | down
deriving DecidableEq, Repr

/-- The states of a command ring (04 R96). -/
inductive RingState where
  | disabled | running | stopped | draining
deriving DecidableEq, Repr

/-- Who holds a Leash (14 R444): nobody, the PCI Express port, or one management requester. -/
inductive Owner where
  | free
  | pcie
  | mgmt (addr : BitVec 128) (udp : BitVec 16)
deriving DecidableEq, Repr

/-! ## What the device sends -/

/-- What a datagram of the management port bears besides its data (14 R437, R438): the 802.1Q tag (none when untagged), the address and UDP
port it comes from, the 32-byte header. -/
structure Envelope where
  tag : Option Nat
  src : BitVec 128
  sport : BitVec 16
  header : Nat
deriving DecidableEq, Repr

/-- What leaves the device: one item of the output log. -/
inductive Out where
  /-- A posted write to host memory (14 R424). -/
  | hostWrite (addr : Nat) (bytes : List Byte)
  /-- An MSI-X message: its vector, and the address and the data of the vector's table entry. -/
  | msix (vector addr data : Nat)
  /-- The completion of a BAR0 or BAR2 read, with its EP bit. -/
  | readCompletion (bytes : List Byte) (poisoned : Bool)
  /-- The answer to a configuration request; `retry` is Request Retry Status. -/
  | configAnswer (value : Nat) (retry : Bool)
  /-- The outcome of a dictionary request made through a port: status, length, value. -/
  | odAnswer (status len value : Nat)
  /-- A frame on the management port: destination, envelope, data; and the line with which its link comes up: rate and error correction. -/
  | mgmtFrame (addr : BitVec 128) (udp : BitVec 16) (env : Envelope) (data : List Byte)
  | mgmtLine (rate fec : Nat)
  /-- An SPDM answer on a port, with its envelope where it is a datagram. -/
  | spdm (port : SpdmPort) (reply : SpdmReply) (env : Option Envelope)
  /-- The answer to an object-access frame that came inside a secure session: port, session, header, data. -/
  | secured (port : SpdmPort) (session : Nat) (header : Nat) (data : List Byte)
  /-- The answer to a DOE Discovery object: vendor and type of the protocol asked for, and the next index. -/
  | doeDiscovery (vendor kind next : Nat)
  /-- A flit on a Gykai port. -/
  | flit (port : Nat) (flit : Flit)
  /-- An AVSBus voltage write, and a VoutTransRate write. -/
  | avsVoltage (rail mv : Nat)
  | avsTransRate (rail : Nat)
  /-- An IEEE 1588 delay request. -/
  | ptpDelayReq
  /-- A request of this device's Retriever to another device with its traffic class (09 R283), of which `restore` says that it asks for a
  shadow record by its offset in the committed generation (12 R388), and the answer to another device's Retriever request, with the poison
  mark of each byte. -/
  | retrieverRequest (target tc : Nat) (write : Bool) (addr : Nat) (bytes : List Byte) (length : Nat) (poison restore : Bool)
  | retrieverAnswer (target : Nat) (served : Bool) (bytes : List Byte) (marks : List Bool)
  /-- The answer of the test port to a mandatory instruction. -/
  | testPort (code : Nat)
deriving DecidableEq, Repr

/-! ## Memory -/

/-- Device memory: the bytes that differ from what an unlisted address reads as, and the poisoned 64-byte units. -/
structure Mem where
  cells : List Host.Cell
  poison : SMap Bool
deriving DecidableEq, Repr

/-- What an unlisted device address reads as: the contents after the zeroing of 09 R270, which are zero except that every scale
record at the default table base holds the reset values of 02 R42 (`DEPTH_M1` 15, `EMPTY` 1). -/
def memDefault (a : Nat) : Byte :=
  if 0x0F002FE00000 ≤ a ∧ a < 0x0F0030000000 then
    (if a % 32 = 5 then 0x08#8 else if a % 32 = 18 then 0xC0#8 else if a % 32 = 19 then 0x03#8 else 0#8)
  else 0#8

/-! ## Dispatcher -/

/-- A command ring (04 R94-R96). -/
structure Ring where
  base : Nat
  cfg : Nat
  head : Nat
  tail : Nat
  state : RingState
  badDoorbell : Bool
  cfgRefused : Bool
  errIndex : Nat
  errCode : Nat
deriving DecidableEq, Repr

/-- A completion ring (04 R94, R107, R108). `armed` says that a message may be sent. -/
structure CplRing where
  base : Nat
  cfg : Nat
  head : Nat
  tail : Nat
  armed : Bool
deriving DecidableEq, Repr

/-- How a descriptor ended: completion code, status flags, event code, result (04 R104). -/
structure Done where
  code : Nat
  status : Nat
  event : Nat
  result : Nat
deriving DecidableEq, Repr

/-- An issued and uncompleted descriptor (04 R112). `step` is its step once it has started (04 R110), `pinned` says that the start
action on its version ring was applied (05 R155). -/
structure Entry where
  id : Nat
  ring : Nat
  index : Nat
  desc : Nat
  issuedAt : Nat
  watch : Nat
  watchRaised : Bool
  started : Bool
  step : Nat
  pinned : Bool
  done : Option Done
deriving DecidableEq, Repr

/-- The dispatcher (04). -/
structure Disp where
  rings : SMap Ring
  cpls : SMap CplRing
  counters : SMap Nat
  board : List Entry
  nextId : Nat
  lastServed : Nat
  takeLeft : Nat
  fatalSteps : List Nat
  fatal : Bool
  lastAction : Nat
deriving DecidableEq, Repr

/-! ## Compute -/

/-- The status of an accumulator tile (03 R78), its poison, and whether its chain has raised 0x0520 (03 R83). -/
structure Tile where
  torn : Bool
  spillValid : Bool
  boundLost : Bool
  spillCount : Nat
  poison : Bool
deriving DecidableEq, Repr

/-! ## Fabric -/

/-- A DATA flit that waits for its port: the number of its source or transit queue (11 R350; a transit queue's number is
2^20 + 16 * input port + class, a Howl's for port p is 2^30 + p), the HT at which it was queued, the number plus one of the kept
chunk it belongs to (0 for none), and whether its slot left without it, so that it follows as soon as it can (10 R311). -/
structure Waiting where
  queue : Nat
  at_ : Nat
  chunk : Nat
  flit : Flit
  displaced : Bool
deriving DecidableEq, Repr

/-- A Gykai port (10). Instants are values of `now`; `back` says what the last round 1 found against the one before: 0 no earlier
exchange, 1 the same device and incarnation, 2 the same device reset, 3 another device (10 R319). `reach` and `preset` are those of the last
training (10 R324), `uncorr` the uncorrectable codewords of the last 1 ms as (lane, instant, count) (10 R319), `owed` the credits by class that no flit
could carry back yet (10 R306), `replayFrom` where a replay is due that the power state holds back (10 R298, R310). -/
structure Port where
  state : LinkState
  since : Nat
  retraining : Option Nat
  wasActive : Bool
  reversed : Bool
  quarReason : Nat
  nbLoc : Nat
  nbPort : Nat
  commonMinor : Nat
  nbSerial : Nat
  nbIncarnation : Nat
  nbMinor : Nat
  nbLogical : Nat
  known : Bool
  back : Nat
  round1 : Bool
  verdict : Nat
  discSent : Option Nat
  credits : SMap Nat
  txBase : Nat
  txBuf : List (Flit × Nat)
  lastAck : Nat
  replaysInRow : Nat
  rxNext : Nat
  nakAt : Option Nat
  reach : Nat
  preset : Nat
  uncorr : List (Nat × Nat × Nat)
  owed : SMap Nat
  replayFrom : Option Nat
deriving DecidableEq, Repr

/-- The time-mark, Bark and turn records of a port (11 R330-R332, R350; 12 R371-R373). -/
structure PortAux where
  markPeriod : Nat
  markSeq : Nat
  marksSent : List (Nat × Nat)
  echo : Option (Nat × Nat × Nat)
  nbTState : Nat
  barkPeriod : Nat
  barkSeq : Nat
  lastBark : Nat
  unhealthy : Nat
  turnClass : Nat
  turnLeft : Nat
  turnQueue : SMap Nat
deriving DecidableEq, Repr

/-- The time base (11 R328-R337). `htf` is HT in units of 2^-16 ns, `part` what it has beyond that in units of 2^-32 ns; `rate` is the
last learnt rate, by which HT differs from the device's clock, and `slew` the correction still to be made by rate, both in units of 2^-32 ns
(`rate` each nanosecond). -/
structure TimeBase where
  htf : Nat
  part : Nat
  rate : Int
  running : Bool
  slew : Int
  offsets : List Int
  good : Nat
  bad : Nat
  lastRef : Nat
  parentRun : Nat
  tooDeep : Bool
  rootAddr : Nat
  rootHoldover : Bool
  secondsWritten : Bool
  lastPps : Option Nat
  pairStart : Option Nat
  tref10m : Bool
  ptpSync : Option (Int × Int)
  ptpReq : Option Int
deriving DecidableEq, Repr

/-- A loaded slot image: its cycle length and the entries that are not 0 (11 R339). -/
structure SlotImage where
  cycle : Nat
  entries : SMap Nat
deriving DecidableEq, Repr

/-- A topology bank as loaded (11 R340): slot images, route entries, slice map, and the tree image's address. -/
structure Bank where
  slots : List SlotImage
  routes : SMap Nat
  slice : SMap Bool
  tree : Nat
  start : Nat
deriving DecidableEq, Repr

/-- Slot tables and the swap (11 R338-R347). `nextSlot` numbers the next slot of each port since the bank's start; `midway` lists the
forwarded streams of which a message has begun and not ended, by input port, output port and collective (11 R344). -/
structure Slots where
  active : Option Bank
  shadow : Option Bank
  allFree : Bool
  nextSlot : SMap Nat
  midway : SMap Bool
deriving DecidableEq, Repr

/-- A chunk as its flits brought it (11 R353): source, layout epoch and class of its first flit, header, data, poison and detour
marks. -/
structure Chunk where
  src : Nat
  epoch : Nat
  tc : Nat
  header : Nat
  data : List Byte
  poison : List Bool
  detour : Bool
deriving DecidableEq, Repr

/-- A stream that reassembles a chunk (11 R354). -/
structure Stream where
  src : Nat
  collId : Nat
  detour : Bool
  nextFidx : Nat
  chunk : Chunk
  lastAt : Nat
deriving DecidableEq, Repr

/-- A chunk that the engine keeps until its segment is acknowledged (11 R355): its number, where it goes, its header and data, the
poison mark of each of its flits, how often it was re-sent. -/
structure Kept where
  key : Nat
  dest : Nat
  tc : Nat
  sched : Bool
  header : Nat
  data : List Byte
  poison : List Bool
  epoch : Nat
  resends : Nat
deriving DecidableEq, Repr

/-- A segment under way (11 R353, R355): its collective's descriptor (none for shadow traffic), its chunks, how many of them have been
sent, its last send with the `COLL_ACK_TIMEOUT` read then, the `COLL_RESENDS` read at its start, how often it was re-sent whole. -/
structure Segment where
  owner : Option Nat
  dest : Nat
  number : Nat
  chunks : List Kept
  sent : Nat
  lastSend : Nat
  wait : Nat
  limit : Nat
  resends : Nat
deriving DecidableEq, Repr

/-- A segment that waits for the next step's numbers (11 R366): its collective's descriptor, where it goes, class, schedule bit, epoch,
collective, tensor, stage, and its bytes with their poison marks. -/
structure SegReq where
  owner : Option Nat
  dest : Nat
  tc : Nat
  sched : Bool
  epoch : Nat
  collId : Nat
  tensor : Nat
  stage : Nat
  data : List (Byte × Bool)
  record : Option Nat
deriving DecidableEq, Repr

/-- A segment that a collective expects (11 R359-R365): from which rank and at which stage, which part and half it brings, its bytes;
`from_` is its number once its first chunk has come. -/
structure Need where
  rank : Nat
  stage : Nat
  part : Nat
  half : Nat
  bytes : Nat
  from_ : Option Nat
deriving DecidableEq, Repr

/-- The chunks of a segment as they come (11 R354): source, number, and (offset, data with marks). -/
structure Incoming where
  src : Nat
  number : Nat
  pieces : List (Nat × List (Byte × Bool))
deriving DecidableEq, Repr

/-- A collective in flight (11): its descriptor and step, the tree and this device's rank, the counts, what it still expects and has
partly received; `acc` holds values under way by element (bit 64 marks poison), `level` the next level of an exact reduction,
`records` the fingerprint records by part, `refetch` the parts asked for again; `bad` is the first poisoned address it met, plus
one. -/
structure Coll where
  id : Nat
  desc : Nat
  step : Nat
  ring : Nat
  index : Nat
  tree : List Nat
  alg : Nat
  rank : Nat
  counts : List Nat
  need : List Need
  incoming : List Incoming
  acc : SMap Nat
  level : Nat
  sLoc : Option Nat
  stale : Nat
  staleRaised : Bool
  detours : Nat
  status : Nat
  event : Nat
  code : Nat
  bad : Nat
  records : SMap (Option Nat)
  refetch : List Nat
deriving DecidableEq, Repr

/-- The collectives engine (11 R353-R367): `past` keeps the finished all-gathers of the step, whose parts may be asked for again; `early`
the chunks that came early with the instant at which they are dropped, `loop` the flits for this device itself on their way to its own
reassembly (11 R349), `staging` the bytes that the staging store holds (11 R356). -/
structure Engine where
  flights : List Coll
  past : List Coll
  segments : List Segment
  backlog : List SegReq
  nextSegment : Nat
  nextKey : Nat
  exhausted : Bool
  streams : List Stream
  accepted : List (Nat × Nat × Nat × Nat)
  ackedSegs : List (Nat × Nat × Nat)
  inbox : List Chunk
  early : List (Chunk × Nat)
  epochs : SMap Nat
  loop : List Flit
  staging : Nat
deriving DecidableEq, Repr

/-! ## Fault tolerance -/

/-- The Trail beyond its entries in the dictionary (12 R390-R393, 19 R566, R567): entries newest first, entries left before a
freeze, what froze it, the instant, and the dump it was loaded from. -/
structure Trail where
  entries : List Nat
  postLeft : Nat
  trigger : Nat
  frozenHt : Nat
  loaded : Option Nat
  dumpable : Bool
deriving DecidableEq, Repr

/-- A hold slot's pending generation (12 R386, R387): step, attempt, keys of accepted chunks (65,536 more marks a shard's last chunk),
bytes; and the held commit: step, total, the instant at which it is dropped, chunk header, class and epoch. -/
structure Hold where
  step : Option Nat
  attempt : Nat
  keys : List (Nat × Nat)
  bytes : Nat
  commit : Option (Nat × Nat × Nat × Nat × Nat)
deriving DecidableEq, Repr

/-- Littermate shadows (12 R380-R388). `decided` is the step and `LM_ATTEMPT` for which a first `SWEEP_SHARDS` decided last whether it is
shadowed, `current` the step that this owner last shadowed, none where the last decision was against, `attempt` its `LM_ATTEMPT`, `total`
its data bytes; boundary executed, commit sent, failed; `waitFrom` is the sweep that waits for its commit, and since when. -/
structure Shadow where
  decided : Option (Nat × Nat)
  current : Option Nat
  attempt : Nat
  total : Nat
  boundary : Bool
  commitSent : Bool
  failed : Bool
  waitFrom : Option (Nat × Nat)
  holds : SMap Hold
deriving DecidableEq, Repr

/-- A Sniffer run in progress (13 R405, R407): its descriptor and the bytes left to fold, each with its poison mark. -/
structure SnRun where
  id : Nat
  left : List (Byte × Bool)
deriving DecidableEq, Repr

/-- A Sniffer unit beyond its entries (13 R408-R416); `queue` holds the runs that wait for the one in progress (13 R405). -/
structure SnUnit where
  poisonSeen : Bool
  ctxWritten : Bool
  closePending : Bool
  autoStep : Option Nat
  run : Option SnRun
  queue : List SnRun
deriving DecidableEq, Repr

/-! ## Ports of the host and of management -/

/-- The PCI Express function (14 R417-R435). -/
structure HostPort where
  linkUp : Bool
  held : Bool
  readyAt : Nat
  d3hot : Bool
  functionMask : Bool
  msixEnable : Bool
  msix : SMap Nat
  msixPending : SMap Bool
  evqBase : Nat
  evqCfg : Nat
  evqHead : Nat
  evqTail : Nat
  evqDropped : Nat
  evqArmed : Bool
  odSel : Nat
  odStatus : Nat
  odLen : Nat
  odData : Nat
  bar2Log2 : Nat
  config : SMap Nat
  doeError : Bool
deriving DecidableEq, Repr

/-- How the answer to a dictionary request goes back: by itself, through the window, or as a frame (source, its own address and
port, request header, the secure session it came in). -/
inductive Route where
  | plain
  | window
  | frame (addr : BitVec 128) (udp : BitVec 16) (dst : BitVec 128) (dport : BitVec 16) (header : Nat) (session : Option (SpdmPort × Nat))
deriving DecidableEq, Repr

/-- An ACQUIRE that awaits arbitration (14 R447). -/
structure Claim where
  owner : Owner
  at_ : Nat
  route : Route
deriving DecidableEq, Repr

/-- A Leash (14 R443-R448): owner, end of its lease, next tie, and the ACQUIREs that await arbitration. -/
structure Leash where
  owner : Owner
  until_ : Nat
  nextTie : Bool
  claims : List Claim
deriving DecidableEq, Repr

/-- A request that waits while the Shepherd domain is in HOLD_CLOCK (17 R520): of the window, of a port by itself, a management frame,
an SPDM message. -/
inductive OdReq where
  | window (write : Bool) (sel data : Nat)
  | plain (who : Requester) (write : Bool) (sel data : Nat) (flashOk : Bool) (pins : Option (BitVec 16))
  | frame (f : MgmtFrame) (session : Option (SpdmPort × Nat))
  | spdm (port : SpdmPort) (req : SpdmReq) (late : Bool) (frame : Option MgmtFrame)
deriving DecidableEq, Repr

/-- A management subscriber (14 R441): address, UDP port, class; unacknowledged events as (ESEQ, record, sends, instant); the
queue of further records. -/
structure Subscriber where
  addr : BitVec 128
  udp : BitVec 16
  cls : Nat
  unacked : List (Nat × Nat × Nat × Nat)
  queue : List (Nat × Nat)
deriving DecidableEq, Repr

/-- A kept management response (14 R440). -/
structure Kept64 where
  addr : BitVec 128
  udp : BitVec 16
  reqId : Nat
  out : Out
  at_ : Nat
deriving DecidableEq, Repr

/-- The management port (14 R436-R442). `alternate` says that the port tries 10GBASE-R at present; the dictionary is served from
`servedAt` on (19 R554). -/
structure Mgmt where
  kept : List Kept64
  subscribers : List (Option Subscriber)
  alternate : Bool
  trySince : Nat
  servedAt : Nat
deriving DecidableEq, Repr

/-! ## Power, clocks, security, store, pins -/

/-- A junction sensor (16 R495-R498). -/
structure Sensor where
  hits : Nat
  failed : Bool
  last : Nat
deriving DecidableEq, Repr

/-- Power states and pace (16). `wasReady` says that READY was entered since STANDBY was left; `trained` is the number of Kennel channels in
use: the `KENNEL_CHANNELS` of the last entry to READY that trained them (09 R268, R291). -/
structure Power where
  pstate : PState
  target : Option PState
  wasReady : Bool
  trained : Nat
  protectAt : Nat
  v : Nat
  lastPeriod : Nat
  throttle : Nat
  throttleAt : Nat
  coolSince : Option Nat
  warn : Bool
  sensors : SMap Sensor
  sensorsAt : Nat
  railsOn : SMap Bool
  railsAt : SMap Nat
  coreAt : Nat
  avsRaised : SMap Bool
  avsHeld : Bool
  avsRetryAt : Nat
deriving DecidableEq, Repr

/-- A clock domain (17 R511-R516). `stoppedAt` is the instant of a stop that R516 has not yet counted, `stopTrip` says that the
switch to come counts as forced, `prior` is the source before the trip, `switchTo` a write that waits for an edge. -/
structure Domain where
  source : Nat
  fallback : Bool
  forced : Bool
  hold : Bool
  awaited : Nat
  parked : Bool
  stoppedAt : Option Nat
  stopTrip : Bool
  prior : Nat
  switchTo : Option Nat
  switchAt : Nat
deriving DecidableEq, Repr

/-- A clock source (17 R504-R506). -/
structure Source where
  ready : Bool
  failed : Bool
  startAt : Nat
deriving DecidableEq, Repr

/-- Clocks (17). -/
structure Clocks where
  domains : SMap Domain
  sources : SMap Source
  trim : Int
  trimUnusable : Bool
  lastTrim : Nat
deriving DecidableEq, Repr

/-- An image slot's trailer (18 R531): the activation marker, confirmed, unconfirmed boots. -/
structure Trailer where
  marker : Bool
  confirmed : Bool
  trials : Nat
deriving DecidableEq, Repr

/-- An SPDM session (18 R538). -/
structure Session where
  number : Nat
  port : SpdmPort
  finished : Bool
deriving DecidableEq, Repr

/-- Security (18). `imageA` and `imageB` hold the bytes of the slots in flash (erased bytes read 0xFF), `staged` counts the bytes in
the staging buffer, `deferred` holds the late answers, `versionA` and `versionB` the
versions of the slots that passed at the last boot. -/
structure Security where
  token : SMap Byte
  nonce : Nat
  unlocked : Bool
  sessions : List Session
  nextSession : Nat
  deferred : List (SpdmPort × Nat × SpdmReply)
  nextToken : Nat
  imageA : SMap Byte
  imageB : SMap Byte
  trailerA : Trailer
  trailerB : Trailer
  erasing : Bool
  staged : Nat
  verifying : Bool
  runSlot : Nat
  runVersion : Nat
  runSvn : Nat
  runBody : List Byte
  runHeader : List Byte
  chainOk : Bool
  versionA : Nat
  versionB : Nat
  trial : Bool
  recovery : Bool
  incarnation : Nat
deriving DecidableEq, Repr

/-- A ledger record (19 R559): HT, sequence, type, body. -/
structure Rec where
  ht : Nat
  seq : Nat
  kind : Nat
  body : List Byte
deriving DecidableEq, Repr

/-- A ledger segment in use (19 R558). `closed` says that its reading ended at a torn record at the last mount, so that no record follows
there (19 R562). -/
structure Seg where
  number : Nat
  segSeq : Nat
  records : List Rec
  closed : Bool
deriving DecidableEq, Repr

/-- A Trail dump slot (19 R566). -/
structure Dump where
  order : Nat
  ht : Nat
  trigger : Nat
  tseq : Nat
  entries : List Nat
deriving DecidableEq, Repr

/-- A lifetime record (19 R570): sequence, the counters with their remainders, calendar, retired segments. -/
structure LifeRec where
  seq : Nat
  counters : List Nat
  remainders : List Nat
  calendar : Nat
  retired : List Nat
deriving DecidableEq, Repr

/-- The persistent store (19). `lifeOld` holds the older records of the lifetime area, newest first (19 R570). The fields that end in `Rem` hold what a lifetime counter has not yet counted whole: nanoseconds, and
watt-nanoseconds for the energy. -/
structure Store where
  segs : List Seg
  buffer : List Rec
  nextSeq : Nat
  ackSeq : Option Nat
  retired : List Nat
  fullLatched : Bool
  erases : Nat
  dumps : SMap (Option Dump)
  life : Option LifeRec
  lifeOld : List LifeRec
  onRem : Nat
  runRem : Nat
  hotRem : Nat
  energyRem : Nat
  calRem : Nat
  uptimeRem : Nat
  lastLife : Nat
  pinsDiffer : Bool
  lastStraps : Nat
deriving DecidableEq, Repr

/-- Control pins (20 R577-R581). `loc` is the level of LOC[15:0] as last seen; `detector` says that the
power-on detector holds reset (20 R574, R583). -/
structure Pins where
  stopN : Bool
  stopFiltered : Bool
  stopLockout : Option Nat
  vrFault : Bool
  vrAsserted : Bool
  vrDeassertAt : Nat
  perst : Bool
  loc : Nat
  detector : Bool
deriving DecidableEq, Repr

/-! ## The whole -/

/-- A tap flush in the queue (06 R173, R177): the operation, its tile, block size, kind, loss scale and sampled tokens, whether a
poisoned operand entered it, and the sums of each block in the order of the passes. -/
structure TapFlush where
  id : Nat
  addr : Nat
  block : Nat
  gradient : Bool
  lossL : Nat
  tokens : Nat
  poison : Bool
  sums : List (Nat × List Nat)
deriving DecidableEq, Repr

/-- An entry that a sweep found not eligible: since when, against which `WAIT_WATCH`, and whether 0x0545 was raised (08 R246). -/
structure Visit where
  entry : Nat
  since : Nat
  watch : Nat
  raised : Bool
deriving DecidableEq, Repr

/-- A `SWEEP_SHARDS` that waits or visits shards (08 R238-R246): whether it still waits for its claim, the table, hyperparameters and
latched L as read at its start, the decision, the entries left, those found not eligible, the stall counted so far, whether an update wrote a value
that is not finite, and how the descriptor stands. -/
structure SweepRun where
  id : Nat
  claiming : Bool
  since : Nat
  watch : Nat
  raised : Bool
  table : List Nat
  hyper : Nat
  lossL : Nat
  skip : Bool
  clip : Nat
  verify : Bool
  left : List Nat
  seen : List Visit
  idleFrom : Option Nat
  idle : Nat
  processed : Nat
  nonfinite : Bool
  done : Done
deriving DecidableEq, Repr

/-- What the `SWEEP_SHARDS` descriptors of a step decided (08 R237): the steps from the step counter's on that any has started for. -/
structure StepSkip where
  step : Nat
  skipped : Bool
  kept : Bool
  mixed : Bool
deriving DecidableEq, Repr

/-- The compute units: accumulator tiles (A32 patterns by tile, row, column), the positions whose spill slot was written since
`SPILL_VALID` was last 0 (03 R70, R81), the ring slots whose `REFS` saturated (05 R157), tile status, the loss scale L latched for the
step (02 R51), the queue of tap flushes, the sweep under way and the step's skip decision. -/
structure Compute where
  acc : SMap Nat
  fresh : SMap Bool
  stuck : SMap Bool
  tiles : SMap Tile
  lossL : Option Nat
  lossWritten : Bool
  taps : List TapFlush
  sweep : Option SweepRun
  skips : List StepSkip
deriving DecidableEq, Repr

/-- Everything of the block but the queue of commands and the anti-rollback fuses. `now` is the time since power-on in ns,
`draws` numbers the free values drawn so far, `out` is the output log, newest first, `limits` holds the instant plus one of the last
event of each kind that is raised at most once per second, `flaws` the memory errors that the next read of a command without an operand
for them finds (09 R271; log entry 194). -/
structure Dev where
  now : Nat
  draws : Nat
  out : List Out
  limits : SMap Nat
  od : SMap Nat
  mem : Mem
  flaws : List EccHit
  disp : Disp
  cmp : Compute
  ports : SMap Port
  aux : SMap PortAux
  waiting : List Waiting
  tb : TimeBase
  slots : Slots
  eng : Engine
  trail : Trail
  howls : SMap Nat
  shadow : Shadow
  sniff : SMap SnUnit
  host : HostPort
  requests : List OdReq
  leashes : SMap Leash
  mgmt : Mgmt
  power : Power
  clocks : Clocks
  sec : Security
  store : Store
  pins : Pins
deriving DecidableEq, Repr

/-- The state: the commands that wait, first in first out; the burnt steps of `ROLLBACK_COUNTER` (18 R526, R542); the rest. -/
structure State where
  pending : List Instr
  fuse : Nat
  dev : Dev
deriving DecidableEq, Repr

/-! ## Values after reset -/

/-- A command ring after reset (04 R94, R96). -/
def Ring.init : Ring := ⟨0, 0x00400030, 0, 0, .disabled, false, false, 0, 0⟩
/-- A completion ring after reset (04 R94). -/
def CplRing.init : CplRing := ⟨0, 0xC0, 0, 0, true⟩
/-- An accumulator tile after reset (03 R78). -/
def Tile.init : Tile := ⟨false, false, false, 0, false⟩
/-- A port after reset, or disabled: no link state (10 R298, R325). -/
def Port.init : Port :=
  { state := .disabled, since := 0, retraining := none, wasActive := false, reversed := false, quarReason := 0, nbLoc := 0
    nbPort := 0, commonMinor := 0, nbSerial := 0, nbIncarnation := 0, nbMinor := 0, nbLogical := 0, known := false, back := 0, round1 := false, verdict := 0
    discSent := none, credits := [], txBase := 0, txBuf := [], lastAck := 0, replaysInRow := 0, rxNext := 0
    nakAt := none, reach := 0, preset := 0, uncorr := [], owed := [], replayFrom := none }
/-- A port's records after reset. -/
def PortAux.init : PortAux :=
  { markPeriod := 0, markSeq := 0, marksSent := [], echo := none, nbTState := 0, barkPeriod := 0, barkSeq := 0
    lastBark := 0, unhealthy := 0, turnClass := 3, turnLeft := 0, turnQueue := [] }
/-- A Leash nobody holds. -/
def Leash.init : Leash := ⟨.free, 0, false, []⟩
/-- A Sniffer unit after reset. -/
def SnUnit.init : SnUnit := ⟨false, false, false, none, none, []⟩
/-- A hold slot with nothing pending. -/
def Hold.init : Hold := ⟨none, 0, [], 0, none⟩
/-- A sensor after reset. -/
def Sensor.init : Sensor := ⟨0, false, 0⟩
/-- The dispatcher after reset. -/
def Disp.init : Disp := ⟨[], [], [], [], 0, 63, 0, [], false, 0⟩
/-- Compute after reset. -/
def Compute.init : Compute := ⟨[], [], [], [], none, false, [], none, []⟩
/-- The time base after power-on. -/
def TimeBase.init : TimeBase :=
  { htf := 0, part := 0, rate := 0, running := true, slew := 0, offsets := [], good := 0, bad := 0, lastRef := 0, parentRun := 0, tooDeep := false
    rootAddr := 0x3FFF, rootHoldover := false, secondsWritten := false, lastPps := none, pairStart := none
    tref10m := false, ptpSync := none, ptpReq := none }
/-- Slot tables after reset. -/
def Slots.init : Slots := ⟨none, none, false, [], []⟩
/-- The collectives engine after reset. The spec gives the staging store no size: the least power of two that holds the longest segment of
11 R358 (DESIGN CHOICE, log entry 167). -/
def Engine.init : Engine := ⟨[], [], [], [], 0, 0, false, [], [], [], [], [], [], [], 2 ^ 30⟩
/-- An empty Trail. -/
def Trail.init : Trail := ⟨[], 0, 0, 0, none, false⟩
/-- No shadow stream, no hold. -/
def Shadow.init : Shadow := ⟨none, none, 0, 0, false, false, false, none, []⟩
/-- The PCI Express function after a Conventional Reset. -/
def HostPort.init : HostPort :=
  { linkUp := true, held := false, readyAt := 0, d3hot := false, functionMask := false, msixEnable := false, msix := []
    msixPending := [], evqBase := 0, evqCfg := 0xC0, evqHead := 0, evqTail := 0, evqDropped := 0, evqArmed := true, odSel := 0
    odStatus := 0, odLen := 0, odData := 0, bar2Log2 := 36, config := [], doeError := false }
/-- The management port with no subscriber. -/
def Mgmt.init : Mgmt := ⟨[], [none, none, none, none], false, 0, 0⟩
/-- STANDBY (16). -/
def Power.init : Power :=
  { pstate := .standby, target := none, wasReady := false, trained := 0, protectAt := 0, v := 0, lastPeriod := 0, throttle := 0
    throttleAt := 0, coolSince := none, warn := false, sensors := [], sensorsAt := 0, railsOn := [], railsAt := [], coreAt := 0, avsRaised := [], avsHeld := false, avsRetryAt := 0  }
/-- The source a domain runs from after reset (15 R470), by domain sub-index. -/
def domainDefault (k : Nat) : Nat := odDefault (odKey 0x2100 k)
/-- A domain after reset. -/
def Domain.init (k : Nat) : Domain := ⟨domainDefault k, false, false, false, 0, false, none, false, domainDefault k, none, 0⟩
/-- A source after reset: SIO is always ready (17 R504). -/
def Source.init (k : Nat) : Source := ⟨decide (k = 0), false, 0⟩
/-- Clocks after reset. -/
def Clocks.init : Clocks := ⟨[], [], 0, false, 0⟩
/-- Clocks after a reset at `now`: FIO, XTA, XTB and REFCLK start, and the measurements of FIO begin anew (17 R504, R506, R521). -/
def Clocks.startedAt (now : Nat) : Clocks := { Clocks.init with sources := [1, 2, 3, 4].foldl (fun m n => sset Source.init m n ⟨false, false, now⟩) [], lastTrim := now }
/-- A slot that was never written. -/
def Trailer.blank : Trailer := ⟨false, false, 0⟩
/-- Security after reset. The flash lists nothing, and the firmware runs (DESIGN CHOICE, log entry 7). -/
def Security.init : Security :=
  { token := [], nonce := 0, unlocked := false, sessions := [], nextSession := 0, deferred := [], nextToken := 0, imageA := []
    imageB := [], trailerA := Trailer.blank, trailerB := Trailer.blank, erasing := false, staged := 0, verifying := false
    runSlot := 0, runVersion := 0, runSvn := 0, runBody := [], runHeader := [], chainOk := false, versionA := 0, versionB := 0, trial := false, recovery := false, incarnation := 0 }
/-- An empty store. -/
def Store.init : Store :=
  { segs := [], buffer := [], nextSeq := 0, ackSeq := none, retired := [], fullLatched := false, erases := 0, dumps := []
    life := none, lifeOld := [], onRem := 0, runRem := 0, hotRem := 0, energyRem := 0, calRem := 0, uptimeRem := 0, lastLife := 0
    pinsDiffer := false, lastStraps := 0 }
/-- The control pins at their inactive levels. -/
def Pins.init : Pins := ⟨false, false, none, false, false, 0, false, 0, false⟩

/-- The block right after reset: STANDBY, every register at its default. -/
def Dev.init : Dev :=
  { now := 0, draws := 0, out := [], limits := [], od := [], mem := ⟨[], []⟩, flaws := [], disp := Disp.init, cmp := Compute.init, ports := []
    aux := [], waiting := [], tb := TimeBase.init, slots := Slots.init, eng := Engine.init, trail := Trail.init, howls := [], shadow := Shadow.init
    sniff := [], host := HostPort.init, requests := [], leashes := [], mgmt := Mgmt.init, power := Power.init, clocks := Clocks.init
    sec := Security.init, store := Store.init, pins := Pins.init }

/-- The machine right after reset, with no command waiting. -/
def State.reset : State := ⟨[], 0, Dev.init⟩

end Sys2Proof.Machine
end

