-- ==== Sys2Proof/Machine/Ops.lean ====
section
/-! DEFINITION. The named operations that every meaning uses: dictionary values, device memory with its poison units, the output
log, events with all their consequences, the Trail, the ledger buffer, flits and Howls. -/

namespace Sys2Proof.Machine

/-! ## Lifting an effect to the state -/

/-- The meaning of a command whose effect `f` reads the fuses and changes the device, and leaves the queue and the fuses. -/
def run (s : State) (f : Nat → Dev → Dev) : Host.Outcome State Fault Refusal :=
  .next { s with dev := f s.fuse s.dev }

/-! ## Dictionary values -/

/-- The stored value of a dictionary entry. -/
def Dev.get (d : Dev) (index sub : Nat) : Nat := sget odDefault d.od (odKey index sub)

/-- The device stores a value, cut to the entry's size. -/
def Dev.put (d : Dev) (index sub v : Nat) : Dev :=
  { d with od := sset odDefault d.od (odKey index sub) (v % 2 ^ (8 * odSize (odKey index sub))) }

/-- A counter of `w` bits that stops at its largest value. -/
def Dev.addSat (d : Dev) (index sub w n : Nat) : Dev := d.put index sub (satAdd w (d.get index sub) n)

/-- A counter that wraps at its entry's size. -/
def Dev.addWrap (d : Dev) (index sub n : Nat) : Dev := d.put index sub (d.get index sub + n)

/-- An entry's value as a signed number of `w` bits. -/
def Dev.getInt (d : Dev) (index sub w : Nat) : Int := sgn w (d.get index sub)

/-- The device stores a signed value. -/
def Dev.putInt (d : Dev) (index sub w : Nat) (v : Int) : Dev := d.put index sub (unsgn w v)

/-- The step counter (04 R145), 48 bits. -/
def Dev.step (d : Dev) : Nat := d.get 0x5080 4

/-- HT in whole nanoseconds (11 R328). -/
def Dev.ht (d : Dev) : Nat := d.tb.htf / 65536 % 2 ^ 64

/-- The sampled straps. -/
def Dev.straps (d : Dev) : Nat := d.get 0x3000 1

/-- The device's own fabric address (10 R312). -/
def Dev.self (d : Dev) : Nat := bits (d.get 0x3100 1) 0 14

/-! ## Small updates -/

/-- Append an item to the output log. -/
def Dev.emit (d : Dev) (o : Out) : Dev := { d with out := o :: d.out }

/-- The next free value's number. -/
def Dev.draw (d : Dev) : Dev := { d with draws := d.draws + 1 }

/-- Do `f` unless it was done within the last second under the same key. -/
def Dev.oncePerSecond (d : Dev) (key : Nat) (f : Dev → Dev) : Dev :=
  let last := sget (fun _ => 0) d.limits key
  if last = 0 ∨ last - 1 + 1000000000 ≤ d.now then
    f { d with limits := sset (fun _ => 0) d.limits key (d.now + 1) }
  else d

def Dev.ring (d : Dev) (n : Nat) : Ring := sget (fun _ => Ring.init) d.disp.rings n
def Dev.setRing (d : Dev) (n : Nat) (r : Ring) : Dev :=
  { d with disp := { d.disp with rings := sset (fun _ => Ring.init) d.disp.rings n r } }
def Dev.cpl (d : Dev) (n : Nat) : CplRing := sget (fun _ => CplRing.init) d.disp.cpls n
def Dev.setCpl (d : Dev) (n : Nat) (c : CplRing) : Dev :=
  { d with disp := { d.disp with cpls := sset (fun _ => CplRing.init) d.disp.cpls n c } }
def Dev.counter (d : Dev) (c : Nat) : Nat := sget (fun _ => 0) d.disp.counters c
def Dev.setCounter (d : Dev) (c v : Nat) : Dev :=
  { d with disp := { d.disp with counters := sset (fun _ => 0) d.disp.counters c (v % 2 ^ 32) } }
def Dev.port (d : Dev) (p : Nat) : Port := sget (fun _ => Port.init) d.ports p
def Dev.setPort (d : Dev) (p : Nat) (x : Port) : Dev := { d with ports := sset (fun _ => Port.init) d.ports p x }
def Dev.pax (d : Dev) (p : Nat) : PortAux := sget (fun _ => PortAux.init) d.aux p
def Dev.setPax (d : Dev) (p : Nat) (x : PortAux) : Dev := { d with aux := sset (fun _ => PortAux.init) d.aux p x }
def Dev.tile (d : Dev) (t : Nat) : Tile := sget (fun _ => Tile.init) d.cmp.tiles t
def Dev.setTile (d : Dev) (t : Nat) (x : Tile) : Dev :=
  { d with cmp := { d.cmp with tiles := sset (fun _ => Tile.init) d.cmp.tiles t x } }
def Dev.leash (d : Dev) (n : Nat) : Leash := sget (fun _ => Leash.init) d.leashes n
def Dev.setLeash (d : Dev) (n : Nat) (x : Leash) : Dev := { d with leashes := sset (fun _ => Leash.init) d.leashes n x }
def Dev.unit (d : Dev) (u : Nat) : SnUnit := sget (fun _ => SnUnit.init) d.sniff u
def Dev.setUnit (d : Dev) (u : Nat) (x : SnUnit) : Dev := { d with sniff := sset (fun _ => SnUnit.init) d.sniff u x }
def Dev.domain (d : Dev) (k : Nat) : Domain := sget Domain.init d.clocks.domains k
def Dev.setDomain (d : Dev) (k : Nat) (x : Domain) : Dev :=
  { d with clocks := { d.clocks with domains := sset Domain.init d.clocks.domains k x } }
def Dev.source (d : Dev) (k : Nat) : Source := sget Source.init d.clocks.sources k
def Dev.setSource (d : Dev) (k : Nat) (x : Source) : Dev :=
  { d with clocks := { d.clocks with sources := sset Source.init d.clocks.sources k x } }

/-! ## Device memory -/

/-- The byte at a device address. -/
def Mem.byte (m : Mem) (a : Nat) : Byte := sget memDefault m.cells a

/-- Store one byte; the list keeps its canonical form. -/
def Mem.setByte (m : Mem) (a : Nat) (b : Byte) : Mem := { m with cells := sset memDefault m.cells a b }

/-- The bytes from `a`, `n` of them. -/
def Mem.read (m : Mem) (a : Nat) : Nat → List Byte
  | 0 => []
  | n + 1 => m.byte a :: Mem.read m (a + 1) n

/-- Store bytes from `a` upwards. -/
def Mem.write (m : Mem) (a : Nat) : List Byte → Mem
  | [] => m
  | b :: t => Mem.write (m.setByte a b) (a + 1) t

/-- The little-endian number in `n` bytes at `a` (00 R5). -/
def Mem.num (m : Mem) (a n : Nat) : Nat := ofBytes (m.read a n)

/-- Whether the 64-byte unit of an address is poisoned (09 R271). -/
def Mem.poisoned (m : Mem) (a : Nat) : Bool := sget (fun _ => false) m.poison (a / 64)

/-- Mark or clear the unit of an address. -/
def Mem.mark (m : Mem) (a : Nat) (p : Bool) : Mem := { m with poison := sset (fun _ => false) m.poison (a / 64) p }

/-- The first addresses of the 64-byte units that `n` bytes from `a` touch. -/
def unitsOf (a n : Nat) : List Nat :=
  if n = 0 then [] else (upFrom (a / 64) ((a + n - 1) / 64 - a / 64 + 1)).map (· * 64)

/-- Whether any unit that `n` bytes from `a` touch is poisoned. -/
def Mem.anyPoison (m : Mem) (a n : Nat) : Bool := (unitsOf a n).any m.poisoned

/-- The marks after a write of `n` bytes from `a`: a whole unit covered clears its mark, and every unit touched takes the mark when
`p` (09 R275, R276). -/
def Mem.remark (m : Mem) (a n : Nat) (p : Bool) : Mem :=
  (unitsOf a n).foldl (fun m u => if p then m.mark u true else if a ≤ u ∧ u + 64 ≤ a + n then m.mark u false else m) m

/-- A write by any agent: the bytes, then the marks. -/
def Mem.store (m : Mem) (a : Nat) (l : List Byte) (p : Bool) : Mem := (m.write a l).remark a l.length p

/-- The canonical form of device memory: addresses and unit numbers rise strictly, and no entry equals what an unlisted one holds. -/
def Memory.wf (m : Mem) : Bool := swf memDefault m.cells && swf (fun _ => false) m.poison

/-- The regions of 09 R260. -/
inductive Region where
  | near | kennel | tile | window
deriving DecidableEq, Repr

def nearSize : Nat := 1152000000000
def kennelBase : Nat := 0x020000000000
def tileBase : Nat := 0x0F0000000000
def tileSize : Nat := 0x30000000
def windowBase : Nat := 0x0F1000000000
def windowSize : Nat := 0x08000000

/-- Capacity of the Kennel tier (09 R268). -/
def Dev.kennelSize (d : Dev) : Nat := d.get 0x4010 4

/-- The region of an address, none where it is unpopulated (09 R260). -/
def Dev.region (d : Dev) (a : Nat) : Option Region :=
  if a < nearSize then some .near
  else if kennelBase ≤ a ∧ a < kennelBase + d.kennelSize then some .kennel
  else if tileBase ≤ a ∧ a < tileBase + tileSize then some .tile
  else if windowBase ≤ a ∧ a < windowBase + windowSize then some .window
  else none

/-- The region that holds all of `n` bytes from `a` (04 R118); an extent of no byte lies where its address lies. -/
def Dev.extent (d : Dev) (a n : Nat) : Option Region :=
  let r := d.region a
  if n = 0 then r else if r = d.region (a + n - 1) then r else none

def Dev.rd (d : Dev) (a n : Nat) : List Byte := d.mem.read a n
def Dev.num (d : Dev) (a n : Nat) : Nat := d.mem.num a n
def Dev.wr (d : Dev) (a : Nat) (l : List Byte) (p : Bool) : Dev := { d with mem := d.mem.store a l p }

/-! ## The ledger buffer -/

/-- The class of an event code (00 R10). -/
def eventClass (code : Nat) : Nat := bits code 12 4

/-- Whether a record is a fault record (19 R559). -/
def Rec.isFault (r : Rec) : Bool :=
  r.kind == 1 && (let c := eventClass (ofBytes ((r.body.drop 28).take 2)); c == 2 || c == 3 || c == 4)

/-- Take the newest informational record out of a buffer held oldest first; none when every record is a fault record. -/
def displaceInfo (l : List Rec) : Option (List Rec) :=
  match l.reverse.findIdx? (fun r => !r.isFault) with
  | some i => some ((l.reverse.eraseIdx i).reverse)
  | none => none

/-- A record enters the buffer (19 R561). -/
def Dev.ledger (d : Dev) (kind : Nat) (body : List Byte) : Dev :=
  let r : Rec := ⟨d.ht, d.store.nextSeq, kind, body⟩
  let room := if d.store.buffer.length < 256 then some d.store.buffer else if r.isFault then displaceInfo d.store.buffer else none
  match room with
  | some l => { d with store := { d.store with buffer := l ++ [r], nextSeq := (d.store.nextSeq + 1) % 2 ^ 32 } }
  | none => d.addSat 0x9010 0xF 32 1

/-! ## The Trail -/

/-- A Trail entry (12 R390). -/
def trailValue (ht tseq kind code step arg : Nat) : Nat :=
  bits ht 0 64 <<< 192 + bits tseq 0 32 <<< 160 + bits kind 0 4 <<< 156 + bits code 0 16 <<< 136 + bits step 0 48 <<< 88
    + bits arg 0 64

/-- A happening of kind `kind` reaches the Trail: recorded while it records, only counted while it is frozen (12 R390, R391). -/
def Dev.note (d : Dev) (kind code arg : Nat) : Dev :=
  if !bit (d.get 0x7100 5) kind then d
  else
    let tseq := d.get 0x7100 7
    let st := d.get 0x7100 2
    if st = 2 ∨ (st = 1 ∧ d.trail.postLeft = 0) then d.addWrap 0x7100 7 1
    else
      let d := d.addWrap 0x7100 7 1
      { d with trail := { d.trail with
          entries := (trailValue d.ht tseq kind code d.step arg :: d.trail.entries).take 4096
          postLeft := if st = 1 then d.trail.postLeft - 1 else d.trail.postLeft } }

/-- A trigger of `TRAIL_TRIGGER` starts the post count of a recording Trail (12 R391). -/
def Dev.trigger (d : Dev) (b : Nat) : Dev :=
  if bit (d.get 0x7100 3) b ∧ d.get 0x7100 2 = 0 then
    let d := d.put 0x7100 2 1
    { d with trail := { d.trail with postLeft := d.get 0x7100 4, trigger := b } }
  else d

/-! ## Posted writes and messages -/

/-- A posted write to host memory, lost and counted while the link is down (14 R424). -/
def Dev.post (d : Dev) (addr : Nat) (l : List Byte) : Dev :=
  if d.host.linkUp && !d.host.held then d.emit (.hostWrite addr l) else d.addSat 0x1300 2 32 1

/-- What the dwords of the MSI-X table hold after reset: every vector is masked. -/
def msixDefault (k : Nat) : Nat := if k % 4 = 3 then 1 else 0

/-- Dword `k` of the MSI-X table: four to a vector, its address, data and control (14 R421). -/
def Dev.msixWord (d : Dev) (k : Nat) : Nat := sget msixDefault d.host.msix k

/-- Whether a vector's messages are held back (14 R426; masks as PCI Express has them, set after reset). -/
def Dev.masked (d : Dev) (v : Nat) : Bool :=
  !d.host.msixEnable || d.host.functionMask || bit (d.msixWord (4 * v + 3)) 0

/-- Raise an MSI-X message (14 R426). -/
def Dev.message (d : Dev) (v : Nat) : Dev :=
  if d.masked v then { d with host := { d.host with msixPending := sset (fun _ => false) d.host.msixPending v true } }
  else if d.host.linkUp && !d.host.held then d.emit (.msix v (d.msixWord (4 * v) + d.msixWord (4 * v + 1) * 2 ^ 32) (d.msixWord (4 * v + 2))) else d.addSat 0x1300 2 32 1

/-! ## Management frames -/

/-- An object-access header (14 R438). -/
def mgmtHeader (ht eseq reqId index sub status length op : Nat) : Nat :=
  bits ht 0 64 <<< 192 + bits eseq 0 32 <<< 160 + bits reqId 0 32 <<< 128 + bits index 0 16 <<< 112 + bits sub 0 8 <<< 104
    + bits status 0 8 <<< 96 + bits length 0 16 <<< 80 + bits op 0 8 <<< 72 + 1 <<< 64 + 0x0D01 <<< 48

/-- The link-local address of the port, formed from its MAC address by EUI-64 (14 R437). -/
def linkLocal : BitVec 128 :=
  let m := Config.macAddress.toNat
  BitVec.ofNat 128 (0xFE80 <<< 112 + (bits m 24 24 ^^^ 0x020000) <<< 40 + 0xFFFE <<< 24 + bits m 0 24)

/-- The tag that frames are sent with (14 R437): none while the VLAN identifier is 0; the drop-eligible indicator is 0. -/
def Dev.vlanTag (d : Dev) : Option Nat :=
  if bits (d.get 0x1200 3) 0 12 = 0 then none else some (setBits (d.get 0x1200 3) 12 1 0)

/-- The envelope of a datagram. -/
def Dev.envelope (d : Dev) (src : BitVec 128) (sport : BitVec 16) (header : Nat) : Envelope := ⟨d.vlanTag, src, sport, header⟩

/-- The envelope of a datagram that answers none: from the port's further address, or its link-local one, and the configured UDP port. -/
def Dev.ownEnvelope (d : Dev) (header : Nat) : Envelope :=
  d.envelope (if d.get 0x1200 4 = 0 then linkLocal else BitVec.ofNat 128 (d.get 0x1200 4)) (BitVec.ofNat 16 (d.get 0x1200 7)) header

/-- A frame leaves while the management link is up. -/
def Dev.frame (d : Dev) (addr : BitVec 128) (udp : BitVec 16) (env : Envelope) (data : List Byte) : Dev :=
  if d.get 0x1200 9 = 0 then d else d.emit (.mgmtFrame addr udp env data)

/-- Keep a response of the management port: the last 64, for 1 s (14 R440). -/
def Dev.keepResponse (d : Dev) (k : Kept64) : Dev :=
  { d with mgmt := { d.mgmt with kept := (k :: d.mgmt.kept.filter (fun x => decide (d.now < x.at_ + 1000000000))).take 64 } }

/-- The answer to a dictionary request goes back: status, size of the entry's type, and the value where it is a read that ends with
`OK` (14 R435, R438, R440). -/
def Dev.answer (d : Dev) (route : Route) (read : Bool) (status size value : Nat) : Dev :=
  let len := if status = 1 then 0 else size
  let got := read && status == 0
  match route with
  | .plain => d.emit (.odAnswer status len (if got then value else 0))
  | .window =>
    { d with host := { d.host with odStatus := status, odLen := len, odData := if got then value else d.host.odData } }
  | .frame addr udp dst dport header session =>
    let data := if got then toBytes size value else []
    let h := mgmtHeader d.ht 0 (bits header 128 32) (bits header 112 16) (bits header 104 8) status data.length (bits header 72 8 + 0x80)
    let out : Out := match session with
      | some (port, n) => .secured port n h data
      | none => .mgmtFrame addr udp (d.envelope dst dport h) data
    let d := if status = 9 then d else d.keepResponse ⟨addr, udp, bits header 128 32, out, d.now⟩
    match session with
    | some (.doe, _) => d.emit out
    | _ => if d.get 0x1200 9 = 0 then d else d.emit out

/-- The EVENT frame of an event record. -/
def Dev.eventFrame (d : Dev) (s : Subscriber) (eseq record : Nat) : Dev :=
  d.frame s.addr s.udp (d.ownEnvelope (mgmtHeader d.ht eseq 0 0 0 0 64 4)) (toBytes 64 record)

/-- An event reaches subscriber slot `i` (14 R441). -/
def Dev.notifyOne (d : Dev) (cls eseq record i : Nat) : Dev :=
  match d.mgmt.subscribers[i]? with
  | some (some s) =>
    if cls < s.cls then d
    else if s.unacked.length < 16 then
      let d := d.eventFrame s eseq record
      let s := { s with unacked := s.unacked ++ [(eseq, record, 1, d.now)] }
      { d with mgmt := { d.mgmt with subscribers := d.mgmt.subscribers.set i (some s) } }
    else if s.queue.length < 256 then
      let s := { s with queue := s.queue ++ [(eseq, record)] }
      { d with mgmt := { d.mgmt with subscribers := d.mgmt.subscribers.set i (some s) } }
    else d.addSat 0x1210 4 32 1
  | _ => d

/-- An event reaches every subscriber of its class. -/
def Dev.notify (d : Dev) (cls eseq record : Nat) : Dev :=
  (below 4).foldl (fun d i => d.notifyOne cls eseq record i) d

/-! ## Events -/

/-- An event record (14 R428). -/
def eventRecord (ht arg1 arg0 step eseq code phase : Nat) : Nat :=
  bits ht 0 64 <<< 448 + bits arg1 0 64 <<< 384 + bits arg0 0 64 <<< 320 + bits step 0 48 <<< 272 + bits eseq 0 32 <<< 240
    + bits code 0 16 <<< 224 + bits phase 0 1

/-- The size of a queue whose configuration holds `LOG2` at bits [9:5]. -/
def log2Field (cfg : Nat) : Nat := bits cfg 5 5

/-- The event queue takes an event (14 R432). -/
def Dev.evqPut (d : Dev) (code arg0 arg1 eseq : Nat) : Dev :=
  let h := d.host
  let size := 2 ^ log2Field h.evqCfg
  if !bit h.evqCfg 31 ∨ eventClass code < bits h.evqCfg 0 3 then d
  else if (h.evqTail + 2 ^ 32 - h.evqHead) % 2 ^ 32 = size then
    { d with host := { h with evqDropped := satAdd 32 h.evqDropped 1 } }
  else
    let phase := if (h.evqTail / size) % 2 = 0 then 1 else 0
    let d := d.post (h.evqBase + 64 * (h.evqTail % size)) (toBytes 64 (eventRecord d.ht arg1 arg0 d.step eseq code phase))
    let d := { d with host := { d.host with evqTail := (h.evqTail + 1) % 2 ^ 32, evqArmed := false } }
    if h.evqArmed then d.message (bits h.evqCfg 10 11) else d

/-- An event goes to the Trail, the ledger, the event queue and the subscribers (14 R428-R432, R441; 12 R390; 19 R559).
`ledgered` is false for `LEDGER_FULL` alone (19 R564). -/
def Dev.report (d : Dev) (code arg0 arg1 : Nat) (ledgered : Bool) : Dev :=
  let eseq := d.get 0x1300 3
  let d := d.addWrap 0x1300 3 1
  let record := eventRecord d.ht arg1 arg0 d.step eseq code 0
  let d := (d.note 0 code arg0).trigger (eventClass code)
  let d := if ledgered then d.ledger 1 (toBytes 64 record) else d
  let d := d.evqPut code arg0 arg1 eseq
  d.notify (eventClass code) eseq record

/-! ## Flits -/

/-- The fields of a flit header that the sender of a DATA flit sets (10 R299). -/
structure FlitHead where
  tc : Nat
  sched : Bool
  poison : Bool
  detour : Bool
  last : Bool
  hops : Nat
  dest : Nat
  src : Nat
  epoch : Nat
  len : Nat
deriving DecidableEq, Repr

/-- Header bits [95:0] (10 R299). -/
def flitLow (ftype lseq ack : Nat) (ackValid : Bool) (h : FlitHead) : Nat :=
  bits ftype 0 4 <<< 92 + bits lseq 0 12 <<< 80 + bits ack 0 12 <<< 68 + b2n ackValid <<< 67 + bits h.tc 0 4 <<< 63
    + b2n h.sched <<< 62 + b2n h.poison <<< 61 + b2n h.detour <<< 60 + b2n h.last <<< 59 + bits h.hops 0 6 <<< 53
    + bits h.dest 0 14 <<< 39 + bits h.src 0 14 <<< 25 + bits h.epoch 0 16 <<< 9 + bits h.len 0 8 <<< 1

/-- The header with its link CRC over bytes 0 to 11 and the payload (10 R301). -/
def withCrc (low : Nat) (payload : List Byte) : BitVec 128 :=
  BitVec.ofNat 128 (crc32c (toBytes 12 low ++ payload) <<< 96 + low)

/-- The payload padded with zero bytes to 240. -/
def padPayload (l : List Byte) : List Byte := l.take 240 ++ List.replicate (240 - l.length) 0#8

end Sys2Proof.Machine

namespace Sys2Proof

/-! The fields of a received flit (10 R299). -/

def Flit.h (f : Flit) : Nat := f.header.toNat
def Flit.ftype (f : Flit) : Nat := Machine.bits f.h 92 4
def Flit.lseq (f : Flit) : Nat := Machine.bits f.h 80 12
def Flit.ack (f : Flit) : Nat := Machine.bits f.h 68 12
def Flit.ackValid (f : Flit) : Bool := Machine.bit f.h 67
def Flit.tc (f : Flit) : Nat := Machine.bits f.h 63 4
def Flit.sched (f : Flit) : Bool := Machine.bit f.h 62
def Flit.poison (f : Flit) : Bool := Machine.bit f.h 61
def Flit.detour (f : Flit) : Bool := Machine.bit f.h 60
def Flit.last (f : Flit) : Bool := Machine.bit f.h 59
def Flit.hops (f : Flit) : Nat := Machine.bits f.h 53 6
def Flit.dest (f : Flit) : Nat := Machine.bits f.h 39 14
def Flit.src (f : Flit) : Nat := Machine.bits f.h 25 14
def Flit.epoch (f : Flit) : Nat := Machine.bits f.h 9 16
def Flit.len (f : Flit) : Nat := Machine.bits f.h 1 8

end Sys2Proof

namespace Sys2Proof.Machine

/-- The head of a received flit, to be sent on. -/
def headOf (f : Flit) : FlitHead :=
  ⟨f.tc, f.sched, f.poison, f.detour, f.last, f.hops, f.dest, f.src, f.epoch, f.len⟩

/-- A DATA flit before its link fields are set. -/
def dataFlit (h : FlitHead) (payload : List Byte) : Flit :=
  ⟨BitVec.ofNat 128 (flitLow 1 0 0 false h), padPayload payload, false⟩

/-- The last in-order number received, that every flit carries (10 R308). -/
def Port.ackOf (p : Port) : Nat := (p.rxNext + 4095) % 4096

/-- Whether a port has left DISCOVER and so carries `ACK_VALID` (10 R308). -/
def LinkState.carries : LinkState → Bool
  | .active => true
  | .quarantine => true
  | _ => false

/-- Send an unsequenced flit of a type with a payload on a port (10 R300). -/
def Dev.control (d : Dev) (p ftype : Nat) (payload : List Byte) : Dev :=
  let x := d.port p
  let pay := padPayload payload
  let low := flitLow ftype 0 x.ackOf x.state.carries ⟨0, false, false, false, false, 0, 0, 0, 0, 0⟩
  (d.emit (.flit p ⟨withCrc low pay, pay, false⟩)).addWrap (0x3020 + p) 1 1

/-- A LINK_CTRL flit: a NAK, and the credit returned for each class (10 R300). -/
def Dev.linkCtrl (d : Dev) (p : Nat) (nak : Option Nat) (credit : Nat → Nat) : Dev :=
  let w := match nak with
    | some n => 0x8000 + n % 4096
    | none => 0
  d.control p 2 (toBytes 2 w ++ (below 16).map (fun c => BitVec.ofNat 8 (credit c)))

/-- One credit of a class. -/
def oneCredit (c k : Nat) : Nat := if k = c then 1 else 0

/-- A credit goes back to the sender of a best-effort flit that has left the receive buffer; while the port cannot send, it is owed (10 R306). -/
def Dev.giveCredit (d : Dev) (p c : Nat) : Dev :=
  let x := d.port p
  if x.state == .active || x.state == .quarantine then d.linkCtrl p none (oneCredit c)
  else if x.retraining.isSome then d.setPort p { x with owed := sset (fun _ => 0) x.owed c (sget (fun _ => 0) x.owed c + 1) }
  else d

/-- The owed credits go back, at most 255 of a class in one flit (10 R300, R306). -/
def Dev.payCredits (d : Dev) (p : Nat) : Dev :=
  let x := d.port p
  let owed := sget (fun _ => 0) x.owed
  if x.owed.isEmpty then d
  else
    let d := (d.setPort p { x with owed := [] }).linkCtrl p none (fun c => min 255 (owed c))
    if (below 16).any (fun c => decide (255 < owed c)) then d.linkCtrl p none (fun c => owed c - 255) else d

/-- The flit with the link fields of a port. -/
def linkedFlit (f : Flit) (x : Port) (lseq : Nat) : Flit :=
  ⟨withCrc (flitLow 1 lseq x.ackOf x.state.carries (headOf f)) f.payload, f.payload, false⟩

/-- Put a DATA flit on the wire of a port: the next LSEQ, the replay buffer, one credit of its class unless scheduled
(10 R306, R307). `chunk` names the kept chunk it belongs to, plus one. -/
def Dev.transmit (d : Dev) (p : Nat) (f : Flit) (chunk : Nat) : Dev :=
  let x := d.port p
  let lseq := (x.txBase + x.txBuf.length) % 4096
  let g := linkedFlit f x lseq
  let cr := sget (fun _ => 256) x.credits f.tc
  let x := { x with
    txBuf := x.txBuf ++ [(g, chunk)]
    credits := if f.sched then x.credits else sset (fun _ => 256) x.credits f.tc (cr - 1)
    lastAck := if x.txBuf.length = 0 then d.now else x.lastAck }
  ((d.setPort p x).emit (.flit p g)).addWrap (0x3020 + p) 1 1

/-- Whether DATA flits travel at all: READY or RUN (10 R298). -/
def Dev.dataOn (d : Dev) : Bool := d.power.pstate == .ready || d.power.pstate == .run

/-- A class-0 flit for the neighbour itself, which a quarantined port sends too (10 R317). -/
def Port.toNeighbour (x : Port) (f : Flit) : Bool := f.tc == 0 && x.known && f.dest == x.nbLogical

/-- Whether a port may put a DATA flit of a class on the wire now (10 R298, R306, R307, R317). -/
def Dev.canSend (d : Dev) (p : Nat) (f : Flit) : Bool :=
  let x := d.port p
  (x.state == .active || (x.state == .quarantine && x.toNeighbour f)) && d.dataOn && decide (x.txBuf.length < 4095)
    && (f.sched || decide (0 < sget (fun _ => 256) x.credits f.tc))

/-! ## Port states and Howls -/

/-- The code of a port state (10 R297). -/
def LinkState.code : LinkState → Nat
  | .disabled => 0
  | .detect => 1
  | .train => 2
  | .align => 3
  | .discover => 4
  | .active => 5
  | .quarantine => 6
  | .retrain => 7
  | .down => 8

/-- A port that leaves ACTIVE no longer qualifies as a parent (11 R331). -/
def Dev.unqualify (d : Dev) (p : Nat) : Dev :=
  if p = d.get 0x3210 2 then { d with tb := { d.tb with parentRun := 0 } } else d

/-- A port changes state, with its Trail entry (12 R390, kind 1). -/
def Dev.setLink (d : Dev) (p : Nat) (st : LinkState) : Dev :=
  let x := d.port p
  if x.state = st then d
  else ((d.setPort p { x with state := st, since := d.now }).unqualify p).note 1 (p * 256 + st.code) x.nbLoc

/-- Every port becomes DISABLED and loses its link state, what discovery found and its queued DATA flits (10 R298). -/
def Dev.parkPorts (d : Dev) : Dev :=
  let d := (below 6).foldl (fun d p =>
    let d := d.setLink p .disabled
    let d := (d.put 0x3013 (p + 1) 0).put 0x3014 (p + 1) 0
    d.setPort p { Port.init with since := (d.port p).since }) d
  { d with waiting := [], slots := { d.slots with midway := [] } }

/-- Whether an address belongs to the slice (11 R348). -/
def Dev.inSlice (d : Dev) (a : Nat) : Bool :=
  match d.slots.active with
  | some b => sget (fun _ => false) b.slice a
  | none => false

/-- Whether a port is fenced (11 R351). -/
def Dev.fenced (d : Dev) (p : Nat) : Bool := d.get 0x3420 (p + 1) == 1

/-- The value a Howl carries (12, "Howl"). -/
def howlValue (ht step seq origin subject kind port : Nat) (subjectValid : Bool) (event : Nat) : Nat :=
  bits ht 0 64 <<< 192 + bits step 0 48 <<< 144 + bits seq 0 16 <<< 128 + bits origin 0 14 <<< 114 + bits subject 0 14 <<< 100
    + bits kind 0 4 <<< 96 + bits port 0 3 <<< 93 + b2n subjectValid <<< 92 + bits event 0 16 <<< 76

/-- The entry of slot `i` of a port in a bank (11 R339). -/
def Bank.entry (b : Bank) (p i : Nat) : Nat :=
  match b.slots[p]? with
  | some im => if im.cycle = 0 then 0 else sget (fun _ => 0) im.entries (i % im.cycle)
  | none => 0

def slotKind (e : Nat) : Nat := bits e 30 2

/-- Whether the slot of a port in force at HT is QUIET: no DATA flit leaves in it (11 R338, R339). -/
def Dev.quiet (d : Dev) (p : Nat) : Bool :=
  match d.slots.active with
  | some b => !d.slots.allFree && decide (b.start ≤ d.ht) && slotKind (b.entry p ((d.ht - b.start) * 100 / 2048)) == 3
  | none => false

/-- A Howl flit leaves on an ACTIVE port; a fenced port sends none whose destination is outside the slice (11 R351). -/
def Dev.howlOn (d : Dev) (f : Flit) (p : Nat) : Dev :=
  if (d.port p).state != .active then d
  else if d.fenced p && !d.inSlice f.dest then d.addSat 0x3410 2 32 1
  else if d.canSend p f && !d.quiet p then d.transmit p f 0
  else { d with waiting := d.waiting ++ [⟨2 ^ 30 + p, d.ht, 0, f, false⟩] }

/-- Originate a Howl, in READY and RUN only (12 R374, R375). -/
def Dev.howl (d : Dev) (kind port subject : Nat) (subjectValid : Bool) (event step : Nat) : Dev :=
  if d.power.pstate != .ready && d.power.pstate != .run then d
  else
    let seq := (d.get 0x7300 3 + 1) % 65536
    let d := ((d.put 0x7300 3 seq).addSat 0x7300 4 32 1).note 2 kind (seq * 65536 + subject)
    let d := { d with howls := sset (fun _ => 0) d.howls d.self (seq + 1) }
    let v := howlValue d.ht step seq d.self subject kind port subjectValid event
    let f := dataFlit ⟨6, false, false, false, true, 63, d.self, d.self, 0, 32⟩ (toBytes 32 v)
    (below 6).foldl (fun d p => d.howlOn f p) d

/-! ## Raising an event with its consequences -/

/-- Raise an event that fixes no step and no halt (classes 0 to 2). -/
def Dev.raise (d : Dev) (code arg0 arg1 : Nat) : Dev := d.report code arg0 arg1 true

/-- Raise a step-fatal event of a step: the step is marked, `LM_ATTEMPT` advances, and a Howl STEP_FATAL leaves unless the event
is 0x3A03 (00 R10; 04 R136; 12 R374, R384). -/
def Dev.raiseStep (d : Dev) (code arg0 arg1 step : Nat) : Dev :=
  let d := d.report code arg0 arg1 true
  let d := { d with disp := { d.disp with
    fatalSteps := if d.disp.fatalSteps.contains step then d.disp.fatalSteps else step :: d.disp.fatalSteps } }
  let d := d.put 0x7200 5 ((d.get 0x7200 5 + 1) % 256)
  if code != 0x3A03 && d.get 0x7300 1 == 1 then d.howl 3 7 0 false code step else d

/-- Raise a device-fatal event: the Howl of kind `kind` leaves, compute stops for good, the ports are parked
(00 R10; 04 R144; 10 R298; 12 R374). -/
def Dev.raiseFatal (d : Dev) (code arg0 arg1 kind : Nat) : Dev :=
  let d := d.report code arg0 arg1 true
  let d := d.howl kind 7 0 false code d.step
  let d := { d with disp := { d.disp with fatal := true } }
  d.parkPorts

/-! ## Memory errors -/

/-- The memory device of an address (09 R263-R265, R280). -/
def Dev.memdev (d : Dev) (a : Nat) : Nat :=
  match d.region a with
  | some .near => (a / 4096) % 16
  | some .kennel =>
    let g := (a - kennelBase) / 4096
    if d.power.trained = 8 then 16 + ([0, 1, 2, 3, 8, 9, 10, 11][g % 8]?).getD 0 else 16 + g % 16
  | some .tile => 32 + (a / 256) % 4
  | _ => 36

/-- An error-log record (09 R280). -/
def errRecord (ht kind memdev addr : Nat) : Nat :=
  bits ht 0 64 <<< 64 + bits kind 0 2 <<< 62 + bits memdev 0 6 <<< 56 + bits addr 0 48

/-- `MEM_ERR_LOG` takes a record at sub-index 01 and moves the others down (09 R280). -/
def Dev.errLog (d : Dev) (er : Nat) : Dev :=
  let d := (below 31).foldl (fun d i => d.put 0x4033 (32 - i) (d.get 0x4033 (31 - i))) d
  d.put 0x4033 1 er

/-- The error counter of a memory device: its sub-index, and its overflow bits for corrected and uncorrectable errors
(09 R272, R281). -/
def errSub (memdev : Nat) : Nat := if memdev < 32 then memdev + 1 else if memdev < 36 then 0x21 else 0x22
def ovfBit (memdev : Nat) (unc : Bool) : Nat :=
  if memdev < 16 then (if unc then 32 + memdev else memdev)
  else if memdev < 32 then (if unc then 48 + (memdev - 16) else memdev)
  else if memdev < 36 then (if unc then 64 else 65)
  else (if unc then 67 else 66)

/-- Count an error; the counter that stops sets its overflow bit (09 R281). -/
def Dev.errCount (d : Dev) (memdev : Nat) (unc : Bool) : Dev :=
  let i := if unc then 0x4031 else 0x4030
  let d := d.addSat i (errSub memdev) 32 1
  if d.get i (errSub memdev) = 0xFFFFFFFF then d.put 0x4032 1 (d.get 0x4032 1 ||| 2 ^ ovfBit memdev unc) else d

/-- The arguments of a memory event: the 128-bit record fills both fields (14 R429, 09 R282). -/
def Dev.raiseRec (d : Dev) (code er : Nat) : Dev := d.raise code (bits er 0 64) (bits er 64 64)

/-- A read finds an error in the unit of `a` (09 R272, R273). In the accumulator buffer an uncorrectable error poisons the tile and
tears it. -/
def Dev.eccFound (d : Dev) (a : Nat) (unc : Bool) : Dev :=
  let md := d.memdev a
  if unc then
    let t := (a - windowBase) / 0x800000
    if (if md = 36 then (d.tile t).poison else d.mem.poisoned a) then d
    else
      let d := if md = 36 then d.setTile t { d.tile t with poison := true, torn := true }
        else { d with mem := d.mem.mark a true }
      let er := errRecord d.ht 1 md a
      (d.errLog er |>.errCount md true).raiseRec 0x2702 er
  else
    let er := errRecord d.ht 0 md a
    let d := (d.errLog er).errCount md false
    d.oncePerSecond (0x1701 * 64 + md) (fun d => d.raiseRec 0x1701 er)

/-- The errors that a read of the given addresses finds, in order. Their events are not events of the operation that reads, so its record
does not carry them (DESIGN CHOICE, log entry 150). -/
def Dev.eccAll (d : Dev) (l : List EccHit) : Dev :=
  l.foldl (fun d e => if (d.region e.addr).isSome then d.eccFound e.addr e.uncorrectable else d) d

/-- The errors that a read finds of which only the given tiles' A32 values are read: an error in the accumulator buffer is found nowhere
else (09 R277). -/
def Dev.eccRead (d : Dev) (tiles : List Nat) (l : List EccHit) : Dev :=
  d.eccAll (l.filter (fun h => d.region h.addr != some .window || tiles.contains ((h.addr - windowBase) / 0x800000)))

/-- The errors that stand are found by the next read of a command that has no operand for them (DESIGN CHOICE, log entry 194). -/
def Dev.readFlaws (d : Dev) : Dev := { d.eccRead [] d.flaws with flaws := [] }

/-- A stack or channel, or the tier as a whole, fails (09 R268, R279). -/
def Dev.memFailed (d : Dev) (memdev addr : Nat) : Dev :=
  let er := errRecord d.ht 3 memdev addr
  let d := d.errLog er
  d.raiseFatal 0x4704 (bits er 0 64) (bits er 64 64) 2

/-! ## Power facts that many meanings read -/

/-- The code of a power state (15 R467). -/
def PState.code : PState → Nat
  | .standby => 0
  | .hold => 1
  | .ready => 2
  | .run => 3
  | .protect => 4

/-- Descriptors in flight; none after a device-fatal event (15 R459). -/
def Dev.inFlight (d : Dev) : Nat := if d.disp.fatal then 0 else d.disp.board.length

/-- Quiescent: no operation in flight and the power state not RUN (00 R7). -/
def Dev.quiescent (d : Dev) : Bool := d.inFlight == 0 && d.power.pstate != .run

/-- Whether descriptors may start: RUN, no STOP_N, no device-fatal event (04 R111, R144). -/
def Dev.computes (d : Dev) : Bool := d.power.pstate == .run && !d.pins.stopN && !d.disp.fatal

end Sys2Proof.Machine
end

