-- ==== Sys2Proof/Machine/Fabric.lean ====
section
/-! DEFINITION. Routing, queues and fences (11 R348-R351), and the chunk framing of collective and shadow traffic (11 R353). -/

namespace Sys2Proof.Machine

/-! ## Routes -/

/-- The route entry of an address in the active bank; 0, not valid, without a bank (11 R348). -/
def Dev.route (d : Dev) (a : Nat) : Nat :=
  match d.slots.active with
  | some b => sget (fun _ => 0) b.routes a
  | none => 0

/-- DOWN, QUARANTINE or DISABLED (11 R349); a code that names no port is DISABLED. -/
def Dev.blocked (d : Dev) (p : Nat) : Bool :=
  let st := (d.port p).state
  st == .down || st == .quarantine || st == .disabled

/-- The flit as a detour carries it: class 2, best-effort, marked (11 R349). -/
def detoured (f : Flit) : Flit :=
  let h := headOf f
  ⟨BitVec.ofNat 128 (flitLow 1 0 0 false { h with tc := 2, sched := false, detour := true }), f.payload, f.fecBad⟩

/-- The collective id in a flit's tag (11 R353). -/
def flitColl (f : Flit) : Nat := bits (ofBytes (f.payload.take 4)) 16 16

/-- The index of a flit within its chunk (11 R353). -/
def flitFidx (f : Flit) : Nat := bits (ofBytes (f.payload.take 4)) 8 6

/-- The port that a waiting flit leaves by at present, and the flit as it leaves; none while it is held (11 R349). A Howl's port
is fixed by its queue; a quarantined port takes this device's class-0 flits for its neighbour (10 R317). -/
def Dev.exitOf (d : Dev) (w : Waiting) : Option (Nat × Flit) :=
  if 2 ^ 30 ≤ w.queue then some (w.queue - 2 ^ 30, w.flit)
  else
    let e := d.route w.flit.dest
    let prim := bits e 0 3
    let alt := bits e 3 3
    if w.queue < 2 ^ 20 ∧ (d.port prim).state = .quarantine ∧ (d.port prim).toNeighbour w.flit then some (prim, w.flit)
    else if d.blocked prim || (d.fenced prim && !d.inSlice w.flit.dest) then
      (if alt = 7 ∨ d.blocked alt then none else some (alt, detoured w.flit))
    else if (d.port prim).state = .active then some (prim, w.flit)
    else none

/-! ## Slot entries -/

def slotFlits (e : Nat) : Nat := bits e 23 7
def slotInPort (e : Nat) : Nat := bits e 20 3
def slotColl (e : Nat) : Nat := bits e 0 16

/-- Whether some SEND entry of a port in the active bank names a collective (11 R345). -/
def Dev.sendNamed (d : Dev) (p coll : Nat) : Bool :=
  match d.slots.active with
  | some b =>
    match b.slots[p]? with
    | some im => im.entries.any (fun e => slotKind e.2 == 1 && slotColl e.2 == coll)
    | none => false
  | none => false

/-- Whether a flit waits for a slot: scheduled, and either in transit or named by a SEND entry of its port; no flit does while every slot
counts as FREE (11 R342). -/
def Dev.slotBound (d : Dev) (w : Waiting) (p : Nat) (f : Flit) : Bool :=
  f.sched && !d.slots.allFree && (decide (2 ^ 20 ≤ w.queue) || d.sendNamed p (flitColl f))

/-- The key of a forwarded stream in `Slots.midway`. -/
def streamKey (inPort outPort coll : Nat) : Nat := (inPort * 8 + outPort) * 65536 + coll

/-- What an input port had begun to bring is no longer expected. -/
def Dev.endStreams (d : Dev) (p : Nat) : Dev :=
  { d with slots := { d.slots with midway := d.slots.midway.filter (fun e => e.1 / 2 ^ 19 != p) } }

/-! ## Choosing the next best-effort flit (11 R350) -/

/-- The first waiting flit of each queue that may leave by port `p` outside a slot, with the flit as it leaves. -/
def Dev.heads (d : Dev) (p : Nat) : List (Waiting × Flit) :=
  (d.waiting.foldl (fun (acc : List Nat × List (Waiting × Flit)) w =>
    match d.exitOf w with
    | some (q, f) =>
      if d.slotBound w q f || (w.displaced && f.sched) then acc
      else if acc.1.contains w.queue then acc
      else (w.queue :: acc.1, if q = p then acc.2 ++ [(w, if f.sched then detouredNot f else f)] else acc.2)
    | none => if acc.1.contains w.queue then acc else (w.queue :: acc.1, acc.2)) ([], [])).2.filter (fun x => d.canSend p x.2)
where
  /-- A scheduled flit that no SEND entry names goes best-effort in its own class (11 R345). -/
  detouredNot (f : Flit) : Flit :=
    let h := headOf f
    ⟨BitVec.ofNat 128 (flitLow 1 0 0 false { h with sched := false }), f.payload, f.fecBad⟩

/-- The next class of the weighted row, from `c` on, cyclically, that has a candidate (11 R350, row 4). -/
def nextClass (cands : List Nat) (c : Nat) : Option Nat :=
  ((upFrom c 16).map (· % 16)).find? cands.contains

/-- Among the queue numbers of a class, the one whose turn it is: the one under way, else the next larger, else the smallest. -/
def turnOf (queues : List Nat) (last : Nat) : Option Nat :=
  let q := last / 2
  if last % 2 = 1 ∧ queues.contains q then some q
  else
    match (queues.filter (fun x => decide (q < x))).min? with
    | some x => some x
    | none => queues.min?

/-- The class to serve next and the records of the turn (11 R350): 6, 0, 2 in strict order, then the weighted row. -/
def Dev.pickClass (d : Dev) (x : PortAux) (classes : List Nat) : Option (Nat × PortAux) :=
  if classes.contains 6 then some (6, x)
  else if classes.contains 0 then some (0, x)
  else if classes.contains 2 then some (2, x)
  else
    let heavy := classes.filter (fun c => d.get 0x3400 (c + 1) != 0)
    let pool := if heavy.isEmpty then classes else heavy
    if pool.contains x.turnClass && decide (0 < x.turnLeft) then some (x.turnClass, { x with turnLeft := x.turnLeft - 1 })
    else
      match nextClass pool (x.turnClass + 1) with
      | some c => some (c, { x with turnClass := c, turnLeft := d.get 0x3400 (c + 1) - 1 })
      | none => none

/-- A transit flit that has left frees its buffer: one credit goes back on its input port (10 R306). -/
def Dev.returnCredit (d : Dev) (w : Waiting) : Dev :=
  if 2 ^ 20 ≤ w.queue ∧ w.queue < 2 ^ 30 ∧ !w.flit.sched then
    let p := (w.queue - 2 ^ 20) / 16
    if p < 6 then d.giveCredit p w.flit.tc else d
  else d

/-- The oldest flit of a slot that left port `p` without it: it goes ahead of best-effort traffic (10 R311). -/
def Dev.overdue (d : Dev) (p : Nat) : Option (Waiting × Flit) :=
  d.waiting.findSome? (fun w =>
    match d.exitOf w with
    | some (q, f) => if w.displaced && f.sched && q == p && d.canSend p f then some (w, f) else none
    | none => none)

/-- One best-effort flit leaves by port `p`, if any may (11 R350). -/
def Dev.pumpBest (d : Dev) (p : Nat) : Option Dev :=
  let hs := d.heads p
  match d.pickClass (d.pax p) (hs.map (fun h => h.2.tc)) with
  | none => none
  | some (c, x) =>
    let hc := hs.filter (fun h => h.2.tc == c)
    match turnOf (hc.map (fun h => h.1.queue)) (sget (fun _ => 0) x.turnQueue c) with
    | none => none
    | some q =>
      match hc.find? (fun h => h.1.queue == q) with
      | none => none
      | some (w, f) =>
        let x := { x with turnQueue := sset (fun _ => 0) x.turnQueue c (2 * q + b2n (!f.last)) }
        let d := { (d.setPax p x) with waiting := d.waiting.erase w }
        some ((d.transmit p f w.chunk).returnCredit w)

/-- One flit leaves by port `p` outside its own slot, if any may; none in a QUIET slot (11 R339). -/
def Dev.pumpOnce (d : Dev) (p : Nat) : Option Dev :=
  if d.quiet p then none
  else
    match d.overdue p with
    | some (w, f) => some ({ d with waiting := d.waiting.erase w }.transmit p f w.chunk)
    | none => d.pumpBest p

/-- Best-effort flits leave by port `p` until none may. -/
def Dev.pump (d : Dev) (p : Nat) : Nat → Dev
  | 0 => d
  | n + 1 =>
    match d.pumpOnce p with
    | some d' => Dev.pump d' p n
    | none => d

/-- Every port sends what it may. -/
def Dev.pumpAll (d : Dev) : Dev := (below 6).foldl (fun d p => d.pump p d.waiting.length) d

/-- A DATA flit that originates here enters its source queue, or is dropped; one for this device itself goes to its own reassembly
(11 R349). -/
def Dev.originate (d : Dev) (f : Flit) (chunk : Nat) : Dev :=
  let e := d.route f.dest
  if f.dest = d.self then { d with eng := { d.eng with loop := d.eng.loop ++ [f] } }
  else if !d.inSlice f.dest || !bit e 15 then d.addSat 0x3410 1 32 1
  else
    let lim := bits e 6 6
    let h := { headOf f with hops := if lim = 0 then 63 else lim }
    let f := ⟨BitVec.ofNat 128 (flitLow 1 0 0 false h), f.payload, false⟩
    { d with waiting := d.waiting ++ [⟨f.dest * 16 + f.tc, d.ht, chunk, f, false⟩] }

/-! ## Chunks -/

/-- The fields of a chunk header (11 R353). -/
structure ChunkHead where
  offset : Nat
  tensor : Nat
  stage : Nat
  nbytes : Nat
  flits : Nat
  chunk : Nat
  segment : Nat
  collId : Nat
  kind : Nat
deriving DecidableEq, Repr

/-- The 256-bit header without its `ECRC`. -/
def ChunkHead.low (h : ChunkHead) : Nat :=
  bits h.offset 0 40 <<< 105 + bits h.tensor 0 16 <<< 89 + bits h.stage 0 8 <<< 81 + bits h.nbytes 0 14 <<< 67
    + bits h.flits 0 7 <<< 60 + bits h.chunk 0 16 <<< 44 + bits h.segment 0 24 <<< 20 + bits h.collId 0 16 <<< 4 + bits h.kind 0 4

/-- `ECRC` of a header value and the data (11 R353). -/
def ecrcOf (low : Nat) (data : List Byte) : Nat := crc32c (toBytes 32 low ++ data)

/-- The 256-bit header with its `ECRC`. -/
def ChunkHead.value (h : ChunkHead) (data : List Byte) : Nat := h.low + ecrcOf h.low data <<< 145

def chEcrc (v : Nat) : Nat := bits v 145 32
def chOffset (v : Nat) : Nat := bits v 105 40
def chTensor (v : Nat) : Nat := bits v 89 16
def chStage (v : Nat) : Nat := bits v 81 8
def chBytes (v : Nat) : Nat := bits v 67 14
def chFlits (v : Nat) : Nat := bits v 60 7
def chChunk (v : Nat) : Nat := bits v 44 16
def chSegment (v : Nat) : Nat := bits v 20 24
def chCollId (v : Nat) : Nat := bits v 4 16
def chKind (v : Nat) : Nat := bits v 0 4

/-- A header with its `ECRC` field at 0. -/
def chLow (v : Nat) : Nat := setBits v 145 32 0

/-- Flits that `n` data bytes take: 204 bytes in the first, 236 in each later one (11 R353). -/
def flitCount (n : Nat) : Nat := if n ≤ 204 then 1 else 1 + (n - 204 + 235) / 236

/-- The flit that data byte `i` of a chunk travels in. -/
def flitOfByte (i : Nat) : Nat := if i < 204 then 0 else 1 + (i - 204) / 236

/-- The data bytes of each flit of a chunk. -/
def flitData (data : List Byte) : List (List Byte) := data.take 204 :: chunksOf 236 64 (data.drop 204)

/-- The flits of a chunk, before routing (11 R353). -/
def chunkFlits (h : FlitHead) (header : Nat) (data : List Byte) (poison : List Bool) : List Flit :=
  let parts := flitData data
  (below parts.length).map (fun i =>
    let part := (parts[i]?).getD []
    let tag := toBytes 4 (chCollId header <<< 16 + i <<< 8)
    let pay := tag ++ (if i = 0 then toBytes 32 header else []) ++ part
    dataFlit { h with poison := (poison[i]?).getD false, last := decide (i + 1 = parts.length), len := pay.length } pay)

/-- A kept chunk leaves: its flits enter their source queue (11 R353, R355). -/
def Dev.sendKept (d : Dev) (k : Kept) (tc : Nat) (sched detour : Bool) : Dev :=
  let h : FlitHead := ⟨tc, sched, false, detour, false, 0, k.dest, d.self, k.epoch, 0⟩
  ((chunkFlits h k.header k.data k.poison).foldl (fun d f => d.originate f (k.key + 1)) d).pumpAll

/-- A control chunk (SEG_ACK, CHUNK_NAK, REFETCH_REQ) goes to a device in one flit, with no data (11 R353). -/
def Dev.sendControl (d : Dev) (dest tc epoch header : Nat) : Dev :=
  let h : FlitHead := ⟨tc, false, false, false, false, 0, dest, d.self, epoch, 0⟩
  ((chunkFlits h header [] []).foldl (fun d f => d.originate f 0) d).pumpAll

/-- A SEG_ACK, CHUNK_NAK or REFETCH_REQ that answers a received chunk: the chunk's own fields with another kind and no data. -/
def answerHeader (v kind : Nat) : Nat :=
  let h : ChunkHead := ⟨chOffset v, chTensor v, chStage v, 0, 1, chChunk v, chSegment v, chCollId v, kind⟩
  h.value []

/-! ## Hand-over (10 R320, 11 R367) -/

/-- A collective's descriptor takes note of a chunk re-sent over a detour (11 R367, 04 R105, R106). -/
def Dev.noteDetour (d : Dev) (owner : Option Nat) : Dev :=
  { d with eng := { d.eng with flights := d.eng.flights.map (fun c =>
      if owner = some c.id then { c with detours := c.detours + 1, status := c.status ||| 2048 } else c) } }

/-- The engine re-sends a chunk it originated of which flits were handed over: from `FIDX` 0, class 2, detour (11 R367). -/
def Dev.detourChunk (d : Dev) (key : Nat) : Dev :=
  match d.eng.segments.find? (fun s => s.chunks.any (fun k => k.key == key)) with
  | some s =>
    match s.chunks.find? (fun k => k.key == key) with
    | some k => (d.sendKept k 2 false true).noteDetour s.owner
    | none => d
  | none => d

/-- The keys of a list of chunk marks, each once, in order. -/
def chunkKeys (l : List Nat) : List Nat :=
  (l.foldl (fun (acc : List Nat) c => if c = 0 ∨ acc.contains (c - 1) then acc else acc ++ [c - 1]) [])

/-- The unacknowledged flits of a port go back to routing in `LSEQ` order, ahead of what still waits; the chunks this device
originated are re-sent whole instead (10 R320, 11 R367). -/
def Dev.handOver (d : Dev) (p : Nat) : Dev :=
  let x := d.port p
  let keys := chunkKeys (x.txBuf.map (·.2))
  let others := (x.txBuf.filter (fun e => e.2 == 0 && e.1.tc != 6)).map (fun e =>
    (⟨e.1.dest * 16 + e.1.tc, d.ht, 0, ⟨BitVec.ofNat 128 (flitLow 1 0 0 false (headOf e.1)), e.1.payload, false⟩, false⟩ : Waiting))
  let d := d.setPort p { x with txBuf := [], txBase := 0 }
  let d : Dev := { d with waiting := others ++ d.waiting.filter (fun (w : Waiting) => !(w.chunk != 0 && keys.contains (w.chunk - 1))) }
  (keys.foldl (fun d k => d.detourChunk k) d).pumpAll

end Sys2Proof.Machine
end

