-- ==== Sys2Proof/Machine/Operands.lean ====
section
/-! DEFINITION. The fields of an operation descriptor, a 1,024-bit value, by the layouts of 04 R109 to R137. -/

namespace Sys2Proof.Machine

/-! Fields of the common header (04 R109). -/

def hdTag (x : Nat) : Nat := bits x 224 32
def hdWait1Value (x : Nat) : Nat := bits x 192 32
def hdWait0Value (x : Nat) : Nat := bits x 160 32
def hdWait1Id (x : Nat) : Nat := bits x 148 12
def hdWait0Id (x : Nat) : Nat := bits x 136 12
def hdSig1Id (x : Nat) : Nat := bits x 124 12
def hdSig0Id (x : Nat) : Nat := bits x 112 12
def hdSig1Inc (x : Nat) : Nat := bits x 104 8
def hdSig0Inc (x : Nat) : Nat := bits x 96 8
def hdStepTag (x : Nat) : Nat := bits x 80 16
def hdWaitEn (x : Nat) : Nat := bits x 70 2
def hdCplMode (x : Nat) : Nat := bits x 68 2
def hdSigOnError (x : Nat) : Bool := bit x 67
def hdSerial (x : Nat) : Bool := bit x 66
def hdOpcode (x : Nat) : Nat := bits x 0 8

/-! Fields of the array body (04 R119). -/

def arFmtC (x : Nat) : Nat := bits x 908 2
def arTapAddr (x : Nat) : Nat := bits x 860 48
def arTapSample (x : Nat) : Nat := bits x 856 4
def arTapBlock (x : Nat) : Nat := bits x 854 2
def arTapEn (x : Nat) : Nat := bits x 852 2
def arWverRef (x : Nat) : Nat := bits x 850 2
def arWver (x : Nat) : Nat := bits x 834 16
def arWverId (x : Nat) : Nat := bits x 822 12
def arColToken0 (x : Nat) : Nat := bits x 802 20
def arRowToken0 (x : Nat) : Nat := bits x 782 20
def arMaskMode (x : Nat) : Nat := bits x 779 3
def arSeqAddr (x : Nat) : Nat := bits x 731 48
def arOutPitch (x : Nat) : Nat := bits x 691 40
def arOutIndex0 (x : Nat) : Nat := bits x 651 40
def arTensor (x : Nat) : Nat := bits x 635 16
def arRound (x : Nat) : Bool := bit x 634
def arOutMode (x : Nat) : Nat := bits x 631 3
def arColOffset (x : Nat) : Nat := bits x 629 2
def arWestHalf (x : Nat) : Bool := bit x 628
def arTileEast (x : Nat) : Nat := bits x 624 4
def arTile (x : Nat) : Nat := bits x 620 4
def arAddEast (x : Nat) : Bool := bit x 619
def arAdd (x : Nat) : Bool := bit x 618
def arSCode (x : Nat) : Nat := bits x 616 2
def arGCode (x : Nat) : Nat := bits x 614 2
def arTransB (x : Nat) : Bool := bit x 613
def arTransA (x : Nat) : Bool := bit x 612
def arFmtB (x : Nat) : Nat := bits x 610 2
def arFmtA (x : Nat) : Nat := bits x 608 2
def arScaleC (x : Nat) : Nat := bits x 592 16
def arScaleB (x : Nat) : Nat := bits x 576 16
def arScaleA (x : Nat) : Nat := bits x 560 16
def arK (x : Nat) : Nat := bits x 519 41
def arN (x : Nat) : Nat := bits x 507 12
def arM (x : Nat) : Nat := bits x 496 11
def arCStride (x : Nat) : Nat := bits x 464 32
def arBStride (x : Nat) : Nat := bits x 432 32
def arAStride (x : Nat) : Nat := bits x 400 32
def arCAddr (x : Nat) : Nat := bits x 352 48
def arBAddr (x : Nat) : Nat := bits x 304 48
def arAAddr (x : Nat) : Nat := bits x 256 48

/-! Fields of the vector body (04 R126). -/

def veColToken0 (x : Nat) : Nat := bits x 919 20
def veIndex0 (x : Nat) : Nat := bits x 879 40
def veTensor (x : Nat) : Nat := bits x 863 16
def veRowToken0 (x : Nat) : Nat := bits x 843 20
def veMaskMode (x : Nat) : Nat := bits x 840 3
def veSeqAddr (x : Nat) : Nat := bits x 792 48
def veImm1 (x : Nat) : Nat := bits x 760 32
def veImm0 (x : Nat) : Nat := bits x 728 32
def veFunc (x : Nat) : Nat := bits x 720 8
def veCols (x : Nat) : Nat := bits x 696 24
def veRows (x : Nat) : Nat := bits x 672 24
def veS2 (x : Nat) : Nat := bits x 568 104
def veS1 (x : Nat) : Nat := bits x 464 104
def veS0 (x : Nat) : Nat := bits x 360 104
def veD (x : Nat) : Nat := bits x 256 104

/-! Fields of the move body (04 R130). -/

def mvFillValue (x : Nat) : Nat := bits x 638 64
def mvSniffUnit (x : Nat) : Nat := bits x 635 3
def mvSniffEn (x : Nat) : Bool := bit x 634
def mvTc (x : Nat) : Nat := bits x 630 4
def mvShard (x : Nat) : Nat := bits x 598 32
def mvRemote (x : Nat) : Nat := bits x 584 14
def mvHostAddr (x : Nat) : Nat := bits x 520 64
def mvCols (x : Nat) : Nat := bits x 488 32
def mvRows (x : Nat) : Nat := bits x 464 24
def mvDst (x : Nat) : Nat := bits x 360 104
def mvSrc (x : Nat) : Nat := bits x 256 104

/-! Fields of the collective body (04 R132). -/

def coFprintAddr (x : Nat) : Nat := bits x 630 48
def coSniffUnit (x : Nat) : Nat := bits x 627 3
def coSniffEn (x : Nat) : Bool := bit x 626
def coRedop (x : Nat) : Nat := bits x 624 2
def coFprint (x : Nat) : Nat := bits x 622 2
def coTc (x : Nat) : Nat := bits x 618 4
def coSched (x : Nat) : Bool := bit x 617
def coRound (x : Nat) : Bool := bit x 616
def coIndex0 (x : Nat) : Nat := bits x 576 40
def coTensor (x : Nat) : Nat := bits x 560 16
def coXscale (x : Nat) : Nat := bits x 552 8
def coTree (x : Nat) : Nat := bits x 544 8
def coEpoch (x : Nat) : Nat := bits x 528 16
def coCollId (x : Nat) : Nat := bits x 512 16
def coCountsAddr (x : Nat) : Nat := bits x 464 48
def coRecv (x : Nat) : Nat := bits x 360 104
def coSend (x : Nat) : Nat := bits x 256 104

/-! Fields of the solver body (04 R134). -/

def ceNcols (x : Nat) : Nat := bits x 520 13
def ceStoreRoot (x : Nat) : Bool := bit x 519
def ceWarmEn (x : Nat) : Bool := bit x 518
def ceClampDamping (x : Nat) : Bool := bit x 517
def cePivotPolicy (x : Nat) : Bool := bit x 516
def ceTolExp (x : Nat) : Nat := bits x 510 6
def ceMaxIter (x : Nat) : Nat := bits x 502 8
def cePartHash (x : Nat) : Nat := bits x 470 32
def ceDampClass (x : Nat) : Nat := bits x 466 4
def ceDamp (x : Nat) : Nat := bits x 434 32
def ceRootRec (x : Nat) : Nat := bits x 418 16
def ceUnit (x : Nat) : Nat := bits x 415 3
def cePCode (x : Nat) : Nat := bits x 413 2
def ceDim (x : Nat) : Nat := bits x 400 13
def ceAuxAddr (x : Nat) : Nat := bits x 352 48
def ceOutAddr (x : Nat) : Nat := bits x 304 48
def ceInAddr (x : Nat) : Nat := bits x 256 48

/-! Fields of the sweep body (04 R135). -/

def swClipNorm (x : Nat) : Nat := bits x 536 32
def swNormLimit (x : Nat) : Nat := bits x 504 32
def swNewVersion (x : Nat) : Nat := bits x 488 16
def swVring (x : Nat) : Nat := bits x 476 12
def swOptKind (x : Nat) : Nat := bits x 472 4
def swShardCount (x : Nat) : Nat := bits x 448 24
def swFprintAddr (x : Nat) : Nat := bits x 400 48
def swNormAddr (x : Nat) : Nat := bits x 352 48
def swHyperAddr (x : Nat) : Nat := bits x 304 48
def swShardTable (x : Nat) : Nat := bits x 256 48

/-! Fields of the synchronisation body (04 R137). -/

def syNextStep (x : Nat) : Nat := bits x 477 48
def syHostAddr (x : Nat) : Nat := bits x 413 64
def syHost (x : Nat) : Bool := bit x 412
def syAddr (x : Nat) : Nat := bits x 364 48
def syCvalue (x : Nat) : Nat := bits x 332 32
def syCid (x : Nat) : Nat := bits x 320 12
def syHtTarget (x : Nat) : Nat := bits x 256 64

/-! Fields of an operand slot (04, "Vector bodies"). -/

def slScale (x : Nat) : Nat := bits x 83 16
def slFmt (x : Nat) : Nat := bits x 80 3
def slStride (x : Nat) : Nat := bits x 48 32
def slAddr (x : Nat) : Nat := bits x 0 48

end Sys2Proof.Machine
end

