-- ==== Sys2Proof/Machine/Flags.lean ====
section
/-! DEFINITION. How a descriptor ends: completion codes (04 R143), status flags (04 R105), the event of its record (00 R12), and
the reading of poisoned data (09 R274). -/

namespace Sys2Proof.Machine

/-! ## Completion codes (04 R143) -/

def ccOk : Nat := 0x00
def ccInvalidOpcode : Nat := 0x10
def ccInvalidField : Nat := 0x11
def ccAddressRange : Nat := 0x12
def ccProtected : Nat := 0x13
def ccSealed : Nat := 0x14
def ccOperandRefused : Nat := 0x15
def ccPedigree : Nat := 0x16
def ccTileConflict : Nat := 0x17
def ccSeqTable : Nat := 0x18
def ccAborted : Nat := 0x20
def ccAbandoned : Nat := 0x21
def ccPoisoned : Nat := 0x30
def ccEvicted : Nat := 0x31
def ccCollIntegrity : Nat := 0x32
def ccFetchMismatch : Nat := 0x33
def ccNonfinite : Nat := 0x40
def ccRange : Nat := 0x41
def ccPivotAbort : Nat := 0x42
def ccNotConverged : Nat := 0x43

/-! ## Status flags (04 R105), by bit -/

def sfBoundLost : Nat := 0
def sfSaturated : Nat := 1
def sfCurrent : Nat := 2
def sfClamped : Nat := 3
def sfRange : Nat := 4
def sfWarmRejected : Nat := 5
def sfWarmDivergent : Nat := 6
def sfPivot : Nat := 7
def sfDamping : Nat := 8
def sfSkipped : Nat := 9
def sfStale : Nat := 10
def sfDetoured : Nat := 11
def sfRefetched : Nat := 12
def sfLate : Nat := 13

/-- Set a status flag. -/
def orBit (v i : Nat) : Nat := v ||| 2 ^ i

/-- The event that the record carries after a further event: the higher class, the first of equal classes (00 R12). -/
def pickEvent (old new : Nat) : Nat :=
  if old = 0 then new else if eventClass old < eventClass new then new else old

/-! ## A descriptor as it executes -/

/-- The device and the outcome so far of a descriptor that executes. -/
structure Job where
  d : Dev
  done : Done
deriving DecidableEq, Repr

/-- No code, flag, event or result yet. -/
def Done.init : Done := ⟨0, 0, 0, 0⟩

/-- Begin. -/
def Job.start (d : Dev) : Job := ⟨d, Done.init⟩

/-- Change the device. -/
def Job.dev (j : Job) (f : Dev → Dev) : Job := { j with d := f j.d }

/-- Set a status flag. -/
def Job.flag (j : Job) (b : Nat) : Job := { j with done := { j.done with status := orBit j.done.status b } }

/-- Set a status flag if a condition holds. -/
def Job.flagIf (j : Job) (c : Bool) (b : Nat) : Job := if c then j.flag b else j

/-- The record carries an event unless a better one is there (00 R12). -/
def Job.noteEvent (j : Job) (code : Nat) : Job := { j with done := { j.done with event := pickEvent j.done.event code } }

/-- End with a code; the first code stands. -/
def Job.fail (j : Job) (code : Nat) : Job :=
  if j.done.code = 0 then { j with done := { j.done with code := code } } else j

/-- The class-specific result (04 R106). -/
def Job.result (j : Job) (r : Nat) : Job := { j with done := { j.done with result := r } }

/-- Raise an event for the operation, of classes 0 to 2. -/
def Job.raise (j : Job) (code arg0 arg1 : Nat) : Job := (j.dev (fun d => d.raise code arg0 arg1)).noteEvent code

/-- Raise a step-fatal event for the operation of step `s`. -/
def Job.raiseStep (j : Job) (code arg0 arg1 s : Nat) : Job :=
  (j.dev (fun d => d.raiseStep code arg0 arg1 s)).noteEvent code

/-! ## Steps and abandonment -/

/-- The class nibble. -/
def opClass (op : Nat) : Nat := op / 16

/-- The step of a descriptor (04 R110). -/
def stepFrom (counter tag : Nat) : Nat :=
  let b := min (counter - 32768) (2 ^ 48 - 65536)
  b + (tag + 65536 - b % 65536) % 65536
def Dev.stepOf (d : Dev) (x : Nat) : Nat := stepFrom d.step (hdStepTag x)

/-- How an entry stands: its outcome, or `STEP_ABANDONED` for an unstarted sweep descriptor of a fatal step (04 R136). -/
def Dev.outcome (d : Dev) (e : Entry) : Option Done :=
  match e.done with
  | some x => some x
  | none =>
    if opClass (hdOpcode e.desc) == 6 && !e.started && d.disp.fatalSteps.contains (d.stepOf e.desc)
    then some { Done.init with code := ccAbandoned } else none

/-- Leaving RUN ends the marks of fatal steps (04 R136, 12 R378, R389; when a mark ends is open: DESIGN CHOICE, log entry 28): the unstarted sweep descriptors of such a step end first, and
the step's skip decision goes with it. -/
def Dev.endFatalSteps (d : Dev) : Dev :=
  { d with
    disp := { d.disp with
      fatalSteps := []
      board := d.disp.board.map (fun e => { e with done := d.outcome e }) }
    cmp := { d.cmp with
      skips := d.cmp.skips.filter (fun k => !d.disp.fatalSteps.contains k.step) } }

/-! ## Poison (09 R274) -/

/-- The record of poisoned data being consumed, its event, and the code. -/
def Job.poisoned (j : Job) (s memdev addr : Nat) : Job :=
  let er := errRecord j.d.ht 2 memdev addr
  ((j.dev (fun d => d.errLog er)).raiseStep 0x3703 (bits er 0 64) (bits er 64 64) s).fail ccPoisoned

/-- Poisoned data at a device address. -/
def Job.poisonedAt (j : Job) (s addr : Nat) : Job := j.poisoned s (j.d.memdev addr) (addr / 64 * 64)

/-- A check that fails with `code`, read through data whose poisoned byte, if any, is at `bad`: `POISONED` then (09 R274). -/
def Job.failRead (j : Job) (s code : Nat) (bad : Option Nat) : Job :=
  match bad with
  | some a => j.poisonedAt s a
  | none => j.fail code

/-- Poisoned data that came from host memory (14 R424). -/
def Job.poisonedHost (j : Job) (s addr : Nat) : Job := j.poisoned s 38 (bits addr 0 48)

/-- An extent of device memory: address and bytes. -/
abbrev Ext := Nat × Nat

/-- The first address of poisoned data that the extents hold. -/
def Dev.firstPoison (d : Dev) : List Ext → Option Nat
  | [] => none
  | (a, n) :: t =>
    match (unitsOf a n).find? d.mem.poisoned with
    | some u => some u
    | none => Dev.firstPoison d t

/-- The extent of `n` rows of `len` bytes at a stride. -/
def hull (a n stride len : Nat) : Ext := if n = 0 ∨ len = 0 then (a, 0) else (a, (n - 1) * stride + len)

/-- The rows themselves. -/
def rowsOf (a n stride len : Nat) : List Ext := (below n).map (fun i => (a + i * stride, len))

/-- Whether the extents together cover the 64-byte unit at `u`. -/
def coversUnit (l : List Ext) (u : Nat) : Bool :=
  (below 64).all (fun i => l.any (fun e => decide (e.1 ≤ u + i) && decide (u + i < e.1 + e.2)))

/-- The marks that a write of the extents clears: those of the units it covers whole (09 R276). -/
def Dev.clearCovered (d : Dev) (l : List Ext) : Dev :=
  (l.flatMap (fun e => unitsOf e.1 e.2)).foldl (fun d u =>
    if d.mem.poisoned u && coversUnit l u then { d with mem := d.mem.mark u false } else d) d

/-- Whether two extents share a byte. -/
def overlaps (a n b m : Nat) : Bool := decide (0 < n) && decide (0 < m) && decide (a < b + m) && decide (b < a + n)

/-- Every byte of an extent lies in one region of the list; an extent of no byte touches nothing (04 R118, 09 R261). -/
def Dev.extentIn (d : Dev) (l : List Region) (e : Ext) : Bool :=
  e.2 == 0 || (match d.extent e.1 e.2 with
    | some r => l.contains r
    | none => false)

/-- The regions that array, vector, collective, solver, sweep and synchronisation descriptors reach (09 R260, R261). -/
def coreRegions : List Region := [.near, .tile]

/-! ## The device tables of the tile store, at their bases -/

def Dev.scaleBase (d : Dev) : Nat := d.get 0x5050 1
def Dev.spillBase (d : Dev) : Nat := d.get 0x5060 1
def Dev.vringBase (d : Dev) : Nat := d.get 0x5090 1
def Dev.noiseBase (d : Dev) : Nat := d.get 0x6100 2
def Dev.readyBase (d : Dev) : Nat := d.get 0x50A0 1

/-- Scale records, spill region, ring table, noise region, state-ready map (02 R41, 03 R79, 05 R151, 06 R181, 08 R243). -/
def Dev.tables (d : Dev) : List Ext :=
  [(d.scaleBase, 0x200000), (d.spillBase, 0x10000000), (d.vringBase, 0x40000), (d.noiseBase, 0x20000), (d.readyBase, 0x20000)]

/-- Whether an extent overlaps a device table. -/
def Dev.hitsTable (d : Dev) (e : Ext) : Bool := d.tables.any (fun t => overlaps e.1 e.2 t.1 t.2)

/-- Pedigree mode (02 R58). -/
def Dev.pedigree (d : Dev) : Bool := d.get 0x5020 1 == 1

/-- The accumulator window may be used by moves: visibility 1, or debug access unlocked (03 R75, R81). -/
def Dev.accOpen (d : Dev) : Bool := d.get 0x5010 1 == 1 || d.sec.unlocked

end Sys2Proof.Machine
end

