-- ==== Sys2Proof/Machine/Segments.lean ====
section
/-! DEFINITION. The segments that the collectives engine originates: cutting into chunks, numbers, sending (11 R353, R355, R366). -/

namespace Sys2Proof.Machine

/-- Bytes with their poison marks. -/
abbrev Marked := List (Byte × Bool)

/-- The marked bytes of `n` addresses from `a`. -/
def Dev.markedAt (d : Dev) (a n : Nat) : Marked := (upFrom a n).map (fun x => (d.mem.byte x, d.mem.poisoned x))

/-- Write marked bytes: a unit covered whole loses its mark, a unit that holds a marked byte takes it (09 R275, R276). -/
def Dev.wrMarked (d : Dev) (a : Nat) (l : Marked) : Dev :=
  let d := d.wr a (l.map (fun q => q.1)) false
  (l.zipIdx).foldl (fun d q => if q.1.2 then { d with mem := d.mem.mark (a + q.2) true } else d) d

/-- The most data bytes of a chunk (11 R353). -/
def chunkMax : Nat := 15072

/-- The poison mark of each flit of a chunk. -/
def flitMarks (l : Marked) : List Bool :=
  ((l.take 204) :: chunksOf 236 64 (l.drop 204)).map (fun p => p.any (fun q => q.2))

/-- Segment numbers of a step (11 R366). -/
def segmentLimit : Nat := 2 ^ 24

/-- The chunks of a segment numbered `n`, kept under keys from `key` on: its data, then the fingerprint record of the part. -/
def SegReq.keep (r : SegReq) (n key : Nat) : List Kept :=
  let parts := chunksOf chunkMax r.data.length r.data
  let data := (parts.zipIdx).map (fun q =>
    let bytes := q.1.map (fun b => b.1)
    let h : ChunkHead := ⟨chunkMax * q.2, r.tensor, r.stage, bytes.length, flitCount bytes.length, q.2, n, r.collId, 0⟩
    (⟨key + q.2, r.dest, r.tc, r.sched, h.value bytes, bytes, flitMarks q.1, r.epoch, 0⟩ : Kept))
  match r.record with
  | some v =>
    let bytes := toBytes 32 v
    let h : ChunkHead := ⟨0, r.tensor, r.stage, 32, 1, parts.length, n, r.collId, 1⟩
    data ++ [⟨key + parts.length, r.dest, r.tc, r.sched, h.value bytes, bytes, [false], r.epoch, 0⟩]
  | none => data

/-! ## The staging store (11 R355, R356) -/

/-- The bytes in the staging store: the chunks sent and not yet acknowledged (DESIGN CHOICE, log entry 167). -/
def Engine.staged (e : Engine) : Nat :=
  e.segments.foldl (fun n g => (g.chunks.take g.sent).foldl (fun n k => n + k.data.length) n) 0

/-- The chunks not sent yet. -/
def Engine.unsent (e : Engine) : Nat := e.segments.foldl (fun n g => n + (g.chunks.length - g.sent)) 0

/-- The next new chunk with its segment, in the order in which the segments started; none while the store has no room for it. -/
def Engine.nextChunk (e : Engine) : Option (Segment × Kept) :=
  match e.segments.find? (fun g => decide (g.sent < g.chunks.length)) with
  | none => none
  | some g =>
    match g.chunks[g.sent]? with
    | some k => if e.staged + k.data.length ≤ e.staging then some (g, k) else none
    | none => none

/-- A segment is replaced. -/
def Dev.setSegment (d : Dev) (old new : Segment) : Dev :=
  { d with eng := { d.eng with segments := d.eng.segments.map (fun x => if x = old then new else x) } }

/-- A segment's next chunk is sent: the wait for its SEG_ACK counts from here, with the `COLL_ACK_TIMEOUT` of this moment (15 R460). -/
def Dev.feedOne (d : Dev) (g : Segment) (k : Kept) : Dev :=
  (d.setSegment g { g with sent := g.sent + 1, lastSend := d.now, wait := d.get 0x3500 1 }).sendKept k k.tc k.sched false

/-- Up to `n` new chunks leave. -/
def Dev.feed (d : Dev) : Nat → Dev
  | 0 => d
  | n + 1 =>
    match d.eng.nextChunk with
    | some (g, k) => (d.feedOne g k).feed n
    | none => d

/-- Every new chunk that the staging store has room for leaves (11 R356). -/
def Dev.feedAll (d : Dev) : Dev := d.feed d.eng.unsent

/-- The segments that a test picks are forgotten, and their space is free. -/
def Dev.forget (d : Dev) (f : Segment → Bool) : Dev :=
  if d.eng.segments.any f then
    ({ d with eng := { d.eng with segments := d.eng.segments.filter (fun g => !f g) } } : Dev).feedAll
  else d

/-- Kept chunks form a segment and leave (11 R355). -/
def Dev.launch (d : Dev) (owner : Option Nat) (dest number : Nat) (l : List Kept) : Dev :=
  ({ d with eng := { d.eng with
    segments := d.eng.segments ++ [⟨owner, dest, number, l, 0, d.now, d.get 0x3500 1, d.get 0x3500 2, 0⟩]
    nextKey := d.eng.nextKey + l.length } } : Dev).feedAll

/-- An event of the engine belongs to the record of the descriptor it serves (00 R12). -/
def Dev.noteEvent (d : Dev) (owner : Option Nat) (code : Nat) : Dev :=
  { d with eng := { d.eng with flights := d.eng.flights.map (fun c =>
      if owner = some c.id then { c with event := pickEvent c.event code } else c) } }

/-- A segment takes a number; with the last number of the step the device reports that it starts no more (11 R366). -/
def Dev.takeNumber (d : Dev) (r : SegReq) : Dev :=
  let n := d.eng.nextSegment + 1
  if n = segmentLimit then
    (({ d with eng := { d.eng with nextSegment := n, exhausted := true } } : Dev).raise 0x2906 r.collId 0).noteEvent r.owner 0x2906
  else { d with eng := { d.eng with nextSegment := n } }

/-- A segment starts, or waits for the next step's numbers (11 R366). -/
def Dev.startSegment (d : Dev) (r : SegReq) : Dev :=
  if d.eng.exhausted || decide (segmentLimit ≤ d.eng.nextSegment) then
    { d with eng := { d.eng with backlog := d.eng.backlog ++ [r] } }
  else (d.takeNumber r).launch r.owner r.dest d.eng.nextSegment (r.keep d.eng.nextSegment d.eng.nextKey)

/-- A step boundary starts the count again: what was accepted of collectives no longer in flight, and the parts kept for a repeat,
are forgotten; the segments that waited start (11 R354, R366). -/
def Dev.renumber (d : Dev) : Dev :=
  let live (id : Nat) : Bool := d.eng.flights.any (fun c => bits c.desc 512 16 == id)
  let wait := d.eng.backlog
  let d : Dev := { d with eng := { d.eng with
    nextSegment := 0
    exhausted := false
    backlog := []
    past := []
    accepted := d.eng.accepted.filter (fun k => live k.2.1)
    ackedSegs := d.eng.ackedSegs.filter (fun k => live k.2.1) } }
  wait.foldl (fun d r => d.startSegment r) d

/-- A chunk is sent again, as best-effort traffic of its class; 0x1907 at most once per second (11 R355). -/
def Dev.resendChunk (d : Dev) (owner : Option Nat) (k : Kept) : Dev :=
  (d.sendKept k k.tc false false).oncePerSecond 0x1907 (fun d => (d.raise 0x1907 (chCollId k.header) 0).noteEvent owner 0x1907)

/-! ## What a collective is still to send (11 R343, R359-R362) -/

/-- Its ranks, and its opcode. -/
def Coll.q (c : Coll) : Nat := c.tree.length
def Coll.op (c : Coll) : Nat := hdOpcode c.desc

/-- The neighbour that a half travels to, and the one it comes from. -/
def Coll.next (c : Coll) (h : Nat) : Nat := (c.rank + (if h = 0 then 1 else c.q - 1)) % c.q
def Coll.prev (c : Coll) (h : Nat) : Nat := (c.rank + (if h = 0 then c.q - 1 else 1)) % c.q

/-- The ranks above this one that its block of `l` levels delivers a result to (11 R361). -/
def Coll.below' (c : Coll) (l : Nat) : List Nat := ((below l).map (fun i => c.rank + 2 ^ i)).filter (fun r => decide (r < c.q))

/-- The ranks to which a collective sends on once an expected segment has come. -/
def Coll.sendsOn (c : Coll) (n : Need) : List Nat :=
  match c.op with
  | 0x40 => if n.part = c.rank then [] else [c.next n.half]
  | 0x41 => if n.half = 2 ∨ n.part = c.next n.half then [] else [c.next n.half]
  | 0x42 => if c.rank + 1 < c.q then [c.rank + 1] else []
  | 0x44 =>
    if n.half = 1 then c.below' n.part
    else ((below 15).map (fun l => c.rank - 2 ^ l)).filter (fun r => decide (r < c.rank)) ++ c.below' 15
  | _ => []

/-- Whether DATA flits for a device leave by port `p` (11 R349). -/
def Dev.leavesBy (d : Dev) (p a : Nat) : Bool := bit (d.route a) 15 && bits (d.route a) 0 3 == p

/-- Whether a collective in flight is still to produce flits for port `p`: chunks that have not left, segments that wait for a number, or
ones that it sends on when an expected segment has come. -/
def Dev.produces (d : Dev) (p : Nat) (c : Coll) : Bool :=
  d.eng.segments.any (fun g => g.owner == some c.id && decide (g.sent < g.chunks.length) && d.leavesBy p g.dest)
    || d.eng.backlog.any (fun r => r.owner == some c.id && d.leavesBy p r.dest)
    || c.need.any (fun n => (c.sendsOn n).any (fun r => d.leavesBy p ((c.tree[r]?).getD 0)))

end Sys2Proof.Machine
end

