-- ==== Sys2Proof/Machine/Link.lean ====
section
/-! DEFINITION. The Gykai ports (10): training, discovery, sequencing and replay, retraining, loss and hand-over, `PORT_CTRL`. -/

namespace Sys2Proof.Machine

/-! ## Counters and configuration -/

/-- A 32-bit port counter; saturation sets its bit of `PORT_ERR_OVF` (10 R326). -/
def Dev.portCount (d : Dev) (p sub n : Nat) : Dev :=
  let d := d.addSat (0x3020 + p) sub 32 n
  if d.get (0x3020 + p) sub == 0xFFFFFFFF then d.put 0x3015 1 (d.get 0x3015 1 ||| 2 ^ (8 * p + (sub - 3))) else d

def Dev.portCfg (d : Dev) (p : Nat) : Nat := d.get 0x3010 (p + 1)
/-- `REACH` of a port as of its last training (10 R324). -/
def Dev.reach (d : Dev) (p : Nat) : Nat := (d.port p).reach

/-- A port begins to train, with the `REACH` and `TX_PRESET` that `PORT_CFG` holds (10 R297, R324). -/
def Dev.train (d : Dev) (p : Nat) : Dev :=
  (d.setPort p { d.port p with reach := bits (d.portCfg p) 1 2, preset := bits (d.portCfg p) 4 4 }).setLink p .train
def Dev.portExpect (d : Dev) (p : Nat) : Nat := d.get 0x3110 (p + 1)

/-! ## Discovery records (10 R312) -/

/-- The discovery record of a port, with its round-2 verdict. -/
def Dev.discoveryValue (d : Dev) (p : Nat) (verdict : Bool) : Nat :=
  Config.serial.toNat <<< 192 + bits d.sec.incarnation 0 32 <<< 160 + bits d.sec.runVersion 0 32 <<< 128
    + 0x0D01 <<< 80 + 0xA1 <<< 72 + 3 <<< 64 + bits d.straps 0 16 <<< 40 + d.self <<< 26 + p <<< 23 + d.reach p <<< 21
    + b2n (bit (d.portExpect p) 63) <<< 20 + b2n verdict <<< 19

/-- Send a discovery record. -/
def Dev.sendDiscovery (d : Dev) (p : Nat) (verdict : Bool) : Dev := d.control p 5 (toBytes 64 (d.discoveryValue p verdict))

/-- The first check of 10 R315 that fails, 0 when none does (checks 1 to 9). -/
def Dev.discoveryCheck (d : Dev) (p r : Nat) : Nat :=
  let e := d.portExpect p
  let serial := d.get 0x3111 (p + 1)
  let fw := d.get 0x3100 3
  if !bit e 63 then 1
  else if d.get 0x3100 2 != d.straps then 2
  else if bits r 64 8 != 3 then 3
  else if bits r 40 16 != bits e 30 16 then 4
  else if bits r 23 3 != bits e 60 3 then 5
  else if bits r 26 14 != bits e 46 14 then 6
  else if serial != 0 && bits r 192 64 != serial then 7
  else if fw != 0 && bits r 128 32 != fw then 8
  else if bits r 21 2 != d.reach p then 9
  else 0

/-! ## Replay (10 R307-R310) -/

/-- Send flits of the replay buffer again, with the present `ACK`. -/
def Dev.resend (d : Dev) (p : Nat) (l : List (Flit × Nat)) : Dev :=
  let x := d.port p
  l.foldl (fun d e => (d.emit (.flit p (linkedFlit e.1 x e.1.lseq))).addWrap (0x3020 + p) 1 1) d

/-- A port enters RETRAIN (10 R319). -/
def Dev.enterRetrain (d : Dev) (p : Nat) : Dev :=
  let x := d.port p
  let d := d.setPort p { x with retraining := some d.now, wasActive := x.state == .active, replaysInRow := 0, uncorr := [] }
  (d.setLink p .retrain).portCount p 5 1

/-- How far a sequence number lies past the oldest unacknowledged flit (10 R307). -/
def Port.ahead (x : Port) (a : Nat) : Nat := (a + 4096 - x.txBase) % 4096

/-- Whether the 4 μs timer of unacknowledged flits has expired (10 R310). -/
def Dev.ackLate (d : Dev) (p : Nat) : Bool :=
  let x := d.port p
  decide (0 < x.txBuf.length) && decide (x.lastAck + 4000 ≤ d.now)

/-- A replay from sequence number `a` inside the window, or from the oldest flit once the timer has expired too, which then starts anew
(10 R310). Eight in a row without progress retrain the port. Outside READY and RUN no DATA flit leaves, so the replay waits (10 R298). -/
def Dev.replay (d : Dev) (p a : Nat) : Dev :=
  let x := d.port p
  let late := d.ackLate p
  let i := if late then 0 else x.ahead a
  if !d.dataOn then
    d.setPort p { x with replayFrom := some ((x.txBase + (match x.replayFrom with
      | some b => min i (x.ahead b)
      | none => i)) % 4096) }
  else
    let d := d.setPort p { x with replaysInRow := x.replaysInRow + 1, lastAck := if late then d.now else x.lastAck, replayFrom := none }
    let d := (d.resend p (x.txBuf.drop i)).portCount p 4 1
    let d := d.oncePerSecond (0x1804 * 64 + p) (fun d => d.raise 0x1804 p 0)
    if 8 ≤ x.replaysInRow + 1 then d.enterRetrain p else d

/-- The replays that waited for READY take place, before any new DATA flit leaves (10 R298, R310). -/
def Dev.resumeReplays (d : Dev) : Dev :=
  (below 6).foldl (fun d p =>
    match (d.port p).replayFrom with
    | some a => if d.dataOn && (d.port p).state == .active && !(d.port p).txBuf.isEmpty then d.replay p a else d
    | none => d) d

/-- Take the `ACK` that a received flit carries (10 R308). -/
def Dev.takeAck (d : Dev) (p : Nat) (ack : Option Nat) : Dev :=
  let x := d.port p
  match ack with
  | none => d
  | some a =>
    let k := x.ahead (a + 1)
    if 0 < k ∧ k ≤ x.txBuf.length then
      d.setPort p { x with txBuf := x.txBuf.drop k, txBase := (x.txBase + k) % 4096, lastAck := d.now, replaysInRow := 0 }
    else d

/-- The `ACK` of a flit, where it is meaningful. -/
def ackIn (f : Flit) : Option Nat := if f.ackValid then some f.ack else none

/-- Whether the receiver takes a flit as failed (10 R302). -/
def flitFails (f : Flit) : Bool :=
  f.header != withCrc (bits f.h 0 96) f.payload || decide (6 ≤ f.ftype) || (f.ftype == 1 && (f.len == 0 || decide (240 < f.len)))
    || f.fecBad

/-- A DATA flit is out of order or failed: a NAK goes out unless one is pending (10 R309). -/
def Dev.nak (d : Dev) (p : Nat) : Dev :=
  let x := d.port p
  if x.nakAt.isSome then d else (d.setPort p { x with nakAt := some d.now }).linkCtrl p (some x.rxNext) (fun _ => 0)

/-- Whether a port takes flits of every type, and whether it receives flits at all: in DISCOVER it counts the failed ones (10 R302). -/
def Dev.listens (d : Dev) (p : Nat) : Bool :=
  let st := (d.port p).state
  st == .active || st == .quarantine
def Dev.hears (d : Dev) (p : Nat) : Bool := d.listens p || (d.port p).state == .discover

/-- The counts of a received flit; `true` when it is good and the port takes it (10 R302). -/
def Dev.receiveAny (d : Dev) (p : Nat) (f : Flit) : Dev × Bool :=
  let d := d.addWrap (0x3020 + p) 2 1
  if flitFails f then (d.portCount p 3 1, false)
  else if d.listens p then (d.takeAck p (ackIn f), true)
  else (d, false)

/-- The link layer's part of receiving a DATA flit: sequencing and the NAK; `true` when the flit is delivered (10 R309, R317). What a
quarantined port discards leaves its buffer at once (10 R306). -/
def Dev.receiveData (d : Dev) (p : Nat) (f : Flit) : Dev × Bool :=
  match d.receiveAny p f with
  | (d, false) => (if f.ftype = 1 ∧ d.listens p then d.nak p else d, false)
  | (d, true) =>
    let x := d.port p
    if f.lseq = x.rxNext then
      let d := d.setPort p { x with rxNext := (x.rxNext + 1) % 4096, nakAt := none }
      if x.state == .quarantine && !(f.tc == 0 && f.dest == d.self) then
        (let d := d.portCount p 8 1
         if f.sched then d else d.giveCredit p f.tc, false)
      else (d, true)
    else (d.nak p, false)

/-! ## Entering ACTIVE, QUARANTINE and DOWN -/

/-- Sequencing and credits as at the end of DISCOVER (10 R306, R307). -/
def Dev.freshLink (d : Dev) (p : Nat) : Dev :=
  let x := d.port p
  let d := d.setPort p { x with rxNext := 0, nakAt := none, credits := [], replaysInRow := 0, lastAck := d.now, owed := [], replayFrom := none }
  (d.endStreams p).handOver p

/-- The end of DISCOVER: the port's liveness interval starts, and it is no longer retraining. -/
def Dev.endDiscover (d : Dev) (p : Nat) (st : LinkState) (reason : Nat) : Dev :=
  let x := d.port p
  let d := d.setPort p { x with retraining := none, quarReason := reason }
  let d := d.setPax p { d.pax p with lastBark := d.now }
  d.setLink p st

/-- The address of a port's neighbour as its last record gave it, for a Howl's `SUBJECT` (12, "Howl"). -/
def Dev.lostHowl (d : Dev) (p event : Nat) : Dev :=
  let x := d.port p
  d.howl 1 p x.nbLogical x.known event d.step

/-- A port enters QUARANTINE for a reason (10 R317, R318). -/
def Dev.quarantine (d : Dev) (p reason : Nat) : Dev :=
  let x := d.port p
  let d := d.endDiscover p .quarantine reason
  let d := d.raise 0x2803 p reason
  let d := if x.retraining.isSome && x.back == 2 then d.raise 0x2807 p 0 else d
  let d := if x.wasActive && x.retraining.isNone then d.lostHowl p 0x2803 else d
  d.freshLink p

/-- A port enters ACTIVE from DISCOVER (10 R313, R316, R319). -/
def Dev.activate (d : Dev) (p : Nat) : Dev :=
  let x := d.port p
  let minor := min x.nbMinor 0
  let d := d.setPort p { x with commonMinor := minor }
  let d := if x.nbMinor = 0 then d else d.raise 0x0802 p minor
  if x.retraining.isSome && x.back == 1 then
    let d := (d.endDiscover p .active 0).raise 0x1805 p 0
    let d := (d.setPort p { d.port p with lastAck := d.now, replaysInRow := 0 }).payCredits p
    (if (d.port p).txBuf.isEmpty then d else d.replay p (d.port p).txBase).pumpAll
  else
    let d := (d.freshLink p).endDiscover p .active 0
    let d := if x.retraining.isSome && x.back == 2 then d.raise 0x2807 p 0 else d
    (d.raise 0x0801 p 0).pumpAll

/-- A port goes DOWN: 0x2806, the Howl, the hand-over (10 R320). -/
def Dev.goDown (d : Dev) (p : Nat) : Dev :=
  let d := d.setLink p .down
  let d := (d.raise 0x2806 p 0).lostHowl p 0x2806
  let d := d.freshLink p
  d.setPort p { d.port p with retraining := none }

/-! ## `PORT_CTRL` (10 R322) -/

/-- REDISCOVER: the exchange starts again without retraining (10 R318). -/
def Dev.rediscover (d : Dev) (p : Nat) : Dev :=
  let x := d.port p
  let d := d.setPort p { x with wasActive := x.state == .active, round1 := false, verdict := 0, discSent := none }
  d.setLink p .discover

/-- DETECT to RETRAIN. -/
def LinkState.between : LinkState → Bool
  | .disabled => false
  | .down => false
  | _ => true

/-- A write of `PORT_CTRL`: the highest-ranked command that applies; none when no command applies. -/
def Dev.portCtrl (d : Dev) (p v : Nat) : Option Dev :=
  let st := (d.port p).state
  if bit v 3 && st.between then some (d.goDown p)
  else if bit v 2 && st == .down then some (d.setLink p .detect)
  else if bit v 1 && (st == .active || st == .quarantine) then some (d.enterRetrain p)
  else if bit v 0 && (st == .active || st == .quarantine) then some (d.rediscover p)
  else none

/-- Entry to HOLD or READY from STANDBY starts training on every enabled port, unless a device-fatal event has parked the ports (00 R10; 10 R298). -/
def Dev.startPorts (d : Dev) : Dev :=
  if d.disp.fatal then d
  else (below 6).foldl (fun d p => if bit (d.portCfg p) 0 && (d.port p).state == .disabled then d.setLink p .detect else d) d

/-! ## The commands of the chapter -/

/-- LANE_SIGNAL_DETECTED (10 R297). -/
def execLaneSignalDetected (p : Fin 6) (s : State) : Host.Outcome State Fault Refusal :=
  run s (fun _ d => if (d.port p).state = .detect then d.train p else d)

/-- TRAINING_COMPLETE (10 R297): also the return of RETRAIN through ALIGN. -/
def execTrainingComplete (p : Fin 6) (s : State) : Host.Outcome State Fault Refusal :=
  run s (fun _ d =>
    let st := (d.port p).state
    if st = .train ∨ st = .retrain then d.setLink p .align else d)

/-- ALIGN_COMPLETE (10 R295): the lanes stand in order or fully reversed. -/
def execAlignComplete (p : Fin 6) (reversed : Bool) (s : State) : Host.Outcome State Fault Refusal :=
  run s (fun _ d =>
    let x := d.port p
    if x.state = .align then
      let d := d.setPort p { x with reversed := reversed, round1 := false, verdict := 0, discSent := none
                                    wasActive := x.wasActive && x.retraining.isSome }
      d.setLink p .discover
    else d)

/-- The limit of a training state in nanoseconds (10 R297). -/
def trainLimit (st : LinkState) (reach : Nat) : Option Nat :=
  match st with
  | .train => some (if reach = 3 then 50000000 else 500000000)
  | .align => some 100000
  | .discover => some 100000
  | _ => none

/-- TRAIN_TIMEOUT (10 R297). -/
def execTrainTimeout (p : Fin 6) (s : State) : Host.Outcome State Fault Refusal :=
  run s (fun _ d =>
    let x := d.port p
    match trainLimit x.state (d.reach p) with
    | some t => if x.since + t ≤ d.now then (d.setLink p .detect).portCount p 6 1 else d
    | none => d)

/-- DISCOVERY_SEND (10 R313): round 1, once per microsecond until the neighbour's record is in. -/
def execDiscoverySend (p : Fin 6) (s : State) : Host.Outcome State Fault Refusal :=
  run s (fun _ d =>
    let x := d.port p
    let due : Bool := match x.discSent with
      | some t => decide (t + 1000 ≤ d.now)
      | none => true
    if x.state = .discover ∧ !x.round1 ∧ due then
      (d.setPort p { x with discSent := some d.now }).sendDiscovery p false
    else d)

/-- The neighbour's round-1 record is in: its fields, the checks, and the verdict of round 2 (10 R312-R315). -/
def Dev.round1 (d : Dev) (p r : Nat) : Dev :=
  let x := d.port p
  let back := if x.round1 then x.back else if !x.known then 0 else if bits r 192 64 != x.nbSerial then 3 else if bits r 160 32 != x.nbIncarnation then 2 else 1
  let reason := d.discoveryCheck p r
  let x := { x with nbLoc := bits r 40 16, nbPort := bits r 23 3, nbSerial := bits r 192 64
                    nbIncarnation := bits r 160 32, nbMinor := bits r 56 8, nbLogical := bits r 26 14, known := true
                    back := back, round1 := true, verdict := reason }
  let d := d.setPort p x
  let d := (d.put 0x3013 (p + 1) (bits r 192 64)).put 0x3014 (p + 1) (bits r 128 32)
  d.sendDiscovery p (decide (reason ≠ 0))

/-- DISCOVERY_RECEIVED (10 R313-R319). In ACTIVE and QUARANTINE the port takes the flit's `ACK`, answers a record with its own and keeps its
state. -/
def execDiscoveryReceived (p : Fin 6) (round2 : Bool) (record : Carried 512) (s : State) :
    Host.Outcome State Fault Refusal :=
  run s (fun _ d =>
    let r := record.value.toNat
    let x := d.port p
    let d := d.addWrap (0x3020 + p) 2 1
    if x.state = .discover then
      if !round2 then d.round1 p r
      else if !x.round1 then d
      else if x.verdict ≠ 0 then d.quarantine p x.verdict
      else if bit r 19 then d.quarantine p 10
      else d.activate p
    else if x.state = .active ∨ x.state = .quarantine then
      let d := (d.takeAck p (record.ack.map BitVec.toNat)).pumpAll
      (if round2 then d else (d.sendDiscovery p false).sendDiscovery p (decide (d.discoveryCheck p r ≠ 0)))
    else s.dev)

/-- Whether a port's lanes are locked to the FEC (10 R297). -/
def LinkState.locked : LinkState → Bool
  | .align => true
  | .discover => true
  | .active => true
  | .quarantine => true
  | _ => false

/-- What the FEC decoder of a lane finds: the counts, and the uncorrectable codewords of the last 1 ms (10 R319, R323). -/
def Dev.fecReport (d : Dev) (p lane bad fixed : Nat) : Dev :=
  let d := (d.portCount p 7 bad).addWrap (0x3020 + p) 9 fixed
  let x := d.port p
  d.setPort p { x with uncorr := (lane, d.now, bad) :: x.uncorr.filter (fun u => decide (d.now < u.2.1 + 1000000)) }

/-- The uncorrectable codewords of a lane within the last 1 ms. -/
def Port.uncorrOf (x : Port) (lane : Nat) : Nat := (x.uncorr.filter (fun u => u.1 == lane)).foldl (fun n u => n + u.2.2) 0

/-- LINK_FAULT_DETECTED (10 R319, R323). -/
def execLinkFaultDetected (p : Fin 6) (cause : LinkFault) (s : State) : Host.Outcome State Fault Refusal :=
  run s (fun _ d =>
    match cause with
    | .lossOfSignal => if d.listens p then d.enterRetrain p else d
    | .fec lane bad fixed =>
      if !(d.port p).state.locked then d
      else
        let d := d.fecReport p lane bad fixed
        if d.listens p && decide (bits (d.portCfg p) 8 8 < (d.port p).uncorrOf lane) then d.enterRetrain p else d)

/-- RETRAIN_TIMEOUT (10 R320). -/
def execRetrainTimeout (p : Fin 6) (s : State) : Host.Outcome State Fault Refusal :=
  run s (fun _ d =>
    match (d.port p).retraining with
    | some t => if t + 2000000 ≤ d.now then d.goDown p else d
    | none => d)

/-- LINK_CTRL_RECEIVED (10 R300, R306, R308, R310). -/
def execLinkCtrlReceived (p : Fin 6) (f : Flit) (s : State) : Host.Outcome State Fault Refusal :=
  run s (fun _ d =>
    if !d.hears p then d
    else
      match d.receiveAny p f with
      | (d, false) => d
      | (d, true) =>
        if f.ftype != 2 then d
        else
          let x := d.port p
          let cr := (below 16).foldl (fun m c =>
            sset (fun _ => 256) m c (min 256 (sget (fun _ => 256) m c + ((f.payload[2 + c]?).getD 0#8).toNat))) x.credits
          let d := d.setPort p { x with credits := cr }
          let w := ofBytes (f.payload.take 2)
          let d := if bit w 15 && decide (x.ahead (bits w 0 12) < x.txBuf.length) then d.replay p (bits w 0 12) else d
          d.pumpAll)

/-- NAK_RESEND_TIMEOUT (10 R309). -/
def execNakResendTimeout (p : Fin 6) (s : State) : Host.Outcome State Fault Refusal :=
  run s (fun _ d =>
    let x := d.port p
    match x.nakAt with
    | some t =>
      if d.listens p && decide (t + 2000 ≤ d.now) then
        (d.setPort p { x with nakAt := some d.now }).linkCtrl p (some x.rxNext) (fun _ => 0)
      else d
    | none => d)

/-- REPLAY_TIMEOUT (10 R310). -/
def execReplayTimeout (p : Fin 6) (s : State) : Host.Outcome State Fault Refusal :=
  run s (fun _ d =>
    if d.listens p && d.dataOn && d.ackLate p then d.replay p (d.port p).txBase else d)

end Sys2Proof.Machine
end

