-- ==== Sys2Proof/Machine/Time.lean ====
section
/-! DEFINITION. Hall time (11 R328-R337, 20 R577-R579): time marks, offsets, the states of the time base, the TREF inputs, PTP. -/

namespace Sys2Proof.Machine

def Dev.timeRole (d : Dev) : Nat := d.get 0x3210 1
def Dev.timeState (d : Dev) : Nat := d.get 0x3200 3
def Dev.setTimeState (d : Dev) (n : Nat) : Dev := d.put 0x3200 3 n

/-- Enter HOLDOVER with its event: HT runs on at the last learnt rate (11 R333). -/
def Dev.holdover (d : Dev) : Dev :=
  if d.timeState = 3 then d
  else
    let d := (d.setTimeState 3).raise 0x2903 0 0
    { d with tb := { d.tb with offsets := [], good := 0, bad := 0, slew := 0 } }

/-- The bound of every rate, 50 ppm, in units of 2^-32 ns each nanosecond (11 R333). -/
def rateBound : Int := 214748

/-- A value within the bound of a rate. -/
def clampRate (x : Int) : Int := max (-rateBound) (min rateBound x)

/-- The time base learns the rate of its reference: a free value, within 50 ppm (11 R333, R336). -/
def Dev.learnRate (d : Dev) : Dev :=
  { d with draws := d.draws + 1, tb := { d.tb with rate := clampRate (Config.learntRate d.draws) } }

/-- After a step of HT the periods of marks and Barks not reached yet are due again (11 R330, 12 R371). -/
def Dev.stepBack (d : Dev) : Dev :=
  (below 6).foldl (fun d p =>
    let x := d.pax p
    d.setPax p { x with markPeriod := min x.markPeriod (d.ht / 1024), barkPeriod := min x.barkPeriod (d.ht / 10000) }) d

/-- Enter ACQUIRE. -/
def Dev.acquire (d : Dev) : Dev :=
  let d := d.setTimeState 1
  { d with tb := { d.tb with offsets := [], good := 0, bad := 0 } }

/-- The mean of eight offsets lies within 200 ps; offsets are doubled and in 2^-16 ps. -/
def meanWithin (l : List Int) : Bool :=
  decide (l.length = 8) && decide (l.foldl (· + ·) 0 ≤ 8 * 2 * 200 * 65536) && decide (-(8 * 2 * 200 * 65536) ≤ l.foldl (· + ·) 0)

/-- `theta2` (twice the offset, in 2^-16 ps) as picoseconds, ties to even. -/
def thetaPs (theta2 : Int) : Int :=
  rneInt (decide (theta2 < 0)) theta2.natAbs (-17)
where
  rneInt (neg : Bool) (m : Nat) (e : Int) : Int :=
    let k := (-e).toNat
    let q := m / 2 ^ k
    let r := m % 2 ^ k
    let n := if 2 * r > 2 ^ k ∨ (2 * r = 2 ^ k ∧ q % 2 = 1) then q + 1 else q
    if neg then -(n : Int) else n

/-- An offset of the active parent or reference corrects HT: by a step in ACQUIRE when it is above 1 μs and no slot bank is active,
by rate otherwise; and it moves the state of the time base (11 R333). While the time base runs from FIO it stays in HOLDOVER
(17 R519). -/
def Dev.takeTheta (d : Dev) (theta2 : Int) : Dev :=
  if (d.domain 0xA).source = 1 then d else
  let d := d.putInt 0x3200 5 32 (max (-2147483648) (min 2147483647 (thetaPs theta2)))
  let d := ({ d with tb := { d.tb with lastRef := d.now } } : Dev).learnRate
  let d := if d.timeState = 0 ∨ d.timeState = 3 then d.acquire else d
  let unit : Int := theta2 / 2000
  let big := decide (2000000 * 65536 < theta2.natAbs)
  if d.timeState = 1 ∧ big ∧ d.slots.active.isNone then
    let d := d.addSat 0x3220 2 32 1
    ({ d with tb := { d.tb with htf := ((d.tb.htf : Int) + unit).toNat, slew := 0, offsets := [], good := 0, bad := 0 } } : Dev).stepBack
  else
    let offs := (theta2 :: d.tb.offsets).take 8
    let good := if meanWithin offs then d.tb.good + 1 else 0
    let bad := if d.timeState = 2 ∧ 2 * 500 * 65536 < theta2.natAbs then d.tb.bad + 1 else 0
    let d := { d with tb := { d.tb with slew := theta2 * 65536 / 2000, offsets := offs, good := good, bad := bad } }
    if d.timeState = 1 ∧ 64 ≤ good then (d.setTimeState 2).raise 0x0902 0 0
    else if d.timeState = 2 ∧ 8 ≤ bad then d.acquire
    else d

/-! ## Time marks -/

/-- A mark's value (11 R330). -/
def Dev.markValue (d : Dev) (p : Nat) : Nat :=
  let x := d.pax p
  let e := x.echo.getD (0, 0, 0)
  let root := d.timeRole ≠ 0
  bits (d.tb.htf / 65536) 0 64 <<< 320 + bits d.tb.htf 0 16 <<< 304
    + bits (e.1 / 65536) 0 64 <<< 240 + bits e.1 0 16 <<< 224 + bits (e.2.1 / 65536) 0 64 <<< 160 + bits e.2.1 0 16 <<< 144
    + bits x.markSeq 0 16 <<< 128 + bits e.2.2 0 16 <<< 112 + bits d.timeState 0 4 <<< 108
    + bits (if root then 0 else d.get 0x3200 4) 0 4 <<< 104
    + b2n (if root then d.timeState == 3 else d.tb.rootHoldover) <<< 103
    + bits (if root then d.self else d.tb.rootAddr) 0 14 <<< 89

/-- TIME_MARK_SEND (11 R330): due at each multiple of 1,024 ns of HT. -/
def execTimeMarkSend (p : Fin 6) (s : State) : Host.Outcome State Fault Refusal :=
  run s (fun _ d =>
    let x := d.pax p
    if d.listens p && d.tb.running && decide (x.markPeriod < d.ht / 1024) then
      let v := d.markValue p
      let d := d.setPax p { x with markPeriod := d.ht / 1024, markSeq := (x.markSeq + 1) % 65536
                                   marksSent := ((x.markSeq, d.now) :: x.marksSent).take 8 }
      d.control p 3 (toBytes 48 v)
    else d)

/-- Whether a port qualifies as a parent: ACTIVE, and its marks carry LOCKED or HOLDOVER (11 R331). -/
def Dev.qualifies (d : Dev) (q : Nat) : Bool :=
  decide (q < 6) && (d.port q).state == .active && ((d.pax q).nbTState == 2 || (d.pax q).nbTState == 3)

/-- The active parent after a mark (11 R331): it changes only when the present one stops qualifying, and back to `TIME_PARENT`
after it has qualified for 64 marks in a row. -/
def Dev.activeParent (d : Dev) : Nat :=
  let cur := d.get 0x3200 6
  let a := d.get 0x3210 2
  let b := d.get 0x3210 3
  if cur == a && decide (a < 6) then (if d.qualifies a then a else if d.qualifies b then b else 7)
  else if cur == b && decide (b < 6) then (if 64 ≤ d.tb.parentRun ∧ d.qualifies a then a else if d.qualifies b then b else 7)
  else if d.qualifies a then a else if d.qualifies b then b else 7

/-- The depth under a parent, with the event at the onset of a depth beyond the limit (11 R332, R334). -/
def Dev.takeDepth (d : Dev) (p depth : Nat) : Dev :=
  let deep := decide (d.get 0x3210 4 < depth)
  let was := d.tb.tooDeep
  let d := d.put 0x3200 4 depth
  let d := { d with tb := { d.tb with tooDeep := deep } }
  if deep && !was then d.raise 0x2905 p 0 else d

/-- Twice the offset of a mark in 2^-16 ps (11 R332). -/
def Dev.markTheta (d : Dev) (p m t4 : Nat) : Int :=
  let t1 : Int := bits m 224 80
  let t2 : Int := bits m 144 80
  let t3 : Int := bits m 304 80
  ((t2 - t1) - ((t4 : Int) - t3)) * 1000 - d.getInt 0x3211 (p + 1) 16 * 65536

/-- The marks in a row with which `TIME_PARENT` has qualified, after a mark on port `p` (11 R331). -/
def Dev.countRun (d : Dev) (p : Nat) : Nat :=
  if p != d.get 0x3210 2 then d.tb.parentRun else if d.qualifies p then d.tb.parentRun + 1 else 0

/-- What a port keeps of a mark: its echo, the neighbour's state, the count of 11 R331. -/
def Dev.noteMark (d : Dev) (p m t4 : Nat) : Dev :=
  let d := d.setPax p { d.pax p with echo := some (bits m 304 80, t4, bits m 128 16), nbTState := bits m 108 4 }
  { d with tb := { d.tb with parentRun := d.countRun p } }

/-- A follower takes a mark: the active parent, and a correction from its marks that answer one of the last 8 μs (11 R331-R334). -/
def Dev.follow (d : Dev) (p m t4 : Nat) : Dev :=
  let par := d.activeParent
  let d := d.put 0x3200 6 par
  let fresh := (d.pax p).marksSent.any (fun e => e.1 == bits m 112 16 && decide (d.now ≤ e.2 + 8000))
  if par != p || (d.port p).state != .active || !fresh then d
  else
    let d := ({ d with tb := { d.tb with rootAddr := bits m 89 14, rootHoldover := bit m 103 } } : Dev).takeDepth p (bits m 104 4 + 1)
    d.takeTheta (d.markTheta p m t4)

/-- TIME_MARK_RECEIVED (11 R330-R334): a good flit, whose `ACK` counts as any (10 R308). `arrivalFrac` is the fraction of the arrival
HT. -/
def execTimeMarkReceived (p : Fin 6) (mark : Carried 384) (arrivalFrac : BitVec 16) (s : State) :
    Host.Outcome State Fault Refusal :=
  run s (fun _ d =>
    if !d.listens p then d
    else
      let m := mark.value.toNat
      let d := ((d.addWrap (0x3020 + p) 2 1).takeAck p (mark.ack.map BitVec.toNat)).pumpAll
      let t4 := d.tb.htf / 65536 * 65536 + arrivalFrac.toNat
      let d := d.noteMark p m t4
      if d.timeRole = 0 then d.follow p m t4 else d)

/-- TIME_HOLDOVER (11 R331, R333): a follower without a qualifying parent for 8 μs. -/
def execTimeHoldover (s : State) : Host.Outcome State Fault Refusal :=
  run s (fun _ d =>
    if d.timeRole = 0 ∧ (d.timeState = 1 ∨ d.timeState = 2) ∧ d.tb.lastRef + 8000 ≤ d.now
    then (d.put 0x3200 6 d.activeParent).holdover else d)

/-! ## The TREF inputs -/

/-- A glitch of TREF_PPS (20 R579). -/
def Dev.trefGlitch (d : Dev) : Dev :=
  let d := d.addSat 0x3220 1 32 1
  d.oncePerSecond (0x0103 * 64) (fun d => d.raise 0x0103 (d.get 0x3220 1) 0)

/-- A PPS edge is accepted as a whole second (11 R336, 20 R579). -/
def Dev.acceptPps (d : Dev) : Dev :=
  let sec := if d.tb.secondsWritten then d.get 0x3210 5 else (d.ht + 500000000) / 1000000000
  let d := { d with tb := { d.tb with lastPps := some d.now, pairStart := none } }
  let d := if d.tb.secondsWritten then d.put 0x3210 5 (sec + 1) else d
  let target : Int := (sec * 1000000000 * 65536 : Nat)
  let theta2 := 2 * ((target - (d.tb.htf : Int)) * 1000 + d.getInt 0x3210 7 32 * 65536)
  d.takeTheta theta2

/-- Whether two instants are 1 s apart within 100 μs (20 R579). -/
def oneSecond (t now : Nat) : Bool := decide (t + 999900000 ≤ now) && decide (now ≤ t + 1000100000)

/-- TREF_PPS_EDGE (20 R579). A pulse shorter than 100 ns is no edge that counts. -/
def execTrefPpsEdge (highNs : Nat) (s : State) : Host.Outcome State Fault Refusal :=
  run s (fun _ d =>
    if d.timeRole ≠ 1 then d
    else if highNs < 100 then d.trefGlitch
    else
      match d.tb.lastPps with
      | some t => if oneSecond t d.now then d.acceptPps else d.trefGlitch
      | none =>
        match d.tb.pairStart with
        | some t =>
          if oneSecond t d.now then d.acceptPps
          else { d.trefGlitch with tb := { d.trefGlitch.tb with pairStart := some d.now } }
        | none => { d with tb := { d.tb with pairStart := some d.now } })

/-- TREF_PPS_LOSS (20 R579). -/
def execTrefPpsLoss (s : State) : Host.Outcome State Fault Refusal :=
  run s (fun _ d =>
    match d.tb.lastPps with
    | some t =>
      if d.timeRole = 1 ∧ t + 1500000000 ≤ d.now then
        let d := { d with tb := { d.tb with lastPps := none, pairStart := none } }
        d.holdover
      else d
    | none => d)

/-- TREF_10M_LOSS (20 R577). -/
def execTref10mLoss (s : State) : Host.Outcome State Fault Refusal :=
  run s (fun _ d =>
    if d.timeRole = 1 ∧ d.tb.tref10m then
      let d := { d with tb := { d.tb with tref10m := false } }
      d.holdover
    else d)

/-- TREF_10M_RESTORED (20 R577, 11 R336): the time base of a TREF root locks in frequency to the input. -/
def execTref10mRestored (s : State) : Host.Outcome State Fault Refusal :=
  run s (fun _ d =>
    if d.timeRole = 1 then ({ d with tb := { d.tb with tref10m := true } } : Dev).learnRate else d)

/-! ## PTP (11 R337) -/

/-- The delay request that follows a master's departure stamp. -/
def Dev.ptpRequest (d : Dev) (t1 t2 : Int) : Dev :=
  { d with tb := { d.tb with ptpSync := some (t1, t2), ptpReq := some (d.ht : Int) } }.emit .ptpDelayReq

/-- PTP_MESSAGE_RECEIVED (11 R337): a slave-only clock with the delay request-response mechanism; one-step and two-step. -/
def execPtpMessageReceived (msg : PtpMsg) (s : State) : Host.Outcome State Fault Refusal :=
  run s (fun _ d =>
    if d.timeRole ≠ 2 then d
    else
      match msg with
      | .sync dom two t1 =>
        if dom ≠ d.get 0x3210 6 then d
        else if two then { d with tb := { d.tb with ptpSync := some (0, (d.ht : Int)), ptpReq := none } }
        else d.ptpRequest t1 (d.ht : Int)
      | .followUp dom t1 =>
        if dom ≠ d.get 0x3210 6 then d
        else match d.tb.ptpSync with
          | some (_, t2) => d.ptpRequest t1 t2
          | none => d
      | .delayResp dom _ t4 =>
        if dom ≠ d.get 0x3210 6 then d
        else match d.tb.ptpSync, d.tb.ptpReq with
          | some (t1, t2), some t3 =>
            let theta2 := ((t4 - t3) - (t2 - t1)) * 1000 * 65536
            let d := { d with tb := { d.tb with ptpSync := none, ptpReq := none } }
            d.takeTheta theta2
          | _, _ => d)

/-! ## The passage of time -/

/-- The correction made in one nanosecond beside the learnt rate: as much of what is left as keeps the whole within 50 ppm. -/
def slewStep (rate slew : Int) : Int := max (-rateBound - rate) (min (rateBound - rate) slew)

/-- HT after one nanosecond of the device's clock: the learnt rate and the correction (11 R333). -/
def TimeBase.tick (t : TimeBase) : TimeBase :=
  if t.running then
    let k := slewStep t.rate t.slew
    let n := ((t.part : Int) + t.rate + k)
    { t with htf := ((t.htf : Int) + 65536 + n / 65536).toNat, part := (n % 65536).toNat, slew := t.slew - k }
  else t

end Sys2Proof.Machine
end

