-- ==== Sys2Proof/Machine/Slots.lean ====
section
/-! DEFINITION. Slot tables (11 R338-R347): the swap of topology banks, and what SEND and FORWARD slots carry. -/

namespace Sys2Proof.Machine

def Dev.swapState (d : Dev) : Nat := d.get 0x3300 3

/-! ## Arming -/

/-- A write of `SWAP_CMD` with 1 (ARM): from IDLE or REFUSED the load starts, unless check 1 or 2 of 11 R341 fails; the refusal leaves
the state IDLE (11 R340). The result is the state and whether the write is accepted. -/
def Dev.arm (d : Dev) : Dev × Bool :=
  if d.swapState = 1 ∨ d.swapState = 2 then (d, false)
  else if d.get 0x3300 1 < d.ht + 100000 then ((d.put 0x3300 3 0).put 0x3300 4 1, false)
  else if d.timeState = 0 then ((d.put 0x3300 3 0).put 0x3300 4 2, false)
  else ((d.put 0x3300 3 1).put 0x3300 4 0, true)

/-- A write of `SWAP_CMD` with 2 (DISARM): back to IDLE (11 R340). -/
def Dev.disarm (d : Dev) : Dev :=
  { d.put 0x3300 3 0 with slots := { d.slots with shadow := none } }

/-! ## Loading (11 R341) -/

/-- An image of `n` bytes at `a` is usable: 64-byte aligned, in the near stacks or the tile store, unpoisoned. -/
def Dev.imageOk (d : Dev) (a n : Nat) : Bool :=
  a % 64 == 0 && (d.extent a n == some .near || d.extent a n == some .tile) && !d.mem.anyPoison a n

def Dev.slotImageAt (d : Dev) (p : Nat) : Nat := d.get 0x3310 (p + 1)
/-- `CYCLE_SLOTS` of a port's image. -/
def Dev.cycleOf (d : Dev) (p : Nat) : Nat := bits (d.num (d.slotImageAt p) 4) 0 17
/-- The entries of a port's image. -/
def Dev.slotEntry (d : Dev) (p i : Nat) : Nat := d.num (d.slotImageAt p + 64 + 4 * i) 4

/-- A header of the tree image, and its rank list (11 R357). -/
def Dev.treeHead (d : Dev) (base t : Nat) : Nat := d.num (base + 64 * t) 4
def Dev.treeRanks (d : Dev) (base t : Nat) : List Nat :=
  (below (bits (d.treeHead base t) 0 15)).map (fun i => bits (d.num (base + 0x4000 + 0x8000 * t + 2 * i) 2) 0 14)

/-- Check 3: every image is usable. -/
def Dev.check3 (d : Dev) : Bool :=
  (below 6).all (fun p => d.imageOk (d.slotImageAt p) (64 + 4 * (if 65536 < d.cycleOf p then 0 else d.cycleOf p)))
    && d.imageOk (d.get 0x3310 7) 0x8800 && d.imageOk (d.get 0x3310 8) (0x4000 + 0x8000 * 256)

/-- Check 5 on one entry of port `p`. -/
def entryOk (p e : Nat) : Bool :=
  decide (slotFlits e ≤ 64)
    && !(slotKind e == 2 && (decide (6 ≤ slotInPort e) || slotInPort e == p))
    && !((slotKind e == 1 || slotKind e == 2) && slotFlits e == 0)

/-- Scheduled flits of an entry. -/
def schedFlits (e : Nat) : Nat := if slotKind e = 1 ∨ slotKind e = 2 then slotFlits e else 0

/-- Check 6: no run of 50 consecutive slots, taken cyclically, holds more than 3,198 scheduled flits. -/
def Dev.check6 (d : Dev) (p : Nat) : Bool :=
  let c := d.cycleOf p
  (below c).all (fun i => decide (((below 50).foldl (fun n j => n + schedFlits (d.slotEntry p ((i + j) % c))) 0) ≤ 3198))

/-- Check 7: no valid route entry, other than the device's own, names port code 6 or 7 (11 R348). -/
def Dev.check7 (d : Dev) : Bool :=
  let base := d.get 0x3310 7
  (below 16384).all (fun a =>
    let e := d.num (base + 2 * a) 2
    a == d.self || !bit e 15 || decide (bits e 0 3 < 6))

/-- No member of a list stands in it twice. -/
def noRepeat : List Nat → Bool
  | [] => true
  | a :: t => !t.contains a && noRepeat t

/-- Check 8: every used tree has a known `ALG`, at most 16,384 ranks, each listed once (11 R357). -/
def Dev.check8 (d : Dev) : Bool :=
  let base := d.get 0x3310 8
  (below 256).all (fun t =>
    let h := d.treeHead base t
    bits h 0 15 == 0 || (decide (bits h 0 15 ≤ 16384) && decide (bits h 16 2 < 2) && noRepeat (d.treeRanks base t)))

/-- The first failing code of checks 3 to 8, 0 for none. -/
def Dev.loadCheck (d : Dev) : Nat :=
  if !d.check3 then 3
  else if !(below 6).all (fun p => decide (0 < d.cycleOf p) && decide (d.cycleOf p ≤ 65536)) then 4
  else if !(below 6).all (fun p => (below (d.cycleOf p)).all (fun i => entryOk p (d.slotEntry p i))) then 5
  else if !(below 6).all d.check6 then 6
  else if !d.check7 then 7
  else if !d.check8 then 8
  else 0

/-- A sparse table of `n` numbers read by `f`. -/
def tableOf (n : Nat) (f : Nat → Nat) : SMap Nat :=
  (below n).filterMap (fun i => if f i = 0 then none else some (i, f i))

/-- The bank that loading copies (11 R340). -/
def Dev.loadBank (d : Dev) : Bank :=
  let base := d.get 0x3310 7
  { slots := (below 6).map (fun p => ⟨d.cycleOf p, tableOf (d.cycleOf p) (d.slotEntry p)⟩)
    routes := tableOf 16384 (fun a => d.num (base + 2 * a) 2)
    slice := (below 16384).filterMap (fun a => if bit (d.num (base + 0x8000 + a / 8) 1) (a % 8) then some (a, true) else none)
    tree := d.get 0x3310 8
    start := d.get 0x3300 1 }

/-- `SWAP_HT` came while the bank was loading: no swap takes place, every slot counts as FREE, the routes stay (11 R342). -/
def Dev.missSwap (d : Dev) : Dev :=
  (({ d.put 0x3300 3 0 with slots := { d.slots with allFree := true } } : Dev).raise 0x2904 0 0).pumpAll

/-- SWAP_LOAD_COMPLETE (11 R340-R342). -/
def execSwapLoadComplete (ecc : List EccHit) (s : State) : Host.Outcome State Fault Refusal :=
  run s (fun _ d =>
    if d.swapState ≠ 1 then d
    else if d.get 0x3300 1 ≤ d.ht then d.missSwap
    else
      let d := d.eccRead [] ecc
      let c := d.loadCheck
      if c = 0 then { d.put 0x3300 3 2 with slots := { d.slots with shadow := some d.loadBank } }
      else (d.put 0x3300 3 3).put 0x3300 4 c)

/-- A routing decision uses the entries in force: a waiting flit that they do not route is dropped (11 R342, R349). -/
def Dev.dropUnrouted (d : Dev) : Dev :=
  let bad (w : Waiting) : Bool := decide (w.queue < 2 ^ 30) && (!d.inSlice w.flit.dest || !bit (d.route w.flit.dest) 15)
  let d' : Dev := { d with waiting := d.waiting.filter (fun w => !bad w) }
  (d.waiting.filter bad).foldl (fun d w => (d.addSat 0x3410 1 32 1).returnCredit w) d'

/-- The shadow bank becomes active (11 R342). -/
def Dev.swapNow (d : Dev) : Dev :=
  let bank := if d.get 0x3300 5 = 0 then 1 else 0
  let d := { d with slots := { active := d.slots.shadow, shadow := none, allFree := false, nextSlot := [], midway := d.slots.midway } }
  let d := ((d.put 0x3300 3 0).put 0x3300 5 bank).addSat 0x3300 6 32 1
  ((d.note 4 (bits (d.get 0x3300 6) 0 16) (d.get 0x3300 1)).dropUnrouted).pumpAll

/-- SLOT_SWAP (11 R342): at `SWAP_HT` the shadow bank becomes active, or the swap is missed while it still loads. -/
def execSlotSwap (s : State) : Host.Outcome State Fault Refusal :=
  run s (fun _ d =>
    if d.ht < d.get 0x3300 1 then d
    else if d.swapState = 2 then d.swapNow
    else if d.swapState = 1 then d.missSwap
    else d)

/-! ## Slots -/

/-- The next slot of a port: its number and entry, once its instant has come (11 R338). -/
def Dev.dueSlot (d : Dev) (p : Nat) : Option (Nat × Nat) :=
  match d.slots.active with
  | some b =>
    let i := sget (fun _ => 0) d.slots.nextSlot p
    if b.start * 100 + i * 2048 ≤ d.ht * 100 then some (i, b.entry p i) else none
  | none => none

/-- The instant of slot `i` in whole nanoseconds (11 R338). -/
def Dev.slotInstant (d : Dev) (i : Nat) : Nat :=
  match d.slots.active with
  | some b => b.start + i * 2048 / 100
  | none => 0

/-- The slot is over. -/
def Dev.nextSlotOf (d : Dev) (p i : Nat) : Dev :=
  { d with slots := { d.slots with nextSlot := sset (fun _ => 0) d.slots.nextSlot p (i + 1) } }

/-- A slipped slot: counted, and reported at most once per second (11 R347). -/
def Dev.slip (d : Dev) (p : Nat) : Dev :=
  let d := d.addWrap 0x3320 (p + 1) 1
  d.oncePerSecond (0x0901 * 64 + p) (fun d => d.raise 0x0901 p 0)

/-- The slack of a slot that was not a slip (11 R347). -/
def Dev.slack (d : Dev) (p : Nat) (v : Int) : Dev :=
  d.putInt 0x3321 (p + 1) 32 (max (-2147483648) (min (d.getInt 0x3321 (p + 1) 32) v))

/-- The waiting flits of a slot's stream for port `p`: this device's own for SEND, those from the input port for FORWARD. -/
def Dev.streamFlits (d : Dev) (p e : Nat) : List Waiting :=
  d.waiting.filter (fun w => w.flit.sched && flitColl w.flit == slotColl e
    && (if slotKind e = 1 then decide (w.queue < 2 ^ 20) else decide (2 ^ 20 ≤ w.queue) && decide (w.queue < 2 ^ 30)
          && (w.queue - 2 ^ 20) / 16 == slotInPort e)
    && (match d.exitOf w with
        | some (q, f) => q == p && f.sched
        | none => false))

/-- Whether the core still owes the stream of a slot flits that are not queued yet: for SEND, a collective in flight of the slot is to
produce some for the port; for FORWARD, a message of the stream has begun and not ended (11 R343, R344; 01 R20). -/
def Dev.expects (d : Dev) (p e : Nat) : Bool :=
  if slotKind e = 1 then
    d.eng.flights.any (fun c => coCollId c.desc == slotColl e && coSched c.desc && d.produces p c)
  else sget (fun _ => false) d.slots.midway (streamKey (slotInPort e) p (slotColl e))

/-- Scheduled flits leave in a slot: as many as the window lets out; the rest follow as soon as they can, and the slot counts as displaced
(10 R307, R311). -/
def Dev.sendSlot (d : Dev) (p : Nat) (l : List Waiting) : Dev :=
  let n := 4095 - (d.port p).txBuf.length
  let late := l.drop n
  let d := if n = 0 ∨ !late.isEmpty then d.addWrap (0x3020 + p) 0xB 1 else d
  let d : Dev := { d with waiting := d.waiting.map (fun w => if late.contains w then { w with displaced := true } else w) }
  (l.take n).foldl (fun d w => { d with waiting := d.waiting.erase w }.transmit p w.flit w.chunk) d

/-- A slot on an ACTIVE port: up to `FLITS` ready flits, then best-effort traffic; a slip on a shortfall (11 R343, R344). `lead` is
how long before the instant a flit must be queued. -/
def Dev.runSlot (d : Dev) (p i e lead : Nat) : Dev :=
  let t := d.slotInstant i
  let all := d.streamFlits p e
  let ready := (all.filter (fun w => decide (w.at_ + lead ≤ t))).take (slotFlits e)
  let short := decide (ready.length < slotFlits e) && (decide (ready.length < all.length) || d.expects p e)
  let d := d.sendSlot p ready
  let d :=
    if short then d.slip p
    else match ready.getLast? with
      | some w => if slotKind e = 1 then d.slack p ((t : Int) - (w.at_ + lead : Nat)) else d
      | none => d
  d.pumpAll

/-- A SEND or FORWARD slot falls due: one of a port that is not ACTIVE is dead (11 R346); outside READY and RUN no slot carries anything
(10 R298, 01 R23). -/
def Dev.dueStream (d : Dev) (p i e lead : Nat) : Dev :=
  if (d.port p).state ≠ .active then d.addWrap 0x3323 (p + 1) 1
  else if d.dataOn then d.runSlot p i e lead
  else d

/-- SLOT_START (11 R343, R346): the next slot of the port, when it is not a FORWARD slot. -/
def execSlotStart (p : Fin 6) (s : State) : Host.Outcome State Fault Refusal :=
  run s (fun _ d =>
    match d.dueSlot p with
    | some (i, e) =>
      if slotKind e = 2 ∧ !d.slots.allFree then d
      else
        let d := d.nextSlotOf p i
        if slotKind e ≠ 1 ∨ d.slots.allFree then d.pumpAll else d.dueStream p i e 8
    | none => d)

/-- FORWARD_SLOT (11 R344, R346). -/
def execForwardSlot (p : Fin 6) (s : State) : Host.Outcome State Fault Refusal :=
  run s (fun _ d =>
    match d.dueSlot p with
    | some (i, e) =>
      if slotKind e ≠ 2 ∨ d.slots.allFree then d
      else
        (d.nextSlotOf p i).dueStream p i e 0
    | none => d)

/-- `SLACK_MIN` is copied and starts again at a step boundary (11 R347). -/
def Dev.boundarySlack (d : Dev) : Dev :=
  (below 6).foldl (fun d p => (d.put 0x3322 (p + 1) (d.get 0x3321 (p + 1))).put 0x3321 (p + 1) 0x7FFFFFFF) d

end Sys2Proof.Machine
end

