-- ==== Sys2Proof/Machine/Alarm.lean ====
section
/-! DEFINITION. Bark, Howl and the Trail's commands (12 R371-R379, R390-R393; 19 R566, R567), and the delivery of received DATA
flits up to reassembly (11 R349-R351, R354). -/

namespace Sys2Proof.Machine

/-! ## Bark (12 R371-R373) -/

/-- `CORE_OK`: a descriptor started or completed in the last 1 ms, or none is issued. -/
def Dev.coreOk (d : Dev) : Bool := d.disp.board.isEmpty || decide (d.now < d.disp.lastAction + 1000000)

/-- `SHEPHERD_OK`: Shepherd was serviced in the last 100 ms, as it is while its domain's clock runs (DESIGN CHOICE, log entry 83). -/
def Dev.shepherdOk (d : Dev) : Bool :=
  match (d.domain 0x0B).stoppedAt with
  | some t => decide (d.now ≤ t + 100000000)
  | none => true

/-- The value of a Bark. -/
def Dev.barkValue (d : Dev) (p : Nat) : Nat :=
  bits (d.pax p).barkSeq 0 32 <<< 224 + bits d.step 0 48 <<< 176 + d.self <<< 162 + bits (d.get 0x7300 3) 0 16 <<< 146
    + d.power.pstate.code <<< 143 + b2n d.coreOk <<< 142 + b2n d.shepherdOk <<< 141
    + b2n (d.disp.fatalSteps.contains d.step) <<< 140

/-- Whether the fabric is on: HOLD, READY or RUN. -/
def Dev.fabricOn (d : Dev) : Bool :=
  d.power.pstate == .hold || d.power.pstate == .ready || d.power.pstate == .run

/-- BARK_SEND (12 R371): due at each multiple of 10,000 ns of HT. -/
def execBarkSend (p : Fin 6) (s : State) : Host.Outcome State Fault Refusal :=
  run s (fun _ d =>
    let x := d.pax p
    if (d.port p).state == .active && d.fabricOn && d.tb.running && decide (x.barkPeriod < d.ht / 10000) then
      let v := d.barkValue p
      let d := d.setPax p { x with barkPeriod := d.ht / 10000, barkSeq := (x.barkSeq + 1) % 2 ^ 32 }
      d.control p 4 (toBytes 32 v)
    else d)

/-- A good Bark on an ACTIVE port (12 R372, R373). -/
def Dev.takeBark (d : Dev) (p b : Nat) : Dev :=
  let health := bits b 142 1 + 2 * bits b 141 1
  let d := d.put 0x7321 (p + 1) health
  let x := d.pax p
  let n := if health = 3 then 0 else x.unhealthy + 1
  let d := d.setPax p { x with lastBark := d.now, unhealthy := n }
  if n = 100 then d.raise 0x0A07 p 0 else d

/-- BARK_RECEIVED (12 R372, R373): a good flit, whose `ACK` counts as any (10 R308). -/
def execBarkReceived (p : Fin 6) (bark : Carried 256) (s : State) : Host.Outcome State Fault Refusal :=
  run s (fun _ d =>
    if !d.listens p then d
    else
      let d := ((d.addWrap (0x3020 + p) 2 1).takeAck p (bark.ack.map BitVec.toNat)).pumpAll
      if (d.port p).state == .active then d.takeBark p bark.value.toNat else d.portCount p 8 1)

/-- NEIGHBOUR_LOST (12 R372): 30 μs without a good Bark. -/
def execNeighbourLost (p : Fin 6) (s : State) : Host.Outcome State Fault Refusal :=
  run s (fun _ d =>
    if (d.port p).state = .active ∧ (d.pax p).lastBark + 30000 ≤ d.now then
      ((d.addSat 0x7320 (p + 1) 32 1).raise 0x2A01 p 0).enterRetrain p
    else d)

/-! ## Howl (12 R374, R375) -/

/-- `HOWL_LOG` takes a Howl at sub-index 01 (12 R395). -/
def Dev.howlLog (d : Dev) (v : Nat) : Dev :=
  let d := (below 15).foldl (fun d i => d.put 0x7310 (16 - i) (d.get 0x7310 (15 - i))) d
  d.put 0x7310 1 (v >>> 76 <<< 76)

/-- The effect of a Howl at a receiver (12 R374). -/
def Dev.howlEffect (d : Dev) (v : Nat) : Dev :=
  let kind := bits v 96 4
  let origin := bits v 114 14
  let step := bits v 144 48
  if kind = 3 ∧ d.step ≤ step then d.raiseStep 0x3A03 origin (kind + step * 16) step
  else d.raise 0x2A02 origin kind

/-- A received Howl: the checks of 12 R375, the record, the effect, the flood onwards. -/
def Dev.takeHowl (d : Dev) (p : Nat) (f : Flit) : Dev :=
  let v := ofBytes (f.payload.take 32)
  let origin := bits v 114 14
  let seq := bits v 128 16
  let kind := bits v 96 4
  let last := sget (fun _ => 0) d.howls origin
  if !d.inSlice origin then d.addSat 0x3410 1 32 1
  else if last != 0 && !serialNewer 16 seq (last - 1) then d
  else if f.hops = 0 then d
  else if kind = 0 ∨ 5 < kind then d
  else
    let d := { d with howls := sset (fun _ => 0) d.howls origin (seq + 1) }
    let d := ((d.addSat 0x7300 5 32 1).howlLog v).note 3 kind (origin * 65536 + seq)
    let d := (d.trigger 5).howlEffect v
    let g : Flit := ⟨BitVec.ofNat 128 (flitLow 1 0 0 false { headOf f with hops := f.hops - 1 }), f.payload, false⟩
    (below 6).foldl (fun d q => if q = p then d else d.howlOn g q) d

/-! ## Delivery of DATA flits -/

/-- Whether a port's fence drops a received DATA flit (11 R351). Class-0 flits between neighbours pass. -/
def Dev.fenceDrops (d : Dev) (p : Nat) (f : Flit) : Bool :=
  d.fenced p && !(f.tc == 0 && f.src == (d.port p).nbLogical && f.dest == d.self)
    && (!d.inSlice f.src || (!d.inSlice f.dest && f.dest != d.self))

/-- A stream's chunk is over before its last flit, or its `ECRC` fails: counted, and a CHUNK_NAK goes to its sender (11 R354). -/
def Dev.chunkFailed (d : Dev) (c : Chunk) : Dev :=
  (d.addSat 0x3510 3 32 1).sendControl c.src c.tc c.epoch (answerHeader c.header 3)

/-- The streams without the one of a key. -/
def dropStream (l : List Stream) (src collId : Nat) (detour : Bool) : List Stream :=
  l.filter (fun s => !(s.src == src && s.collId == collId && s.detour == detour))

/-- A chunk is complete: it goes to the inbox when its `ECRC` matches (11 R354). -/
def Dev.chunkDone (d : Dev) (c : Chunk) : Dev :=
  let data := c.data.take (chBytes c.header)
  if chEcrc c.header = ecrcOf (chLow c.header) data then
    if 6 < chKind c.header then d else { d with eng := { d.eng with inbox := d.eng.inbox ++ [{ c with data := data }] } }
  else d.chunkFailed c

/-- The stream goes on with a flit, or its chunk is complete (11 R354). -/
def Dev.continueStream (d : Dev) (s : Stream) : Dev :=
  if s.nextFidx = chFlits s.chunk.header then d.chunkDone s.chunk
  else { d with eng := { d.eng with streams := s :: d.eng.streams } }

/-- A flit that begins a chunk. -/
def Dev.beginStream (d : Dev) (f : Flit) : Dev :=
  let used := f.payload.take f.len
  let header := ofBytes ((used.drop 4).take 32)
  let c : Chunk := ⟨f.src, f.epoch, f.tc, header, used.drop 36, [f.poison], f.detour⟩
  d.continueStream { src := f.src, collId := flitColl f, detour := f.detour, nextFidx := 1, chunk := c, lastAt := d.now }

/-- A flit of collective or shadow traffic reaches reassembly (11 R354). -/
def Dev.reassemble (d : Dev) (f : Flit) : Dev :=
  let i := flitFidx f
  match d.eng.streams.find? (fun s => s.src == f.src && s.collId == flitColl f && s.detour == f.detour) with
  | some s =>
    let d := { d with eng := { d.eng with streams := dropStream d.eng.streams f.src (flitColl f) f.detour } }
    if i = s.nextFidx then
      let c := { s.chunk with data := s.chunk.data ++ (f.payload.take f.len).drop 4, poison := s.chunk.poison ++ [f.poison] }
      d.continueStream { s with nextFidx := i + 1, chunk := c, lastAt := d.now }
    else
      let d := d.chunkFailed s.chunk
      if i = 0 then d.beginStream f else d
  | none => if i = 0 then d.beginStream f else d

/-- A credit goes back for a best-effort flit that has left the receive buffer (10 R306). -/
def Dev.drained (d : Dev) (p : Nat) (f : Flit) : Dev :=
  if f.sched then d else d.giveCredit p f.tc

/-- A scheduled flit in transit begins, continues or ends a message of its stream (11 R344). -/
def Dev.noteMidway (d : Dev) (p q : Nat) (f : Flit) : Dev :=
  { d with slots := { d.slots with midway := sset (fun _ => false) d.slots.midway (streamKey p q (flitColl f)) (!f.last) } }

/-- A flit in transit: routed onwards, or dropped (11 R349, R350). -/
def Dev.transit (d : Dev) (p : Nat) (f : Flit) : Dev :=
  let e := d.route f.dest
  if !d.inSlice f.dest || !bit e 15 then (d.addSat 0x3410 1 32 1).drained p f
  else if f.hops = 0 then (d.addSat 0x3410 3 32 1).drained p f
  else
    let g : Flit := ⟨BitVec.ofNat 128 (flitLow 1 0 0 false { headOf f with hops := f.hops - 1 }), f.payload, false⟩
    let w : Waiting := ⟨2 ^ 20 + 16 * p + f.tc, d.ht, 0, g, false⟩
    let d : Dev := { d with waiting := d.waiting ++ [w] }
    (if f.sched then d.noteMidway p (bits e 0 3) f else d).pumpAll

/-- Classes whose flits carry chunks here: shadow traffic, detours and collectives; classes 4 and 5 carry Retriever requests, which
REMOTE_RETRIEVER_REQUEST takes. -/
def chunkClass (tc : Nat) : Bool := tc == 2 || tc == 3 || decide (7 ≤ tc)

/-- A delivered DATA flit: fence, class 1, Howl, this device, or transit (11 R349-R351). -/
def Dev.deliver (d : Dev) (p : Nat) (f : Flit) : Dev :=
  if d.fenceDrops p f then (d.addSat 0x3410 2 32 1).drained p f
  else if f.tc = 1 then (d.addSat 0x3410 1 32 1).drained p f
  else if f.tc = 6 then (d.takeHowl p f).drained p f
  else if f.dest = d.self then (if chunkClass f.tc then d.reassemble f else d).drained p f
  else d.transit p f

/-- DATA_FLIT_RECEIVED (10 R302, R309; 11 R349). -/
def execDataFlitReceived (p : Fin 6) (f : Flit) (s : State) : Host.Outcome State Fault Refusal :=
  run s (fun _ d =>
    if !d.hears p || (f.ftype != 1 && decide (f.ftype < 6)) then d
    else
      match d.receiveData p f with
      | (d, true) => (d.deliver p f).pumpAll
      | (d, false) => d.pumpAll)

/-- HOWL_RECEIVED (12 R375): a class-6 DATA flit. -/
def execHowlReceived (p : Fin 6) (f : Flit) (s : State) : Host.Outcome State Fault Refusal :=
  run s (fun _ d =>
    if !d.hears p || f.ftype != 1 || f.tc != 6 then d
    else
      match d.receiveData p f with
      | (d, true) => (d.deliver p f).pumpAll
      | (d, false) => d.pumpAll)

/-- CHUNK_STREAM_TIMEOUT (11 R354): a stream silent for 20 μs. -/
def execChunkStreamTimeout (source : BitVec 14) (collId : BitVec 16) (detour : Bool) (s : State) :
    Host.Outcome State Fault Refusal :=
  run s (fun _ d =>
    match d.eng.streams.find? (fun x => x.src == source.toNat && x.collId == collId.toNat && x.detour == detour) with
    | some x =>
      if x.lastAt + 20000 ≤ d.now then
        let d := { d with eng := { d.eng with streams := dropStream d.eng.streams source.toNat collId.toNat detour } }
        d.chunkFailed x.chunk
      else d
    | none => d)

/-! ## The Trail (12 R390-R393, 19 R566, R567) -/

/-- The dump of a slot, if it holds one. -/
def Dev.dumpAt (d : Dev) (n : Nat) : Option Dump := sget (fun _ => none) d.store.dumps n

/-- The lowest free dump slot. -/
def Dev.freeDump (d : Dev) : Option Nat := (below 4).find? (fun n => (d.dumpAt n).isNone)

/-- A number larger than that of every dump present. -/
def Dev.nextDump (d : Dev) : Nat :=
  (below 4).foldl (fun m n => match d.dumpAt n with
    | some x => max m (x.order + 1)
    | none => m) 0

/-- `TSEQ` of the newest entry. -/
def Dev.newestTseq (d : Dev) : Nat :=
  match d.trail.entries.head? with
  | some e => bits e 160 32
  | none => 0

/-- The frozen Trail is copied to the lowest free slot, or counted as lost (12 R392, 19 R566). A dump that was loaded from flash is
never dumped again (19 R567). -/
def Dev.dump (d : Dev) : Dev :=
  if !d.trail.dumpable then d
  else
    match d.freeDump with
    | none => (d.addSat 0x7100 8 32 1).raise 0x0A09 0 0
    | some n =>
      let x : Dump := ⟨d.nextDump, d.trail.frozenHt, d.trail.trigger, d.newestTseq, d.trail.entries⟩
      let d := { d with store := { d.store with dumps := sset (fun _ => none) d.store.dumps n (some x) } }
      d.ledger 5 (toBytes 1 n ++ toBytes 4 x.tseq)

/-- The Trail freezes (12 R391): 0x0A08, and a dump when `TRAIL_AUTODUMP` is 1. `how` is the trigger's bit, 0xFF for FREEZE. -/
def Dev.freeze (d : Dev) (how : Nat) : Dev :=
  if d.get 0x7100 2 = 2 then d
  else
    let d := d.put 0x7100 2 2
    let d := { d with trail := { d.trail with postLeft := 0, trigger := how, frozenHt := d.ht, loaded := none, dumpable := true } }
    let d := d.raise 0x0A08 0 0
    if d.get 0x7100 6 = 1 then d.dump else d

/-- RESUME: the Trail records again; what a loaded dump showed is discarded (12 R391, 19 R567). -/
def Dev.resumeTrail (d : Dev) : Dev :=
  if d.get 0x7100 2 ≠ 2 then d
  else
    let d := d.put 0x7100 2 0
    let entries := if d.trail.dumpable then d.trail.entries else []
    { d with trail := { d.trail with entries := entries, postLeft := 0, loaded := none, dumpable := false } }

/-- A write of `TRAIL_CTRL`; none for a value that is no command. DUMP copies a frozen Trail. -/
def Dev.trailCtrl (d : Dev) (v : Nat) (flashOk : Bool) : Option Dev :=
  if v = 1 then some (d.freeze 0xFF)
  else if v = 2 then some d.resumeTrail
  else if v = 3 then
    some (if d.get 0x7100 2 != 2 then d else if flashOk then d.dump else d.raise 0x2F07 0x200000 1)
  else none

/-- TRAIL_POST_FREEZE (12 R391). -/
def execTrailPostFreeze (s : State) : Host.Outcome State Fault Refusal :=
  run s (fun _ d => if d.get 0x7100 2 = 1 ∧ d.trail.postLeft = 0 then d.freeze d.trail.trigger else d)

/-- A read of `TRAIL_ENTRY`: the entry counted back from the newest, and the index moves on (12 R393). -/
def Dev.readTrail (d : Dev) : Nat × Dev :=
  let i := d.get 0x7110 1
  ((d.trail.entries[i]?).getD 0, d.put 0x7110 1 (i + 1))

/-- After a release of the loaded slot the next newest used slot is loaded; after the last, the Trail stays frozen and empty. -/
def Dev.loadNewestDump (d : Dev) : Dev :=
  let best := (below 4).foldl (fun (m : Option (Nat × Dump)) n => match d.dumpAt n, m with
    | some x, some (k, y) => if y.order < x.order then some (n, x) else some (k, y)
    | some x, none => some (n, x)
    | none, m => m) none
  let d := d.put 0x7100 2 2
  match best with
  | some (n, x) => { d with trail := { d.trail with entries := x.entries, loaded := some n, dumpable := false, postLeft := 0 } }
  | none => { d with trail := { d.trail with entries := [], loaded := none, dumpable := false, postLeft := 0 } }

/-- A write of `TRAIL_DUMP_RELEASE` (19 R566, R567); none when refused. -/
def Dev.releaseDump (d : Dev) (n : Nat) : Option Dev :=
  if 3 < n ∨ (d.dumpAt n).isNone then none
  else
    let d := { d with store := { d.store with dumps := sset (fun _ => none) d.store.dumps n none } }
    some (if d.trail.loaded == some n then d.loadNewestDump else d)

/-- `TRAIL_DUMP_USED`. -/
def Dev.dumpUsed (d : Dev) : Nat := (below 4).foldl (fun m n => m + b2n (d.dumpAt n).isSome * 2 ^ n) 0

/-- A write of `STEP_ABANDON` (12 R379); none when refused. -/
def Dev.abandon (d : Dev) (v : Nat) : Option Dev :=
  if v = d.step then some (d.raiseStep 0x3A04 v 0 v) else none

end Sys2Proof.Machine
end

