-- ==== Sys2Proof/Machine/Mask.lean ====
section
/-! DEFINITION. The sequence table and the masks it gives (04 R140-R142). -/

namespace Sys2Proof.Machine

/-- A sequence table as read: tokens in all, and the (start, length) pairs. -/
structure SeqTable where
  total : Nat
  seqs : List (Nat × Nat)
deriving DecidableEq, Repr

/-- The table at an address (04 R140). -/
def Dev.seqTable (d : Dev) (a : Nat) : SeqTable :=
  let h := d.num a 64
  ⟨bits h 8 20, (below (bits h 0 8)).map (fun i => let e := d.num (a + 64 + 8 * i) 8; (bits e 20 20, bits e 0 20))⟩

/-- Each entry ends no later than the next starts, and the last no later than `TOTAL`. -/
def seqsOrdered (total : Nat) : List (Nat × Nat) → Bool
  | [] => true
  | [(s, n)] => decide (s + n ≤ total)
  | (s, n) :: (s', n') :: t => decide (s + n ≤ s') && seqsOrdered total ((s', n') :: t)

/-- The table is valid (04 R141). -/
def SeqTable.valid (t : SeqTable) : Bool :=
  decide (1 ≤ t.seqs.length) && decide (t.seqs.length ≤ 128) && decide (1 ≤ t.total) && t.seqs.all (fun e => decide (1 ≤ e.2))
    && seqsOrdered t.total t.seqs

/-- The sequence that holds a token, none for padding. -/
def SeqTable.seqOf (t : SeqTable) (tok : Nat) : Option Nat :=
  t.seqs.findIdx? (fun e => decide (e.1 ≤ tok) && decide (tok < e.1 + e.2))

/-- A mask: the mode, the table, the tokens of row 0 and of column (or reduction index) 0. -/
structure Mask where
  mode : Nat
  table : SeqTable
  row0 : Nat
  col0 : Nat
deriving DecidableEq, Repr

/-- Whether the token of row `r` is padding in a mode that masks (04 R142). -/
def Mask.padRow (m : Mask) (r : Nat) : Bool := m.mode != 0 && (m.table.seqOf (m.row0 + r)).isNone

/-- Whether row token t and column or index token u are masked against each other: different sequences, or u after t in a causal
mode. -/
def Mask.pair (m : Mask) (causal : Bool) (r c : Nat) : Bool :=
  let t := m.row0 + r
  let u := m.col0 + c
  m.table.seqOf t != m.table.seqOf u || (causal && decide (t < u))

/-- Whether output (r, c) is masked: padding rows in every mode but 0, and the output modes 2 and 3. -/
def Mask.out (m : Mask) (r c : Nat) : Bool :=
  m.padRow r || ((m.mode == 2 || m.mode == 3) && m.pair (m.mode == 3) r c)

/-- Whether product (r, k) is absent: padding rows, and the reduction modes 4 and 5. -/
def Mask.red (m : Mask) (r k : Nat) : Bool :=
  m.padRow r || ((m.mode == 4 || m.mode == 5) && m.pair (m.mode == 5) r k)

/-- The mask of a descriptor: mode, table address, tokens. -/
def Dev.mask (d : Dev) (mode addr row0 col0 : Nat) : Mask :=
  ⟨mode, if mode = 0 then ⟨0, []⟩ else d.seqTable addr, row0, col0⟩

/-- Whether the mask's table is valid, where the mode reads it (04 R141). -/
def Mask.ok (m : Mask) : Bool := m.mode == 0 || m.table.valid

/-- The bytes of the table that the device reads: the header and the entries. -/
def Dev.seqReads (d : Dev) (mode addr : Nat) : List Ext :=
  if mode = 0 then [] else [(addr, 64), (addr + 64, 8 * min 128 (bits (d.num addr 1) 0 8))]

end Sys2Proof.Machine
end

