-- ==== Sys2Proof/Machine/Float.lean ====
section
/-! DEFINITION. The number formats and their arithmetic (02): exact dyadic values, rounding to nearest with ties to even,
the conversions of 02 R31, the compensated master pair, and stochastic rounding. -/

namespace Sys2Proof.Machine

/-- A floating-point value: a NaN, an infinity, or (-1)^neg * m * 2^e exactly (02 R26, R29, R30). -/
inductive Fp where
  | nan
  | inf (neg : Bool)
  | fin (neg : Bool) (m : Nat) (e : Int)
deriving DecidableEq, Repr

/-- An IEEE 754 binary layout: exponent bits and fraction bits. -/
structure Fmt where
  eb : Nat
  fb : Nat
deriving DecidableEq, Repr

/-- G16, A32, W64 and the input view of GB8 (02 R25). -/
def fmtG16 : Fmt := ⟨8, 7⟩
def fmtA32 : Fmt := ⟨8, 23⟩
def fmtW64 : Fmt := ⟨11, 52⟩
def fmtGB8 : Fmt := ⟨5, 2⟩

/-- The exponent bias of a layout. -/
def Fmt.bias (f : Fmt) : Nat := 2 ^ (f.eb - 1) - 1

/-- The exponent of the last place of a subnormal. -/
def Fmt.emin (f : Fmt) : Int := 1 - (f.bias : Int) - (f.fb : Int)

/-- The value of a pattern (02 R25, R26). -/
def Fmt.dec (f : Fmt) (p : Nat) : Fp :=
  let s := bit p (f.eb + f.fb)
  let E := bits p f.fb f.eb
  let F := bits p 0 f.fb
  if E = 2 ^ f.eb - 1 then (if F = 0 then .inf s else .nan)
  else if E = 0 then .fin s F f.emin
  else .fin s (2 ^ f.fb + F) ((E : Int) - 1 + f.emin)

/-- `m / 2^k` rounded to nearest, ties to even. -/
def rneShift (m k : Nat) : Nat :=
  let q := m / 2 ^ k
  let r := m % 2 ^ k
  if 2 * r > 2 ^ k ∨ (2 * r = 2 ^ k ∧ q % 2 = 1) then q + 1 else q

/-- The magnitude pattern of m * 2^e rounded once with RNE on a grid of `fb` fraction bits and least exponent `emin`,
with no upper limit. -/
def magPattern (fb : Nat) (emin : Int) (m : Nat) (e : Int) : Nat :=
  if m = 0 then 0
  else
    let q := max (e + (Nat.log2 m : Int) - (fb : Int)) emin
    let n := if q ≤ e then m * 2 ^ (e - q).toNat else rneShift m (q - e).toNat
    n + (q - emin).toNat * 2 ^ fb

/-- The canonical NaN of a layout (02 R29). -/
def Fmt.nanPat (f : Fmt) : Nat := (2 ^ f.eb - 1) * 2 ^ f.fb + 2 ^ (f.fb - 1)

/-- The pattern of a value rounded once with RNE (02 R28, R31). -/
def Fmt.enc (f : Fmt) : Fp → Nat
  | .nan => f.nanPat
  | .inf s => b2n s * 2 ^ (f.eb + f.fb) + (2 ^ f.eb - 1) * 2 ^ f.fb
  | .fin s m e => b2n s * 2 ^ (f.eb + f.fb) + min (magPattern f.fb f.emin m e) ((2 ^ f.eb - 1) * 2 ^ f.fb)

/-- The value an A32 rounding leaves, and the same for W64 and G16. -/
def rne32 (x : Fp) : Fp := fmtA32.dec (fmtA32.enc x)
def rne64 (x : Fp) : Fp := fmtW64.dec (fmtW64.enc x)
def rne16 (x : Fp) : Fp := fmtG16.dec (fmtG16.enc x)

/-- Exact zero, one, and a natural number. -/
def fp0 : Fp := .fin false 0 0
def fp1 : Fp := .fin false 1 0
def fpNat (n : Nat) : Fp := .fin false n 0

/-- Sign, zero and magnitude tests. -/
def Fp.isNaN : Fp → Bool
  | .nan => true
  | _ => false
def Fp.isFinite : Fp → Bool
  | .fin _ _ _ => true
  | _ => false
def Fp.isZero : Fp → Bool
  | .fin _ 0 _ => true
  | _ => false
def Fp.isNeg : Fp → Bool
  | .nan => false
  | .inf s => s
  | .fin s _ _ => s
def Fp.abs : Fp → Fp
  | .nan => .nan
  | .inf _ => .inf false
  | .fin _ m e => .fin false m e
def Fp.neg : Fp → Fp
  | .nan => .nan
  | .inf s => .inf !s
  | .fin s m e => .fin (!s) m e

/-- The value times 2^k, exact. -/
def Fp.scale (k : Int) : Fp → Fp
  | .fin s m e => .fin s m (e + k)
  | x => x

/-- The signed integer that a finite value is at exponent `q`, for q no larger than its own exponent. -/
def atExp (neg : Bool) (m : Nat) (e q : Int) : Int :=
  let v : Int := (m * 2 ^ (e - q).toNat : Nat)
  if neg then -v else v

/-- The exact sum, with the signs of zero of IEEE 754 (02 R30). -/
def fpAdd : Fp → Fp → Fp
  | .nan, _ => .nan
  | _, .nan => .nan
  | .inf a, .inf b => if a = b then .inf a else .nan
  | .inf a, _ => .inf a
  | _, .inf b => .inf b
  | .fin a m e, .fin b n g =>
    let q := min e g
    let v := atExp a m e q + atExp b n g q
    if v = 0 then .fin (a && b && (m == 0) && (n == 0)) 0 0
    else .fin (decide (v < 0)) v.natAbs q

/-- The exact difference. -/
def fpSub (x y : Fp) : Fp := fpAdd x y.neg

/-- The exact product (02 R28, 03 R68). -/
def fpMul : Fp → Fp → Fp
  | .nan, _ => .nan
  | _, .nan => .nan
  | .inf a, .inf b => .inf (a != b)
  | .inf a, .fin b n _ => if n = 0 then .nan else .inf (a != b)
  | .fin a m _, .inf b => if m = 0 then .nan else .inf (a != b)
  | .fin a m e, .fin b n g => .fin (a != b) (m * n) (e + g)

/-- The quotient with 160 further bits and a sticky bit, so that one rounding of it is the correctly rounded quotient. -/
def fpDiv : Fp → Fp → Fp
  | .nan, _ => .nan
  | _, .nan => .nan
  | .inf _, .inf _ => .nan
  | .inf a, .fin b _ _ => .inf (a != b)
  | .fin a _ _, .inf b => .fin (a != b) 0 0
  | .fin a m e, .fin b n g =>
    if n = 0 then (if m = 0 then .nan else .inf (a != b))
    else
      let k := 160 + Nat.log2 n
      let t := m * 2 ^ k
      .fin (a != b) (2 * (t / n) + (if t % n = 0 then 0 else 1)) (e - g - (k : Int) - 1)

/-- Integer square root by deciding bits from the top. -/
def isqrtBits (n : Nat) : Nat → Nat → Nat
  | 0, r => r
  | k + 1, r => let c := r + 2 ^ k; isqrtBits n k (if c * c ≤ n then c else r)

/-- The largest r with r * r at most n. -/
def isqrt (n : Nat) : Nat := isqrtBits n (Nat.log2 n / 2 + 1) 0

/-- The square root with a sticky bit, so that one rounding of it is correctly rounded. -/
def fpSqrt : Fp → Fp
  | .nan => .nan
  | .inf s => if s then .nan else .inf false
  | .fin s m e =>
    if m = 0 then .fin s 0 0
    else if s then .nan
    else
      let odd := e % 2 ≠ 0
      let m1 := if odd then 2 * m else m
      let e1 := if odd then e - 1 else e
      let t := m1 * 2 ^ 320
      let r := isqrt t
      .fin false (2 * r + (if r * r = t then 0 else 1)) (e1 / 2 - 161)

/-- `x < y` on values, false with a NaN. -/
def fpLt : Fp → Fp → Bool
  | .nan, _ => false
  | _, .nan => false
  | .inf a, .inf b => a && !b
  | .inf a, .fin _ _ _ => a
  | .fin _ _ _, .inf b => !b
  | .fin a m e, .fin b n g =>
    let q := min e g
    decide (atExp a m e q < atExp b n g q)

/-- `x ≤ y` on values, false with a NaN. -/
def fpLe (x y : Fp) : Bool := !x.isNaN && !y.isNaN && !fpLt y x

/-- The maximum operation of IEEE 754-2019 (04 R128): a NaN operand gives NaN, +0 is larger than -0. -/
def fpMax (x y : Fp) : Fp :=
  if x.isNaN || y.isNaN then .nan
  else if fpLt x y then y
  else if fpLt y x then x
  else if x.isNeg then y else x

/-- The larger magnitude of two values, NaN and infinity as they come. -/
def fpMaxAbs (x y : Fp) : Fp := fpMax x.abs y.abs

/-- Subnormals of the A32 range read as signed zero (02 R59, Pedigree mode). G16 subnormals lie in the same range. -/
def flush32 : Fp → Fp
  | .fin s m e =>
    if m = 0 then .fin s 0 0
    else if e + (Nat.log2 m : Int) < -126 then .fin s 0 0 else .fin s m e
  | x => x

/-! ## The eight-bit formats -/

/-- The value of an FB8 pattern (02 R26). -/
def decFB8 (p : Nat) : Fp :=
  let s := bit p 7
  let E := bits p 3 4
  let F := bits p 0 3
  if E = 15 ∧ F = 7 then .nan
  else if E = 0 then .fin s F (-9) else .fin s (8 + F) ((E : Int) - 10)

/-- The result of a scaled conversion into an 8-bit format: the pattern, and whether it counts as saturated (02 R32, R33). -/
def encFB8 : Fp → Nat × Bool
  | .nan => (0x7F, false)
  | .inf s => (b2n s * 128 + 0x7E, true)
  | .fin s m e =>
    let p := magPattern 3 (-9) m e
    if p > 0x7E then (b2n s * 128 + 0x7E, true) else (b2n s * 128 + p, false)

/-- Conversion into GB8; `ped` is Pedigree mode, where overflow gives an infinity (02 R27, R59). -/
def encGB8 (ped : Bool) : Fp → Nat × Bool
  | .nan => (0x7F, false)
  | .inf s => (b2n s * 128 + (if ped then 0x7C else 0x7B), true)
  | .fin s m e =>
    let p := magPattern 2 (-16) m e
    if p > 0x7B then (b2n s * 128 + (if ped then 0x7C else 0x7B), true) else (b2n s * 128 + p, false)

/-- The data formats of an operand slot (04, "Vector bodies"). -/
inductive DFmt where
  | fb8 | gb8 | g16 | a32 | w64 | c16 | u32
deriving DecidableEq, Repr

/-- The format of a slot's FMT code; 0b111 is refused. -/
def DFmt.ofCode : Nat → Option DFmt
  | 0 => some .fb8
  | 1 => some .gb8
  | 2 => some .g16
  | 3 => some .a32
  | 4 => some .w64
  | 5 => some .c16
  | 6 => some .u32
  | _ => none

/-- Bytes of an element. -/
def DFmt.size : DFmt → Nat
  | .fb8 => 1
  | .gb8 => 1
  | .g16 => 2
  | .a32 => 4
  | .w64 => 8
  | .c16 => 2
  | .u32 => 4

/-- The five floating-point formats. -/
def DFmt.isFloat : DFmt → Bool
  | .c16 => false
  | .u32 => false
  | _ => true

/-- The two formats that name a scale record. -/
def DFmt.isScaled : DFmt → Bool
  | .fb8 => true
  | .gb8 => true
  | _ => false

/-- The value of a stored pattern with scale exponent `e`: q * 2^-e for an 8-bit format (02, "Per-tensor scales"). -/
def DFmt.value (f : DFmt) (e : Int) (p : Nat) : Fp :=
  match f with
  | .fb8 => (decFB8 p).scale (-e)
  | .gb8 => (fmtGB8.dec p).scale (-e)
  | .g16 => fmtG16.dec p
  | .a32 => fmtA32.dec p
  | .w64 => fmtW64.dec p
  | .c16 => fpNat p
  | .u32 => fpNat p

/-- The pattern of a value in a format: for an 8-bit format x * 2^e rounded once, with the saturation mark (02 R31, R32). -/
def DFmt.pattern (f : DFmt) (ped : Bool) (e : Int) (x : Fp) : Nat × Bool :=
  match f with
  | .fb8 => encFB8 (x.scale e)
  | .gb8 => encGB8 ped (x.scale e)
  | .g16 => (fmtG16.enc x, false)
  | .a32 => (fmtA32.enc x, false)
  | .w64 => (fmtW64.enc x, false)
  | .c16 => (0, false)
  | .u32 => (0, false)

/-! ## Compensated master weights -/

/-- The exponent of ulp(W) for a G16 value (02, "Compensated master weights"). -/
def ulpExp16 (w : Nat) : Int :=
  let E := bits w 7 8
  if E = 0 then -133 else (E : Int) - 134

/-- M = W + c * ulp(W) * 2^-16; an infinite or NaN W is its own value (02 R35). -/
def masterValue (w c : Nat) : Fp :=
  let x := fmtG16.dec w
  if x.isFinite then
    let ci := sgn 16 c
    fpAdd x (.fin (decide (ci < 0)) ci.natAbs (ulpExp16 w - 16))
  else x

/-- A signed dyadic rounded to the nearest integer, ties to even. -/
def rneInt (neg : Bool) (m : Nat) (e : Int) : Int :=
  let n := if 0 ≤ e then m * 2 ^ e.toNat else rneShift m (-e).toNat
  if neg then -(n : Int) else n

/-- The pair of a master value M': W' is M' rounded to G16, c' the remainder, clamped; c' is 0 for a W' that is not finite
(02 R36, R37). -/
def masterSplit (m' : Fp) : Nat × Nat :=
  let w' := fmtG16.enc m'
  let x := fmtG16.dec w'
  if x.isFinite then
    match fpSub m' x with
    | .fin s m e =>
      let q := rneInt s m (e + 16 - ulpExp16 w')
      (w', unsgn 16 (max (-32768) (min 32767 q)))
    | _ => (w', 0)
  else (w', 0)

/-- The new pair for M' = M + inc, formed in W64 (02 R36). -/
def masterUpdate (w c : Nat) (inc : Fp) : Nat × Nat := masterSplit (rne64 (fpAdd (masterValue w c) inc))

/-! ## Stochastic rounding -/

/-- One round of the generator (02 R55) on (c0, c1, c2, c3, k0, k1). -/
def philoxRound (c : Nat × Nat × Nat × Nat × Nat × Nat) : Nat × Nat × Nat × Nat × Nat × Nat :=
  match c with
  | (c0, c1, c2, c3, k0, k1) =>
    let p := 0xD2511F53 * c0
    let q := 0xCD9E8D57 * c2
    (bits q 32 32 ^^^ c1 ^^^ k0, bits q 0 32, bits p 32 32 ^^^ c3 ^^^ k1, bits p 0 32,
      (k0 + 0x9E3779B9) % 2 ^ 32, (k1 + 0xBB67AE85) % 2 ^ 32)

/-- `n` rounds. -/
def philoxRounds : Nat → Nat × Nat × Nat × Nat × Nat × Nat → Nat × Nat × Nat × Nat × Nat × Nat
  | 0, c => c
  | n + 1, c => philoxRounds n (philoxRound c)

/-- The 16 random bits of an element (02 R55). -/
def srBits (seed step tensor hop i : Nat) : Nat :=
  match philoxRounds 10 (bits i 3 32, bits tensor 0 16 <<< 16 + bits hop 0 8 <<< 8 + bits i 35 5,
      bits step 0 32, bits step 32 16, bits seed 0 32, bits seed 32 32) with
  | (c0, c1, c2, c3, _, _) =>
    let j := bits i 0 3
    let w := if j / 2 = 0 then c0 else if j / 2 = 1 then c1 else if j / 2 = 2 then c2 else c3
    bits w (16 * (j % 2)) 16

/-- Stochastic rounding of an A32 pattern to G16 with random bits `r` (02 R54). -/
def srG16 (v r : Nat) : Nat :=
  let x := fmtA32.dec v
  if x.isNaN then fmtG16.nanPat
  else if !x.isFinite then bits v 16 16
  else bits v 16 16 + (if bits v 0 16 + r ≥ 65536 then 1 else 0)

/-! ## The transcendental functions of the vector unit -/

/-- ln 2 with 200 fraction bits. -/
def ln2Fix : Nat := 1113844574712631719546256151097547306333272293549090750737802
/-- The square root of 2/pi with 200 fraction bits. -/
def sqrt2PiFix : Nat := 1282151055680999866826009247359661344393248438342903040684416

/-- The Taylor sum of exp at a fixed-point argument below ln 2, 200 fraction bits; `k` terms from the highest. -/
def expTaylor (r : Nat) : Nat → Nat
  | 0 => 2 ^ 200
  | k + 1 => 2 ^ 200 + (r * expTaylorFrom r (k + 1) k) / 2 ^ 200
where
  /-- Horner steps: the tail from term `n - k` on, divided by its index. -/
  expTaylorFrom (r n : Nat) : Nat → Nat
    | 0 => 2 ^ 200 / n
    | k + 1 => (2 ^ 200 + (r * expTaylorFrom r n k) / 2 ^ 200) / (n - (k + 1))

/-- exp of a finite value to far more bits than any format keeps; beyond the range of W64 it gives infinity or a value
below every subnormal. -/
def fpExp : Fp → Fp
  | .nan => .nan
  | .inf s => if s then fp0 else .inf false
  | .fin s m e =>
    if m = 0 then fp1
    else if e + (Nat.log2 m : Int) > 11 then (if s then .fin false 1 (-4000) else .inf false)
    else
      let x : Int := if 0 ≤ e + 200 then (m * 2 ^ (e + 200).toNat : Nat) else (m / 2 ^ (-(e + 200)).toNat : Nat)
      let x := if s then -x else x
      let k := x / (ln2Fix : Int)
      let r := (x % (ln2Fix : Int)).toNat
      .fin false (2 * expTaylor r 45 + 1) (k - 201)

/-- A quotient or sum cut to 260 bits with a sticky bit, to keep long expressions small. -/
def fpTrim : Fp → Fp
  | .fin s m e =>
    let k := Nat.log2 m - 260
    if k = 0 then .fin s m e else .fin s (2 * (m / 2 ^ k) + 1) (e + (k : Int) - 1)
  | x => x

/-- 1 / (1 + exp(-x)). -/
def fpSigmoid (x : Fp) : Fp := fpTrim (fpDiv fp1 (fpTrim (fpAdd fp1 (fpExp x.neg))))

/-- x * sigmoid(x), with the limits at the infinities. -/
def fpSilu (x : Fp) : Fp :=
  match x with
  | .inf s => if s then .fin true 0 0 else .inf false
  | _ => fpMul x (fpSigmoid x)

/-- The derivative of silu. -/
def fpDSilu (x : Fp) : Fp :=
  match x with
  | .inf s => if s then fp0 else fp1
  | _ =>
    let g := fpSigmoid x
    fpTrim (fpMul g (fpAdd fp1 (fpMul x (fpSub fp1 g))))

/-- 2 * sqrt(2/pi) * (x + 0.044715 x^3), the argument of the logistic form of the tanh GELU (04 R128). -/
def geluArg (x : Fp) : Fp :=
  let c := .fin false sqrt2PiFix (-199)
  fpTrim (fpMul c (fpAdd x (fpDiv (fpMul (fpNat 44715) (fpMul x (fpMul x x))) (fpNat 1000000))))

/-- GELU, tanh form: 0.5 x (1 + tanh u) = x * sigmoid(2u). -/
def fpGelu (x : Fp) : Fp :=
  match x with
  | .inf s => if s then .fin true 0 0 else .inf false
  | _ => fpTrim (fpMul x (fpSigmoid (geluArg x)))

/-- The derivative of GELU: s + x s (1 - s) (2u)'. -/
def fpDGelu (x : Fp) : Fp :=
  match x with
  | .inf s => if s then fp0 else fp1
  | _ =>
    let s := fpSigmoid (geluArg x)
    let c := .fin false sqrt2PiFix (-199)
    let d := fpMul c (fpAdd fp1 (fpDiv (fpMul (fpNat 134145) (fpMul x x)) (fpNat 1000000)))
    fpTrim (fpAdd s (fpTrim (fpMul (fpMul x (fpMul s (fpSub fp1 s))) d)))

/-- The reciprocal, and the reciprocal square root. -/
def fpRecip (x : Fp) : Fp := fpDiv fp1 x
def fpRsqrt (x : Fp) : Fp := fpDiv fp1 (fpTrim (fpSqrt x))

/-- A finite nonzero result moved by the free error of the unit: within two units of the last place of A32, in either
width; special results stand (04 R127). -/
def nudge (wide : Bool) (fn p : Nat) (x : Fp) : Fp :=
  let f := if wide then fmtW64 else fmtA32
  let lim : Int := if wide then 2 ^ 30 else 2
  let q := f.enc x
  if (f.dec q).isFinite && x.isFinite && !x.isZero then
    let off := max (-lim) (min lim (Config.ulpError fn p))
    let sign := bits q (f.eb + f.fb) 1
    let mag : Int := bits q 0 (f.eb + f.fb)
    let top : Int := (2 ^ f.eb - 1) * 2 ^ f.fb
    f.dec (sign * 2 ^ (f.eb + f.fb) + (max 0 (min top (mag + off))).toNat)
  else f.dec q

end Sys2Proof.Machine
end

