-- ==== Sys2Proof/Machine/Scale.lean ====
section
/-! DEFINITION. Scale records (02 R41-R49): the exponent rule, current scaling, the amax and the producing operation. -/

namespace Sys2Proof.Machine

/-! ## Fields of a scale record (02 R42) -/

def srHistBase (v : Nat) : Nat := bits v 208 48
def srSatCount (v : Nat) : Nat := bits v 192 16
def srDepth (v : Nat) : Nat := bits v 150 10 + 1
def srHistIndex (v : Nat) : Nat := bits v 140 10
def srHistFill (v : Nat) : Nat := bits v 129 11
def srExp (v : Nat) : Int := sgn 8 (bits v 48 8)
def srMargin (v : Nat) : Nat := bits v 45 3
def srGB8 (v : Nat) : Bool := bit v 44
def srEmpty (v : Nat) : Bool := bit v 43
def srCurrent (v : Nat) : Bool := bit v 42
def srFrozen (v : Nat) : Bool := bit v 41

/-- The address of record `k` (02 R41). -/
def Dev.scaleAddr (d : Dev) (k : Nat) : Nat := d.scaleBase + 32 * k
/-- Record `k`. -/
def Dev.scaleRec (d : Dev) (k : Nat) : Nat := d.num (d.scaleAddr k) 32
/-- The exponent that a reader takes (03, "Products and the reduction order"). -/
def Dev.scaleExp (d : Dev) (k : Nat) : Int := srExp (d.scaleRec k)

/-- Valid entries (02 R43). -/
def srValid (v : Nat) : Nat := if srEmpty v then 0 else min (srHistFill v) (srDepth v)

/-- The history ring of record `k`: where it lies, and its valid part. -/
def Dev.histExt (d : Dev) (k : Nat) : Ext := (srHistBase (d.scaleRec k), 2 * srDepth (d.scaleRec k))
def Dev.histValid (d : Dev) (k : Nat) : Ext := (srHistBase (d.scaleRec k), 2 * srValid (d.scaleRec k))

/-- The valid entries, as G16 patterns. -/
def Dev.history (d : Dev) (k : Nat) : List Nat :=
  let v := d.scaleRec k
  (below (srValid v)).map (fun i => d.num (srHistBase v + 2 * i) 2)

/-- The largest magnitude among the finite entries, as a G16 pattern without sign (02 R44). -/
def largestFinite (l : List Nat) : Nat :=
  (l.map (fun p => p % 0x8000)).foldl (fun m p => if 0x7F80 ≤ p then m else max m p) 0

/-- The rule of 02 R44 before the clamp, for a nonzero G16 magnitude pattern. -/
def expRule (gb8 : Bool) (margin a : Nat) : Int :=
  let k : Int := if gb8 then 15 else 8
  match fmtG16.dec a with
  | .fin _ m e =>
    let l := Nat.log2 m
    let ea : Int := e + l
    if 4 * m ≤ 7 * 2 ^ l then k - ea - margin else k - 1 - ea - margin
  | _ => 0

/-- The exponent to use from a list of entries and the exponent held, and whether it was clamped; none where no entry gives a rule
(02 R44, R45). -/
def expFrom (gb8 : Bool) (margin : Nat) (l : List Nat) : Option (Int × Bool) :=
  let a := largestFinite l
  if a = 0 then none
  else
    let e := expRule gb8 margin a
    let c := max (-128) (min 127 e)
    some (c, c != e)

/-- The amax of a list of output values, as a G16 pattern (02 R46). -/
def amaxOf (l : List Fp) : Nat :=
  if l.any Fp.isNaN then fmtG16.nanPat
  else fmtG16.enc (l.foldl (fun m x => if fpLt m x.abs then x.abs else m) fp0)

/-- What the producing operation of a record fixes: the exponent, whether it uses current scaling. -/
structure Produce where
  e : Int
  current : Bool
deriving DecidableEq, Repr

/-- Whether a producing operation that starts on record value `v` uses current scaling (02 R47). -/
def srStartsCurrent (v : Nat) : Bool := srEmpty v || decide (srValid v < min 16 (srDepth v))

/-- The record's value once the operation has fixed `e`: `EXP`, `EXP_CLAMPED` (kept where no rule was evaluated), `CURRENT`. -/
def srFix (v : Nat) (e : Int) (clamped : Option Bool) (current : Bool) : Nat :=
  let v := setBits v 48 8 (unsgn 8 e)
  let v := match clamped with
    | some c => setBits v 40 1 (b2n c)
    | none => v
  setBits v 42 1 (b2n current)

/-- The record's value at the completion of the operation (02 R33, R46, R47): saturations, amax, appended entry. -/
def srFinish (v sat amax : Nat) : Nat :=
  let total := srSatCount v + sat
  let v := setBits v 192 16 (min total 0xFFFF)
  let v := if 0xFFFF ≤ total then setBits v 128 1 1 else v
  let v := setBits v 176 16 amax
  let v := if srFrozen v || decide (0x7F80 ≤ amax % 0x8000) then v
    else
      let v := setBits v 140 10 ((srHistIndex v + 1) % srDepth v)
      let v := setBits v 129 11 (min (srHistFill v + 1) 1024)
      setBits v 43 1 0
  if srStartsCurrent v then v else setBits v 42 1 0

/-- The operation starts to quantise `vals` through record `k`: `e` is fixed, with the events of 02 R45 and R48. -/
def Job.fixScale (j : Job) (k : Nat) (vals : List Fp) : Job × Int :=
  let v := j.d.scaleRec k
  let cur := srStartsCurrent v
  let j := if cur && !srCurrent v then j.raise 0x0510 k 0 else j
  let j := j.flagIf cur sfCurrent
  let l := if cur then j.d.history k ++ [amaxOf vals] else j.d.history k
  let r := expFrom (srGB8 v) (srMargin v) l
  let e := match r with
    | some x => x.1
    | none => srExp v
  let c := r.map (fun x => x.2)
  let j := j.dev (fun d => d.wr (d.scaleAddr k) (toBytes 32 (srFix v e c cur)) false)
  if c = some true then ((j.raise 0x0513 k 0).flag sfClamped, e) else (j, e)

/-- The operation's completion on record `k`: the record and the history ring. -/
def Job.finishScale (j : Job) (k sat : Nat) (vals : List Fp) : Job :=
  let v := j.d.scaleRec k
  let a := amaxOf vals
  let j := if srFrozen v || decide (0x7F80 ≤ a % 0x8000) then j
    else j.dev (fun d => d.wr (srHistBase v + 2 * srHistIndex v) (toBytes 2 a) false)
  (j.dev (fun d => d.wr (d.scaleAddr k) (toBytes 32 (srFinish v sat a)) false)).flagIf (decide (0 < sat)) sfSaturated

/-- Values as a producing operation under current scaling holds them before it quantises: completed in A32 (02 R47). -/
def Dev.beforeQuantise (d : Dev) (k : Nat) (vals : List Fp) : List Fp :=
  if srStartsCurrent (d.scaleRec k) then vals.map rne32 else vals

/-- Quantise a list of unmasked output values through record `k` into FB8 or GB8: the patterns, in order (02 R31-R33, R44-R47). -/
def Job.produce (j : Job) (k : Nat) (gb8 : Bool) (vals : List Fp) : Job × List Nat :=
  let vals := j.d.beforeQuantise k vals
  let (j, e) := j.fixScale k vals
  let f := if gb8 then DFmt.gb8 else DFmt.fb8
  let r := vals.map (fun x => f.pattern j.d.pedigree e x)
  let sat := (r.filter (fun x => x.2)).length
  (j.finishScale k sat vals, r.map (fun x => x.1))

/-- What a producer of record `k` reads beside its operands. -/
def Dev.producerReads (d : Dev) (k : Nat) : List Ext := [(d.scaleAddr k, 32), d.histValid k]

/-- Whether the history ring of record `k` lies in populated memory that the unit reaches (04 R118). -/
def Dev.histOk (d : Dev) (k : Nat) : Bool := d.extentIn coreRegions (d.histExt k)

/-- `SCALE_CURRENT_COUNT`: the records of the table in current scaling. -/
def Dev.currentCount (d : Dev) : Nat := ((below 65536).filter (fun k => srCurrent (d.scaleRec k))).length

end Sys2Proof.Machine
end

