-- ==== Sys2Proof/Machine/Vring.lean ====
section
/-! DEFINITION. Weight version rings (05 R151-R161). -/

namespace Sys2Proof.Machine

/-- The address of ring record `n`, and its value (05 R151, R152). -/
def Dev.vringAddr (d : Dev) (n : Nat) : Nat := d.vringBase + 64 * n
def Dev.vring (d : Dev) (n : Nat) : Nat := d.num (d.vringAddr n) 64

/-! Fields of a ring record (05 R152). -/

def vrEnabled (v : Nat) : Bool := bit v 384
def vrDepthCode (v : Nat) : Nat := bits v 385 2
def vrDepth (v : Nat) : Nat := 2 ^ vrDepthCode v
def vrSlotVersion (v s : Nat) : Nat := bits v (96 * s + 80) 16
def vrRefs (v s : Nat) : Nat := bits v (96 * s + 64) 16
def vrScale (v s : Nat) : Nat := bits v (96 * s + 48) 16
def vrSlotBase (v s : Nat) : Nat := bits v (96 * s) 48

/-- The slot of a version (05 R153). -/
def vrSlot (v version : Nat) : Nat := version % vrDepth v

/-- Whether the ring is usable: enabled, with a permitted depth (05 R154). -/
def vrUsable (v : Nat) : Bool := vrEnabled v && vrDepthCode v != 3

/-- Whether a version is held (05 R153). -/
def vrHeld (v version : Nat) : Bool := vrSlotVersion v (vrSlot v version) == version

/-- Store a ring record. -/
def Dev.setVring (d : Dev) (n v : Nat) : Dev := d.wr (d.vringAddr n) (toBytes 64 v) false

/-- `REFS` of slot `s` set. -/
def vrSetRefs (v s n : Nat) : Nat := setBits v (96 * s + 64) 16 n

/-- Whether a slot's count saturated and the driver has not rewritten its record since, which its `REFS` shows (05 R157; DESIGN CHOICE, log
entry 163). -/
def Dev.stuck (d : Dev) (ring slot : Nat) : Bool :=
  sget (fun _ => false) d.cmp.stuck (4 * ring + slot) && vrRefs (d.vring ring) slot == 0xFFFF
def Dev.setStuck (d : Dev) (ring slot : Nat) (b : Bool) : Dev :=
  { d with cmp := { d.cmp with stuck := sset (fun _ => false) d.cmp.stuck (4 * ring + slot) b } }

/-- Add to `REFS`, saturating with 0x2531 (05 R157). -/
def Job.addRefs (j : Job) (ring slot n : Nat) : Job :=
  let v := j.d.vring ring
  let r := vrRefs v slot + n
  if 0xFFFF < r then (j.dev (fun d => (d.setVring ring (vrSetRefs v slot 0xFFFF)).setStuck ring slot true)).raise 0x2531 ring slot
  else j.dev (fun d => d.setVring ring (vrSetRefs v slot r))

/-- Subtract from `REFS`, with the floor of 05 R157 and its event; a saturated slot stays referenced. -/
def Job.dropRefs (j : Job) (ring slot n : Nat) : Job :=
  let v := j.d.vring ring
  let r := vrRefs v slot
  if j.d.stuck ring slot then j
  else if r < n then (j.dev (fun d => d.setVring ring (vrSetRefs v slot 0))).raise 0x2530 ring slot
  else j.dev (fun d => (d.setVring ring (vrSetRefs v slot (r - n))).setStuck ring slot false)

/-- What the start action adds, and what the completion action takes away (05 R155). -/
def refStart (ref : Nat) : Nat := if ref = 1 then 2 else 1
def refEnd (ref : Nat) : Nat := if ref = 2 then 2 else 1

/-- The start of a descriptor that names a version: `INVALID_FIELD` on an unusable ring, `VERSION_EVICTED` with 0x3402 where the
version is not held, else the start action (05 R154, R156; 04 R124). -/
def Job.takeVersion (j : Job) (ring version ref s cring cindex : Nat) : Job :=
  let v := j.d.vring ring
  if !vrUsable v then j.fail ccInvalidField
  else if !vrHeld v version then
    ((j.dev (fun d => d.addSat 0x5090 3 32 1)).raiseStep 0x3402 cring cindex s).fail ccEvicted
  else j.addRefs ring (vrSlot v version) (refStart ref)

/-- The end of a descriptor whose start action was applied: the completion action on OK, else the start action undone
(05 R155, R156). -/
def Job.releaseVersion (j : Job) (ring version ref : Nat) : Job :=
  let slot := vrSlot (j.d.vring ring) version
  if j.done.code = 0 then j.dropRefs ring slot (refEnd ref) else j.dropRefs ring slot (refStart ref)

/-- Whether a claim of a version finds its slot ready: the version is held already, or nothing refers to the slot (05 R159). -/
def claimReady (v version : Nat) : Bool := vrHeld v version || vrRefs v (vrSlot v version) == 0

/-- The ring record after a claim (05 R159). -/
def claimed (v version : Nat) : Nat :=
  if vrHeld v version then v
  else setBits (setBits v (96 * vrSlot v version + 80) 16 version) 464 16 version

/-- `CLAIM_STALL` grown by a wait in microseconds (05 R160). -/
def claimStall (v us : Nat) : Nat := setBits v 480 32 (satAdd 32 (bits v 480 32) us)

end Sys2Proof.Machine
end

