-- ==== Sys2Proof/Machine/Check.lean ====
section
/-! DEFINITION. The checks at issue (04 R113): opcode, field ranges, address extents, the tile rules of 03 R75, R81 and R84, and
the Pedigree refusals, in this order; and what a descriptor does to accumulator tiles (03 R88). -/

namespace Sys2Proof.Machine

/-- The opcodes of 04 R117. -/
def validOpcode (op : Nat) : Bool :=
  [0x10, 0x11, 0x12, 0x20, 0x21, 0x22, 0x23, 0x24, 0x25, 0x30, 0x31, 0x32, 0x33, 0x34, 0x35, 0x36, 0x37, 0x40, 0x41, 0x42, 0x43,
    0x44, 0x50, 0x51, 0x52, 0x60, 0x61, 0x62, 0x70, 0x71, 0x72, 0x73, 0x74].contains op

/-- An operand as the checks see it: where its rows lie, how many, their stride and length, whether it is written. -/
structure Operand where
  addr : Nat
  rows : Nat
  stride : Nat
  len : Nat
  write : Bool
deriving DecidableEq, Repr

/-- The extent of an operand, and its rows. -/
def Operand.ext (o : Operand) : Ext := hull o.addr o.rows o.stride o.len
def Operand.parts (o : Operand) : List Ext := if o.len = 0 then [] else rowsOf o.addr o.rows o.stride o.len

/-! ## Array -/

/-- Bytes of an array operand's element by its format code (04 R119). -/
def arSize (fmt : Nat) : Nat := if fmt = 2 then 2 else 1

/-- Bytes of an output element by `OUT_MODE`; 0 for KEEP. -/
def outSize (mode : Nat) : Nat := if mode = 1 then 4 else if mode = 2 then 2 else if mode = 3 then 1 else if mode = 4 then 2 else 0

/-- The extent of the tapped vector (06 R170). -/
def tapExtent (x : Nat) : Nat := if hdOpcode x = 0x11 ∧ arTapEn x = 1 then arN x else arK x

/-- Tap block size and number of blocks (06 R171, R173). -/
def tapB (x : Nat) : Nat := 64 * 2 ^ arTapBlock x
def tapBlocks (x : Nat) : Nat := (tapExtent x + tapB x - 1) / tapB x

/-- The statistics tile of a tapped operation: its header and its blocks (06 R174). -/
def tapTile (x : Nat) : Operand := ⟨arTapAddr x, 1, 0, 64 + 4 * tapBlocks x * tapB x * tapB x, true⟩

/-- Whether an operand overlaps the accumulator window. -/
def Operand.meetsWindow (o : Operand) : Bool := overlaps o.ext.1 o.ext.2 windowBase windowSize

/-- The first tile column of a result (03 R65): the column offset of a G16 operation. -/
def arCol0 (x : Nat) : Nat := if arFmtA x = 2 then 512 * arColOffset x else 0

/-- The tiles an operation adds onto. -/
def addTiles (x : Nat) : List Nat :=
  (if arAdd x then [arTile x] else []) ++ (if hdOpcode x = 0x11 ∧ arAddEast x then [arTileEast x] else [])

/-- The tap refusals of 06 R171. -/
def tapRefused (x : Nat) : Bool :=
  arTapEn x == 3 || arTapBlock x == 3 || decide (8 < arTapSample x) || (arTapBlock x == 2 && arTapSample x == 0)
    || (arTapEn x != 0 && (arMaskMode x == 4 || arMaskMode x == 5 || arTapAddr x % 64 != 0 || decide (65535 < tapBlocks x)))

/-- Field refusals of the array opcodes (03 R64-R66, R84; 04 R119, R122, R123, R141, R142; 05 R155; 06 R171). A drain that passes column
2,048 is refused too (DESIGN CHOICE, log entry 156). -/
def arrayRefused (x : Nat) : Bool :=
  let op := hdOpcode x
  let dims := decide (1 ≤ arM x) && decide (arM x ≤ 1024) && decide (1 ≤ arN x) && decide (arN x ≤ 2048)
  if op = 0x12 then
    !dims || arOutMode x == 0 || decide (4 < arOutMode x) || decide (2048 < 512 * arColOffset x + arN x)
  else
    !dims || arK x == 0 || decide (2 ^ 40 < arK x) || arFmtA x == 3 || arFmtB x == 3 || arGCode x == 3
      || decide (5 < arMaskMode x) || (arMaskMode x != 0 && arSeqAddr x % 64 != 0) || arWverRef x == 3 || tapRefused x
      || (if op = 0x11 then
            arFmtA x == 2 || arFmtB x == 2 || decide (1 < arFmtC x) || decide (2048 < arK x) || decide (1024 < arN x)
              || arTile x == arTileEast x || decide (1 < arMaskMode x)
          else
            (arFmtA x == 2) != (arFmtB x == 2) || decide (4 < arOutMode x) || (arFmtA x == 2 && decide (512 < arN x)))

/-- The stationary operand at a base address (04 R120). -/
def arOperandB (x base : Nat) : Operand :=
  let z := arSize (arFmtB x)
  if arTransB x then ⟨base, arN x, arBStride x, arK x * z, false⟩ else ⟨base, arK x, arBStride x, arN x * z, false⟩

/-- The operands of an array descriptor but the stationary one of a version ring (04 R120-R123, R154). -/
def arrayOperands (x : Nat) : List Operand :=
  let op := hdOpcode x
  let z := arSize (arFmtA x)
  let seq : List Operand := if arMaskMode x = 0 then [] else [⟨arSeqAddr x, 1, 0, 1088, false⟩]
  let a : Operand := if arTransA x then ⟨arAAddr x, arK x, arAStride x, arM x * z, false⟩
    else ⟨arAAddr x, arM x, arAStride x, arK x * z, false⟩
  let b : List Operand := if arWverId x = 0xFFF then [arOperandB x (arBAddr x)] else []
  if op = 0x12 then [⟨arCAddr x, arM x, arCStride x, arN x * outSize (arOutMode x), true⟩]
  else if op = 0x11 then [a] ++ b ++ [⟨arCAddr x, arM x, arCStride x, arN x, false⟩] ++ seq
  else [a] ++ b ++ [⟨arCAddr x, arM x, arCStride x, arN x * outSize (arOutMode x), true⟩] ++ seq

/-! ## Vector -/

/-- The slots a vector opcode uses (04 R128): 0 for D, 1 to 3 for S0 to S2; none for an unknown function,
which is refused; bits 2 and 1 of `VEC_NORM` together give x-hat alone (DESIGN CHOICE, log entry 158). -/
def vecSlots (op fn : Nat) : Option (List Nat) :=
  match op with
  | 0x20 =>
    if fn = 3 then some [0, 1, 2, 3]
    else if [1, 2, 4, 5, 11, 12, 13].contains fn then some [0, 1, 2]
    else if [0, 6, 7, 8, 9, 10].contains fn then some [0, 1]
    else none
  | 0x21 =>
    if 7 < fn then none
    else if bit fn 2 then some [0, 1]
    else if bit fn 1 then some [0, 1, 2, 3]
    else some [0, 1, 2]
  | 0x22 => if fn = 0 then some [0, 1] else if fn = 2 then some [0, 1, 3] else none
  | 0x23 => if fn = 0 then some [0, 1] else if fn = 1 then some [0, 1, 2, 3] else none
  | 0x24 => if fn ≤ 3 then some [0, 1] else none
  | 0x25 => if fn = 0 then some [0, 1] else if fn ≤ 2 then some [0, 1, 2] else none
  | _ => none

/-- Slot `i` of a vector descriptor. -/
def veSlot (x i : Nat) : Nat := if i = 0 then veD x else if i = 1 then veS0 x else if i = 2 then veS1 x else veS2 x

/-- Whether a move may copy or convert between two formats (04 R131). -/
def pairOk (a b : Nat) : Bool := a == b || (decide (a ≤ 4) && decide (b ≤ 4))

/-- Whether slot `i` may have its format (04 R592). -/
def vecFormatOk (x i : Nat) : Bool :=
  let f := slFmt (veSlot x i)
  match hdOpcode x, veFunc x, i with
  | 0x24, _, 0 => f == 4
  | 0x23, 0, 0 => f == 4
  | 0x23, 1, 2 => f == 6
  | 0x23, 1, 3 => f == 4
  | 0x25, 0, _ => f != 7 && pairOk (slFmt (veS0 x)) (slFmt (veD x))
  | 0x25, 1, 0 => f == 3
  | 0x25, 1, 1 => f == 2
  | 0x25, 1, _ => f == 5
  | 0x25, 2, 0 => f == 2
  | 0x25, 2, 1 => f == 3
  | 0x25, 2, _ => f == 5
  | _, _, _ => decide (f ≤ 4)

/-- Field refusals of the vector opcodes (04 R126, R128, R141, R142, R592). -/
def vectorRefused (x : Nat) : Bool :=
  match vecSlots (hdOpcode x) (veFunc x) with
  | none => true
  | some l =>
    veRows x == 0 || veCols x == 0 || decide (3 < veMaskMode x) || (veMaskMode x != 0 && veSeqAddr x % 64 != 0)
      || !l.all (vecFormatOk x) || (hdOpcode x == 0x24 && decide (2 < veImm1 x))

/-- Rows and columns of slot `i` (04 R128). -/
def vecShape (x i : Nat) : Nat × Nat :=
  match hdOpcode x, veFunc x, i with
  | 0x24, _, 0 => if veImm1 x = 0 then (veRows x, 1) else if veImm1 x = 1 then (1, veCols x) else (1, 1)
  | 0x23, 0, 0 => (veRows x, 2)
  | 0x23, 1, 2 => (veRows x, 1)
  | 0x23, 1, 3 => (veRows x, 3)
  | _, _, _ => (veRows x, veCols x)

/-- Bytes of an element by a slot's format code. -/
def fmtBytes (f : Nat) : Nat :=
  match DFmt.ofCode f with
  | some g => g.size
  | none => 0

/-- An operand slot with a shape. -/
def slotOperand (slot rows cols : Nat) (write : Bool) : Operand :=
  ⟨slAddr slot, rows, slStride slot, cols * fmtBytes (slFmt slot), write⟩

/-- Whether slot `i` of a vector descriptor is written: D, the remainders of `VEC_CONVERT` 2, the loss words of SEED. -/
def vecWrites (x i : Nat) : Bool :=
  i == 0 || (hdOpcode x == 0x25 && veFunc x == 2 && i == 2) || (hdOpcode x == 0x23 && veFunc x == 1 && i == 3)

/-- The operands of a vector descriptor. -/
def vectorOperands (x : Nat) : List Operand :=
  let l := (vecSlots (hdOpcode x) (veFunc x)).getD []
  let seq : List Operand := if veMaskMode x = 0 then [] else [⟨veSeqAddr x, 1, 0, 1088, false⟩]
  l.map (fun i => slotOperand (veSlot x i) (vecShape x i).1 (vecShape x i).2 (vecWrites x i)) ++ seq

/-! ## Moves and the Retriever -/

/-- Whether a move's or Retriever's side is in device memory here (04 R130, 09 R283). -/
def srcLocal (self x : Nat) : Bool :=
  match hdOpcode x with
  | 0x31 => false
  | 0x33 => false
  | 0x34 => false
  | 0x37 => mvRemote x == self
  | _ => true
def dstLocal (self x : Nat) : Bool :=
  match hdOpcode x with
  | 0x32 => false
  | 0x36 => mvRemote x == self
  | _ => true

/-- The operands of a move or Retriever descriptor in device memory. -/
def moveOperands (self x : Nat) : List Operand :=
  (if srcLocal self x then [slotOperand (mvSrc x) (mvRows x) (mvCols x) false] else [])
    ++ (if dstLocal self x then [slotOperand (mvDst x) (mvRows x) (mvCols x) true] else [])

/-- Field refusals of moves and of the Retriever (04 R126, R131; 08 R244; 09 R284, R285). -/
def moveRefused (self x : Nat) : Bool :=
  let op := hdOpcode x
  let f := slFmt (mvSrc x)
  let g := slFmt (mvDst x)
  if op = 0x33 then g == 7
  else if op < 0x34 then f == 7 || g == 7 || !pairOk f g
  else
    f == 7 || f != g || !(mvTc x == 0 || mvTc x == 4 || mvTc x == 5 || decide (7 ≤ mvTc x))
      || (op == 0x34 && (mvRemote x == self || decide (2 ^ 48 ≤ mvHostAddr x)))
      || (op == 0x35 && decide (2 ^ 20 ≤ mvShard x))

/-- The regions a Retriever side may use (09 R283). -/
def retrRegions (op : Nat) (write : Bool) : List Region :=
  match op, write with
  | 0x35, false => [.kennel]
  | 0x35, true => [.near]
  | 0x36, false => [.near, .tile]
  | 0x36, true => [.kennel]
  | 0x37, false => [.kennel]
  | _, _ => [.near, .tile]

/-! ## Collectives, solver, sweep, synchronisation -/

/-- Field refusals of the collectives (04 R132). -/
def collRefused (x : Nat) : Bool :=
  slFmt (coSend x) == 7 || slFmt (coRecv x) == 7 || decide (coTc x < 7)

/-- Field refusals of the solver (07 R197). -/
def solverRefused (rootStoreEn x : Nat) : Bool :=
  let op := hdOpcode x
  let damp := fmtA32.dec (ceDamp x)
  ceDim x == 0 || decide (4096 < ceDim x) || decide (4 < ceUnit x) || !damp.isFinite || (damp.isNeg && !damp.isZero)
    || decide (1 < ceDampClass x)
    || (op == 0x50 && (cePCode x == 3 || ceMaxIter x == 0 || ceTolExp x == 0 || decide (34 < ceTolExp x)))
    || (op != 0x50 && ceWarmEn x)
    || (op == 0x52 && (ceStoreRoot x || ceNcols x == 0 || decide (4096 < ceNcols x)))
    || ((ceWarmEn x || ceStoreRoot x) && rootStoreEn == 0)

/-- The operands of a solver descriptor (07 R192, R193). -/
def solverOperands (x : Nat) : List Operand :=
  let n := ceDim x
  let k := ceNcols x
  if hdOpcode x = 0x52 then
    [⟨ceInAddr x, 1, 0, 4 * n * k, false⟩, ⟨ceAuxAddr x, 1, 0, 4 * n, false⟩, ⟨ceOutAddr x, 1, 0, 4 * k, true⟩]
  else [⟨ceInAddr x, 1, 0, 4 * n * n, false⟩, ⟨ceOutAddr x, 1, 0, 2 * n * n, true⟩]

/-- Field refusals of the sweep (08 R229). -/
def sweepRefused (x : Nat) : Bool :=
  let lim := fmtA32.dec (swNormLimit x)
  let clip := fmtA32.dec (swClipNorm x)
  swShardTable x % 128 != 0 || swFprintAddr x % 32 != 0 || swNormAddr x % 64 != 0 || swHyperAddr x % 64 != 0
    || swShardCount x == 0 || decide (2 < swOptKind x) || lim.isNaN || (lim.isNeg && !lim.isZero) || !clip.isFinite
    || (clip.isNeg && !clip.isZero)

/-- The operands of a sweep descriptor that its fields give. -/
def sweepOperands (x : Nat) : List Operand :=
  let op := hdOpcode x
  let n := swShardCount x
  [⟨swShardTable x, 1, 0, 128 * n, false⟩]
    ++ (if op = 0x62 then [] else [⟨swNormAddr x, 1, 0, 64, true⟩])
    ++ (if op = 0x61 then [⟨swHyperAddr x, 1, 0, 64, false⟩] else [])
    ++ (if op = 0x60 then [] else [⟨swFprintAddr x, 1, 0, 32 * n, op == 0x61⟩])

/-- What a collective names by its fields alone: the first word of its counts or piece list, and the record it attaches; the other
extents depend on the tree and the counts (11 R357, R358). -/
def collOperands (x : Nat) : List Operand :=
  [⟨coCountsAddr x, 1, 0, 4, false⟩]
    ++ (if hdOpcode x = 0x41 ∧ coFprint x ≠ 0 then [⟨coFprintAddr x, 1, 0, 32, bit (coFprint x) 1⟩] else [])

/-- The operand of a synchronisation descriptor: the target of a marker. -/
def syncOperands (x : Nat) : List Operand :=
  if hdOpcode x = 0x74 ∧ !syHost x then [⟨syAddr x, 1, 0, 8, true⟩] else []

/-! ## The whole check -/

/-- The operands in device memory that the fields give; a statistics tile in the accumulator window is left to the start check of
06 R176. -/
def Dev.operands (d : Dev) (x : Nat) : List Operand :=
  match opClass (hdOpcode x) with
  | 1 => arrayOperands x ++ (if hdOpcode x ≠ 0x12 ∧ arTapEn x ≠ 0 ∧ !(tapTile x).meetsWindow then [tapTile x] else [])
  | 2 => vectorOperands x
  | 3 => moveOperands d.self x
  | 4 => collOperands x
  | 5 => solverOperands x
  | 6 => sweepOperands x
  | 7 => syncOperands x
  | _ => []

/-- A refused field. -/
def Dev.fieldRefused (d : Dev) (x : Nat) : Bool :=
  match opClass (hdOpcode x) with
  | 1 => arrayRefused x
  | 2 => vectorRefused x
  | 3 => moveRefused d.self x
  | 4 => collRefused x
  | 5 => solverRefused (d.get 0x6000 1) x
  | 6 => sweepRefused x
  | _ => false

/-- The regions an operand of the class may lie in: moves reach all four, the others the near stacks and the tile store. -/
def classRegions (op : Nat) : List Region :=
  if opClass op = 3 then [.near, .kennel, .tile, .window] else coreRegions

/-- The Retriever's rules on a local extent: the regions the opcode allows, whatever lies outside them, then the device tables (09 R284). -/
def Dev.retrCheck (d : Dev) (op : Nat) (o : Operand) : Nat :=
  if o.ext.2 = 0 then ccOk
  else if !d.extentIn (retrRegions op o.write) o.ext then ccInvalidField
  else if o.parts.any d.hitsTable then (if o.write then ccProtected else ccInvalidField)
  else ccOk

/-- The tile rules on a move's operand: the window while sealed, and the spill region (03 R75, R81; 04 R131). A refused read of the spill
region gives `SEALED_ACCESS` (DESIGN CHOICE, log entry 153). -/
def Dev.moveCheck (d : Dev) (o : Operand) : Nat :=
  if o.ext.2 = 0 then ccOk
  else if d.extent o.ext.1 o.ext.2 = some .window ∧ !d.accOpen then ccSealed
  else if o.parts.any (fun e => overlaps e.1 e.2 d.spillBase 0x10000000) then
    (if o.write then ccProtected else if d.accOpen then ccOk else ccSealed)
  else ccOk

/-- The first code other than OK of a list. -/
def firstCode : List Nat → Nat
  | [] => 0
  | c :: t => if c = 0 then firstCode t else c

/-- A west tile that is the east tile of another twin operation in flight (03 R84, 04 R122). -/
def Dev.twinConflict (d : Dev) (x : Nat) : Bool :=
  hdOpcode x == 0x11 && d.disp.board.any (fun e => hdOpcode e.desc == 0x11 && arTileEast e.desc == arTile x)

/-- Pedigree refusals (02 R60, 04 R135, 07 R197). -/
def Dev.pedigreeRefused (d : Dev) (x : Nat) : Bool :=
  d.pedigree && (opClass (hdOpcode x) == 5 || (opClass (hdOpcode x) == 6 && swOptKind x == 2))

/-- The code of the issue checks, 0 when all pass (04 R113). The order of checks is the model's: a descriptor that Pedigree mode refuses and
that also fails a field or address check ends with the latter's code (DESIGN CHOICE, log entry 151). -/
def Dev.issueCheck (d : Dev) (x : Nat) : Nat :=
  let op := hdOpcode x
  if !validOpcode op || hdCplMode x == 3 then ccInvalidOpcode
  else if d.fieldRefused x then ccInvalidField
  else
    let l := d.operands x
    let retr := decide (0x34 ≤ op ∧ op ≤ 0x37)
    if !retr && !l.all (fun o => d.extentIn (classRegions op) o.ext) then ccAddressRange
    else
      let c := if retr then firstCode (l.map (d.retrCheck op))
        else if opClass op = 3 then firstCode (l.map d.moveCheck) else 0
      if c != 0 then c
      else if d.twinConflict x then ccTileConflict
      else if d.pedigreeRefused x then ccPedigree
      else ccOk

/-! ## Accumulator tiles (03 R88) -/

/-- What a descriptor does to a tile. -/
inductive TileUse where
  | add | overwrite | read | moveWrite
deriving DecidableEq, Repr

/-- The tiles that the rows of a window operand touch. -/
def windowTiles (o : Operand) : List Nat :=
  (below 16).filter (fun t => o.parts.any (fun e => overlaps e.1 e.2 (windowBase + 0x800000 * t) 0x800000))

/-- The hyperparameter block of a sweep: latched once it has started (08 R233), else as it lies in memory. -/
def Dev.hyperOf (d : Dev) (e : Entry) : Nat :=
  match d.cmp.sweep with
  | some r => if r.id = e.id ∧ e.started then r.hyper else d.num (swHyperAddr e.desc) 64
  | none => d.num (swHyperAddr e.desc) 64

/-- The tiles a descriptor names, with what it does to each: array opcodes, preconditioning sweeps, moves through the window. -/
def Dev.tileUses (d : Dev) (e : Entry) : List (Nat × TileUse) :=
  let x := e.desc
  match hdOpcode x with
  | 0x10 => [(arTile x, if arAdd x then .add else .overwrite)]
  | 0x11 => [(arTile x, if arAdd x then .add else .overwrite), (arTileEast x, if arAddEast x then .add else .overwrite)]
  | 0x12 => [(arTile x, .read)]
  | 0x61 =>
    if swOptKind x = 2 then
      let h := d.hyperOf e
      [(bits h 224 4, .overwrite), (bits h 228 4, .overwrite)]
    else []
  | _ =>
    if opClass (hdOpcode x) = 3 then
      (moveOperands d.self x).flatMap (fun o => (windowTiles o).map (fun t => (t, if o.write then .moveWrite else .read)))
    else []

/-- The tiles whose A32 values a descriptor reads, where an error in the accumulator buffer is found (09 R277): an add that starts from
them, a drain, a move that reads the window. -/
def Dev.accReads (d : Dev) (x : Nat) : List Nat :=
  match hdOpcode x with
  | 0x10 => addTiles x |>.filter (fun t => d.pedigree || !(d.tile t).spillValid)
  | 0x11 => addTiles x |>.filter (fun t => d.pedigree || !(d.tile t).spillValid)
  | 0x12 => [arTile x]
  | op => if opClass op = 3 then (moveOperands d.self x).flatMap (fun o => if o.write then [] else windowTiles o) else []

/-- Whether a later use waits for an earlier operation on the same tile: only two reads do not order. -/
def usesOrder (earlier later : TileUse) : Bool := !(earlier == .read && later == .read)

/-- Whether an earlier use is over: an add or overwrite with its last tile write, a read or move with its completion. -/
def Entry.useOver (e : Entry) (u : TileUse) : Bool :=
  match u with
  | .add => e.done.isSome
  | .overwrite => e.done.isSome
  | .read => false
  | .moveWrite => false

end Sys2Proof.Machine
end

