-- ==== Sys2Proof/Machine/Sniffer.lean ====
section
/-! DEFINITION. The Sniffer units (13): parameter sets, contexts, closes and records. -/

namespace Sys2Proof.Machine

def Dev.snMode (d : Dev) (u : Nat) : Nat := d.get (0x7400 + u) 2

/-- The parameter set in force (13 R399, R400). -/
def Dev.snSet (d : Dev) (u : Nat) : CrcSet :=
  let m := d.snMode u
  match bits m 9 3 with
  | 1 => crc32cSet
  | 2 => crc32Set
  | 3 => crc64Set
  | 4 => crc16Set
  | _ =>
    let w := bits m 0 7
    ⟨w, bits (d.get (0x7400 + u) 3) 0 w, bits (d.get (0x7400 + u) 4) 0 w, bit m 7, bit m 8, bits (d.get (0x7400 + u) 5) 0 w⟩

/-- `BUSY` (13 R416). -/
def SnUnit.busy (x : SnUnit) : Bool := x.run.isSome

/-- Whether a further run has to wait: for the run in progress, or for the close that follows it (13 R405, R409, R411). -/
def SnUnit.held (x : SnUnit) : Bool := x.busy || x.closePending

/-- `SN_STATUS` (13 R416). -/
def SnUnit.status (x : SnUnit) : Nat := 8 * b2n x.poisonSeen + 4 * b2n x.ctxWritten + 2 * b2n x.closePending + b2n x.busy

/-- The loads of a RESET: `INIT`, `BYTES` 0, `POISON_SEEN` and `CTX_WRITTEN` cleared (13 R409). -/
def Dev.snLoad (d : Dev) (u : Nat) : Dev :=
  let d := (d.put (0x7400 + u) 6 (d.snSet u).init).put (0x7400 + u) 7 0
  d.setUnit u { d.unit u with poisonSeen := false, ctxWritten := false }

/-- The record of a close (13 R412). -/
def snRecord (value bytes : Nat) (ctx poison : Bool) (ht step alive : Nat) : Nat :=
  bits value 0 64 <<< 192 + bits bytes 0 48 <<< 144 + b2n ctx <<< 129 + b2n poison <<< 128 + bits ht 0 64 <<< 64
    + bits step 0 48 <<< 16 + bits alive 0 16

/-- A close of a unit with no run in progress, with the step it names (13 R410); the run that waits for it begins (13 R409, R411). -/
def Dev.snCloseNow (d : Dev) (u step : Nat) : Dev :=
  let c := d.snSet u
  let x := d.unit u
  let alive := (d.get (0x7400 + u) 9 + 1) % 65536
  let r := snRecord (crcOut c (d.get (0x7400 + u) 6)) (d.get (0x7400 + u) 7) x.ctxWritten x.poisonSeen d.ht step alive
  let d := (d.put (0x7400 + u) 0xA r).put (0x7400 + u) 9 alive
  let d := d.snLoad u
  d.setUnit u { d.unit u with closePending := false, autoStep := none, run := x.queue.head?, queue := x.queue.tail }

/-- The close that waits for the end of a run takes place where no run is in progress (13 R409, R411). -/
def Dev.snSettle (d : Dev) (u : Nat) : Dev :=
  let x := d.unit u
  if x.closePending ∧ !x.busy then d.snCloseNow u (x.autoStep.getD d.step) else d

/-- A write of `SN_CTRL` (13 R409): CLOSE before RESET; none when refused. -/
def Dev.snCtrl (d : Dev) (u v : Nat) : Option Dev :=
  let x := d.unit u
  if bit v 1 then
    some (if x.busy then d.setUnit u { x with closePending := true, autoStep := if x.closePending then x.autoStep else none }
      else d.snCloseNow u d.step)
  else if bit v 0 then (if x.busy then none else some ((d.snSettle u).snLoad u))
  else none

/-- Whether a value sets no bit at or above the width in force (13 R402). -/
def Dev.snFits (d : Dev) (u v : Nat) : Bool := decide (v < 2 ^ (d.snSet u).width)

/-- Whether a write of an entry of unit `u` is permitted (13 R402, R415). -/
def Dev.snWriteOk (d : Dev) (u sub v : Nat) : Bool :=
  let idle := !(d.unit u).busy
  match sub with
  | 2 => idle && decide (bits v 9 3 ≤ 4) && decide (8 ≤ bits v 0 7) && decide (bits v 0 7 ≤ 64)
  | 3 => idle && d.snFits u v
  | 4 => idle && d.snFits u v
  | 5 => idle && d.snFits u v
  | 6 => idle && d.snFits u v
  | 7 => idle
  | 0xB => decide (v ≤ 1)
  | _ => true

/-- What a write of `SN_VALUE` or `SN_BYTES` sets besides its entry (13 R408). -/
def Dev.snContext (d : Dev) (u : Nat) : Dev := d.setUnit u { d.unit u with ctxWritten := true }

/-- A step boundary closes every unit with `SN_AUTO_CLOSE` 1, after the run in progress (13 R411). -/
def Dev.autoClose (d : Dev) (step : Nat) : Dev :=
  (below 8).foldl (fun d u =>
    if d.get (0x7400 + u) 0xB != 1 then d
    else
      let x := d.unit u
      if x.busy then (if x.closePending then d else d.setUnit u { x with closePending := true, autoStep := some step })
      else d.snCloseNow u step) d

/-- A descriptor's run begins, or waits until the unit's run has ended, with the close that follows it (13 R405, R409, R411). -/
def Dev.snBegin (d : Dev) (u id : Nat) (l : List (Byte × Bool)) : Dev :=
  let x := d.unit u
  if x.held then d.setUnit u { x with queue := x.queue ++ [⟨id, l⟩] }
  else d.setUnit u { x with run := some ⟨id, l⟩ }

/-- The unit folds the next `n` groups of 128 bytes of its run (13 R398, R399); `POISON_SEEN` is set as a poisoned byte is folded (13 R407).
At the end of the run it is free, and the next run begins unless a close comes first. -/
def Dev.snFold (d : Dev) (u n : Nat) : Dev :=
  let x := d.unit u
  match x.run with
  | none => d
  | some r =>
    let now := r.left.take (128 * n)
    let later := r.left.drop (128 * n)
    let v := crcFold (d.snSet u) (d.get (0x7400 + u) 6) (now.map (fun q => q.1))
    let d := (d.put (0x7400 + u) 6 v).put (0x7400 + u) 7 (d.get (0x7400 + u) 7 + now.length)
    let next := later.isEmpty && !x.closePending
    d.setUnit u { x with poisonSeen := x.poisonSeen || now.any (fun q => q.2)
                         run := if next then x.queue.head? else if later.isEmpty then none else some { r with left := later }
                         queue := if next then x.queue.tail else x.queue }

/-- Whether the units have a clock: FIO, or SIO once FIO has failed (13 R398; 17 R506). -/
def Dev.snClocked (d : Dev) : Bool := (d.source 1).ready || (d.source 1).failed

/-- SN_DEFERRED_CLOSE (13 R409, R411): the run is over and a close is pending. -/
def execSnDeferredClose (u : Fin 8) (s : State) : Host.Outcome State Fault Refusal :=
  run s (fun _ d => d.snSettle u)

/-- SNIFFER_RUN (13 R398, R405): a unit folds groups of the run of descriptor `id`; it holds its place while FIO is not ready. -/
def execSnifferRun (id groups : Nat) (s : State) : Host.Outcome State Fault Refusal :=
  run s (fun _ d =>
    match (below 8).find? (fun u => match (d.unit u).run with
        | some r => r.id == id
        | none => false) with
    | some u => if d.snClocked then d.snFold u groups else d
    | none => d)

/-- On entry to READY from STANDBY or reset every unit returns to its reset values (13 R414). -/
def Dev.snReset (d : Dev) : Dev :=
  { d with sniff := [], od := d.od.filter (fun e => !(decide (0x7400 ≤ e.1 / 256) && decide (e.1 / 256 ≤ 0x7407))) }

end Sys2Proof.Machine
end

