-- ==== Sys2Proof/Machine/Power.lean ====
section
/-! DEFINITION. Power states, rails, the Heel loop, sensors and the protective halt (16), and memory at the entry to READY
(09 R268, R270). -/

namespace Sys2Proof.Machine

/-- The device changes power state, with its Trail entry (12 R390, kind 6). -/
def Dev.setPstate (d : Dev) (p : PState) : Dev :=
  let old := d.power.pstate
  let d := { d with power := { d.power with pstate := p } }
  d.note 6 p.code old.code

/-- Turn rails on or off. -/
def Dev.rails (d : Dev) (l : List Nat) (on : Bool) : Dev :=
  { d with power := { d.power with
      railsOn := l.foldl (fun m r => sset (fun _ => false) m r on) d.power.railsOn
      railsAt := if on then l.foldl (fun m r => sset (fun _ => 0) m r d.now) d.power.railsAt else d.power.railsAt } }

/-- Whether a rail is powered: rails 12 to 14 always (16 R485). -/
def Dev.railOn (d : Dev) (r : Nat) : Bool :=
  (decide (12 ≤ r) && decide (r ≤ 14)) || sget (fun _ => false) d.power.railsOn r

/-- Whether a rail counts as powered for the window check: from 2 ms after its enable rose, and a VCORE rail not in the 20 μs after a write
of its target (20 R582). -/
def Dev.railChecked (d : Dev) (r : Nat) : Bool :=
  (decide (12 ≤ r) && decide (r ≤ 14))
    || (sget (fun _ => false) d.power.railsOn r && decide (sget (fun _ => 0) d.power.railsAt r + 2000000 ≤ d.now)
      && (decide (4 ≤ r) || decide (d.power.coreAt + 20000 ≤ d.now)))

/-- The level of PROTECT_N: low in PROTECT and while the power-on detector holds reset (20 R574). -/
def Dev.protectN (d : Dev) : Bool := d.power.pstate != .protect && !d.pins.detector

/-- The rails of HOLD: 15, 7, 8, 4, 5, 6, 9, 10, 11 (20 R584), and the four core rails. -/
def holdRails : List Nat := [15, 7, 8, 4, 5, 6, 9, 10, 11]
def coreRails : List Nat := [0, 1, 2, 3]

/-- The same target goes to rails 0 to 3 in rail order (16 R487). -/
def Dev.writeCore (d : Dev) (mv : Nat) : Dev :=
  let d := coreRails.foldl (fun d r => d.emit (.avsVoltage r mv)) d
  { d.put 0x2010 6 mv with power := { d.power with v := mv, coreAt := d.now } }

/-- A lifetime counter: it stops at its largest value, and the event is raised once then (19 R569). -/
def Dev.life (d : Dev) (sub w n : Nat) : Dev :=
  let old := d.get 0xA010 sub
  let d := d.addSat 0xA010 sub w n
  if old != 2 ^ w - 1 && d.get 0xA010 sub == 2 ^ w - 1 then d.raise 0x0F08 sub 0 else d

/-- The lifetime counters, by sub-index (15 R479). -/
def Dev.lifeCounters (d : Dev) : List Nat := (upFrom 1 10).map (d.get 0xA010)

/-- A lifetime record is written (19 R570); `FLASH_ERASES_MAX` is the larger rotation count of the ledger and the lifetime area
(19 R569). -/
def Dev.writeLife (d : Dev) : Dev :=
  let seq := match d.store.life with
    | some l => (l.seq + 1) % 2 ^ 32
    | none => 0
  let rot := max ((d.store.erases + 1023) / 1024) (seq / 4096 + 1)
  let d := if d.get 0xA010 8 < rot then d.life 8 32 (rot - d.get 0xA010 8) else d
  let r : LifeRec := ⟨seq, d.lifeCounters, [d.store.onRem, d.store.runRem, d.store.hotRem, d.store.energyRem], d.get 0xA000 1,
    d.store.retired⟩
  { d with store := { d.store with life := some r, lifeOld := (d.store.life.toList ++ d.store.lifeOld).take 4095, lastLife := d.now } }

/-! ## The protective halt (16 R498, R499) -/

/-- Enter PROTECT for a cause: 0x4C04, the Howl, compute stopped, ports DISABLED, rails off, PSTATE 4, 0x0C01. A rail cause within
10 μs of a thermal one is the one recorded. -/
def Dev.enterProtect (d : Dev) (cause arg : Nat) : Dev :=
  if d.power.pstate = .protect then
    (if cause = 2 ∧ d.get 0x2000 4 = 1 ∧ d.now ≤ d.power.protectAt + 10000 then d.put 0x2000 4 2 else d)
  else
    let old := d.power.pstate
    let d := d.put 0x2000 4 cause
    let d := (d.raiseFatal 0x4C04 cause arg 4).trigger 6
    let d := d.rails ([0, 1, 2, 3, 4, 5, 6, 7, 8, 9, 10, 11, 15]) false
    let d := d.setPstate .protect
    let d := (d.put 0x2010 4 0).put 0x2010 6 0
    let d := { d with power := { d.power with target := none, wasReady := false, protectAt := d.now, v := 0, throttle := 0 } }
    ((d.raise 0x0C01 4 old.code).life 5 32 1).writeLife

/-! ## The chain (16 R480-R484) -/

/-- The next state towards a target on the chain STANDBY - HOLD - READY - RUN. -/
def PState.towards (p target : PState) : PState :=
  if p = target then p
  else if p.code < target.code then
    (match p with
     | .standby => .hold
     | .hold => .ready
     | _ => .run)
  else
    (match p with
     | .run => .ready
     | .ready => .hold
     | _ => .standby)

/-- The channels that `KENNEL_CHANNELS` expects (09 R267, R268). -/
def kennelSet (n : Nat) : List Nat :=
  if n = 16 then below 16 else if n = 8 then [0, 1, 2, 3, 8, 9, 10, 11] else []

/-- The module of a channel; none fitted beyond the list. -/
def moduleAt (l : List KModule) (k : Nat) : KModule := (l[k]?).getD ⟨false, 0, 0, 0, false, false, 0, 0, 0⟩

/-- Whether a module is one of the options of 09 R267, but for its rate. -/
def moduleSupported (m : KModule) : Bool :=
  m.mrdimm && m.ecc && [64, 128, 256].contains m.gb && m.dramWidth == 4 && m.subWidth == 40 && m.count == 1

/-- Whether two modules are of one identity: capacity and organisation (09 R267, R268). -/
def moduleSame (a b : KModule) : Bool := a.ident == b.ident && a.gb == b.gb

/-- The Kennel check and training at an entry to READY from STANDBY or reset (09 R267, R268; 17 R509). A channel is in the map as 09 R268 lists
it; a module that R267 does not support meets the third condition, which may leave the map empty (DEDUCED, log entry 164). -/
def Dev.trainKennel (d : Dev) (env : StepEnv) : Dev :=
  let n := d.get 0x4010 1
  let want := kennelSet n
  let m := moduleAt env.modules
  let fitted := (below 16).filter (fun k => (m k).fitted)
  let first := (fitted.head?).getD 0
  let popBad := (below 16).filter (fun k => (m k).fitted != want.contains k)
  let rateBad := fitted.filter (fun k => (m k).rate != d.get 0x4010 2)
  let identBad := fitted.filter (fun k => !moduleSame (m k) (m first))
  let unsupported := fitted.any (fun k => !moduleSupported (m k))
  let bad := (below 16).filter (fun k => popBad.contains k || rateBad.contains k || identBad.contains k)
  let cond := if !popBad.isEmpty then 1 else if !rateBad.isEmpty then 2 else 3
  let freq := d.get 0x4010 2 * 125
  let d := (d.put 0x2131 7 freq).put 0x2131 8 freq
  let gb := if n = 0 then 0 else (m first).gb
  let d := (d.put 0x4010 3 gb).put 0x4010 4 (n * gb * 1000000000)
  let d := { d with power := { d.power with trained := n } }
  let d := if bad.isEmpty && !unsupported then d else d.memFailed 37 (bad.foldl (fun v k => v + 2 ^ k) 0 + cond * 65536)
  want.foldl (fun d k => if env.kennelFail.contains k then d.memFailed (16 + k) 0 else d) d

/-- Memory, tiles, the scale records at the default base, tensor epochs and Sniffer units at an entry to READY from STANDBY or reset (09 R270, 11 R364,
13 R414). -/
def Dev.zeroMemory (d : Dev) : Dev :=
  ({ d with mem := ⟨[], []⟩, flaws := [], cmp := { d.cmp with acc := [], tiles := [], fresh := [] }, eng := { d.eng with epochs := [] } } : Dev).snReset

/-- The VoutTransRate of 5 mV/μs written to each VCORE rail at an entry to READY (16 R487). -/
def Dev.writeTransRate (d : Dev) : Dev := coreRails.foldl (fun d r => d.emit (.avsTransRate r)) d

/-- What the device does in one step of the chain (16 R481, R487). -/
def Dev.chainStep (d : Dev) (old new : PState) (env : StepEnv) : Dev :=
  match old, new with
  | .standby, .hold =>
    let d := d.rails holdRails true
    let d := env.nearFail.foldl (fun d k => if k < 16 then d.memFailed k 0 else d) d.startPorts
    { d with power := { d.power with wasReady := false } }
  | .hold, .ready =>
    let d := (d.writeTransRate.writeCore 550).rails coreRails true
    if d.power.wasReady then d
    else
      let d := (d.trainKennel env).zeroMemory
      { d with power := { d.power with wasReady := true } }
  | .ready, .run =>
    let d := d.put 0x2010 5 0
    { d with power := { d.power with lastPeriod := d.now, throttle := 0, coolSince := none } }
  | .run, .ready => d.endFatalSteps.writeTransRate.writeCore 550
  | .ready, .hold =>
    let d := ((d.rails coreRails false).put 0x2010 4 0).put 0x2010 6 0
    if (d.domain 8).stoppedAt.isSome || (d.domain 9).stoppedAt.isSome then { d with power := { d.power with wasReady := false } } else d
  | .hold, .standby =>
    let d := d.parkPorts.rails holdRails false
    let d := (upFrom 16 8).foldl (fun d k => d.setSource k { d.source k with ready := false }) d
    { d with power := { d.power with wasReady := false } }
  | _, _ => d

/-- PSTATE_STEP_COMPLETE (16 R480, R481): no step of the chain is under way in PROTECT (16 R502). -/
def execPstateStepComplete (env : StepEnv) (s : State) : Host.Outcome State Fault Refusal :=
  run s (fun _ d =>
    match (if d.power.pstate = .protect then none else d.power.target) with
    | none => d
    | some t =>
      let old := d.power.pstate
      let new := old.towards t
      let d := (d.chainStep old new env).setPstate new
      let d := { d with power := { d.power with target := if new = t then none else some t } }
      (d.raise 0x0C01 new.code old.code).resumeReplays.pumpAll)

/-! ## The Heel loop (16 R489-R493) -/

/-- The voltage and the cause of a period before throttling: 1 `VCORE_LIMIT`, 2 `POWER_CAP`, 3 thermal, 0 none (16 R491). -/
def heelStep (v p w target limit cap : Nat) (hot : Bool) : Nat × Nat :=
  let r :=
    if cap < w ∨ hot then (v - 10, if cap < w then 2 else 3)
    else if p < target then (if v + 5 ≤ limit then (v + 5, 0) else (v, 1))
    else if target * 101 ≤ p * 100 then (v - 5, 0)
    else (v, 0)
  (max 550 (min r.1 limit), r.2)

/-- The throttle of a period: sixteenths held, when `v`, the voltage before it, has reached 550 mV, or while the voltage is held after an
AVSBus fault (16 R488, R493, R502). -/
def Dev.throttleStep (d : Dev) (w v : Nat) : Dev :=
  let cap := d.get 0x2010 3
  let t := d.power.throttle
  if (v ≤ 550 ∨ d.power.avsHeld) ∧ cap < w then
    let d := { d with power := { d.power with throttle := min 15 (t + 1), coolSince := none
                                              throttleAt := if t = 0 then d.now else d.power.throttleAt } }
    if t = 0 then d.oncePerSecond (0x0C05 * 64) (fun d => d.raise 0x0C05 0 0) else d
  else if 0 < t ∧ w * 100 < cap * 95 then
    match d.power.coolSince with
    | none => { d with power := { d.power with coolSince := some d.now } }
    | some c => if c + 1000000 ≤ d.now then { d with power := { d.power with throttle := t - 1 } } else d
  else { d with power := { d.power with coolSince := none } }

/-- The measurements of a period: package power and the rails in every state, the pace in READY and RUN (16 R489, R490). -/
def Dev.measurePower (d : Dev) (pace power : Nat) (rails : List (Nat × Nat)) : Dev :=
  let d := d.put 0x2010 7 power
  let d := if d.power.pstate == .ready || d.power.pstate == .run then d.put 0x2010 4 pace else d
  let d := (below 16).foldl (fun d r => match rails[r]? with
    | some (mv, ma) => (d.put 0x2040 (r + 1) mv).put 0x2041 (r + 1) ma
    | none => d) d
  { d with power := { d.power with lastPeriod := d.now } }

/-- The loop's part of a period, in RUN (16 R491-R493). -/
def Dev.heelLoop (d : Dev) (pace power : Nat) : Dev :=
  let target := d.get 0x2010 1
  let res := heelStep d.power.v pace power target (d.get 0x2010 2) (d.get 0x2010 3) d.power.warn
  let v := d.power.v
  let d := if d.power.avsHeld ∨ res.1 = v then d else d.writeCore res.1
  let d := d.throttleStep power v
  let cause := if 0 < d.power.throttle then 2 else res.2
  let short := if 0 < d.power.throttle ∨ (pace < target ∧ cause ≠ 0) then 1 else 0
  let was := d.get 0x2010 5
  let d := d.put 0x2010 5 short
  if was = 0 ∧ short = 1 then d.oncePerSecond (0x0C02 * 64) (fun d => d.raise 0x0C02 cause pace) else d

/-- HEEL_PERIOD (16 R487-R493): pace, package power, and (mV, mA) of each rail as measured, every 100 μs. -/
def execHeelPeriod (pace power : Nat) (rails : List (Nat × Nat)) (s : State) : Host.Outcome State Fault Refusal :=
  run s (fun _ d =>
    if d.now < d.power.lastPeriod + 100000 then d
    else
      let d := d.measurePower pace power rails
      if d.power.pstate = .run then d.heelLoop pace power else d)

/-- AVSBUS_FAULT (16 R488): all attempts of a transaction failed. -/
def execAvsbusFault (rail : Fin 4) (command : BitVec 8) (s : State) : Host.Outcome State Fault Refusal :=
  run s (fun _ d =>
    let raised := sget (fun _ => false) d.power.avsRaised rail
    let d := { d with power := { d.power with avsHeld := true, avsRetryAt := d.now + 1000000
                                              avsRaised := sset (fun _ => false) d.power.avsRaised rail true } }
    if raised then d else d.raise 0x2C06 rail command.toNat)

/-- AVSBUS_RETRY (16 R488): the 1 ms retry on a rail, answered or not; the voltage is held while a rail is left that has not answered. -/
def execAvsbusRetry (rail : Fin 4) (answered : Bool) (s : State) : Host.Outcome State Fault Refusal :=
  run s (fun _ d =>
    if !d.power.avsHeld ∨ d.now < d.power.avsRetryAt then d
    else if answered then
      let left := sset (fun _ => false) d.power.avsRaised rail false
      { d with power := { d.power with avsHeld := coreRails.any (sget (fun _ => false) left), avsRaised := left } }
    else { d with power := { d.power with avsRetryAt := d.now + 1000000 } })

/-! ## Sensors (16 R495-R498) -/

def Dev.sensor (d : Dev) (n : Nat) : Sensor := sget (fun _ => Sensor.init) d.power.sensors n
def Dev.setSensor (d : Dev) (n : Nat) (x : Sensor) : Dev :=
  { d with power := { d.power with sensors := sset (fun _ => Sensor.init) d.power.sensors n x } }

/-- The first sensor and the number of sensors of a sensor's die (16 R495). -/
def dieOf (n : Nat) : Nat × Nat := if n < 96 then (n / 24 * 24, 24) else (96 + (n - 96) / 16 * 16, 16)

/-- A working sensor's reading, in tenths of a degree; none for a failed sensor. -/
def Dev.tenths (d : Dev) (n : Nat) : Option Int := if (d.sensor n).failed then none else some (d.getInt 0x2030 (n + 1) 16)

/-- Whether every working sensor reads below `TJ_WARN` - 5 °C. -/
def Dev.cool (d : Dev) : Bool :=
  (below 128).all (fun n => match d.tenths n with
    | some t => decide (t < ((d.get 0x2020 2 : Nat) : Int) * 10 - 50)
    | none => true)

/-- A sensor fails (16 R497). -/
def Dev.failSensor (d : Dev) (n : Nat) : Dev :=
  let d := (d.put 0x2030 (n + 1) 32767).setSensor n { d.sensor n with failed := true, hits := 0 }
  let d := d.raise 0x2C07 n 0
  if (upFrom (dieOf n).1 (dieOf n).2).all (fun k => (d.sensor k).failed) then d.enterProtect 1 n else d

/-- The warn condition after a conversion of sensor `n` (16 R496). -/
def Dev.warnStep (d : Dev) (n : Nat) (t : Int) : Dev :=
  let lim : Int := ((d.get 0x2020 2 : Nat) : Int) * 10
  if d.power.warn then
    (if d.cool then { d with power := { d.power with warn := false } } else d)
  else if lim ≤ t then
    let d := { d with power := { d.power with warn := true } }
    d.raise 0x0C03 n (unsgn 16 t)
  else d

/-- SENSOR_CONVERSION (16 R495-R498). -/
def execSensorConversion (n : Fin 128) (t : Int) (s : State) : Host.Outcome State Fault Refusal :=
  run s (fun _ d =>
    let x := d.sensor n
    if x.failed then d
    else if t < -400 ∨ 1500 < t then d.failSensor n
    else
      let hits := if 1150 ≤ t then x.hits + 1 else 0
      let d := (d.putInt 0x2030 (n + 1) 16 t).setSensor n { x with hits := hits, last := d.now }
      let d := if d.getInt 0x2020 3 16 < t then d.putInt 0x2020 3 16 t else d
      let d := d.warnStep n t
      if 2 ≤ hits then d.enterProtect 1 n else d)

/-- SENSOR_FAILED (16 R497): no conversion for 1 ms, counted from the reset at the earliest. -/
def execSensorFailed (n : Fin 128) (s : State) : Host.Outcome State Fault Refusal :=
  run s (fun _ d =>
    let x := d.sensor n
    if !x.failed ∧ max x.last d.power.sensorsAt + 1000000 ≤ d.now then d.failSensor n else d)

/-- RAIL_OUT_OF_WINDOW (16 R498, 20 R582): a powered rail. -/
def execRailOutOfWindow (rail : Fin 16) (s : State) : Host.Outcome State Fault Refusal :=
  run s (fun _ d => if d.railChecked rail then d.enterProtect 2 rail else d)

/-- VR_FAULT_ASSERTED (20 R581). -/
def execVrFaultAsserted (s : State) : Host.Outcome State Fault Refusal :=
  run s (fun _ d =>
    let d := { d with pins := { d.pins with vrFault := true, vrAsserted := true, vrDeassertAt := d.now } }
    d.enterProtect 2 0)

/-- VR_FAULT_LATCH_CLEAR (20 R581): deasserted without a break for 100 ms in PROTECT. -/
def execVrFaultLatchClear (s : State) : Host.Outcome State Fault Refusal :=
  run s (fun _ d =>
    if d.power.pstate = .protect ∧ d.pins.vrDeassertAt + 100000000 ≤ d.now ∧ d.power.protectAt + 100000000 ≤ d.now then
      { d with pins := { d.pins with vrFault := false, vrAsserted := false } }
    else d)

/-- The cause of PROTECT has cleared (16 R500). -/
def Dev.causeCleared (d : Dev) : Bool := d.cool && !d.pins.vrFault && !d.pins.vrAsserted

end Sys2Proof.Machine
end

