-- ==== Sys2Proof/Machine/Clocks.lean ====
section
/-! DEFINITION. Clock sources, loops and domains (17): readiness, trips, fallback, switching, relocking, trimming, and what the
stop of a domain does to its unit. -/

namespace Sys2Proof.Machine

/-! ## Sources -/

/-- Whether the present power state powers a source: LP0 to LP7 in HOLD, READY and RUN only (17 R505). -/
def Dev.sourcePowered (d : Dev) (n : Nat) : Bool := !(decide (16 ≤ n) && decide (n ≤ 23)) || d.fabricOn

/-- The sources of 17 R504. -/
def isSource (n : Nat) : Bool := decide (n ≤ 4) || (decide (16 ≤ n) && decide (n ≤ 27))

/-- A bit of `SOURCE_READY` (17 R504, R505). -/
def Dev.sourceReady (d : Dev) (n : Nat) : Bool := isSource n && (d.source n).ready && d.sourcePowered n

/-- `SOURCE_READY`. -/
def Dev.sourcesReady (d : Dev) : Nat := (below 32).foldl (fun v n => v + b2n (d.sourceReady n) * 2 ^ n) 0

/-- `LP_REF` of a loop. -/
def Dev.loopRef (d : Dev) (k : Nat) : Nat := d.get 0x2130 (k + 1)

/-- The accepted values of `LP_REF` and `LP_FREQ` (17 R508). -/
def loopRefOk (k v : Nat) : Bool := v == 2 || v == 3 || (v == 1 && decide (10 ≤ k))
def loopFreqOk (k v : Nat) : Bool :=
  if k < 6 then decide (1562500 ≤ v) && decide (v ≤ 1650000)
  else if k < 8 then v == 1100000 || v == 1600000
  else if k = 8 then v == 1000000
  else if k = 9 then v == 390625
  else if k = 10 then decide (50000 ≤ v) && decide (v ≤ 200000)
  else v == 50000

/-! ## Domains -/

/-- The chain of a domain (17 R511). -/
def domainChain (k : Nat) : List Nat :=
  if k = 1 then [4]
  else if k ≤ 7 then [k + 14]
  else if k = 8 then [22]
  else if k = 9 then [23]
  else if k = 0xA then [24, 1]
  else if k = 0xB then [1, 2, 0]
  else if k = 0xC then [25]
  else if k = 0xD then [26, 1, 0]
  else [27, 1, 0]

/-- The domains, by sub-index. -/
def domainList : List Nat := upFrom 1 14

/-- `DOMAIN_STATUS` (15 R471). -/
def Domain.status (x : Domain) : Nat := b2n x.hold * 1024 + b2n x.forced * 512 + b2n x.fallback * 256 + bits x.source 0 5

/-- Whether a domain's clock is stopped. -/
def Domain.stopped (x : Domain) : Bool := x.hold || x.parked

/-- The PCI Express link goes down other than by reset (14 R424). -/
def Dev.pcieDrop (d : Dev) : Dev :=
  if d.host.linkUp then { d with host := { d.host with linkUp := false } }.raise 0x2B05 0 0 else d

/-- The management link changes to a rate in Gb/s, 0 for none (14 R436); a port that has lost its link tries 25GBASE-R first. -/
def Dev.mgmtLink (d : Dev) (rate : Nat) : Dev :=
  if d.get 0x1200 9 = rate then d
  else
    let d := if rate = 0 then { d with mgmt := { d.mgmt with alternate := false, trySince := d.now } } else d
    (d.put 0x1200 9 rate).raise 0x0B04 rate 0

/-- A Gykai port's link layer stops (17 R510, R518; 10 R319). -/
def Dev.portStops (d : Dev) (p : Nat) : Dev := if d.listens p then d.enterRetrain p else d

/-- The requests that Shepherd was executing end with `BUSY`, those of the management port without an answer: here the ACQUIREs that
await arbitration (17 R518). -/
def Dev.dropClaims (d : Dev) : Dev :=
  let l := d.leashes.flatMap (fun e => e.2.claims)
  let d := (below 32).foldl (fun (d : Dev) n => d.setLeash n { d.leash n with claims := [] }) d
  l.foldl (fun d c => if c.owner = .pcie then d.answer c.route false 9 4 0 else d) d

/-- The transactions of a domain are lost (17 R518). -/
def Dev.domainLoss (d : Dev) (k : Nat) : Dev :=
  if k = 1 then d.pcieDrop
  else if k = 0xB then d.dropClaims
  else if k = 0xC then d.mgmtLink 0
  else d

/-- A domain's clock stops with its outputs parked: a port retrains, HT is held, a Kennel domain starts the interval of 17 R516 and
in HOLD makes the next entry to READY one from STANDBY. -/
def Dev.domainStops (d : Dev) (k : Nat) : Dev :=
  let x := d.domain k
  let d := d.setDomain k { x with stoppedAt := some (x.stoppedAt.getD d.now) }
  if 2 ≤ k ∧ k ≤ 7 then d.portStops (k - 2)
  else if k = 8 ∨ k = 9 then
    (if d.power.pstate = .hold then { d with power := { d.power with wasReady := false } } else d)
  else if k = 0xA then { d with tb := { d.tb with running := false } }
  else d

/-- A domain's clock runs again. The time base enters ACQUIRE, or HOLDOVER on FIO (17 R519). -/
def Dev.domainRuns (d : Dev) (k : Nat) : Dev :=
  let x := d.domain k
  let d := d.setDomain k { x with stoppedAt := none }
  if k = 0xA then
    let d := { d with tb := { d.tb with running := true } }
    if x.source = 1 then d.learnRate.holdover else d.acquire
  else d

/-- The domain runs from a source from now on, with the Trail entry of the switch (17 R513-R515; 12 R390, kind 7). -/
def Dev.runFrom (d : Dev) (k src : Nat) (forced : Bool) : Dev :=
  let x := d.domain k
  let d := d.setDomain k { x with source := src, hold := false, parked := false, stopTrip := false, switchTo := none
                                  forced := x.forced || forced }
  let d := if forced then (d.addSat 0x2140 4 32 1).raise 0x2D03 k src else d
  let d := d.note 7 (k * 256 + src) (b2n forced)
  if x.stopped || k == 0xA then d.domainRuns k else d

/-- The next member of a domain's chain after a source that has not failed; `own` where there is none (17 R515, step 2). -/
def Dev.nextMember (d : Dev) (k after own : Nat) : Nat :=
  let c := domainChain k
  match ((c.drop (c.findIdx (· == after) + 1)).find? (fun s => !(d.source s).failed)) with
  | some s => s
  | none => own

/-- The domain runs from its fallback, which is ready (17 R515, steps 3 and 5). -/
def Dev.toFallback (d : Dev) (k src : Nat) : Dev :=
  let x := d.domain k
  let d := d.runFrom k src x.stopTrip
  d.setDomain k { d.domain k with fallback := x.fallback || src != x.prior }

/-- A domain in HOLD_CLOCK awaits a source, or runs from it when it is ready (17 R515, step 5). -/
def Dev.await (d : Dev) (k src : Nat) : Dev :=
  if d.sourceReady src then (d.toFallback k src).raise 0x0D04 k src
  else d.setDomain k { d.domain k with awaited := src }

/-- The trip of its source reaches a domain (17 R515, R523). -/
def Dev.domainTrip (d : Dev) (k src : Nat) (stop : Bool) : Dev :=
  let x := d.domain k
  match x.switchTo with
  | some t => (if stop then d.domainLoss k else d).runFrom k t stop
  | none =>
    let d := if stop then d.domainLoss k else d
    let d := d.setDomain k { x with prior := src, stopTrip := stop }
    let f := d.nextMember k src src
    if d.sourceReady f then (if 2 ≤ k ∧ k ≤ 7 then d.portStops (k - 2) else d).toFallback k f
    else
      let d := (d.setDomain k { d.domain k with hold := true, awaited := f }).domainStops k
      d.raise 0x2D02 k f

/-- Every domain that a trip of `src` reaches: those that run from it, those that await it, and a switch to it (17 R515, R523). -/
def Dev.tripDomains (d : Dev) (src : Nat) (stop : Bool) : Dev :=
  domainList.foldl (fun d k =>
    let x := d.domain k
    if x.hold then (if x.awaited = src ∧ src ≠ x.prior then d.await k (d.nextMember k src x.prior) else d)
    else if x.switchTo = some src then (d.runFrom k src true).domainTrip k src stop
    else if x.source = src ∧ !x.parked then d.domainTrip k src stop
    else d) d

/-- One source trips (17 R506, R515, R522). -/
def Dev.trip (d : Dev) (src : Nat) (stop : Bool) : Dev :=
  let d := d.setSource src { d.source src with ready := false, startAt := d.now }
  let d := if src = 1 then { d with clocks := { d.clocks with trim := 0 } } else d
  let d := (d.addSat 0x2140 3 32 1).raise 0x2D01 0 src
  d.tripDomains src stop

/-- The ready loops that a source feeds lose lock, which trips them (17 R517). -/
def Dev.tripLoops (d : Dev) (src : Nat) : Dev :=
  (below 12).foldl (fun d k => if d.loopRef k = src ∧ d.sourceReady (16 + k) then d.trip (16 + k) false else d) d

/-- A trip of XTB puts every Gykai port into RETRAIN and drops the management link (17 R507). -/
def Dev.laneReference (d : Dev) (src : Nat) : Dev :=
  if src = 3 then ((below 6).foldl (fun d p => d.portStops p) d).mgmtLink 0 else d

/-- A source becomes ready: the loops it feeds start, the domains that await it or are parked on it run (17 R506, R510, R515). -/
def Dev.becomesReady (d : Dev) (n : Nat) : Dev :=
  let d := d.setSource n { d.source n with ready := true }
  let d := (below 12).foldl (fun d k =>
    if d.loopRef k = n ∧ !(d.source (16 + k)).ready then d.setSource (16 + k) { d.source (16 + k) with startAt := d.now } else d) d
  domainList.foldl (fun d k =>
    let x := d.domain k
    if x.hold && x.awaited == n then d.await k n
    else if x.parked && x.source == n then (d.setDomain k { x with parked := false }).domainRuns k
    else d) d

/-- The start-up limit of an oscillator in nanoseconds (17 R504); REFCLK and the loops have none that fails them. -/
def startLimit (n : Nat) : Option Nat :=
  if n = 1 then some 20000 else if n = 2 ∨ n = 3 then some 10000000 else none

/-! ## Writes -/

/-- An accepted write of `DOMAIN_SOURCE`; none when refused (15 R472; 17 R511, R513, R523). A domain whose source gives edges
switches at once; another waits for the forced switch. -/
def Dev.domainWrite (d : Dev) (k v : Nat) : Option Dev :=
  let x := d.domain k
  if !isSource v || !(domainChain k).contains v then none
  else if !x.stopped && x.source == v && x.switchTo.isNone then
    some ((d.put 0x2100 k v).setDomain k { x with forced := false })
  else if !d.sourceReady v then none
  else
    let d := (d.put 0x2100 k v).setDomain k { x with forced := false, fallback := false }
    if x.hold || d.sourceReady x.source then some (d.runFrom k v false)
    else some (d.setDomain k { d.domain k with switchTo := some v, switchAt := d.now })

/-- CLK_FORCED_SWITCH (17 R514): no edge of the old source within 64 SIO cycles, 51 μs at the least. -/
def execClkForcedSwitch (domain : Fin 14) (s : State) : Host.Outcome State Fault Refusal :=
  run s (fun _ d =>
    let k := domain.val + 1
    let x := d.domain k
    match x.switchTo with
    | some v =>
      if x.switchAt + 51200 ≤ d.now then
        let d := d.domainLoss k
        (if 2 ≤ k ∧ k ≤ 7 then d.portStops (k - 2) else d).runFrom k v true
      else d
    | none => d)

/-- An accepted write of `LP_REF` or `LP_FREQ` relocks the loop (17 R510). -/
def Dev.relock (d : Dev) (k : Nat) : Dev :=
  let d := d.setSource (16 + k) { d.source (16 + k) with ready := false, startAt := d.now }
  domainList.foldl (fun d j =>
    let x := d.domain j
    if x.source = 16 + k ∧ !x.hold then (d.setDomain j { x with parked := true }).domainStops j else d) d

/-- KENNEL_CLOCK_STOP_TIMEOUT (17 R516): a Kennel domain stopped for more than 1 ms in READY or RUN. -/
def execKennelClockStopTimeout (half : Fin 2) (s : State) : Host.Outcome State Fault Refusal :=
  run s (fun _ d =>
    let k := 8 + half.val
    let x := d.domain k
    match x.stoppedAt with
    | some t =>
      if (d.power.pstate == .ready || d.power.pstate == .run) && decide (t + 1000000 < d.now) && d.power.trained != 0 then
        (d.setDomain k { x with stoppedAt := none }).memFailed (16 + 8 * half) 0
      else d
    | none => d)

/-- Whether the reference that `FIO_TRIM_REF` selects is usable (17 R521). -/
def Dev.trimUsable (d : Dev) : Bool :=
  let r := d.get 0x2140 1
  if r = 1 then d.sourceReady 2
  else r == 2 && d.timeState == 2 && (d.domain 0xA).source == 24 && !(d.domain 0xA).stopped

/-- FIO_TRIM (17 R521, R522): one measurement, in ppb. The trim code moves one step when the error is above half a step. -/
def execFioTrim (errorPpb : Int) (s : State) : Host.Outcome State Fault Refusal :=
  run s (fun _ d =>
    if d.now < d.clocks.lastTrim + 50000000 then d
    else
      let d := { d with clocks := { d.clocks with lastTrim := d.now } }
      let r := d.get 0x2140 1
      if d.trimUsable then
        let move : Int := if 100000 < errorPpb then -1 else if errorPpb < -100000 then 1 else 0
        let d := { d with clocks := { d.clocks with trim := d.clocks.trim + move, trimUnusable := false } }
        d.putInt 0x2140 2 32 (max (-2147483648) (min 2147483647 errorPpb))
      else if r = 0 then { d with clocks := { d.clocks with trimUnusable := false } }
      else if d.clocks.trimUnusable then d
      else { d with clocks := { d.clocks with trimUnusable := true } }.raise 0x0D05 0 r)

end Sys2Proof.Machine
end

