-- ==== Sys2Proof/Machine/Security.lean ====
section
/-! DEFINITION. Images, the update path, anti-rollback, debug access and measurements (18 R525-R533, R539-R545). -/

namespace Sys2Proof.Machine

/-- A digest as 48 bytes in their natural order. -/
def digestBytes (h : BitVec 384) : List Byte := (toBytes 48 h.toNat).reverse

/-- The bytes of a sparse byte table from `a`, `n` of them, erased bytes 0xFF. -/
def flashRead (m : SMap Byte) (a : Nat) : Nat → List Byte
  | 0 => []
  | n + 1 => sget (fun _ => 0xFF#8) m a :: flashRead m (a + 1) n

/-- Bytes programmed from `a` upwards. -/
def flashWrite (m : SMap Byte) (a : Nat) : List Byte → SMap Byte
  | [] => m
  | b :: t => flashWrite (sset (fun _ => 0xFF#8) m a b) (a + 1) t

/-! ## Images (18 R527-R529) -/

def imHeader (m : SMap Byte) : Nat := ofBytes (flashRead m 0 256)
def imMagic (h : Nat) : Nat := bits h 0 32
def imHdrVersion (h : Nat) : Nat := bits h 32 16
def imDevice (h : Nat) : Nat := bits h 48 16
def imStepping (h : Nat) : Nat := bits h 64 8
def imSvn (h : Nat) : Nat := bits h 72 8
def imCertLen (h : Nat) : Nat := bits h 80 16
def imVersion (h : Nat) : Nat := bits h 96 32
def imBodyLen (h : Nat) : Nat := bits h 128 32

/-- A root public key passes (18 R525). -/
def rootPasses (key : List Byte) : Bool :=
  Config.sha384 key == Config.romRootHash && Config.sha384 key == Config.rootKeyHash

/-- A certificate verifies under a key and may sign (18 R528, R529). -/
def certPasses (key cert : List Byte) : Bool :=
  (match Config.certTbs cert with
   | some (tbs, sig) => Config.ecdsaVerify key tbs sig
   | none => false) && Config.certSigns cert

/-- Check 2: the header's own values. -/
def headerOk (h : Nat) : Bool :=
  imMagic h == 0x46584455 && imHdrVersion h == 1 && decide (1 ≤ imCertLen h) && decide (imCertLen h ≤ 3840)
    && decide (1 ≤ imBodyLen h) && decide (imBodyLen h ≤ 25161728) && bits h 896 384 == 0 && bits h 160 352 == 0

/-- The result code of the checks of 18 R529 on a slot's bytes, with the value of `ROLLBACK_COUNTER`. -/
def imageResult (m : SMap Byte) (fuse : Nat) : Nat :=
  let h := imHeader m
  let certs := flashRead m 256 (imCertLen h)
  let root := certs.take (Config.derLength certs)
  let signer := certs.drop (Config.derLength certs)
  if !headerOk h then 2
  else if !(imDevice h == 0x0D01 && imStepping h == 0xA1) then 3
  else
    match Config.certKey root with
    | none => 4
    | some rk =>
      if !rootPasses rk then 4
      else if !certPasses rk signer then 5
      else
        match Config.certKey signer with
        | none => 6
        | some sk =>
          if !Config.ecdsaVerify sk (flashRead m 0 160 ++ certs) (flashRead m 160 96) then 6
          else if digestBytes (Config.sha384 (flashRead m 4096 (imBodyLen h))) != flashRead m 64 48 then 7
          else if imSvn h < fuse then 8
          else 1

/-! ## Slots -/

def Dev.image (d : Dev) (slot : Nat) : SMap Byte := if slot = 0 then d.sec.imageA else d.sec.imageB
def Dev.setImage (d : Dev) (slot : Nat) (m : SMap Byte) : Dev :=
  { d with sec := if slot = 0 then { d.sec with imageA := m } else { d.sec with imageB := m } }
def Dev.trailer (d : Dev) (slot : Nat) : Trailer := if slot = 0 then d.sec.trailerA else d.sec.trailerB
def Dev.setTrailer (d : Dev) (slot : Nat) (t : Trailer) : Dev :=
  { d with sec := if slot = 0 then { d.sec with trailerA := t } else { d.sec with trailerB := t } }
/-- The slot that is not running. -/
def Dev.idleSlot (d : Dev) : Nat := 1 - d.sec.runSlot

/-! ## Measurements (18 R539) -/

/-- The content of a measurement block. -/
def Dev.measurement (d : Dev) (fuse i : Nat) : List Byte :=
  if i = 1 then digestBytes Config.romDigest
  else if i = 2 then digestBytes (Config.sha384 (d.sec.runHeader ++ d.sec.runBody))
  else if i = 3 then toBytes 4 d.sec.runVersion
  else if i = 4 then toBytes 1 d.sec.runSvn ++ toBytes 1 fuse
  else if i = 5 then toBytes 1 (b2n d.sec.unlocked + 2 * b2n d.sec.trial + 4 * b2n d.sec.recovery)
  else digestBytes (Config.sha384 (digestBytes Config.rootKeyHash ++ toBytes 2 d.straps ++ toBytes 1 (d.get 0x1200 8)))

/-- The ledger record of a measurement that has changed. -/
def Dev.measured (d : Dev) (fuse i : Nat) : Dev := d.ledger 4 (toBytes 1 i ++ d.measurement fuse i)

/-! ## Debug access (18 R543-R545) -/

/-- Every SPDM session ends. -/
def Dev.endSessions (d : Dev) : Dev := { d with sec := { d.sec with sessions := [] } }

/-- A new random `DEBUG_NONCE`. -/
def Dev.newNonce (d : Dev) : Dev :=
  let n := (Config.draw d.draws).toNat
  { d.draw with sec := { d.sec with nonce := n } }

/-- The bytes of the token buffer. -/
def Dev.tokenBytes (d : Dev) (a n : Nat) : List Byte := (upFrom a n).map (fun i => sget (fun _ => 0#8) d.sec.token i)

/-- The position in the list of 18 R545 of the first condition that the token fails, 0 when all hold. -/
def Dev.tokenFailure (d : Dev) : Nat :=
  let head := ofBytes (d.tokenBytes 0 24)
  let len := bits head 48 16
  let cert := d.tokenBytes 160 len
  if !(bits head 0 32 == 0x4B544455 && bits head 32 16 == 0x0D01 && ofBytes (d.tokenBytes 24 40) == 0) then 1
  else if bits head 64 64 != Config.serial.toNat then 2
  else if bits head 128 64 != d.sec.nonce then 3
  else if len = 0 ∨ 864 < len ∨ !rootPasses Config.rootKey ∨ !certPasses Config.rootKey cert then 4
  else
    match Config.certKey cert with
    | none => 5
    | some k => if Config.ecdsaVerify k (d.tokenBytes 0 64 ++ cert) (d.tokenBytes 64 96) then 0 else 5

/-- `DEBUG_CMD` 1 (15 R474, 18 R545). -/
def Dev.debugSubmit (d : Dev) (fuse : Nat) : Dev :=
  let f := d.tokenFailure
  let d := { d.put 0x8020 3 0 with sec := { d.sec with token := [] } }
  let d := d.newNonce
  if f = 0 then
    let d := { d with sec := { d.sec with unlocked := true } }
    ((d.endSessions).measured fuse 5).raise 0x0E01 0 0
  else d.raise 0x0E02 f 0

/-- `DEBUG_CMD` 2 (18 R543). -/
def Dev.debugLock (d : Dev) (fuse : Nat) : Dev :=
  let was := d.sec.unlocked
  let d := { d with sec := { d.sec with unlocked := false } }
  let d := d.endSessions
  if was then d.measured fuse 5 else d

/-- A write of `DEBUG_TOKEN_DATA`; none when refused (15 R474). -/
def Dev.tokenData (d : Dev) (v : Nat) : Option Dev :=
  let off := d.get 0x8020 3
  if 1024 < off + 32 then none
  else
    let m := (below 32).foldl (fun m i => sset (fun _ => 0#8) m (off + i) (BitVec.ofNat 8 (v >>> (8 * i)))) d.sec.token
    some { d.put 0x8020 3 (off + 32) with sec := { d.sec with token := m } }

/-! ## Updating firmware (18 R540, R541; 15 R478) -/

def Dev.updState (d : Dev) : Nat := d.get 0x9100 4

/-- Whether an update data write is answered `BUSY` (18 R541). -/
def Dev.updBusy (d : Dev) : Bool := d.sec.erasing || decide (1048576 < d.sec.staged + 32)

/-- A write of `FW_UPD_DATA` that is not `BUSY`; none when refused (15 R478, 18 R541). -/
def Dev.updData (d : Dev) (v : Nat) : Option Dev :=
  let off := d.get 0x9100 2
  let im := d.image d.idleSlot
  let h := imHeader im
  if d.updState ≠ 1 ∨ 25165824 < off + 32 ∨ 4096 + imBodyLen h < off + 32 then none
  else
    let d := (d.setImage d.idleSlot (flashWrite im off (toBytes 32 v))).put 0x9100 2 (off + 32)
    some { d with sec := { d.sec with staged := d.sec.staged + 32 } }

/-- `FW_UPD_CMD` 1 to 3; none when refused. ACTIVATE needs the lifetime record and stands with it (19 R570). -/
def Dev.updCommand (d : Dev) (v : Nat) : Option Dev :=
  let st := d.updState
  if v = 1 ∧ st ≠ 1 ∧ !d.sec.trial then
    let d := (d.setTrailer d.idleSlot Trailer.blank).setImage d.idleSlot []
    let d := ((d.put 0x9100 2 0).put 0x9100 5 0).put 0x9100 4 1
    some { d with sec := { d.sec with erasing := true, staged := 0, verifying := false } }
  else if v = 2 ∧ st = 1 ∧ 4096 ≤ d.get 0x9100 2 then
    some { d with sec := { d.sec with verifying := true } }
  else if v = 3 ∧ (st = 1 ∨ st = 2) then
    let d := ((d.setTrailer d.idleSlot Trailer.blank).put 0x9100 5 10).put 0x9100 4 3
    some { d with sec := { d.sec with verifying := false } }
  else none

/-- The update ends with a result code (18 R540, R541). -/
def Dev.updResult (d : Dev) (code : Nat) : Dev :=
  let d := { d with sec := { d.sec with verifying := false } }
  let d := (d.put 0x9100 5 code).put 0x9100 4 (if code = 1 then 2 else 3)
  if code = 1 then d else d.raise 0x0E05 code 0

/-- The flash offset of a slot (19 R549). -/
def slotOffset (slot : Nat) : Nat := if slot = 0 then 0x400000 else 0x2000000

/-- FW_VERIFY_COMPLETE (18 R529, R540; 19 R551). -/
def execFwVerifyComplete (flashOk : Bool) (s : State) : Host.Outcome State Fault Refusal :=
  run s (fun fuse d =>
    if !d.sec.verifying ∨ d.updState ≠ 1 then d
    else if flashOk then d.updResult (imageResult (d.image d.idleSlot) fuse)
    else (d.raise 0x2F07 (slotOffset d.idleSlot) 1).updResult 9)

/-- FW_UPD_FLASH_DONE (18 R541). -/
def execFwUpdFlashDone (job : FlashJob) (s : State) : Host.Outcome State Fault Refusal :=
  run s (fun _ d =>
    match job with
    | .erase => { d with sec := { d.sec with erasing := false } }
    | .staging => { d with sec := { d.sec with staged := 0 } })

/-- FIRMWARE_CONFIRM (18 R531). -/
def execFirmwareConfirm (s : State) : Host.Outcome State Fault Refusal :=
  run s (fun fuse d =>
    if !d.sec.trial || d.sec.recovery then d
    else
      let t := d.trailer d.sec.runSlot
      let d := d.setTrailer d.sec.runSlot { t with confirmed := true }
      let d := { d with sec := { d.sec with trial := false } }
      (d.put 0x8000 2 (setBits (d.get 0x8000 2) 5 1 0)).measured fuse 5)

/-! ## Anti-rollback (18 R542) -/

/-- Whether a write of `ROLLBACK_COMMIT` is accepted. -/
def Dev.rollbackOk (d : Dev) (v : Nat) : Bool := v == 1 && !d.sec.trial && !d.sec.unlocked && !d.sec.recovery

/-- The counter after an accepted commit: the running image's `SVN`, at most 96 steps, never fewer than are burnt. -/
def Dev.fuseAfter (d : Dev) (fuse : Nat) : Nat := max fuse (min 96 d.sec.runSvn)

/-- What an accepted commit does besides burning. -/
def Dev.rollback (d : Dev) (fuse : Nat) : Dev :=
  let f := d.fuseAfter fuse
  if fuse < f then (d.measured f 4).raise 0x0E06 f 0 else d

/-! ## The boot ROM's choice (18 R530, R531, R533) -/

/-- `BOOT_STATUS`. -/
def bootStatus (trial fallback okB okA recovery : Bool) : Nat :=
  32 * b2n trial + 16 * b2n fallback + 8 * b2n okB + 4 * b2n okA + b2n recovery

/-- A slot whose trial boots are used up loses its marker. -/
def Dev.giveUp (d : Dev) (slot : Nat) : Dev × Bool :=
  let t := d.trailer slot
  if t.marker && !t.confirmed && decide (3 ≤ t.trials) then (d.setTrailer slot { t with marker := false }, true) else (d, false)

/-- What the ROM finds: the result of each slot (0 where no marker is present). -/
def Dev.slotResult (d : Dev) (fuse slot : Nat) : Nat :=
  if (d.trailer slot).marker then imageResult (d.image slot) fuse else 0

/-- The slot of the highest version among those of a list; slot A on a tie. -/
def Dev.newest (d : Dev) (l : List Nat) : Option Nat :=
  match l with
  | [] => none
  | [a] => some a
  | a :: b :: _ => some (if imVersion (imHeader (d.image a)) < imVersion (imHeader (d.image b)) then b else a)

/-- The ROM runs a slot: its image's values, and one more unconfirmed boot on trial. -/
def Dev.runImage (d : Dev) (slot : Nat) : Dev :=
  let im := d.image slot
  let h := imHeader im
  let t := d.trailer slot
  let d := if t.confirmed then d else d.setTrailer slot { t with trials := t.trials + 1 }
  { d with sec := { d.sec with runSlot := slot, runVersion := imVersion h, runSvn := imSvn h, runHeader := flashRead im 0 256
                               runBody := flashRead im 4096 (imBodyLen h), trial := !t.confirmed, recovery := false } }

/-- No slot passes: recovery. -/
def Dev.recover (d : Dev) : Dev :=
  { d with sec := { d.sec with runSlot := 0, runVersion := 0, runSvn := 0, runHeader := [], runBody := [], trial := false
                               recovery := true } }

/-- The choice at a reset that runs the ROM; the slot given up, if any, with its result. -/
def Dev.boot (d : Dev) (fuse : Nat) : Dev × Option (Nat × Nat) :=
  let rA := d.slotResult fuse 0
  let rB := d.slotResult fuse 1
  let marked := (if rA = 0 then [] else [0]) ++ (if rB = 0 then [] else [1])
  let a := d.giveUp 0
  let b := a.1.giveUp 1
  let d := b.1
  let okA := rA == 1 && !a.2
  let okB := rB == 1 && !b.2
  let rootOk := Config.romRootHash == Config.rootKeyHash
  let chosen := if rootOk then d.newest ((if okA then [0] else []) ++ (if okB then [1] else [])) else none
  let best := d.newest marked
  let lost := if a.2 then some (0, rA) else if b.2 then some (1, rB)
    else match chosen, best with
      | some c, some m => if c = m then none else some (m, if m = 0 then rA else rB)
      | _, _ => none
  let d := match chosen with
    | some c => d.runImage c
    | none => d.recover
  let d := { d with sec := { d.sec with versionA := if okA then imVersion (imHeader (d.image 0)) else 0
                                        versionB := if okB then imVersion (imHeader (d.image 1)) else 0 } }
  (d.put 0x8000 2 (bootStatus d.sec.trial lost.isSome okB okA d.sec.recovery), lost)

end Sys2Proof.Machine
end

