-- ==== Sys2Proof/Machine/Startup.lean ====
section
/-! DEFINITION. Resets, the ledger, Trail dumps over power loss, the calendar and lifetime counters (19), and the control pins
(20 R577-R581, R588). -/

namespace Sys2Proof.Machine

/-! ## The ledger (19 R558-R564) -/

/-- Bytes of a record on flash. -/
def Rec.size (r : Rec) : Nat := 32 + (r.body.length + 31) / 32 * 32

/-- Bytes used in a segment. -/
def Seg.used (s : Seg) : Nat := s.records.foldl (fun n r => n + r.size) 64

/-- Whether a segment is free: not in use and not retired. -/
def Dev.segFree (d : Dev) (k : Nat) : Bool := !(d.store.segs.any (fun s => s.number == k)) && !d.store.retired.contains k

/-- The number of free segments. -/
def Dev.freeSegs (d : Dev) : Nat := ((below 1024).filter d.segFree).length

/-- The next free segment in rotation. -/
def Dev.nextSeg (d : Dev) : Option Nat :=
  let last := match d.store.segs.getLast? with
    | some s => s.number
    | none => 1023
  ((upFrom (last + 1) 1024).map (· % 1024)).find? d.segFree

/-- Whether a record may enter the reserve (19 R564). -/
def Rec.mayReserve (r : Rec) : Bool := r.isFault || r.kind == 2

/-- A record is programmed into the head segment when it fits there, into a new head otherwise; none when there is no segment. -/
def Dev.program (d : Dev) (r : Rec) : Option Dev :=
  let fresh : Option Dev := match d.nextSeg with
    | some k =>
      let sq := match d.store.segs.getLast? with
        | some s => (s.segSeq + 1) % 2 ^ 32
        | none => 0
      some { d with store := { d.store with segs := d.store.segs ++ [⟨k, sq, [r], false⟩], erases := d.store.erases + 1 } }
    | none => none
  match d.store.segs.getLast? with
  | some s =>
    if s.used + r.size ≤ 65536 ∧ !s.closed ∧ !d.store.retired.contains s.number then
      some { d with store := { d.store with segs := d.store.segs.dropLast ++ [{ s with records := s.records ++ [r] }] } }
    else fresh
  | none => fresh

/-- Whether a record has room under the reserve rule. -/
def Dev.hasRoom (d : Dev) (r : Rec) : Bool :=
  let fits := match d.store.segs.getLast? with
    | some s => decide (s.used + r.size ≤ 65536) && !s.closed && !d.store.retired.contains s.number
    | none => false
  let free := d.freeSegs
  !d.store.fullLatched && (r.mayReserve || (if fits then decide (32 ≤ free) else decide (32 < free)))

/-- The oldest buffered record is committed, or dropped and counted where it has no room (19 R561, R564). -/
def Dev.commitOne (d : Dev) : Dev :=
  match d.store.buffer with
  | [] => d
  | r :: rest =>
    let d : Dev := { d with store := { d.store with buffer := rest } }
    match if d.hasRoom r then d.program r else none with
    | some d' => d'
    | none =>
      let d := d.addSat 0x9010 0xF 32 1
      if r.mayReserve && !d.store.fullLatched then
        { d with store := { d.store with fullLatched := true } }.report 0x2F04 0 0 false
      else d

/-- Every buffered record is committed (19 R556). -/
def Dev.commitAll (d : Dev) : Dev := (below d.store.buffer.length).foldl (fun d _ => d.commitOne) d

/-- The head segment fails twice: 0x2F07, and its number is retired (19 R551). -/
def Dev.retireHead (d : Dev) : Dev :=
  let k := match d.store.segs.getLast? with
    | some s => if d.store.retired.contains s.number then (d.nextSeg).getD 0 else s.number
    | none => (d.nextSeg).getD 0
  let d := { d with store := { d.store with retired := d.store.retired ++ [k] } }
  d.raise 0x2F07 (0x03C00000 + 0x10000 * k) 1

/-- LEDGER_COMMIT (19 R561). -/
def execLedgerCommit (flashOk : Bool) (s : State) : Host.Outcome State Fault Refusal :=
  run s (fun _ d => if d.store.buffer.isEmpty then d else if flashOk then d.commitOne else d.retireHead)

/-- Every record the ledger holds, oldest first; a buffered record counts. -/
def Dev.records (d : Dev) : List Rec := (d.store.segs.flatMap (fun s => s.records)) ++ d.store.buffer

/-- Whether a fault record is unread (19 R560). -/
def Dev.unread (d : Dev) (r : Rec) : Bool :=
  r.isFault && (match d.store.ackSeq with
    | some a => serialNewer 32 r.seq a
    | none => true)

/-- `LEDGER_UNREAD_FAULTS`. -/
def Dev.unreadFaults (d : Dev) : Nat := (d.records.filter d.unread).length

/-- `LEDGER_FILL`. -/
def Dev.ledgerFill (d : Dev) : Nat := d.store.segs.length * 100 / 1024

/-- The header of a record with `CRC` and bit 0 as 0 (15 R476, 19 R559). -/
def Rec.low (r : Rec) : Nat :=
  bits r.ht 0 64 <<< 192 + bits r.seq 0 32 <<< 160 + bits r.kind 0 16 <<< 144 + bits r.body.length 0 16 <<< 128

/-- `LEDGER_REC_HDR` and `LEDGER_REC_DATA` (15 R476). -/
def Dev.ledgerRead (d : Dev) (sub : Nat) : Nat :=
  match d.records.find? (fun r => r.seq == d.get 0x9010 3) with
  | none => 0
  | some r =>
    if sub = 4 then r.low + crc32c (toBytes 32 r.low ++ r.body) <<< 96 + b2n (d.unread r)
    else ofBytes ((r.body.drop (32 * (sub - 5))).take 32)

/-- An accepted write of `LEDGER_ACK`; none when refused (19 R560). -/
def Dev.ledgerAck (d : Dev) (v : Nat) : Option Dev :=
  if serialNewer 32 v ((d.store.nextSeq + 2 ^ 32 - 1) % 2 ^ 32) then none
  else
    let room : Bool := decide (d.store.buffer.length < 256)
    let newer : Bool := match d.store.ackSeq with
      | some a => serialNewer 32 v a
      | none => true
    let d := d.ledger 2 (toBytes 4 v)
    some (if room ∧ newer then { d with store := { d.store with ackSeq := some v } } else d)

/-- The newest ACK record of a list of records, as (SEQ, value). -/
def newestAck (l : List Rec) : Option Nat :=
  l.foldl (fun (m : Option Nat) r => if r.kind = 2 then some r.seq else m) none

/-- The records of the oldest segment that a compaction copies forward (19 R563). -/
def Dev.copies (d : Dev) (o : Seg) (pass : Nat) : List Rec :=
  let others := (d.store.segs.filter (fun s => s.number != o.number)).flatMap (fun s => s.records)
  let ack := newestAck o.records
  let keepAck := (newestAck (others ++ d.store.buffer)).isNone
  let all := pass == 1 && o.records.any (fun r => r.isFault)
  o.records.filter (fun r => (r.isFault && (all || d.unread r)) || (keepAck && ack == some r.seq))

/-- One step of a compaction: the oldest segment is copied forward and erased; the numbers of records dropped and segments
reclaimed grow. -/
def Dev.compactStep (d : Dev) (pass : Nat) : Option (Dev × Nat) :=
  match d.store.segs with
  | o :: rest@(_ :: _) =>
    let l := d.copies o pass
    let d : Dev := { d with store := { d.store with segs := rest } }
    some (l.foldl (fun (d : Dev) r => (d.program r).getD d) d, o.records.length - l.length)
  | _ => none

/-- The loop of 19 R563: `left` counts the segments that pass 1 has still to visit. -/
def Dev.compact (d : Dev) (left dropped reclaimed : Nat) : Nat → Dev × Nat × Nat
  | 0 => (d, dropped, reclaimed)
  | fuel + 1 =>
    if d.store.segs.length ≤ 640 then (d, dropped, reclaimed)
    else
      match d.compactStep (if left = 0 then 2 else 1) with
      | some (d', n) => Dev.compact d' (left - 1) (dropped + n) (reclaimed + 1) fuel
      | none => (d, dropped, reclaimed)

/-- LEDGER_COMPACTION (19 R563, R564). -/
def execLedgerCompaction (s : State) : Host.Outcome State Fault Refusal :=
  run s (fun _ d =>
    if d.store.segs.length < 768 then d
    else
      match d.compact (d.store.segs.length - 1) 0 0 4096 with
      | (d, dropped, reclaimed) =>
        let d := d.ledger 7 (toBytes 4 dropped ++ toBytes 4 reclaimed)
        let d := d.raise 0x0F03 dropped reclaimed
        if 32 < d.freeSegs then { d with store := { d.store with fullLatched := false } } else d)

/-! ## Lifetime and calendar (19 R568-R570) -/

/-- LIFETIME_RECORD_WRITE (19 R551, R570): every 15 minutes; a failed sector is skipped. -/
def execLifetimeRecordWrite (flashOk : Bool) (s : State) : Host.Outcome State Fault Refusal :=
  run s (fun _ d =>
    if d.now < d.store.lastLife + 900000000000 then d
    else
      let place := match d.store.life with
        | some l => (l.seq + 1) % 4096
        | none => 0
      (if flashOk then d else d.raise 0x2F07 (0x100000 + 256 * place) 1).writeLife)

/-- An accepted write of `CALENDAR`; none when refused. -/
def Dev.calendarWrite (d : Dev) (v : Nat) : Option Dev :=
  if d.timeState = 2 then none
  else
    let old := d.get 0xA000 1
    let d := (d.put 0xA000 1 v).put 0xA000 2 1
    some ((d.ledger 6 (toBytes 8 old ++ toBytes 8 v)).writeLife)

/-- The passage of one nanosecond in the store's counts: hours, energy, calendar and uptime, each with its remainder. -/
def Dev.countUp (d : Dev) (index sub w : Nat) (rem unit step : Nat) : Dev × Nat :=
  if rem + step < unit then (d, rem + step) else (if index = 0xA010 then d.life sub w 1 else d.addSat index sub w 1, rem + step - unit)

/-- One nanosecond of the lifetime counters, the calendar and `SHEPHERD_UPTIME` (19 R568, R569). -/
def Dev.lifeTick (d : Dev) : Dev :=
  let (d, a) := d.countUp 0xA010 1 32 d.store.onRem 3600000000000 1
  let (d, b) := if d.power.pstate = .run then d.countUp 0xA010 2 32 d.store.runRem 3600000000000 1 else (d, d.store.runRem)
  let (d, c) := if d.power.warn then d.countUp 0xA010 7 32 d.store.hotRem 3600000000000 1 else (d, d.store.hotRem)
  let (d, e) := d.countUp 0xA010 6 32 d.store.energyRem 3600000000000000 (d.get 0x2010 7)
  let (d, u) := d.countUp 0x9000 2 64 d.store.uptimeRem 1000000000 1
  let (d, k) :=
    if d.timeState = 2 then ((d.put 0xA000 1 (d.ht / 1000000000)).put 0xA000 2 1, 0)
    else if d.tb.running then d.countUp 0xA000 1 64 d.store.calRem 1000000000 1 else (d, d.store.calRem)
  { d with store := { d.store with onRem := a, runRem := b, hotRem := c, energyRem := e, uptimeRem := u, calRem := k } }

/-! ## Resets (19 R555-R557) -/

/-- The entries that a full or warm reset keeps (15 R462; 14 R451 for the whole of 0x1200). `STRAPS` and `BOOT_STATUS` follow the kind of the reset. -/
def keptEntry (warm : Bool) (k : Nat) : Bool :=
  let i := k / 256
  let s := k % 256
  (i == 0x1100 && s == 2) || (i == 0x1200 && decide (s ≤ 9)) || k == 0x320002 || i == 0x7100 || i == 0x7110 || (i == 0x2000 && s == 4)
    || i == 0x9010 || i == 0x9020 || decide (0xA000 ≤ i) || (warm && (k == 0x300001 || k == 0x800002))

/-- A Leash without the PCI Express port (14 R425). -/
def Leash.dropPcie (l : Leash) : Leash := { l with owner := if l.owner = .pcie then .free else l.owner }

/-- The Leashes after a reset: no ACQUIRE awaits arbitration, and a reset of 14 R425 releases those of the PCI Express port. -/
def Dev.leashesAfter (d : Dev) (release : Bool) : SMap Leash :=
  (below 32).foldl (fun m n =>
    let x := d.leash n
    sset (fun _ => Leash.init) m n { (if release then x.dropPcie else x) with claims := [] }) []

/-- The function after a reset: a full reset retrains the link, a Function Level Reset resets its registers, another warm reset
keeps them (19 R555). -/
def Dev.hostAfter (d : Dev) (warm flr : Bool) : HostPort :=
  let h := d.host
  if warm && !flr then
    { HostPort.init with linkUp := h.linkUp, held := h.held, readyAt := h.readyAt, d3hot := h.d3hot, functionMask := h.functionMask
                         msixEnable := h.msixEnable, msix := h.msix, msixPending := h.msixPending, bar2Log2 := h.bar2Log2
                         config := h.config, doeError := h.doeError }
  else if flr then { HostPort.init with linkUp := h.linkUp, held := h.held, readyAt := h.readyAt }
  else { HostPort.init with linkUp := false, held := d.pins.perst, readyAt := d.now + 100000000 }

/-- Security after a reset: debug locked, no session, no update under way, a new nonce and incarnation (15 R473; 18 R543, R546;
10 R312). -/
def Dev.securityAfter (d : Dev) : Security :=
  { d.sec with token := [], nonce := (Config.draw d.draws).toNat, unlocked := false, sessions := [], deferred := []
               erasing := false, staged := 0, verifying := false
               incarnation := bits (Config.draw (d.draws + 1)).toNat 0 32 }

/-- Whether the reset leaves the device in PROTECT (16 R500). -/
def Dev.staysProtect (d : Dev) (cause : Nat) : Bool := d.power.pstate == .protect && cause != 6

/-- When the firmware serves the dictionary after a reset, at most `limit` ns later (19 R554, R555). -/
def Dev.serveFrom (d : Dev) (limit : Nat) : Nat := d.now + min (Config.bootTime d.draws) limit

/-- The device after a full or warm reset, before what start-up reports. -/
def Dev.afterReset (d : Dev) (warm : Bool) (cause : Nat) : Dev :=
  let q : Power := { Power.init with sensorsAt := d.now }
  let p : Power := if d.staysProtect cause then { q with pstate := .protect, protectAt := d.power.protectAt } else q
  let release := cause == 1 || cause == 2 || cause == 3
  { Dev.init with
    now := d.now
    draws := d.draws + 2
    out := d.out
    limits := d.limits
    od := d.od.filter (fun e => keptEntry warm e.1)
    tb := { TimeBase.init with htf := d.tb.htf }
    trail := d.trail
    host := d.hostAfter warm (cause == 3)
    leashes := d.leashesAfter release
    clocks := Clocks.startedAt d.now
    mgmt := { d.mgmt with alternate := false, trySince := d.now, servedAt := d.serveFrom (if warm then 20000000 else 450000000) }
    power := p
    sec := d.securityAfter
    store := { d.store with uptimeRem := 0, pinsDiffer := false, lastStraps := d.now }
    pins := { d.pins with stopN := d.pins.stopFiltered, stopLockout := none } }

/-- What start-up reports: the RESET record and 0x0F01 (19 R555, R559). -/
def Dev.resetReport (d : Dev) (kind cause : Nat) : Dev :=
  (d.ledger 3 (toBytes 1 kind ++ toBytes 1 cause ++ toBytes 2 0 ++ toBytes 4 d.sec.runVersion)).raise 0x0F01 kind cause

/-- What the running firmware reports after a boot: the slot given up and a foreign identity chain (18 R533; 19 R550). -/
def Dev.bootReport (d : Dev) (lost : Option (Nat × Nat)) : Dev :=
  if d.sec.recovery then d
  else
    let d := match lost with
      | some (slot, code) => d.raise 0x2E04 slot code
      | none => d
    if d.sec.chainOk then d else d.raise 0x2F06 0 0

/-- Before a reset: the ledger and a lifetime record are committed, the ports become DISABLED, the power state is left
(19 R556; 12 R390). -/
def Dev.beforeReset (d : Dev) (cause : Nat) : Dev :=
  let d := (d.commitAll).writeLife
  let d := d.parkPorts
  if d.power.pstate = .standby ∨ d.staysProtect cause then d else d.setPstate .standby

/-- A warm reset. -/
def Dev.warmReset (d : Dev) (fuse cause : Nat) : Dev :=
  let was := d.sec.unlocked
  let d := (d.beforeReset cause).afterReset true cause
  let d := d.life 4 32 1
  let d := if was then d.measured fuse 5 else d
  d.resetReport 2 cause

/-- A full reset: the straps are sampled and the ROM chooses again. -/
def Dev.fullReset (d : Dev) (fuse cause pins : Nat) : Dev :=
  let was := d.sec.unlocked
  let d := (d.beforeReset cause).afterReset false cause
  let d := { d.put 0x3000 1 pins with pins := { d.pins with loc := pins } }
  let (d, lost) := d.boot fuse
  let d := d.life 4 32 1
  let d := if was then d.measured fuse 5 else d
  (d.resetReport 1 cause).bootReport lost

/-! ## Loss of standby supply and power-on -/

/-- The lifetime counters and the calendar as the newest lifetime record holds them (19 R568, R570). -/
def Dev.lifeEntries (d : Dev) : Dev :=
  let l := d.store.life.getD ⟨0, [], [], 0, []⟩
  let d := (below 10).foldl (fun d i => d.put 0xA010 (i + 1) ((l.counters[i]?).getD 0)) d
  let d := (d.put 0xA000 1 l.calendar).put 0xA000 2 0
  { d with store := { d.store with onRem := (l.remainders[0]?).getD 0, runRem := (l.remainders[1]?).getD 0
                                   hotRem := (l.remainders[2]?).getD 0, energyRem := (l.remainders[3]?).getD 0, calRem := 0 } }

/-- The newest of a list of 32-bit sequence numbers in serial arithmetic (19 R559); a record that a compaction copied keeps its
number, so the newest need not stand last (19 R563). -/
def newestOf (l : List Nat) : Option Nat :=
  l.foldl (fun (m : Option Nat) n => match m with
    | some x => if serialNewer 32 n x then some n else some x
    | none => some n) none

/-- The store after a loss of supply: the buffer is gone, the flash stands (19 R561, R562). -/
def Store.unpowered (s : Store) : Store :=
  let rs := s.segs.flatMap (fun x => x.records)
  { s with buffer := [], nextSeq := (match newestOf (rs.map (fun r => r.seq)) with
             | some n => (n + 1) % 2 ^ 32
             | none => 0)
           ackSeq := newestOf ((rs.filter (fun r => r.kind == 2)).map (fun r => ofBytes r.body))
           uptimeRem := 0, pinsDiffer := false }

/-- Where the reading of a segment ends at a torn record: the places in it whose CRC fails (19 R562). -/
def Seg.tornAt (torn : List (Nat × Nat)) (g : Seg) : List Nat :=
  (torn.filter (fun x => x.1 == g.number && decide (x.2 < g.records.length))).map Prod.snd

/-- A segment as the mount reads it: up to its first torn record (19 R562). -/
def Seg.mounted (torn : List (Nat × Nat)) (g : Seg) : Seg :=
  let l := g.tornAt torn
  if l.isEmpty then g else { g with records := g.records.take (l.foldl min g.records.length), closed := true }

/-- The segments whose header stands (19 R558, R562). -/
def Store.inUse (s : Store) (found : FlashFound) : List Seg := s.segs.filter (fun g => !found.badHeaders.contains g.number)

/-- How many torn records the mount meets: one in each segment whose reading ends at one (19 R562). -/
def Store.tornCount (s : Store) (found : FlashFound) : Nat := ((s.inUse found).filter (fun g => !(g.tornAt found.torn).isEmpty)).length

/-- The lifetime records whose CRC passes, newest first (19 R570). -/
def Store.livesAt (s : Store) (found : FlashFound) : List LifeRec := (s.life.toList ++ s.lifeOld).drop found.lifeBad

/-- The store as the mount finds it (19 R562, R570). -/
def Store.mount (s : Store) (found : FlashFound) : Store :=
  let lives := s.livesAt found
  { s with segs := (s.inUse found).map (Seg.mounted found.torn), life := lives.head?, lifeOld := lives.tail }.unpowered

/-- The device with its store mounted: the trailer pages that fail their CRC read as absent (18 R530), and the lifetime counters are those of
the newest record that passes. -/
def Dev.mount (d : Dev) (found : FlashFound) : Dev :=
  let d := { d with store := d.store.mount found }.lifeEntries
  found.trailerBad.foldl (fun d n => d.setTrailer n Trailer.blank) d

/-- Everything but the persistent entries and the flash is lost; the function is held and HT stands still (15 R462, 20 R583). -/
def Dev.unpowered (d : Dev) : Dev :=
  let x : Dev := { Dev.init with
    now := d.now
    draws := d.draws
    out := d.out
    od := d.od.filter (fun e => e.1 / 256 == 0x9010 || e.1 / 256 == 0x9020)
    tb := { TimeBase.init with running := false }
    host := { HostPort.init with linkUp := false, held := true }
    sec := { Security.init with imageA := d.sec.imageA, imageB := d.sec.imageB, trailerA := d.sec.trailerA
                                trailerB := d.sec.trailerB }
    store := d.store.unpowered
    clocks := Clocks.startedAt d.now
    power := { Power.init with sensorsAt := d.now }
    pins := { d.pins with vrFault := false, vrAsserted := false, perst := true, detector := true } }
  x.lifeEntries

/-- STANDBY_SUPPLY_LOSS (20 R583, 15 R462). -/
def execStandbySupplyLoss (s : State) : Host.Outcome State Fault Refusal := run s (fun _ d => d.unpowered)

/-- POWER_ON_RESET (19 R555, R562, R567, R568). -/
def execPowerOnReset (pins : BitVec 16) (found : FlashFound) (s : State) : Host.Outcome State Fault Refusal :=
  run s (fun fuse d =>
    let torn := d.unpowered.store.tornCount found
    let d := d.unpowered.mount found
    let x := d.securityAfter
    let d : Dev := { d with draws := d.draws + 2, mgmt := { d.mgmt with servedAt := d.serveFrom 450000000 }, sec := { x with chainOk := found.chain }
                            pins := { d.pins with loc := pins.toNat, stopN := d.pins.stopFiltered, stopLockout := none, detector := false } }
    let d := d.put 0x3000 1 pins.toNat
    let d := { d with tb := { d.tb with htf := d.get 0xA000 1 * 1000000000 * 65536, running := true } }
    let (d, lost) := d.boot fuse
    let d := d.life 3 32 1
    let d := if torn = 0 then d else d.raise 0x0F05 torn 0
    let d := if d.dumpUsed = 0 then d else d.loadNewestDump
    ((d.resetReport 0 0).raise 0x0F09 0 0).bootReport lost)

/-! ## The commands that reset the device from outside -/

/-- Whether the host's requests reach the function (14 R424, 20 R580; 14 R418: D3hot answers configuration requests only). -/
def Dev.hostUp (d : Dev) : Bool := d.host.linkUp && !d.host.held

/-- PERST_ASSERTED (20 R580). -/
def execPerstAsserted (pins : BitVec 16) (s : State) : Host.Outcome State Fault Refusal :=
  run s (fun fuse d => { d with pins := { d.pins with perst := true } }.fullReset fuse 1 pins.toNat)

/-- PERST_DEASSERTED (19 R553, 20 R580). -/
def execPerstDeasserted (s : State) : Host.Outcome State Fault Refusal :=
  run s (fun _ d =>
    if d.pins.perst then
      { d with pins := { d.pins with perst := false }, host := { d.host with held := false, readyAt := d.now + 100000000 } }
    else d)

/-- HOT_RESET (19 R555). -/
def execHotReset (pins : BitVec 16) (s : State) : Host.Outcome State Fault Refusal :=
  run s (fun fuse d => if d.hostUp then d.fullReset fuse 2 pins.toNat else d)

/-- FUNCTION_LEVEL_RESET (14 R425, 19 R555). -/
def execFunctionLevelReset (s : State) : Host.Outcome State Fault Refusal :=
  run s (fun fuse d => if d.hostUp then d.warmReset fuse 3 else d)

/-! ## Pins -/

/-- STRAPS_CHECK (19 R552). -/
def execStrapsCheck (pins : BitVec 16) (s : State) : Host.Outcome State Fault Refusal :=
  run s (fun _ d =>
    if d.now < d.store.lastStraps + 100000000 then d
    else
      let differ := pins.toNat != d.straps
      let was := d.store.pinsDiffer
      let d : Dev := { d with store := { d.store with lastStraps := d.now, pinsDiffer := differ }
                              pins := { d.pins with loc := pins.toNat } }
      if differ && !was then d.raise 0x0F02 d.straps pins.toNat else d)

/-- A level of STOP_N is accepted (20 R578). -/
def Dev.acceptStop (d : Dev) (level : Bool) : Dev :=
  let d := { d with pins := { d.pins with stopN := level, stopLockout := some (d.now + 1000000) } }
  if level then d.oncePerSecond (0x0101 * 64) (fun d => d.raise 0x0101 0 0)
  else d.oncePerSecond (0x0102 * 64) (fun d => d.raise 0x0102 0 0)

/-- STOP_N_CHANGE (20 R577, R578): the filtered level changes; `level` is true when STOP_N is asserted. -/
def execStopNChange (level : Bool) (s : State) : Host.Outcome State Fault Refusal :=
  run s (fun _ d =>
    let d := { d with pins := { d.pins with stopFiltered := level } }
    let locked : Bool := match d.pins.stopLockout with
      | some t => decide (d.now < t)
      | none => false
    if locked ∨ d.pins.stopN = level then d else d.acceptStop level)

/-- STOP_LOCKOUT_END (20 R578). -/
def execStopLockoutEnd (s : State) : Host.Outcome State Fault Refusal :=
  run s (fun _ d =>
    match d.pins.stopLockout with
    | some t =>
      if d.now < t then d
      else
        let d := { d with pins := { d.pins with stopLockout := none } }
        if d.pins.stopFiltered = d.pins.stopN then d else d.acceptStop d.pins.stopFiltered
    | none => d)

/-- TEST_PORT_ACCESS (18 R543, 20 R588). A private instruction while locked selects no register of the device. -/
def execTestPortAccess (instr : TestInstr) (s : State) : Host.Outcome State Fault Refusal :=
  let scan := run s (fun _ d =>
    if d.power.pstate = .standby ∧ d.pins.stopN then d.emit (.testPort 0) else (d.emit (.testPort (Config.scanEffect d.draws))).draw)
  match instr with
  | .mandatory => run s (fun _ d => d.emit (.testPort 0))
  | .extest => scan
  | .clamp => scan
  | .shepherdDebug => if s.dev.sec.unlocked then .refused (.privateTestInstruction 0) else .next s
  | .privateTest code => if s.dev.sec.unlocked then .refused (.privateTestInstruction code) else .next s

end Sys2Proof.Machine
end

