-- ==== Sys2Proof/Machine/Rings.lean ====
section
/-! DEFINITION. Command rings and completion rings, event counters, issue, start and completion of descriptors (04 R94-R116,
R591). -/

namespace Sys2Proof.Machine

/-- The host reaches the BARs: the link is up, reset is over, the function is in D0 (14 R418, R424); in recovery the ROM serves the
dictionary window alone (18 R532). -/
def Dev.windowOpen (d : Dev) : Bool := d.hostUp && !d.host.d3hot
def Dev.barOpen (d : Dev) : Bool := d.windowOpen && !d.sec.recovery

/-! ## Ring facts -/

def Ring.size (r : Ring) : Nat := 2 ^ bits r.cfg 3 5
def Ring.weight (r : Ring) : Nat := bits r.cfg 8 4 + 1
def Ring.maxInflight (r : Ring) : Nat := bits r.cfg 12 14
def Ring.cplRing (r : Ring) : Nat := bits r.cfg 26 6
def CplRing.size (c : CplRing) : Nat := 2 ^ bits c.cfg 5 5
def CplRing.vector (c : CplRing) : Nat := bits c.cfg 10 11

/-- Descriptors held: (`TAIL` - `HEAD`) mod 2^32 (04 R97). -/
def Ring.held (r : Ring) : Nat := (r.tail + 2 ^ 32 - r.head) % 2 ^ 32

/-- `INFLIGHT` of ring `n` (04 R96). -/
def Dev.inflightOf (d : Dev) (n : Nat) : Nat := (d.disp.board.filter (fun e => e.ring == n)).length

/-- RUNNING, DRAINING, or with descriptors in the scoreboard. -/
def Dev.ringBusy (d : Dev) (n : Nat) : Bool :=
  let st := (d.ring n).state
  st == .running || st == .draining || d.inflightOf n != 0

/-- Whether a command ring that names completion ring `n` is busy (04 R95, R101). -/
def Dev.cplBusy (d : Dev) (n : Nat) : Bool := (below 64).any (fun k => (d.ring k).cplRing == n && d.ringBusy k)

/-- Free slots of completion ring `n` (04 R107). -/
def Dev.cplFree (d : Dev) (n : Nat) : Nat :=
  let c := d.cpl n
  c.size - (c.tail + 2 ^ 32 - c.head) % 2 ^ 32 - (d.disp.board.filter (fun e => (d.ring e.ring).cplRing == n)).length

/-- `STATE` of `RING_STATUS`. -/
def RingState.code : RingState → Nat
  | .disabled => 0
  | .running => 1
  | .stopped => 2
  | .draining => 3

/-- `RING_STATUS` of ring `n` (04 R96). -/
def Dev.ringStatus (d : Dev) (n : Nat) : Nat :=
  let r := d.ring n
  bits r.errIndex 0 32 <<< 32 + r.state.code <<< 30 + b2n r.badDoorbell <<< 29 + b2n r.cfgRefused <<< 28
    + bits (d.inflightOf n) 0 14 <<< 14 + bits r.errCode 0 8

/-! ## Doorbells and counters -/

/-- A doorbell write (04 R98). -/
def Dev.doorbell (d : Dev) (n v : Nat) : Dev :=
  let r := d.ring n
  if r.size < (v + 2 ^ 32 - r.head) % 2 ^ 32 then
    d.setRing n { r with badDoorbell := true, state := if r.state = .running then .stopped else r.state }
  else d.setRing n { r with tail := v }

/-- DOORBELL_WRITE (04 R98). -/
def execDoorbellWrite (ring : Fin 64) (value : Word) (s : State) : Host.Outcome State Fault Refusal :=
  run s (fun _ d => if d.barOpen then d.doorbell ring value.toNat else d)

/-- EVENT_COUNTER_WRITE (04 R102). -/
def execEventCounterWrite (counter : Fin 4096) (value : Word) (s : State) : Host.Outcome State Fault Refusal :=
  run s (fun _ d => if d.barOpen then d.setCounter counter value.toNat else d)

/-- A signal adds its increment; 0 is no signal (04 R102, R109). -/
def Dev.signal (d : Dev) (c inc : Nat) : Dev := if inc = 0 then d else d.setCounter c (d.counter c + inc)

/-- A wait for `v` on counter `c` is met (04 R102). -/
def Dev.waitMet (d : Dev) (c v : Nat) : Bool := decide ((d.counter c + 2 ^ 32 - v) % 2 ^ 32 < 2 ^ 31)

/-- Every enabled wait of a descriptor is met. -/
def Dev.waitsMet (d : Dev) (x : Nat) : Bool :=
  (!bit (hdWaitEn x) 0 || d.waitMet (hdWait0Id x) (hdWait0Value x)) && (!bit (hdWaitEn x) 1 || d.waitMet (hdWait1Id x) (hdWait1Value x))

/-! ## Configuration -/

/-- A configuration write is refused. -/
def Dev.refuseCfg (d : Dev) (n : Nat) : Dev := d.setRing n { d.ring n with cfgRefused := true }

/-- A write of `RING_BASE` (04 R94, R95). -/
def Dev.writeRingBase (d : Dev) (n v : Nat) : Dev :=
  if d.ringBusy n || v % 128 != 0 then d.refuseCfg n else d.setRing n { d.ring n with base := v, cfgRefused := false }

/-- The state of a ring after an accepted write of `ENABLE`: from DISABLED to RUNNING, from STOPPED to DISABLED (04 R95). -/
def RingState.enabled (st : RingState) (on : Bool) : RingState :=
  match st, on with
  | .disabled, true => .running
  | .stopped, false => .disabled
  | st, _ => st

/-- A write of `RING_CFG` (04 R95); the reserved bits read 0. -/
def Dev.writeRingCfg (d : Dev) (n v : Nat) : Dev :=
  let r := d.ring n
  let lg := bits v 3 5
  let mx := bits v 12 14
  if d.ringBusy n || decide (lg < 6) || decide (16 < lg) || mx == 0 || decide (8192 < mx) then d.refuseCfg n
  else d.setRing n { r with cfg := setBits v 1 2 0, cfgRefused := false, state := r.state.enabled (bit v 0) }

/-- A write of `CPL_BASE` of completion ring `n` (04 R95). -/
def Dev.writeCplBase (d : Dev) (n v : Nat) : Dev :=
  if d.cplBusy n || v % 32 != 0 then d.refuseCfg n
  else (d.setCpl n { d.cpl n with base := v }).setRing n { d.ring n with cfgRefused := false }

/-- A write of `CPL_CFG` of completion ring `n` (04 R94, R95). -/
def Dev.writeCplCfg (d : Dev) (n v : Nat) : Dev :=
  let lg := bits v 5 5
  if d.cplBusy n || decide (lg < 6) || decide (16 < lg) then d.refuseCfg n
  else (d.setCpl n { d.cpl n with cfg := bits v 5 16 <<< 5 }).setRing n { d.ring n with cfgRefused := false }

/-- A write of `CPL_HEAD` (04 R94, R108). -/
def Dev.writeCplHead (d : Dev) (n v : Nat) : Dev := d.setCpl n { d.cpl n with head := v % 2 ^ 32, armed := true }

/-! ## Completion -/

/-- A completion record (04 R104). -/
def cplRecord (ht result tag index event status code ring phase : Nat) : Nat :=
  bits ht 0 64 <<< 192 + bits result 0 64 <<< 128 + bits tag 0 32 <<< 96 + bits index 0 32 <<< 64 + bits event 0 16 <<< 48
    + bits status 0 16 <<< 32 + bits code 0 8 <<< 24 + bits ring 0 6 <<< 18 + bits phase 0 1

/-- A record goes to host memory, or to device memory where it lies in the near stacks or the tile store; elsewhere it is lost (DESIGN CHOICE,
log entry 155). -/
def Dev.writeTo (d : Dev) (host : Bool) (a : Nat) (l : List Byte) : Dev :=
  if host then d.post a l
  else if d.extentIn coreRegions (a, l.length) then d.wr a l false else d

/-- Write the record of a descriptor of ring `n`, and the message it calls for (04 R104, R107, R108). -/
def Dev.writeRecord (d : Dev) (n index desc : Nat) (done : Done) : Dev :=
  let k := (d.ring n).cplRing
  let c := d.cpl k
  let phase := if (c.tail / c.size) % 2 = 0 then 1 else 0
  let record := cplRecord d.ht done.result (hdTag desc) index done.event done.status done.code n phase
  let d := d.writeTo (bit c.base 63) (bits c.base 0 63 + 32 * (c.tail % c.size)) (toBytes 32 record)
  let ask := (hdCplMode desc == 2 || done.code != 0) && c.armed
  let d := d.setCpl k { c with tail := (c.tail + 1) % 2 ^ 32, armed := c.armed && !ask }
  if ask then d.message c.vector else d

/-- The ring after a code: it stops on the first code other than OK (04 R100). -/
def Ring.afterCode (r : Ring) (index code : Nat) : Ring :=
  if code != 0 && r.state == .running then { r with state := .stopped, errIndex := index, errCode := code } else r

/-- Whether a ring has a started descriptor in the scoreboard. -/
def Dev.anyStarted (d : Dev) (n : Nat) : Bool := d.disp.board.any (fun e => e.ring == n && e.started)

/-- DRAINING ends with the last started descriptor (04 R101). -/
def Dev.endDraining (d : Dev) (n : Nat) : Dev :=
  let r := d.ring n
  if r.state = .draining ∧ !d.anyStarted n then d.setRing n { r with state := .stopped } else d

/-- The dispatcher starts or completes a descriptor now (12 R371, `CORE_OK`). -/
def Dev.acted (d : Dev) : Dev := { d with disp := { d.disp with lastAction := d.now } }

/-- A descriptor completes: signals, record, message, Trail entry, ring; nothing after a device-fatal event (04 R100, R103,
R144; 12 R390). -/
def Dev.completeAs (d : Dev) (n index desc : Nat) (done : Done) : Dev :=
  if d.disp.fatal then d
  else
    let d := if done.code = 0 ∨ hdSigOnError desc
      then (d.signal (hdSig0Id desc) (hdSig0Inc desc)).signal (hdSig1Id desc) (hdSig1Inc desc) else d
    let d := if hdCplMode desc = 0 ∧ done.code = 0 then d else d.writeRecord n index desc done
    let d := if done.code = 0 then d else d.note 8 done.code (n * 2 ^ 32 + index)
    ((d.setRing n ((d.ring n).afterCode index done.code)).endDraining n).acted

/-! ## The scoreboard -/

def Dev.entry (d : Dev) (id : Nat) : Option Entry := d.disp.board.find? (fun e => e.id == id)
def Dev.setEntry (d : Dev) (e : Entry) : Dev :=
  { d with disp := { d.disp with board := d.disp.board.map (fun x => if x.id = e.id then e else x) } }
def Dev.dropEntry (d : Dev) (id : Nat) : Dev :=
  { d with disp := { d.disp with board := d.disp.board.filter (fun x => x.id != id) } }

/-- The step of an entry: fixed at its start. -/
def Dev.entryStep (d : Dev) (e : Entry) : Nat := if e.started then e.step else d.stepOf e.desc

/-- The wait of descriptor `id` for a shadow commit is over and counts (12 R383). -/
def Dev.waitOver (d : Dev) (id : Nat) : Dev :=
  match d.shadow.waitFrom with
  | some (i, t) =>
    if i = id then { d.addWrap 0x7200 8 ((d.now - t) / 1000) with shadow := { d.shadow with waitFrom := none } } else d
  | none => d

/-- An entry leaves the scoreboard with an outcome; the pin on its version ends, and the event of an expired wait counts
(00 R12; 05 R155, R156). -/
def Dev.complete (d : Dev) (e : Entry) (done : Done) : Dev :=
  let done := if e.watchRaised then { done with event := pickEvent 0x0401 done.event } else done
  let j : Job := ⟨(d.dropEntry e.id).waitOver e.id, done⟩
  let j := if e.pinned then j.releaseVersion (arWverId e.desc) (arWver e.desc) (arWverRef e.desc) else j
  j.d.completeAs e.ring e.index e.desc j.done

/-- Whether a Sniffer unit still folds for a descriptor (13 R406), or a tap flush of it waits (06 R169). -/
def Dev.sniffs (d : Dev) (id : Nat) : Bool :=
  (below 8).any (fun u => ((d.unit u).run.toList ++ (d.unit u).queue).any (fun r => r.id == id))
def Dev.taps (d : Dev) (id : Nat) : Bool := d.cmp.taps.any (fun t => t.id == id)

/-- DESCRIPTOR_COMPLETION (04 R103). -/
def execDescriptorCompletion (id : Nat) (s : State) : Host.Outcome State Fault Refusal :=
  run s (fun _ d =>
    match d.entry id with
    | none => d
    | some e =>
      match d.outcome e with
      | none => d
      | some done => if d.disp.fatal || d.sniffs id || d.taps id then d else d.complete e done)

/-- WAIT_WATCH_EXPIRED (04 R116). -/
def execWaitWatchExpired (id : Nat) (s : State) : Host.Outcome State Fault Refusal :=
  run s (fun _ d =>
    match d.entry id with
    | none => d
    | some e =>
      if e.watch == 0 || e.watchRaised || e.started || d.waitsMet e.desc || decide (d.now - e.issuedAt ≤ e.watch * 1000000) then d
      else (d.setEntry { e with watchRaised := true }).raise 0x0401 e.ring e.index)

/-! ## Ring commands (04 R101) -/

/-- Whether `ABORT` discards an entry: it has not started, or it is a collective under way (11 R363) or a sweep that waits for
residency (08 R246). -/
def Dev.abortable (d : Dev) (e : Entry) : Bool :=
  e.done.isNone && (!e.started || opClass (hdOpcode e.desc) == 4
    || (match d.cmp.sweep with
        | some r => r.id == e.id && r.idleFrom.isSome
        | none => false))

/-- An aborted collective or sweep leaves its engine. -/
def Dev.discard (d : Dev) (id : Nat) : Dev :=
  ({ d with
    eng := { d.eng with flights := d.eng.flights.filter (fun c => c.id != id)
                        backlog := d.eng.backlog.filter (fun g => g.owner != some id) }
    cmp := { d.cmp with sweep := match d.cmp.sweep with
      | some r => if r.id = id then none else some r
      | none => none } } : Dev).forget (fun g => g.owner == some id)

/-- The microseconds a sweep was idle, and its `RESULT` (04 R106, 08 R246). -/
def SweepRun.idleUs (r : SweepRun) : Nat := min (r.idle / 1000) 0xFFFFFFFF
def SweepRun.result (r : SweepRun) : Nat := min r.processed 0xFFFFFFFF <<< 32 + r.idleUs

/-- `RESULT` of a collective (04 R106). -/
def Coll.result (c : Coll) : Nat := min c.stale 0xFFFFFFFF <<< 32 + min c.detours 0xFFFFFFFF

/-- The sweep that `ABORT` ends in a residency wait, its wait counted to this moment (08 R246). -/
def Dev.abortedSweep (d : Dev) (id : Nat) : Option SweepRun :=
  match d.cmp.sweep with
  | some r => if r.id = id then some { r with idle := r.idle + (d.now - r.idleFrom.getD d.now) } else none
  | none => none

/-- What the record of a discarded entry holds: flags, event and result of the work done so far. -/
def Dev.abortDone (d : Dev) (e : Entry) : Done :=
  match d.abortedSweep e.id, d.eng.flights.find? (fun c => c.id == e.id) with
  | some r, _ => { r.done with code := ccAborted, result := r.result }
  | none, some c => ⟨ccAborted, c.status, c.event, c.result⟩
  | none, none => { Done.init with code := ccAborted }

/-- An entry is discarded: it completes with `ABORTED`, or with `STEP_ABANDONED` where that had already decided it; a sweep's stall
counts (08 R246). -/
def Dev.abortOne (d : Dev) (e : Entry) : Dev :=
  let done := (d.outcome e).getD (d.abortDone e)
  let us := match d.abortedSweep e.id with
    | some r => r.idleUs
    | none => 0
  ((d.discard e.id).addSat 0x50A0 7 64 us).complete e done

/-- `ABORT` of ring `n`. -/
def Dev.abortRing (d : Dev) (n : Nat) : Dev :=
  let d := d.setRing n { d.ring n with state := .draining }
  let d := (d.disp.board.filter (fun e => e.ring == n && d.abortable e)).foldl Dev.abortOne d
  (d.setRing n { d.ring n with head := (d.ring n).tail }).endDraining n

/-- `RESET` of ring `n`. -/
def Dev.resetRing (d : Dev) (n : Nat) : Dev :=
  let d := d.setRing n { d.ring n with head := 0, tail := 0 }
  if d.cplBusy n then d else d.setCpl n { d.cpl n with head := 0, tail := 0 }

/-- A write of `RING_CTRL`: the highest-ranked command that applies (04 R101). -/
def Dev.ringCtrl (d : Dev) (n v : Nat) : Dev :=
  let st := (d.ring n).state
  if bit v 1 && (st == .running || st == .stopped) then d.abortRing n
  else if bit v 2 && (st == .stopped || st == .disabled) && d.inflightOf n == 0 then d.resetRing n
  else if bit v 0 && st == .stopped then d.setRing n { d.ring n with state := .running }
  else d

/-- The register after an access that covers all of it or one half. -/
def mergePart (old : Nat) (part : Part) (v : Nat) : Nat :=
  match part with
  | .whole => v
  | .low => setBits old 0 32 v
  | .high => setBits old 32 32 v

/-- A write of a configuration register of ring `n` (04 R94, R95): `RING_CFG` shares its 8 bytes with `RING_CTRL`, `CPL_CFG` with
`CPL_HEAD`. -/
def Dev.ringConfig (d : Dev) (n : Nat) (reg : RingReg) (part : Part) (v : Nat) : Dev :=
  match reg with
  | .ringBase => d.writeRingBase n (mergePart (d.ring n).base part v)
  | .cplBase => d.writeCplBase n (mergePart (d.cpl n).base part v)
  | .ringCfg =>
    let d := if part = .high then d else d.writeRingCfg n (bits v 0 32)
    if part = .low then d else d.ringCtrl n (bits v (if part = .whole then 32 else 0) 32)
  | .cplCfg =>
    let d := if part = .high then d else d.writeCplCfg n (bits v 0 32)
    if part = .low then d else d.writeCplHead n (bits v (if part = .whole then 32 else 0) 32)

/-- RING_CONFIG_WRITE (04 R95). -/
def execRingConfigWrite (ring : Fin 64) (reg : RingReg) (part : Part) (value : DWord) (s : State) :
    Host.Outcome State Fault Refusal :=
  run s (fun _ d => if d.barOpen then d.ringConfig ring reg part value.toNat else d)

/-- RING_ENABLE (04 R95): a write of `RING_CFG` with its present fields and `ENABLE` 1. -/
def execRingEnable (ring : Fin 64) (s : State) : Host.Outcome State Fault Refusal :=
  run s (fun _ d => if d.barOpen then d.writeRingCfg ring (setBits (d.ring ring).cfg 0 1 1) else d)

/-- RING_DISABLE (04 R95): a write of `RING_CFG` with its present fields and `ENABLE` 0. -/
def execRingDisable (ring : Fin 64) (s : State) : Host.Outcome State Fault Refusal :=
  run s (fun _ d => if d.barOpen then d.writeRingCfg ring (setBits (d.ring ring).cfg 0 1 0) else d)

/-- RING_RESET (04 R101): a write of `RING_CTRL` with `RESET` set, and whatever else `also` sets. -/
def execRingReset (ring : Fin 64) (also : BitVec 3) (s : State) : Host.Outcome State Fault Refusal :=
  run s (fun _ d => if d.barOpen then d.ringCtrl ring (also.toNat ||| 4) else d)

/-- RING_ABORT (04 R101): a write of `RING_CTRL` with `ABORT` set. -/
def execRingAbort (ring : Fin 64) (also : BitVec 3) (s : State) : Host.Outcome State Fault Refusal :=
  run s (fun _ d => if d.barOpen then d.ringCtrl ring (also.toNat ||| 2) else d)

/-- RING_RESUME (04 R101): a write of `RING_CTRL` with `RESUME` set. -/
def execRingResume (ring : Fin 64) (also : BitVec 3) (s : State) : Host.Outcome State Fault Refusal :=
  run s (fun _ d => if d.barOpen then d.ringCtrl ring (also.toNat ||| 1) else d)

/-- CPL_HEAD_WRITE (04 R108). -/
def execCplHeadWrite (ring : Fin 64) (value : Word) (s : State) : Host.Outcome State Fault Refusal :=
  run s (fun _ d => if d.barOpen then d.writeCplHead ring value.toNat else d)

/-! ## Issue (04, "Dispatch and ordering") -/

/-- Whether ring `n` may issue its next descriptor now. -/
def Dev.mayIssue (d : Dev) (n : Nat) : Bool :=
  let r := d.ring n
  r.state == .running && r.head != r.tail && decide (d.disp.board.length < 8192) && decide (d.inflightOf n < r.maxInflight)
    && decide (0 < d.cplFree r.cplRing)

/-- The ring to serve: the one under way while its turn lasts, else the next after it that may issue. -/
def Dev.nextRing (d : Dev) : Option Nat :=
  let k := d.disp.lastServed
  if 0 < d.disp.takeLeft ∧ d.mayIssue k then some k
  else ((upFrom (k + 1) 64).map (· % 64)).find? d.mayIssue

/-- The turn's account when ring `n` is served. -/
def Dev.serve (d : Dev) (n : Nat) : Dev :=
  let left := if 0 < d.disp.takeLeft ∧ n = d.disp.lastServed then d.disp.takeLeft - 1 else (d.ring n).weight - 1
  { d with disp := { d.disp with lastServed := n, takeLeft := left } }

/-- The turn is over. -/
def Dev.endTurn (d : Dev) : Dev := { d with disp := { d.disp with takeLeft := 0 } }

/-- What a fetch of 128 bytes answers: the bytes, or the code that stops the ring (04 R591, 14 R424). -/
def Dev.fetchDesc (d : Dev) (n : Nat) (host : HostReply) : Nat ⊕ Nat :=
  let r := d.ring n
  let a := bits r.base 0 63 + 128 * (r.head % r.size)
  if bit r.base 63 then
    match host with
    | .data l => if d.hostUp then .inl (ofBytes (l.take 128)) else .inr ccPoisoned
    | .failed => .inr ccPoisoned
    | .part _ _ => .inr ccPoisoned
  else if !d.extentIn coreRegions (a, 128) then .inr ccAddressRange
  else if d.mem.anyPoison a 128 then .inr ccPoisoned
  else .inl (d.num a 128)

/-- A fetch that fails stops the ring; nothing else happens (04 R591). -/
def Dev.fetchFails (d : Dev) (n code : Nat) : Dev :=
  let r := d.ring n
  (d.setRing n { r with state := .stopped, errIndex := r.head, errCode := code }).endTurn

/-- A fetched descriptor of ring `n` passes or fails the issue checks (04 R113). -/
def Dev.enter (d : Dev) (n x : Nat) : Dev :=
  let r := d.ring n
  let d := d.setRing n { r with head := (r.head + 1) % 2 ^ 32 }
  let code := d.issueCheck x
  if code = 0 then
    let e : Entry := ⟨d.disp.nextId, n, r.head, x, d.now, d.get 0x5080 1, false, false, 0, false, none⟩
    { d with disp := { d.disp with board := d.disp.board ++ [e], nextId := d.disp.nextId + 1 } }
  else
    let result := if opClass (hdOpcode x) = 5 then 0xFFF <<< 36 else 0
    (d.completeAs n r.head x { Done.init with code := code, result := result }).endTurn

/-- DESCRIPTOR_ISSUE (04 R111-R113, R591). -/
def execDescriptorIssue (host : HostReply) (ecc : List EccHit) (s : State) : Host.Outcome State Fault Refusal :=
  run s (fun _ d =>
    if !d.computes then d
    else
      match d.nextRing with
      | none => d
      | some n =>
        let d := (d.eccRead [] ecc).serve n
        match d.fetchDesc n host with
        | .inr code => d.fetchFails n code
        | .inl x => d.enter n x)

/-! ## Start -/

/-- The unit a descriptor needs (04 R114); 0 for the synchronisation class, which takes none. -/
def unitOf (x : Nat) : Nat :=
  let op := hdOpcode x
  if 0x34 ≤ op ∧ op ≤ 0x37 then 8
  else if opClass op = 5 then 16 + ceUnit x
  else if opClass op = 7 then 0 else opClass op

/-- The tile rule of 03 R88 lets an entry start. -/
def Dev.tilesFree (d : Dev) (e : Entry) : Bool :=
  (d.tileUses e).all (fun u =>
    d.disp.board.all (fun o => !decide (o.id < e.id) || (d.tileUses o).all (fun v =>
      v.1 != u.1 || !usesOrder v.2 u.2 || o.useOver v.2)))

/-- The holds of the collective and synchronisation classes, and the units that run several operations (04 R114, R133, R139;
08 R254). -/
def Dev.holdFree (d : Dev) (e : Entry) : Bool :=
  let op := hdOpcode e.desc
  let b := d.disp.board
  if op = 0x43 then
    let s := d.stepOf e.desc
    decide (s < d.step)
      && b.all (fun o => !(decide (o.id < e.id) && opClass (hdOpcode o.desc) == 4 && coTensor o.desc == coTensor e.desc
            && serialNewer 16 (coEpoch e.desc) (coEpoch o.desc)))
      && b.all (fun o => !(opClass (hdOpcode o.desc) == 6 && d.entryStep o == s))
      && decide ((b.filter (fun o => opClass (hdOpcode o.desc) == 4 && o.started && o.done.isNone)).length < 256)
  else if op = 0x73 then b.all (fun o => !(decide (o.id < e.id) && opClass (hdOpcode o.desc) == 6))
  else if opClass op = 4 then
    decide ((b.filter (fun o => opClass (hdOpcode o.desc) == 4 && o.started && o.done.isNone)).length < 256)
  else if opClass op = 6 then !(b.any (fun o => opClass (hdOpcode o.desc) == 6 && o.started && o.done.isNone))
  else true

/-- Whether throttling holds the start of main-array operations now: the first sixteenths of each millisecond since it began (16 R493; which
part of the millisecond: DESIGN CHOICE, log entry 192). -/
def Dev.throttled (d : Dev) : Bool := decide (16 * ((d.now - d.power.throttleAt) % 1000000) < d.power.throttle * 1000000)

/-- An issued descriptor is ready for its unit (04, "Dispatch and ordering"); throttling holds the array's (16 R493). -/
def Dev.ready (d : Dev) (e : Entry) : Bool :=
  d.computes && !e.started && (d.outcome e).isNone && d.waitsMet e.desc
    && (!hdSerial e.desc || d.disp.board.all (fun o => !(o.ring == e.ring && (o.index + 1) % 2 ^ 32 == e.index)))
    && d.tilesFree e && d.holdFree e && !(unitOf e.desc == 1 && d.throttled)

/-- The oldest issued of the ready descriptors of a unit starts first. -/
def Dev.mayStart (d : Dev) (e : Entry) : Bool :=
  d.ready e && (unitOf e.desc == 0
    || d.disp.board.all (fun o => !(decide (o.id < e.id) && unitOf o.desc == unitOf e.desc && d.ready o)))

/-- A descriptor starts: its step is fixed (04 R110). -/
def Dev.markStarted (d : Dev) (e : Entry) : Dev := (d.setEntry { e with started := true, step := d.stepOf e.desc }).acted

/-- A descriptor's work has ended. -/
def Dev.finish (d : Dev) (id : Nat) (done : Done) : Dev :=
  match d.entry id with
  | some e => d.setEntry { e with done := some done }
  | none => d

/-- The scoreboard is the dispatcher's: what the work of descriptor `id` leaves of `b` is all of it, but for the pin of its own entry
(05 R155). -/
def Dev.keepBoard (d : Dev) (id : Nat) (b : List Entry) : Dev :=
  let pin := match d.entry id with
    | some x => x.pinned
    | none => false
  { d with disp := { d.disp with board := b.map (fun x => if x.id = id then { x with pinned := pin } else x) } }

/-- Start descriptor `id`, if its opcode is `op` and it may start, and run `f` on it to its end. -/
def Dev.startWith (d : Dev) (id op : Nat) (f : Dev → Entry → Job) : Dev :=
  match d.entry id with
  | none => d
  | some e =>
    if hdOpcode e.desc != op || !d.mayStart e then d
    else
      let d := d.markStarted e
      let j := f d { e with started := true, step := d.stepOf e.desc }
      (j.d.keepBoard id d.disp.board).finish id j.done

end Sys2Proof.Machine
end

