-- ==== Sys2Proof/Machine/Sync.lean ====
section
/-! DEFINITION. The synchronisation opcodes (04 R137-R139) and the loss-scale rule at a step boundary (02 R51, R52). -/

namespace Sys2Proof.Machine

/-- The loss scale latched for the step; before any backward seed, the value of `LS_EXP` (02 R51). -/
def Dev.lossL (d : Dev) : Nat := d.cmp.lossL.getD (d.get 0x5030 1)

/-- The device's change of L, unless a port wrote `LS_EXP` since the latch (02 R51, R52). -/
def Job.changeL (j : Job) (l : Nat) : Job :=
  if j.d.cmp.lossWritten || l == j.d.lossL then j else (j.dev (fun d => d.put 0x5030 1 l)).raise 0x0511 l 0

/-- The loss-scale rule at the end of a step (02 R52, R62). -/
def Job.lossRule (j : Job) (skipped : Bool) : Job :=
  let l := j.d.lossL
  let j := if skipped then j.dev (fun d => d.addSat 0x5030 5 32 1) else j
  if j.d.get 0x5030 2 != 1 then j
  else if skipped then
    let j := j.dev (fun d => d.put 0x5030 4 0)
    if l = 0 then j.raise 0x2512 0 0 else j.changeL (l - 1)
  else
    let run := j.d.get 0x5030 4 + 1
    if j.d.get 0x5030 3 ≤ run then (j.dev (fun d => d.put 0x5030 4 0)).changeL (min (l + 1) 32)
    else j.dev (fun d => d.put 0x5030 4 run)

/-- Whether the device treats a step as skipped (08 R237). -/
def Dev.stepSkipped (d : Dev) (s : Nat) : Bool := d.cmp.skips.any (fun k => k.step == s && k.skipped)

/-- What a step boundary does (02 R52; 04 R139; 11 R347, R366; 12 R383, R390; 13 R411; 19 R569). -/
def Job.boundary (j : Job) : Job :=
  let s := j.d.step
  let skipped := j.d.stepSkipped s
  let l := j.d.lossL
  let j := j.dev (fun d => d.note 5 (b2n skipped) l)
  let j := j.lossRule skipped
  j.dev (fun d =>
    let d : Dev := { (d.put 0x5080 4 (s + 1)) with
      cmp := { d.cmp with lossL := none, lossWritten := false, skips := d.cmp.skips.filter (fun k => decide (s < k.step)) }
      shadow := if d.shadow.current = some s then { d.shadow with boundary := true } else d.shadow }
    ((d.renumber.boundarySlack).autoClose s).life 10 64 1)

/-- SYNC_NOP (04 R138). -/
def execSyncNop (id : Nat) (s : State) : Host.Outcome State Fault Refusal :=
  run s (fun _ d => d.startWith id 0x70 (fun d _ => Job.start d))

/-- SYNC_WAIT_HT (04 R106, R138): it completes at its target, or at once with `LATE` when it starts after it. -/
def execSyncWaitHt (id : Nat) (s : State) : Host.Outcome State Fault Refusal :=
  run s (fun _ d =>
    match d.entry id with
    | none => d
    | some e =>
      let t := syHtTarget e.desc
      if hdOpcode e.desc != 0x71 || e.done.isSome || (!e.started && !d.mayStart e) then d
      else
        let late := !e.started && decide (t < d.ht)
        let d := if e.started then d else d.markStarted e
        if d.ht < t then d
        else d.finish id (((Job.start d).flagIf late sfLate).result (d.ht - t)).done)

/-- SYNC_COUNTER_SET (04 R138). -/
def execSyncCounterSet (id : Nat) (s : State) : Host.Outcome State Fault Refusal :=
  run s (fun _ d => d.startWith id 0x72 (fun d e => Job.start (d.setCounter (syCid e.desc) (syCvalue e.desc))))

/-- SYNC_STEP_BOUNDARY (04 R139; 12 R378). A boundary that meets both cases is `STEP_ABANDONED` (DESIGN CHOICE, log entry 159). -/
def execSyncStepBoundary (id : Nat) (s : State) : Host.Outcome State Fault Refusal :=
  run s (fun _ d => d.startWith id 0x73 (fun d e =>
    if 0 < syNextStep e.desc ∧ d.disp.fatalSteps.contains (syNextStep e.desc - 1) then (Job.start d).fail ccAbandoned
    else if syNextStep e.desc != d.step + 1 then (Job.start d).fail ccInvalidField
    else (Job.start d).boundary))

/-- SYNC_MARKER (04 R137, R138). -/
def execSyncMarker (id : Nat) (s : State) : Host.Outcome State Fault Refusal :=
  run s (fun _ d => d.startWith id 0x74 (fun d e =>
    let l := toBytes 8 (syHtTarget e.desc)
    Job.start (if syHost e.desc then d.post (syHostAddr e.desc) l else d.wr (syAddr e.desc) l false)))

end Sys2Proof.Machine
end

