-- ==== Sys2Proof/Machine/Array.lean ====
section
/-! DEFINITION. The main array (03): the reduction order, accumulator tiles with their spill slots, twin mode, drains; and the sums
that the taps form beside it (06 R170-R173). -/

namespace Sys2Proof.Machine

/-! ## Positions of accumulator tiles -/

/-- The A32 pattern at row `r`, column `c` of tile `t`. -/
def Dev.acc (d : Dev) (t r c : Nat) : Nat := sget (fun _ => 0) d.cmp.acc (t * 0x200000 + r * 2048 + c)
def Dev.setAcc (d : Dev) (t r c v : Nat) : Dev :=
  { d with cmp := { d.cmp with acc := sset (fun _ => 0) d.cmp.acc (t * 0x200000 + r * 2048 + c) v } }

/-- The address of a spill-slot element (03 R79). -/
def Dev.spillAddr (d : Dev) (t r c : Nat) : Nat := d.spillBase + 0x1000000 * t + 8 * (2048 * r + c)

/-- Every (row, column) of a block, in element order. -/
def grid (rows cols : Nat) : List (Nat × Nat) := (below rows).flatMap (fun r => (below cols).map (fun c => (r, c)))

/-- Whether the spill slot of a position was written since the tile's `SPILL_VALID` was last 0 (03 R70, R76; DESIGN CHOICE, log entry 152). -/
def Dev.isFresh (d : Dev) (t r c : Nat) : Bool :=
  (d.tile t).spillValid && sget (fun _ => false) d.cmp.fresh (t * 0x200000 + r * 2048 + c)
def Dev.setFresh (d : Dev) (t r c : Nat) : Dev :=
  { d with cmp := { d.cmp with fresh := sset (fun _ => false) d.cmp.fresh (t * 0x200000 + r * 2048 + c) true } }

/-- No position of a tile counts as spilled. -/
def Dev.dropFresh (d : Dev) (t : Nat) : Dev :=
  { d with cmp := { d.cmp with fresh := d.cmp.fresh.filter (fun p => p.1 / 0x200000 != t) } }

/-- An operation failed after it began to write the tile: contents and spill slot become unspecified; whether it made its final spill,
which `SPILL_VALID` says, is open, but for Pedigree mode, which makes none (03 R70, R76, R77). -/
def Dev.tear (d : Dev) (t : Nat) (poison : Bool) : Dev :=
  let n := d.draws
  let d := (grid 1024 2048).foldl (fun d p =>
    let i := 2048 * p.1 + p.2
    (d.setAcc t p.1 p.2 (Config.unspecified n i % 2 ^ 32)).wr (d.spillAddr t p.1 p.2)
      (toBytes 8 (Config.unspecified (n + 1) i)) false) { d with draws := d.draws + 3 }
  d.setTile t { d.tile t with torn := true, spillValid := !d.pedigree && Config.unspecified (n + 2) 0 % 2 == 1, poison := (d.tile t).poison || poison }

/-! ## The reduction order (03 R67-R70) -/

/-- Subnormals flushed in Pedigree mode (02 R59, 03 R68). -/
def flushIf (ped : Bool) (x : Fp) : Fp := if ped then flush32 x else x

/-- One A32 addition. -/
def add32 (ped : Bool) (x y : Fp) : Fp := flushIf ped (rne32 (fpAdd x y))

/-- The exact sum of the present products of `n` indices from `base`; none when all are absent. -/
def groupSum (p : Nat → Option Fp) (base : Nat) : Nat → Option Fp
  | 0 => none
  | n + 1 =>
    match p base, groupSum p (base + 1) n with
    | none, r => r
    | some x, none => some x
    | some x, some y => some (fpAdd x y)

/-- `n` groups of `g` indices from `base`, added into `a` in ascending order. -/
def chainSum (ped : Bool) (p : Nat → Option Fp) (g base : Nat) (a : Fp) : Nat → Fp
  | 0 => a
  | n + 1 =>
    let a := match groupSum p base g with
      | none => a
      | some v => add32 ped a (flushIf ped (rne32 v))
    chainSum ped p g (base + g) a n

/-- Passes of a reduction of length `k`. -/
def passes (k : Nat) : Nat := (k + 2047) / 2048

/-- Spills of an operation: one each `s` passes, and one at the end. -/
def spills (k s : Nat) : Nat := (passes k + s - 1) / s

/-- The W64 sum of an output position, from its starting value (03 R70). -/
def reduceNative (p : Nat → Option Fp) (g s k : Nat) (start : Fp) : Fp :=
  let n := passes k
  ((below n).foldl (fun (acc : Fp × Fp) i =>
    let a := chainSum false p g (2048 * i) acc.2 (2048 / g)
    if (i + 1) % s = 0 ∨ i + 1 = n then (rne64 (fpAdd acc.1 a), fp0) else (acc.1, a)) (start, fp0)).1

/-- The A32 sum of an output position in Pedigree mode: groups of 4, no spill (02 R59, 03 R70). -/
def reducePedigree (p : Nat → Option Fp) (k : Nat) (start : Fp) : Fp :=
  chainSum true p 4 0 (flush32 start) (512 * passes k)

/-! ## Operands -/

/-- An operand matrix in memory: where, stride, transposed, format, scale exponent. -/
structure Side where
  addr : Nat
  stride : Nat
  trans : Bool
  fmt : DFmt
  e : Int
deriving DecidableEq, Repr

/-- Element (i, j) of an operand (04 R120). -/
def Side.at (m : Mem) (ped : Bool) (o : Side) (i j : Nat) : Fp :=
  let z := o.fmt.size
  let a := if o.trans then o.addr + j * o.stride + i * z else o.addr + i * o.stride + j * z
  let v := o.fmt.value o.e (m.num a z)
  if o.fmt = .g16 then flushIf ped v else v

/-- The format of an array operand (04 R119). -/
def arFmt (code : Nat) : DFmt := if code = 0 then .fb8 else if code = 1 then .gb8 else .g16

/-- The exponent an array operand takes: `EXP` of its record, 0 for G16. -/
def Dev.arExp (d : Dev) (code rec : Nat) : Int := if code = 2 then 0 else d.scaleExp rec

/-! ## Writing a tile -/

/-- What a tile operation covers and how: the tile, the add flag, rows, columns, the first column, passes' spills. -/
structure TileOp where
  tile : Nat
  add : Bool
  rows : Nat
  cols : Nat
  col0 : Nat
  spills : Nat
deriving DecidableEq, Repr

/-- The tile's status after `n` spills, and whether the bound was lost in them (03 R70, R78, R83). -/
def Tile.spilled (x : Tile) (n : Nat) : Tile :=
  { x with spillCount := min (x.spillCount + n) 0x100000, boundLost := x.boundLost || decide (0x100000 < x.spillCount + n) }

/-- The value from which an add of a position starts: its W64 spill where there is one, else the tile's A32 value widened (03 R70). -/
def Dev.carried (d : Dev) (t r c : Nat) : Fp :=
  if d.isFresh t r c then fmtW64.dec (d.num (d.spillAddr t r c) 8) else fmtA32.dec (d.acc t r c)

/-- One output position in native arithmetic; of the spill slot, only its own W64 value is read and written (03 R81). -/
def Dev.putNative (d : Dev) (o : TileOp) (value : Fp → Fp) (masked : Bool) (r c : Nat) : Dev :=
  if masked && o.add then d
  else
    let s := if masked then fp0 else value (if o.add then d.carried o.tile r c else fp0)
    ((d.setAcc o.tile r c (fmtA32.enc s)).wr (d.spillAddr o.tile r c) (toBytes 8 (fmtW64.enc s)) false).setFresh o.tile r c

/-- One output position in Pedigree mode. -/
def Dev.putPedigree (d : Dev) (o : TileOp) (value : Fp → Fp) (masked : Bool) (r c : Nat) : Dev :=
  if masked && o.add then d
  else
    let s := if masked then fp0 else value (if o.add then fmtA32.dec (d.acc o.tile r c) else fp0)
    d.setAcc o.tile r c (fmtA32.enc s)

/-- An operation on a tile: its status at the start, its positions, its spills, its status at the end (03 R70, R74-R78, R83).
`value r c` is the reduction from a starting value, `masked r c` says which positions are masked. -/
def Job.tileOp (j : Job) (o : TileOp) (value : Nat → Nat → Fp → Fp) (masked : Nat → Nat → Bool) : Job :=
  let d := j.d
  let ped := d.pedigree
  let x := d.tile o.tile
  let full := !o.add && o.rows == 1024 && o.cols == 2048
  let x := if o.add then x else { x with spillCount := 0, boundLost := false }
  let x := if full then { x with torn := false, poison := false } else x
  if ped then
    let d := (grid o.rows o.cols).foldl
      (fun d p => d.putPedigree o (value p.1 p.2) (masked p.1 p.2) p.1 (o.col0 + p.2)) d
    { j with d := d.setTile o.tile { x with spillValid := false } }
  else
    let d := if x.spillValid then d else d.dropFresh o.tile
    let d := if o.add then d else d.clearCovered (rowsOf (d.spillAddr o.tile 0 o.col0) o.rows 16384 (8 * o.cols))
    let d := (grid o.rows o.cols).foldl
      (fun d p => d.putNative o (value p.1 p.2) (masked p.1 p.2) p.1 (o.col0 + p.2)) d
    let lost := decide (0x100000 < x.spillCount + o.spills)
    let j : Job := ({ j with d := d.setTile o.tile { x.spilled o.spills with spillValid := true } } : Job).flagIf lost sfBoundLost
    if lost && !x.boundLost then j.raise 0x0520 o.tile 0 else j

/-! ## Drains (03 R86, R87) -/

/-- A tile value as a drain takes it; STORE_A32 too flushes in Pedigree mode (02 R59; DESIGN CHOICE, log entry 154). -/
def Dev.drainValue (d : Dev) (t r c : Nat) : Fp := flushIf d.pedigree (fmtA32.dec (d.acc t r c))

/-- The cells that the drain of an array descriptor writes in memory, in element order: those its mask leaves (03 R86). -/
def arCells (x : Nat) (masked : Nat → Nat → Bool) : List (Nat × Nat) := (grid (arM x) (arN x)).filter (fun p => !masked p.1 p.2)

/-- Where the element of cell `p` lies in the output of an array descriptor. -/
def arPlace (x : Nat) (p : Nat × Nat) : Nat := arCAddr x + p.1 * arCStride x + p.2 * outSize (arOutMode x)

/-- The new G16 element of an `ACCUM_G16` buffer (02 R53, R59; 03 R87). -/
def accumG16 (ped sr : Bool) (old : Nat) (v : Fp) (r : Nat) : Nat :=
  let s := add32 ped (flushIf ped (fmtG16.dec old)) v
  if sr && !ped then srG16 (fmtA32.enc s) r else fmtG16.enc (flushIf ped (rne16 s))

/-- The drain of the rows and columns of a descriptor from a tile, in its output mode. `poison` marks what it writes. -/
def Job.drain (j : Job) (x s t col0 : Nat) (masked : Nat → Nat → Bool) (poison : Bool) : Job :=
  let mode := arOutMode x
  let cells := arCells x masked
  let z := outSize mode
  let at_ := arPlace x
  let val (d : Dev) (p : Nat × Nat) : Fp := d.drainValue t p.1 (col0 + p.2)
  let j := if z = 0 then j else j.dev (fun d => d.clearCovered (cells.map (fun p => (at_ p, z))))
  match mode with
  | 1 => j.dev (fun d => cells.foldl (fun d p => d.wr (at_ p) (toBytes 4 (fmtA32.enc (val d p))) poison) d)
  | 2 => j.dev (fun d => cells.foldl (fun d p =>
      d.wr (at_ p) (toBytes 2 (fmtG16.enc (flushIf d.pedigree (rne16 (val d p))))) poison) d)
  | 3 =>
    let (j, l) := j.produce (arScaleC x) (srGB8 (j.d.scaleRec (arScaleC x))) (cells.map (val j.d))
    j.dev (fun d => (cells.zip l).foldl (fun d q => d.wr (at_ q.1) (toBytes 1 q.2) poison) d)
  | 4 => j.dev (fun d => cells.foldl (fun d p =>
      let i := (arOutIndex0 x + p.1 * arOutPitch x + p.2) % 2 ^ 40
      let r := srBits (d.get 0x5040 1) s (arTensor x) 0 i
      d.wr (at_ p) (toBytes 2 (accumG16 d.pedigree (arRound x) (d.num (at_ p) 2) (val d p) r)) poison) d)
  | _ => j

/-! ## The taps beside the array (06 R170-R173) -/

/-- The statistics header's fields (06 R175). -/
def thFactor (h : Nat) : Nat := bits h 464 48
def thBeta (h : Nat) : Nat := bits h 432 32
def thMergeOps (h : Nat) : Nat := bits h 416 16
def thOps (h : Nat) : Nat := bits h 400 16
def thSkipped (h : Nat) : Nat := bits h 368 32
def thMerges (h : Nat) : Nat := bits h 336 32
def thTokens (h : Nat) : Nat := bits h 272 64
def thNblocks (h : Nat) : Nat := bits h 256 16
def thBCode (h : Nat) : Nat := bits h 254 2
def thGrad (h : Nat) : Bool := bit h 253
def thValid (h : Nat) : Bool := bit h 252

/-- β is a finite value from 0 to 1. -/
def betaOk (b : Nat) : Bool :=
  let v := fmtA32.dec b
  v.isFinite && (!v.isNeg || v.isZero) && fpLe v fp1

/-- Whether an extent overlaps the accumulator window or a device table (06 R174). -/
def Dev.tapPlaceBad (d : Dev) (e : Ext) : Bool := overlaps e.1 e.2 windowBase windowSize || d.hitsTable e

/-- The start check of a tapped operation fails (06 R176); an extent outside the populated regions fails too (04 R118). The extent of
the tile itself was checked at issue, but for a tile in the accumulator window. -/
def Dev.tapCheck (d : Dev) (x : Nat) : Nat :=
  let h := d.num (arTapAddr x) 64
  let n := 4 * tapBlocks x * tapB x * tapB x
  if (tapTile x).meetsWindow then ccInvalidField
  else if thBCode h != arTapBlock x || thGrad h != (arTapEn x == 2) || thNblocks h != tapBlocks x
      || (thMergeOps h != 0 && (!betaOk (thBeta h) || decide (thMergeOps h ≤ thOps h)))
      || d.tapPlaceBad (arTapAddr x, 64 + n) || (thMergeOps h != 0 && d.tapPlaceBad (thFactor h, n)) then ccInvalidField
  else if thMergeOps h != 0 && !d.extentIn coreRegions (thFactor h, n) then ccAddressRange
  else 0

/-- Whether the tap samples row `r` (06 R172). -/
def sampled (x s : Nat) (m : Mask) (r : Nat) : Bool :=
  ((arRowToken0 x + r : Nat) - (s : Int)) % ((2 ^ arTapSample x : Nat) : Int) == 0 && !m.padRow r

/-- Entry (i, j) of block `b` summed over the sampled rows (06 R173). -/
def tapEntry (z : Nat → Nat → Fp) (rows : List Nat) (extent k l : Nat) : Nat :=
  if k < extent ∧ l < extent then fmtA32.enc (rows.foldl (fun a r => rne32 (fpAdd a (fpMul (z r k) (z r l)))) fp0) else 0

/-- The flush that a tapped operation queues. -/
def tapFlush (id x s lossL : Nat) (m : Mask) (poison : Bool) (z : Nat → Nat → Fp) : TapFlush :=
  let rows := (below (arM x)).filter (sampled x s m)
  let b := tapB x
  let ext := tapExtent x
  ⟨id, arTapAddr x, arTapBlock x, arTapEn x == 2, lossL, rows.length, poison,
    (below (tapBlocks x)).map (fun i => (i, (grid b b).map (fun p => tapEntry z rows ext (i * b + p.1) (i * b + p.2))))⟩

/-- The tap of an operation queues its flush. -/
def Job.tap (j : Job) (id x s : Nat) (m : Mask) (poison : Bool) (z : Nat → Nat → Fp) : Job :=
  if arTapEn x = 0 then j
  else j.dev (fun d => { d with cmp := { d.cmp with taps := d.cmp.taps ++ [tapFlush id x s d.lossL m poison z] } })

/-! ## The start of an array operation -/

/-- The version start of an array descriptor (05 R154-R156), with the pin on its entry. -/
def Job.weights (j : Job) (e : Entry) : Job :=
  let x := e.desc
  if arWverId x = 0xFFF then j
  else
    let j := j.takeVersion (arWverId x) (arWver x) (arWverRef x) e.step e.ring e.index
    if j.done.code = 0 then j.dev (fun d => d.setEntry { e with pinned := true }) else j

/-- Where the stationary operand lies, and its scale record (05 R154). -/
def Dev.stationary (d : Dev) (x : Nat) : Nat × Nat :=
  if arWverId x = 0xFFF then (arBAddr x, arScaleB x)
  else
    let v := d.vring (arWverId x)
    let s := vrSlot v (arWver x)
    (vrSlotBase v s + arBAddr x, vrScale v s)

/-- The mask of an array descriptor (04 R142). -/
def Dev.arMask (d : Dev) (x : Nat) : Mask := d.mask (arMaskMode x) (arSeqAddr x) (arRowToken0 x) (arColToken0 x)

/-- The records that say where an array operation works: its ring record and its tap header. -/
def Dev.arRecords (d : Dev) (x : Nat) : List Ext :=
  (if arWverId x = 0xFFF then [] else [(d.vringAddr (arWverId x), 64)])
    ++ (if arTapEn x = 0 || (tapTile x).meetsWindow then [] else [(arTapAddr x, 64)])

/-- The other control data an array operation reads: sequence table, scale records, an output record with its history. -/
def Dev.arControl (d : Dev) (x : Nat) : List Ext :=
  let rec8 (code k : Nat) : List Ext := if code = 2 then [] else [(d.scaleAddr k, 32)]
  d.seqReads (arMaskMode x) (arSeqAddr x)
    ++ rec8 (arFmtA x) (arScaleA x) ++ rec8 (arFmtB x) (d.stationary x).2
    ++ (if hdOpcode x = 0x11 then [(d.scaleAddr (arScaleC x), 32)]
        else if arOutMode x = 3 then d.producerReads (arScaleC x) else [])

/-- `G` and `S` (04 R119). -/
def arG (x : Nat) : Nat := 4 * 2 ^ arGCode x
def arS (x : Nat) : Nat := 2 ^ arSCode x

/-- What an array descriptor does to tiles: its tile operations, each with the positions that its mask covers (03 R69, R84). -/
def Dev.tileOps (d : Dev) (x : Nat) : List (TileOp × (Nat → Nat → Bool)) :=
  let m := d.arMask x
  if hdOpcode x = 0x11 then
    [(⟨arTile x, arAdd x, arM x, arN x, if arWestHalf x then 1024 else 0, 1⟩, fun t _ => m.padRow t),
     (⟨arTileEast x, arAddEast x, arN x, arK x, 0, 1⟩, fun _ _ => false)]
  else [(⟨arTile x, arAdd x, arM x, arN x, arCol0 x, spills (arK x) (arS x)⟩, m.out)]

/-- The W64 spill values that the adds of an array descriptor start from (03 R70, R81). -/
def Dev.spillReads (d : Dev) (x : Nat) : List Ext :=
  if d.pedigree then []
  else (d.tileOps x).flatMap (fun o =>
    if !o.1.add then [] else
    ((grid o.1.rows o.1.cols).filter (fun p => !o.2 p.1 p.2 && d.isFresh o.1.tile p.1 (o.1.col0 + p.2))).map (fun p =>
      (d.spillAddr o.1.tile p.1 (o.1.col0 + p.2), 8)))

/-- The operand data it reads: A, B, X, the spilled values of adds, the unmasked elements of an `ACCUM_G16` buffer (03 R86). -/
def Dev.arData (d : Dev) (x : Nat) : List Ext :=
  ((arrayOperands x).filter (fun o => !o.write)).flatMap Operand.parts
    ++ (if arWverId x = 0xFFF then [] else (arOperandB x (d.stationary x).1).parts)
    ++ d.spillReads x
    ++ (if hdOpcode x = 0x10 ∧ arOutMode x = 4 then (arCells x (d.arMask x).out).map (fun p => (arPlace x p, 2)) else [])

/-- A poisoned tile whose A32 values an add starts from, by its window address (09 R273, R277). -/
def Dev.poisonedTile (d : Dev) (x : Nat) : Option Nat :=
  ((addTiles x).find? (fun t => (d.tile t).poison)).map (fun t => windowBase + 0x800000 * t)

/-- The start checks of an array operation after its version start, in order; `torn` is the status before its reads. -/
def Dev.arStart (d : Dev) (x : Nat) (torn : Bool) : Nat :=
  if arWverId x != 0xFFF && !d.extentIn coreRegions (arOperandB x (d.stationary x).1).ext then ccAddressRange
  else if !(d.arMask x).ok then ccSeqTable
  else
    let c := if arTapEn x = 0 then 0 else d.tapCheck x
    if c != 0 then c
    else if torn then ccOperandRefused
    else if hdOpcode x == 0x10 && arOutMode x == 3 && !d.histOk (arScaleC x) then ccAddressRange
    else 0

/-- The first poisoned byte of what an array operation that runs reads: its control data, its operands, its tile (09 R275). -/
def Dev.arBad (d : Dev) (x : Nat) : Option Nat :=
  (d.firstPoison (d.arControl x)).or ((d.firstPoison (d.arData x)).or (d.poisonedTile x))

/-- Begin an array operation: its reads' errors and version. Poisoned records that say where it works end it with nothing written, as
does a failing start check, with `POISONED` where it read poison. Else `f`, with the address of poisoned data, if any (09 R274, R275). -/
def Job.arrayRun (j : Job) (e : Entry) (ecc : List EccHit) (f : Job → Option Nat → Job) : Job :=
  let x := e.desc
  let torn := (addTiles x).any (fun t => (j.d.tile t).torn)
  let j := (j.dev (fun d => d.eccRead (d.accReads x) ecc)).weights e
  if j.done.code != 0 then j
  else
    match j.d.firstPoison (j.d.arRecords x) with
    | some a => j.poisonedAt e.step a
    | none =>
      let c := j.d.arStart x torn
      if c != 0 then j.failRead e.step c (j.d.firstPoison (j.d.arControl x))
      else f j (j.d.arBad x)

/-- The end of an operation that read poisoned data: the code and event, and its tiles torn and poisoned (09 R274, R275). -/
def Job.arrayPoison (j : Job) (s : Nat) (tiles : List Nat) (bad : Option Nat) : Job :=
  match bad with
  | none => j
  | some a => tiles.foldl (fun j t => j.dev (fun d => d.tear t true)) (j.poisonedAt s a)

/-! ## Plain operations -/

/-- Whether pass `i` is skipped: every product of its weight tile absent, or every output masked (04 R125). -/
def passSkipped (x : Nat) (m : Mask) (i : Nat) : Bool :=
  (below (arM x)).all (fun r =>
    (below (arN x)).all (fun c => m.out r c)
      || (upFrom (2048 * i) (min 2048 (arK x - 2048 * i))).all (fun k => m.red r k))

/-- The handshakes an operation occupies (03 R594 and "Rates"; 02 R59). -/
def handshakes (ped : Bool) (id rows runs perSpill : Nat) : Nat :=
  (if ped then 8 else 1) * runs * max rows 1024 + (if ped then 0 else perSpill) + Config.arrayFill id

/-- The product of reduction index `k` for output (r, c); none where it is absent or beyond `K`. -/
def product (m : Mem) (ped : Bool) (a b : Side) (mask : Mask) (kmax r c k : Nat) : Option Fp :=
  if k < kmax ∧ !mask.red r k then some (fpMul (a.at m ped r k) (b.at m ped k c)) else none

/-- The sides of an array descriptor. -/
def Dev.sideA (d : Dev) (x : Nat) : Side :=
  ⟨arAAddr x, arAStride x, arTransA x, arFmt (arFmtA x), d.arExp (arFmtA x) (arScaleA x)⟩
def Dev.sideB (d : Dev) (x : Nat) : Side :=
  ⟨(d.stationary x).1, arBStride x, arTransB x, arFmt (arFmtB x), d.arExp (arFmtB x) (d.stationary x).2⟩
def Dev.sideX (d : Dev) (x : Nat) : Side :=
  ⟨arCAddr x, arCStride x, false, arFmt (arFmtC x), d.scaleExp (arScaleC x)⟩

/-- The reduction of a position in the mode in force. -/
def reduceAt (ped : Bool) (g s k : Nat) (p : Nat → Option Fp) (start : Fp) : Fp :=
  if ped then reducePedigree p k start else reduceNative p g s k start

/-- A tapped value: rounded once to G16 for an 8-bit operand, itself for G16 (06 R173). -/
def tapValue (o : Side) (v : Fp) : Fp := if o.fmt = .g16 then v else rne16 v

/-- The work of `ARRAY_MATMUL` (03 R64-R87; 04 R119-R125). At S = 1 the spills of skipped passes count their handshakes too (DESIGN CHOICE,
log entry 157). -/
def Job.matmul (j : Job) (e : Entry) (bad : Option Nat) : Job :=
  let x := e.desc
  let d := j.d
  let mem := d.mem
  let ped := d.pedigree
  let a := d.sideA x
  let b := d.sideB x
  let m := d.arMask x
  let o : TileOp := ⟨arTile x, arAdd x, arM x, arN x, arCol0 x, spills (arK x) (arS x)⟩
  let j := j.tileOp o (fun r c s0 => reduceAt ped (arG x) (arS x) (arK x) (product mem ped a b m (arK x) r c) s0) m.out
  let j := j.drain x e.step (arTile x) (arCol0 x) m.out bad.isSome
  let j := j.tap e.id x e.step m bad.isSome (fun r k => tapValue a (a.at mem false r k))
  let runs := ((below (passes (arK x))).filter (fun i => !passSkipped x m i)).length
  let j := j.result (handshakes ped e.id (arM x) runs (if arS x = 1 then 60 * (passes (arK x) - 1) else 0))
  j.arrayPoison e.step [arTile x] bad

/-- The work of `ARRAY_TWIN` (03 R84, R85; 04 R122). -/
def Job.twin (j : Job) (e : Entry) (bad : Option Nat) : Job :=
  let x := e.desc
  let d := j.d
  let mem := d.mem
  let ped := d.pedigree
  let a := d.sideA x
  let b := d.sideB x
  let c := d.sideX x
  let m := d.arMask x
  let west : TileOp := ⟨arTile x, arAdd x, arM x, arN x, if arWestHalf x then 1024 else 0, 1⟩
  let east : TileOp := ⟨arTileEast x, arAddEast x, arN x, arK x, 0, 1⟩
  let j := j.tileOp west (fun t k s0 => reduceAt ped (arG x) (arS x) (arK x)
    (fun n => if n < arK x then some (fpMul (a.at mem ped t n) (b.at mem ped n k)) else none) s0) (fun t _ => m.padRow t)
  let j := j.tileOp east (fun k n s0 => reduceAt ped (arG x) (arS x) (arM x)
    (fun t => if t < arM x ∧ !m.padRow t then some (fpMul (c.at mem ped t k) (a.at mem ped t n)) else none) s0)
    (fun _ _ => false)
  let j := j.tap e.id x e.step m bad.isSome
    (if arTapEn x = 1 then fun t k => tapValue c (c.at mem false t k) else fun t k => tapValue a (a.at mem false t k))
  let skip := (below (arM x)).all m.padRow
  let j := j.result (handshakes ped e.id (arM x) (if skip then 0 else 1) 0)
  j.arrayPoison e.step [arTile x, arTileEast x] bad

/-- ARRAY_MATMUL (03, 04 R119-R125). -/
def execArrayMatmul (id : Nat) (ecc : List EccHit) (s : State) : Host.Outcome State Fault Refusal :=
  run s (fun _ d => d.startWith id 0x10 (fun d e => (Job.start d).arrayRun e ecc (fun j bad => j.matmul e bad)))

/-- ARRAY_TWIN (03 R84, R85; 04 R122). -/
def execArrayTwin (id : Nat) (ecc : List EccHit) (s : State) : Host.Outcome State Fault Refusal :=
  run s (fun _ d => d.startWith id 0x11 (fun d e => (Job.start d).arrayRun e ecc (fun j bad => j.twin e bad)))

/-- The data an `ARRAY_DRAIN` reads beside the tile: the output record, or the buffer it accumulates into. -/
def Dev.drainReads (d : Dev) (x : Nat) : List Ext :=
  if arOutMode x = 3 then d.producerReads (arScaleC x)
  else if arOutMode x = 4 then rowsOf (arCAddr x) (arM x) (arCStride x) (2 * arN x) else []

/-- ARRAY_DRAIN (03 R86; 04 R123). -/
def execArrayDrain (id : Nat) (ecc : List EccHit) (s : State) : Host.Outcome State Fault Refusal :=
  run s (fun _ d => d.startWith id 0x12 (fun d e =>
    let x := e.desc
    let j := Job.start (d.eccRead (d.accReads x) ecc)
    if arOutMode x == 3 && !j.d.histOk (arScaleC x) then j.fail ccAddressRange
    else
      let bad := (if (j.d.tile (arTile x)).poison then some (windowBase + 0x800000 * arTile x) else none).or
        (j.d.firstPoison (j.d.drainReads x))
      let j := (j.drain x e.step (arTile x) (512 * arColOffset x) (fun _ _ => false) bad.isSome).result (arM x)
      match bad with
      | some a => j.poisonedAt e.step a
      | none => j))

end Sys2Proof.Machine
end

