-- ==== Sys2Proof/Machine/Memory.lean ====
section
/-! DEFINITION. Scrubbing, failed memory devices, and the apertures that serve remote Retriever requests (09 R277, R279,
R286-R288). -/

namespace Sys2Proof.Machine

/-- Whether memory answers: READY or RUN. -/
def Dev.memoryOn (d : Dev) : Bool := d.power.pstate == .ready || d.power.pstate == .run

/-- The scrub period of a region (09 R277); 0 where the scrubber does not go. -/
def Dev.scrubPeriod (d : Dev) (a : Nat) : Nat :=
  match d.region a with
  | some .near => d.get 0x4020 1
  | some .kennel => d.get 0x4020 2
  | some .tile => d.get 0x4020 3
  | _ => 0

/-- PATROL_SCRUB (09 R277): the scrubber reads a unit, `found` saying what it finds. -/
def execPatrolScrub (addr : Nat) (found : ScrubFind) (s : State) : Host.Outcome State Fault Refusal :=
  run s (fun _ d =>
    let d : Dev := { d with flaws := d.flaws ++ found.later }
    if !d.memoryOn || d.scrubPeriod addr == 0 then d
    else match found.error with
      | some unc => d.eccFound (addr / 64 * 64) unc
      | none => d)

/-- Whether a device of the list of 09 R280 is fitted: a stack, or a trained Kennel channel. -/
def Dev.deviceFitted (d : Dev) (n : Nat) : Bool :=
  decide (n < 16) || (let c := d.power.trained; c == 16 || (c == 8 && [0, 1, 2, 3, 8, 9, 10, 11].contains (n - 16)))

/-- MEM_DEVICE_FAILED (09 R279): a stack or channel stops answering in service. -/
def execMemDeviceFailed (device : Fin 32) (s : State) : Host.Outcome State Fault Refusal :=
  run s (fun _ d => if d.memoryOn && d.deviceFitted device then d.memFailed device 0 else d)

/-- Whether an extent lies inside one enabled aperture (09 R286, R287). -/
def Dev.inAperture (d : Dev) (a n : Nat) : Bool :=
  (below 8).any (fun i =>
    let base := d.get 0x4040 (i + 1)
    let len := d.get 0x4041 (i + 1)
    len != 0 && decide (base ≤ a) && decide (a + n ≤ base + len))

/-- Whether a range is a permitted aperture: aligned, disabled or inside a single near-stack or Kennel region (09 R286). -/
def Dev.apertureOk (d : Dev) (base len : Nat) : Bool :=
  base % 4096 == 0 && len % 4096 == 0
    && (len == 0 || d.extent base len == some .near || d.extent base len == some .kennel)

/-- The address of `n` bytes at an offset of the committed generation that a hold slot keeps for a device; none where it keeps none, or the
bytes go beyond the generation (12 R385, R388). -/
def Dev.heldAt (d : Dev) (source off n : Nat) : Option Nat :=
  (below 4).findSome? (fun h =>
    let size := d.get (0x7210 + h) 3
    if d.get (0x7210 + h) 1 == 0x8000 + source && d.get (0x7210 + h) 5 != 0 && decide (off + n ≤ size)
    then some (d.get (0x7210 + h) 2 + d.get (0x7210 + h) 4 % 2 * size + off) else none)

/-- Where a request of `n` bytes is served: inside an aperture, or, for a restore by the owner of a hold slot, in its committed generation;
none where it is refused (09 R287, 12 R388). -/
def Dev.serves (d : Dev) (source : Nat) (write restore : Bool) (a n : Nat) : Option Nat :=
  if restore then (if write then none else d.heldAt source a n)
  else if d.inAperture a n then some a else none

/-- A request that is not served is counted and reported (09 R287). -/
def Dev.refuseRequest (d : Dev) : Dev := (d.addSat 0x4050 2 32 1).raise 0x0705 0 0

/-- The poison marks of bytes in memory. -/
def Dev.marksOf (d : Dev) (a n : Nat) : List Bool := (upFrom a n).map d.mem.poisoned

/-- Bytes with the marks that came with them; a byte without one is not marked. -/
def withMarks (l : List Byte) (marks : List Bool) : Marked := l.zipIdx.map (fun q => (q.1, marks.getD q.2 false))

/-- A Retriever message of `n` bytes can go to a device (11 R349); it is delivered where it is this device itself. -/
def Dev.reaches (d : Dev) (a : Nat) : Bool := a == d.self || (d.inSlice a && bit (d.route a) 15)

/-- The flits of a Retriever message for a device that cannot be reached are dropped and counted (11 R349). -/
def Dev.dropMessage (d : Dev) (n : Nat) : Dev := d.addSat 0x3410 1 32 (Config.retrFlits n)

/-- The answer to a remote request leaves, if its source can be reached (11 R349). -/
def Dev.answerRemote (d : Dev) (source : Nat) (served : Bool) (bytes : List Byte) (marks : List Bool) : Dev :=
  if d.reaches source then d.emit (.retrieverAnswer source served bytes marks) else d.dropMessage bytes.length

/-- Whether a port's fence keeps out a request of a device (11 R351). -/
def Dev.fencedOut (d : Dev) (p source : Nat) : Bool := d.fenced p && !d.inSlice source

/-- REMOTE_RETRIEVER_REQUEST (09 R287): served inside an aperture, refused and counted outside; a restore, whose `addr` is an offset, is
served to the owner of a hold slot from its committed generation without that check (12 R388). The fence of the port by which it came acts first; its flits were counted
as they came (11 R351). -/
def execRemoteRetrieverRequest (p : Fin 6) (source : BitVec 14) (write : Bool) (addr : Nat) (body : RetrBody)
    (ecc : List EccHit) (s : State) : Host.Outcome State Fault Refusal :=
  run s (fun _ d =>
    let n := if write then body.bytes.length else body.length
    if !d.memoryOn || d.fencedOut p source.toNat then d
    else
      match d.serves source.toNat write body.restore addr n with
      | none => d.refuseRequest.answerRemote source.toNat false [] []
      | some a =>
        if write then (d.wrMarked a (withMarks body.bytes body.marks)).answerRemote source.toNat true [] []
        else
          let d := d.eccRead [] ecc
          d.answerRemote source.toNat true (d.rd a n) (d.marksOf a n))

end Sys2Proof.Machine
end

