-- ==== Sys2Proof/Machine/Vector.lean ====
section
/-! DEFINITION. The vector opcodes (04 R126-R129, R592, R593). -/

namespace Sys2Proof.Machine

/-! ## Slots -/

/-- An operand slot as a vector or move descriptor uses it: where, stride, format, scale exponent. -/
structure View where
  addr : Nat
  stride : Nat
  fmt : DFmt
  e : Int
deriving DecidableEq, Repr

/-- The view of a slot; an 8-bit slot takes `EXP` of its record. -/
def Dev.view (d : Dev) (slot : Nat) : View :=
  let f := (DFmt.ofCode (slFmt slot)).getD .fb8
  ⟨slAddr slot, slStride slot, f, if f.isScaled then d.scaleExp (slScale slot) else 0⟩

/-- The address, the stored pattern and the value of element (r, c) (04 R126). -/
def View.place (v : View) (r c : Nat) : Nat := v.addr + r * v.stride + c * v.fmt.size
def View.raw (v : View) (m : Mem) (r c : Nat) : Nat := m.num (v.place r c) v.fmt.size
def View.value (v : View) (m : Mem) (r c : Nat) : Fp := v.fmt.value v.e (v.raw m r c)

/-- Write a pattern at element (r, c). -/
def Dev.setElem (d : Dev) (v : View) (r c p : Nat) (poison : Bool) : Dev := d.wr (v.place r c) (toBytes v.fmt.size p) poison

/-- The scale records a descriptor's slots read. -/
def Dev.slotRecord (d : Dev) (slot : Nat) : List Ext := if slFmt slot ≤ 1 then [(d.scaleAddr (slScale slot), 32)] else []

/-- A result as its format keeps it: G16 and A32 results that are subnormal are flushed in Pedigree mode (02 R59). -/
def finalValue (ped : Bool) (f : DFmt) (v : Fp) : Fp :=
  match f with
  | .g16 => flushIf ped (rne16 v)
  | .a32 => flushIf ped (rne32 v)
  | _ => v

/-- Store values into a slot; none is a masked position and stores +0. An 8-bit slot is produced through its record from the unmasked
values (02 R44-R47; 04 R127, R593). -/
def Job.storeGrid (j : Job) (slot : Nat) (cells : List ((Nat × Nat) × Option Fp)) (poison : Bool) : Job :=
  let v := j.d.view slot
  let live := cells.filter (fun q => q.2.isSome)
  let (j, l) :=
    if v.fmt.isScaled then j.produce (slScale slot) (v.fmt == .gb8) (live.map (fun q => q.2.getD fp0))
    else (j, live.map (fun q => (v.fmt.pattern false 0 (finalValue j.d.pedigree v.fmt (q.2.getD fp0))).1))
  j.dev (fun d =>
    let d := (cells.filter (fun q => q.2.isNone)).foldl (fun d q => d.setElem v q.1.1 q.1.2 0 poison) d
    (live.zip l).foldl (fun d q => d.setElem v q.1.1.1 q.1.1.2 q.2 poison) d)

/-! ## The unit's arithmetic (04 R127) -/

/-- How a descriptor computes: in W64 when a slot names it, flushing A32 subnormals in Pedigree mode. -/
structure Ctx where
  wide : Bool
  ped : Bool
deriving DecidableEq, Repr

/-- Round a result to the width in force. -/
def Ctx.rnd (x : Ctx) (v : Fp) : Fp := if x.wide then rne64 v else flushIf x.ped (rne32 v)

/-- An input as the unit takes it. -/
def Ctx.inp (x : Ctx) (f : DFmt) (v : Fp) : Fp :=
  let v := if f = .g16 ∨ f = .a32 then flushIf x.ped v else v
  if x.wide then rne64 v else rne32 v

/-- The pattern of a value at the width in force. -/
def Ctx.pat (x : Ctx) (v : Fp) : Nat := if x.wide then fmtW64.enc v else fmtA32.enc v

/-- One of the functions within two units of the last place: its number, its exact value at an input. -/
def Ctx.fn (x : Ctx) (n : Nat) (f : Fp → Fp) (v : Fp) : Fp := flushIf (x.ped && !x.wide) (nudge x.wide n (x.pat v) (f v))

def Ctx.exp (x : Ctx) (v : Fp) : Fp := x.fn 6 fpExp v
def Ctx.rsqrt (x : Ctx) (v : Fp) : Fp := x.fn 8 fpRsqrt v

/-- The context of a vector descriptor. -/
def Dev.ctx (d : Dev) (x : Nat) : Ctx :=
  ⟨((vecSlots (hdOpcode x) (veFunc x)).getD []).any (fun i => slFmt (veSlot x i) == 4), d.pedigree⟩

/-- What a vector descriptor's element reads: slot `i` at (r, c), as the unit takes it. -/
def Dev.vin (d : Dev) (x i : Nat) : Nat → Nat → Fp :=
  let v := d.view (veSlot x i)
  let k := d.ctx x
  let m := d.mem
  fun r c => k.inp v.fmt (v.value m r c)

/-- The immediates, A32 inputs of the unit (02 R59). -/
def imm0 (ped : Bool) (x : Nat) : Fp := flushIf ped (fmtA32.dec (veImm0 x))
def imm1 (ped : Bool) (x : Nat) : Fp := flushIf ped (fmtA32.dec (veImm1 x))

/-- The mask of a vector descriptor (04 R142). -/
def Dev.veMask (d : Dev) (x : Nat) : Mask := d.mask (veMaskMode x) (veSeqAddr x) (veRowToken0 x) (veColToken0 x)

/-- The sum in W64 in ascending order, from +0. -/
def sum64 (l : List Fp) : Fp := l.foldl (fun a v => rne64 (fpAdd a v)) fp0

/-- What a vector descriptor writes (04 R593): every element of D, but only live ones in a conversion of masters and only live rows
of `VEC_LOSS` STATS; and the live elements of the other slots it writes. -/
def Dev.vecWritten (d : Dev) (x : Nat) : List Ext :=
  let m := d.veMask x
  let el (i : Nat) (p : Nat × Nat) : Ext := let v := d.view (veSlot x i); (v.place p.1 p.2, v.fmt.size)
  let live := (grid (veRows x) (veCols x)).filter (fun p => !m.out p.1 p.2)
  let rows := (below (veRows x)).filter (fun r => !m.padRow r)
  let all := (slotOperand (veD x) (vecShape x 0).1 (vecShape x 0).2 true).parts
  match hdOpcode x, veFunc x with
  | 0x25, 0 => all
  | 0x25, 1 => live.map (el 0)
  | 0x25, _ => live.map (el 0) ++ live.map (el 2)
  | 0x23, 0 => rows.flatMap (fun r => [el 0 (r, 0), el 0 (r, 1)])
  | _, _ => all

/-! ## Start and end -/

/-- Whether a vector operation produces through the record of its output slot: an 8-bit D, unless the bits are copied (04 R131, R593). -/
def vecProduces (x : Nat) : Bool :=
  slFmt (veD x) ≤ 1 && !(hdOpcode x == 0x25 && veFunc x == 0 && slFmt (veS0 x) == slFmt (veD x))

/-- The control data of a vector operation: its sequence table, its scale records, the output record with its history. -/
def Dev.vecControl (d : Dev) (x : Nat) : List Ext :=
  d.seqReads (veMaskMode x) (veSeqAddr x)
    ++ (((vecSlots (hdOpcode x) (veFunc x)).getD []).map (veSlot x)).flatMap d.slotRecord
    ++ (if vecProduces x then d.producerReads (slScale (veD x)) else [])

/-- The operand data that a vector operation reads; SEED reads its triples too. -/
def vecReads (x : Nat) : List Ext :=
  ((vectorOperands x).filter (fun o => !o.write)).flatMap Operand.parts
    ++ (if hdOpcode x = 0x23 ∧ veFunc x = 1 then (slotOperand (veS2 x) (veRows x) 3 false).parts else [])

/-- The first poisoned byte of what a vector operation reads (09 R275). -/
def Dev.vecBad (d : Dev) (x : Nat) : Option Nat := (d.firstPoison (d.vecControl x)).or (d.firstPoison (vecReads x))

/-- Begin a vector operation: its reads' errors. An invalid sequence table and a history out of reach end it with nothing written, with
`POISONED` where its control data are poisoned; else `f`, told whether it read poison, then the result (09 R274, R275). -/
def Job.vectorRun (j : Job) (e : Entry) (ecc : List EccHit) (f : Job → Bool → Job) : Job :=
  let x := e.desc
  let j := j.dev (fun d => d.eccRead [] ecc)
  let ctl := j.d.firstPoison (j.d.vecControl x)
  if !(j.d.veMask x).ok then j.failRead e.step ccSeqTable ctl
  else if vecProduces x && !j.d.histOk (slScale (veD x)) then j.failRead e.step ccAddressRange ctl
  else
    let bad := j.d.vecBad x
    let j := f (j.dev (fun d => d.clearCovered (d.vecWritten x))) bad.isSome
    match bad with
    | some a => j.poisonedAt e.step a
    | none => j

/-- Unmasked positions of a grid. -/
def liveCount (cells : List ((Nat × Nat) × Option Fp)) : Nat := (cells.filter (fun q => q.2.isSome)).length

/-- Store into D and report the elements written (04 R106, R593). -/
def Job.putD (j : Job) (x : Nat) (cells : List ((Nat × Nat) × Option Fp)) (poison : Bool) : Job :=
  (j.storeGrid (veD x) cells poison).result (liveCount cells)

/-- The grid of a descriptor with a value at each unmasked position. -/
def Dev.cells (d : Dev) (x : Nat) (f : Nat → Nat → Fp) : List ((Nat × Nat) × Option Fp) :=
  let m := d.veMask x
  (grid (veRows x) (veCols x)).map (fun p => (p, if m.out p.1 p.2 then none else some (f p.1 p.2)))

/-! ## VEC_MAP -/

/-- The function of a `VEC_MAP` element (04 R128). -/
def mapFn (k : Ctx) (fn : Nat) (i0 i1 a b c : Fp) : Fp :=
  match fn with
  | 0 => k.rnd (fpMul i0 a)
  | 1 => k.rnd (fpAdd a b)
  | 2 => k.rnd (fpMul a b)
  | 3 => k.rnd (fpAdd (fpMul a b) c)
  | 4 => k.rnd (fpAdd (k.rnd (fpMul i0 a)) (k.rnd (fpMul i1 b)))
  | 5 => k.rnd (fpMax a b)
  | 6 => k.exp a
  | 7 => k.fn 7 fpRecip a
  | 8 => k.rsqrt a
  | 9 => k.fn 9 fpGelu a
  | 10 => k.fn 10 fpSilu a
  | 11 => k.rnd (fpMul (k.fn 10 fpSilu a) b)
  | 12 => k.rnd (fpMul b (k.fn 12 fpDGelu a))
  | _ => k.rnd (fpMul b (k.fn 13 fpDSilu a))

/-- VEC_MAP (04 R128). -/
def execVecMap (id : Nat) (ecc : List EccHit) (s : State) : Host.Outcome State Fault Refusal :=
  run s (fun _ d => d.startWith id 0x20 (fun d e => (Job.start d).vectorRun e ecc (fun j bad =>
    let x := e.desc
    let d := j.d
    let k := d.ctx x
    let use := (vecSlots 0x20 (veFunc x)).getD []
    let a := d.vin x 1
    let b := if use.contains 2 then d.vin x 2 else fun _ _ => fp0
    let c := if use.contains 3 then d.vin x 3 else fun _ _ => fp0
    j.putD x (d.cells x (fun r i => mapFn k (veFunc x) (imm0 k.ped x) (imm1 k.ped x) (a r i) (b r i) (c r i))) bad)))

/-! ## VEC_NORM -/

/-- The unmasked columns of a row. -/
def Mask.liveCols (m : Mask) (cols r : Nat) : List Nat := (below cols).filter (fun c => !m.out r c)

/-- The mean in W64 of `n` values. -/
def mean64 (l : List Fp) : Fp := rne64 (fpDiv (sum64 l) (fpNat l.length))

/-- A row's centre (0 for RMS), its reciprocal deviation, from its unmasked inputs. -/
def normStats (k : Ctx) (layer : Bool) (eps : Fp) (l : List Fp) : Fp × Fp :=
  let mu := if layer then k.rnd (mean64 l) else fp0
  let sq := l.map (fun v => let t := if layer then k.rnd (fpSub v mu) else v; rne64 (fpMul t t))
  (mu, k.rsqrt (k.rnd (rne64 (fpAdd (mean64 sq) eps))))

/-- The normalised value of an input. -/
def normHat (k : Ctx) (layer : Bool) (st : Fp × Fp) (v : Fp) : Fp :=
  k.rnd (fpMul (if layer then k.rnd (fpSub v st.1) else v) st.2)

/-- A `VEC_NORM` element (04 R128): x-hat, x-hat times gain, or dX. -/
def normElem (k : Ctx) (fn : Nat) (eps : Fp) (x g dy : Nat → Fp) (live : List Nat) (c : Nat) : Fp :=
  let layer := bit fn 0
  let st := normStats k layer eps (live.map x)
  let hat := normHat k layer st (x c)
  if bit fn 2 then hat
  else if !bit fn 1 then k.rnd (fpMul hat (g c))
  else
    let gd := fun i => k.rnd (fpMul (g i) (dy i))
    let a := k.rnd (mean64 (live.map (fun i => rne64 (fpMul (gd i) (normHat k layer st (x i))))))
    let t := if layer then k.rnd (fpSub (gd c) (k.rnd (mean64 (live.map gd)))) else gd c
    k.rnd (fpMul st.2 (k.rnd (fpSub t (k.rnd (fpMul hat a)))))

/-- VEC_NORM (04 R128). -/
def execVecNorm (id : Nat) (ecc : List EccHit) (s : State) : Host.Outcome State Fault Refusal :=
  run s (fun _ d => d.startWith id 0x21 (fun d e => (Job.start d).vectorRun e ecc (fun j bad =>
    let x := e.desc
    let d := j.d
    let k := d.ctx x
    let m := d.veMask x
    let use := (vecSlots 0x21 (veFunc x)).getD []
    let a := d.vin x 1
    let g := if use.contains 2 then d.vin x 2 else fun _ _ => fp1
    let dy := if use.contains 3 then d.vin x 3 else fun _ _ => fp0
    j.putD x (d.cells x (fun r c => normElem k (veFunc x) (imm0 k.ped x) (a r) (g r) (dy r) (m.liveCols (veCols x) r) c)) bad)))

/-! ## VEC_SOFTMAX -/

/-- The largest of a list of values; minus infinity of none. -/
def maxOf (l : List Fp) : Fp := l.foldl fpMax (.inf true)

/-- A `VEC_SOFTMAX` element, forward: softmax of the scaled row (04 R128). -/
def softmaxElem (k : Ctx) (i0 : Fp) (x : Nat → Fp) (live : List Nat) (c : Nat) : Fp :=
  let z := fun i => k.rnd (fpMul i0 (x i))
  let m := maxOf (live.map z)
  let ex := fun i => k.exp (k.rnd (fpSub (z i) m))
  k.rnd (fpDiv (ex c) (sum64 (live.map ex)))

/-- A `VEC_SOFTMAX` element, backward. -/
def softmaxGrad (k : Ctx) (i0 : Fp) (y dy : Nat → Fp) (live : List Nat) (c : Nat) : Fp :=
  let t := sum64 (live.map (fun i => k.rnd (fpMul (y i) (dy i))))
  k.rnd (fpMul (k.rnd (fpMul i0 (y c))) (k.rnd (fpSub (dy c) t)))

/-- VEC_SOFTMAX (04 R128). -/
def execVecSoftmax (id : Nat) (ecc : List EccHit) (s : State) : Host.Outcome State Fault Refusal :=
  run s (fun _ d => d.startWith id 0x22 (fun d e => (Job.start d).vectorRun e ecc (fun j bad =>
    let x := e.desc
    let d := j.d
    let k := d.ctx x
    let m := d.veMask x
    let a := d.vin x 1
    let dy := if veFunc x = 2 then d.vin x 3 else fun _ _ => fp0
    j.putD x (d.cells x (fun r c =>
      let live := m.liveCols (veCols x) r
      if veFunc x = 2 then softmaxGrad k (imm0 k.ped x) (a r) (dy r) live c else softmaxElem k (imm0 k.ped x) (a r) live c)) bad)))

/-! ## VEC_LOSS -/

/-- The (m, s) pair of a row's unmasked logits (04 R128, R593). -/
def lossStats (k : Ctx) (z : Nat → Fp) (live : List Nat) : Fp × Fp :=
  let m := maxOf (live.map z)
  (m, sum64 (live.map (fun c => k.exp (k.rnd (fpSub (z c) m)))))

/-- L is latched at the first backward seed of a step (02 R51). -/
def Dev.latchL (d : Dev) : Dev :=
  match d.cmp.lossL with
  | some _ => d
  | none => { d with cmp := { d.cmp with lossL := some (d.get 0x5030 1), lossWritten := false } }

/-- The label's column in this shard, if it holds it (04 R128). -/
def labelCol (cols imm label : Nat) : Option Nat :=
  let c := (label + 2 ^ 32 - imm % 2 ^ 32) % 2 ^ 32
  if c < cols then some c else none

/-- A SEED element. -/
def seedElem (k : Ctx) (i0 : Fp) (l : Nat) (z m s : Fp) (hit : Bool) : Fp :=
  let q := k.rnd (fpDiv (k.exp (k.rnd (fpSub z m))) s)
  k.rnd (fpMul (k.rnd (i0.scale l)) (k.rnd (fpSub q (if hit then fp1 else fp0))))

/-- The loss word: log s + m - z_label, with the free logarithm. -/
def lossWord (s m z : Fp) : Fp :=
  rne64 (fpSub (rne64 (fpAdd (fmtW64.dec (Config.logW64 (BitVec.ofNat 64 (fmtW64.enc s))).toNat) m)) z)

/-- STATS (04 R128, R593). -/
def Job.lossStatsJob (j : Job) (x : Nat) (bad : Bool) : Job :=
  let d := j.d
  let k := d.ctx x
  let m := d.veMask x
  let a := d.vin x 1
  let v := d.view (veD x)
  let rows := (below (veRows x)).filter (fun r => !m.padRow r)
  (j.dev (fun d => rows.foldl (fun d r =>
    let p := lossStats k (a r) (m.liveCols (veCols x) r)
    (d.setElem v r 0 (fmtW64.enc p.1) bad).setElem v r 1 (fmtW64.enc p.2) bad) d)).result rows.length

/-- SEED (04 R128, R129). -/
def Job.lossSeedJob (j : Job) (x : Nat) (bad : Bool) : Job :=
  let j := j.dev Dev.latchL
  let d := j.d
  let k := d.ctx x
  let m := d.veMask x
  let z := d.vin x 1
  let mem := d.mem
  let lab := d.view (veS1 x)
  let tri := d.view (veS2 x)
  let hit := fun r => labelCol (veCols x) (veImm1 x) (lab.raw mem r 0)
  let t := fun r i => tri.value mem r i
  let rows := (below (veRows x)).filter (fun r => !m.padRow r)
  let j := j.putD x (d.cells x (fun r c => seedElem k (imm0 k.ped x) d.lossL (z r c) (t r 0) (t r 1) (hit r == some c))) bad
  j.dev (fun d => rows.foldl (fun d r =>
    match hit r with
    | some c => d.setElem tri r 2 (fmtW64.enc (lossWord (t r 1) (t r 0) (z r c))) bad
    | none => d) d)

/-- VEC_LOSS (04 R128, R129). -/
def execVecLoss (id : Nat) (ecc : List EccHit) (s : State) : Host.Outcome State Fault Refusal :=
  run s (fun _ d => d.startWith id 0x23 (fun d e => (Job.start d).vectorRun e ecc (fun j bad =>
    if veFunc e.desc = 0 then j.lossStatsJob e.desc bad else j.lossSeedJob e.desc bad)))

/-! ## VEC_REDUCE -/

/-- A reduction of values in ascending order into W64 (04 R127, R128). -/
def reduceFn (fn : Nat) (l : List Fp) : Fp :=
  match fn with
  | 0 => sum64 l
  | 1 => sum64 (l.map (fun v => rne64 (fpMul v v)))
  | 2 => l.foldl fpMaxAbs fp0  -- a NaN in the set gives NaN (DESIGN CHOICE, log entry 161)
  | _ => fpNat (l.filter (fun v => !v.isFinite)).length

/-- The positions that each result of the axis covers, with its place in D. -/
def reduceSets (x : Nat) : List ((Nat × Nat) × List (Nat × Nat)) :=
  let rows := below (veRows x)
  let cols := below (veCols x)
  if veImm1 x = 0 then rows.map (fun r => ((r, 0), cols.map (fun c => (r, c))))
  else if veImm1 x = 1 then cols.map (fun c => ((0, c), rows.map (fun r => (r, c))))
  else [((0, 0), grid (veRows x) (veCols x))]

/-- VEC_REDUCE (04 R128, R593). -/
def execVecReduce (id : Nat) (ecc : List EccHit) (s : State) : Host.Outcome State Fault Refusal :=
  run s (fun _ d => d.startWith id 0x24 (fun d e => (Job.start d).vectorRun e ecc (fun j bad =>
    let x := e.desc
    let d := j.d
    let m := d.veMask x
    let a := d.vin x 1
    let v := d.view (veD x)
    let sets := reduceSets x
    (j.dev (fun d => sets.foldl (fun d q =>
      let l := (q.2.filter (fun p => !m.out p.1 p.2)).map (fun p => a p.1 p.2)
      d.setElem v q.1.1 q.1.2 (fmtW64.enc (reduceFn (veFunc x) l)) bad) d)).result sets.length)))

/-! ## VEC_CONVERT -/

/-- The value to convert from one format to another: through A32 unless one of them is W64 (02 R31, 04 R131). -/
def throughA32 (src dst : DFmt) (v : Fp) : Fp := if src = .w64 ∨ dst = .w64 then v else rne32 v

/-- A value converted from one format to another, subnormals flushed in Pedigree mode (02 R31, R59; 04 R131). -/
def convertValue (ped : Bool) (src dst : DFmt) (v : Fp) : Fp :=
  let small := fun (f : DFmt) (v : Fp) => if f = .g16 ∨ f = .a32 then flushIf ped v else v
  small dst (throughA32 src dst (small src v))

/-- Function 0: copy equal formats, convert others. -/
def Job.convert0 (j : Job) (x : Nat) (bad : Bool) : Job :=
  let d := j.d
  let a := d.view (veS0 x)
  let b := d.view (veD x)
  let mem := d.mem
  if a.fmt = b.fmt then
    let m := d.veMask x
    let g := grid (veRows x) (veCols x)
    (j.dev (fun d => g.foldl (fun d p =>
      d.setElem b p.1 p.2 (if m.out p.1 p.2 then 0 else a.raw mem p.1 p.2) bad) d)).result
        (g.filter (fun p => !m.out p.1 p.2)).length
  else
    j.putD x (d.cells x (fun r c => convertValue d.pedigree a.fmt b.fmt (a.value mem r c))) bad

/-- Function 1: a native master pair to the Pedigree word, and function 2: the Pedigree word to a native pair (02 R35, R36, R59). -/
def Job.convertMaster (j : Job) (x : Nat) (bad : Bool) : Job :=
  let d := j.d
  let m := d.veMask x
  let mem := d.mem
  let a := d.view (veS0 x)
  let c := d.view (veS1 x)
  let b := d.view (veD x)
  let live := (grid (veRows x) (veCols x)).filter (fun p => !m.out p.1 p.2)
  (j.dev (fun d => live.foldl (fun d p =>
    if veFunc x = 1 then
      let w := fmtG16.enc (flushIf d.pedigree (a.value mem p.1 p.2))
      d.setElem b p.1 p.2 (fmtA32.enc (flushIf d.pedigree (masterValue w (c.raw mem p.1 p.2)))) bad
    else
      let q := masterSplit (flushIf d.pedigree (a.value mem p.1 p.2))
      (d.setElem b p.1 p.2 q.1 bad).setElem c p.1 p.2 q.2 bad) d)).result live.length

/-- VEC_CONVERT (04 R128). -/
def execVecConvert (id : Nat) (ecc : List EccHit) (s : State) : Host.Outcome State Fault Refusal :=
  run s (fun _ d => d.startWith id 0x25 (fun d e => (Job.start d).vectorRun e ecc (fun j bad =>
    if veFunc e.desc = 0 then j.convert0 e.desc bad else j.convertMaster e.desc bad)))

end Sys2Proof.Machine
end

