-- ==== Sys2Proof/Machine/Moves.lean ====
section
/-! DEFINITION. The move opcodes (04 R130, R131): device memory with the accumulator window, conversion, poison (09 R274-R276), host
memory (14 R424) and the Sniffer (13 R403-R407). -/

namespace Sys2Proof.Machine

/-! ## Device memory with the accumulator window (03 R75) -/

/-- Whether an address lies in the accumulator window, and its tile. -/
def inWindow (a : Nat) : Bool := decide (windowBase ≤ a) && decide (a < windowBase + windowSize)
def winTile (a : Nat) : Nat := (a - windowBase) / 0x800000

/-- The index of an address's A32 element among all tiles. -/
def winElem (a : Nat) : Nat := (a - windowBase) / 4

/-- The A32 pattern at an element index: tiles hold 2^21 elements each. -/
def Dev.accAt (d : Dev) (k : Nat) : Nat := d.acc (k / 0x200000) (k % 0x200000 / 2048) (k % 2048)
def Dev.setAccAt (d : Dev) (k v : Nat) : Dev := d.setAcc (k / 0x200000) (k % 0x200000 / 2048) (k % 2048) v

/-- A byte at any device address. -/
def Dev.anyByte (d : Dev) (a : Nat) : Byte :=
  if inWindow a then BitVec.ofNat 8 (d.accAt (winElem a) >>> (8 * ((a - windowBase) % 4))) else d.mem.byte a

/-- Store a byte at a window address. -/
def Dev.setWinByte (d : Dev) (a : Nat) (b : Byte) : Dev :=
  let k := winElem a
  d.setAccAt k (setBits (d.accAt k) (8 * ((a - windowBase) % 4)) 8 b.toNat)

/-- The number in `n` bytes at any device address. -/
def Dev.anyNum (d : Dev) (a n : Nat) : Nat := ofBytes ((upFrom a n).map d.anyByte)

/-- Whether data at any device address is poisoned: its unit, or its tile. -/
def Dev.anyBad (d : Dev) (a n : Nat) : Bool :=
  if inWindow a then (d.tile (winTile a)).poison else d.mem.anyPoison a n

/-! ## The elements of a move -/

/-- An element that a move writes: where, its bytes, whether they come from poisoned data. -/
structure MoveElem where
  dst : Nat
  bytes : List Byte
  poison : Bool
deriving DecidableEq, Repr

def MoveElem.ext (m : MoveElem) : Ext := (m.dst, m.bytes.length)

/-- The status of a tile after a move wrote elements of it: the spill slot is stale; a write of every position clears `TORN` and sets
the poison mark anew (03 R76, R77; 09 R276). -/
def Tile.moved (x : Tile) (all bad : Bool) : Tile :=
  { x with spillValid := false, torn := x.torn && !all, poison := bad || (x.poison && !all) }

/-- Whether elements cover every byte of a tile's window. -/
def coversTile (l : List MoveElem) (t : Nat) : Bool :=
  (below 0x200000).all (fun i =>
    (below 4).all (fun b => l.any (fun m =>
      let a := windowBase + 0x800000 * t + 4 * i + b
      decide (m.dst ≤ a) && decide (a < m.dst + m.bytes.length))))

/-- Write elements into the window. -/
def Dev.writeWindow (d : Dev) (l : List MoveElem) : Dev :=
  let d := l.foldl (fun d m => (m.bytes.zipIdx).foldl (fun d q => d.setWinByte (m.dst + q.2) q.1) d) d
  (below 16).foldl (fun d t =>
    let mine := l.filter (fun m => winTile m.dst == t)
    if mine.isEmpty then d else d.setTile t ((d.tile t).moved (coversTile mine t) (mine.any (fun m => m.poison)))) d

/-- Write elements into device memory. -/
def Dev.writeElems (d : Dev) (l : List MoveElem) : Dev :=
  if l.any (fun m => inWindow m.dst) then d.writeWindow l
  else l.foldl (fun d m => d.wr m.dst m.bytes m.poison) (d.clearCovered (l.map MoveElem.ext))

/-- Write elements into host memory, a posted write for each (14 R424). -/
def Dev.postElems (d : Dev) (l : List MoveElem) : Dev := l.foldl (fun d m => d.post m.dst m.bytes) d

/-! ## The common course of moves -/

/-- The patterns that a move writes for the source patterns `raw`, in grid order: a copy, or a conversion that produces through record
DST `SCALE` (04 R131). -/
def Job.movePatterns (j : Job) (x : Nat) (raw : List Nat) : Job × List Nat :=
  let a := j.d.view (mvSrc x)
  let b := j.d.view (mvDst x)
  if a.fmt = b.fmt then (j, raw)
  else
    let vals := raw.map (fun p => convertValue j.d.pedigree a.fmt b.fmt (a.fmt.value a.e p))
    if b.fmt.isScaled then j.produce (slScale (mvDst x)) (b.fmt == .gb8) vals
    else (j, vals.map (fun v => (b.fmt.pattern false 0 v).1))

/-- The bytes of elements in destination order, each with its poison mark. -/
def elemBytes (l : List MoveElem) : List (Byte × Bool) := l.flatMap (fun m => m.bytes.map (fun b => (b, m.poison)))

/-- A descriptor's bytes go to its Sniffer unit (13 R403). -/
def Job.sniff (j : Job) (on : Bool) (u id : Nat) (l : List (Byte × Bool)) : Job :=
  if on && !l.isEmpty then j.dev (fun d => d.snBegin u id l) else j

/-- The elements are written with `put`, folded and counted (04 R106, 13 R403). -/
def Job.moveOut (j : Job) (e : Entry) (l : List MoveElem) (put : Dev → List MoveElem → Dev) : Job :=
  let j := j.dev (fun d => put d l)
  let b := elemBytes l
  (j.sniff (mvSniffEn e.desc) (mvSniffUnit e.desc) e.id b).result b.length

/-- The elements of a move: patterns in grid order at a destination, with the poison of their sources. -/
def moveElems (x : Nat) (dst : View) (pats : List Nat) (bad : Nat × Nat → Bool) : List MoveElem :=
  ((grid (mvRows x) (mvCols x)).zip pats).map (fun q =>
    ⟨dst.place q.1.1 q.1.2, toBytes dst.fmt.size q.2, bad q.1⟩)

/-- What a converting move reads and writes beside its data: the source's scale record, the destination's record and history. -/
def Dev.moveControl (d : Dev) (x : Nat) : List Ext :=
  if slFmt (mvSrc x) = slFmt (mvDst x) then []
  else d.slotRecord (mvSrc x) ++ (if slFmt (mvDst x) ≤ 1 then d.producerReads (slScale (mvDst x)) else [])

/-- Whether the output record of a converting move may be used. -/
def Dev.moveHistOk (d : Dev) (x : Nat) : Bool :=
  slFmt (mvSrc x) == slFmt (mvDst x) || decide (1 < slFmt (mvDst x)) || d.histOk (slScale (mvDst x))

/-- A move from source patterns to a destination. A history out of reach ends a conversion with nothing written; poisoned records let it
write, every element poisoned (09 R274, R275). -/
def Job.moveRun (j : Job) (e : Entry) (dst : View) (raw : Nat × Nat → Nat) (bad : Nat × Nat → Bool)
    (put : Dev → List MoveElem → Dev) : Job :=
  let x := e.desc
  let ctl := j.d.firstPoison (j.d.moveControl x)
  if !j.d.moveHistOk x then j.failRead e.step ccAddressRange ctl
  else
    let (j, pats) := j.movePatterns x ((grid (mvRows x) (mvCols x)).map raw)
    let j := j.moveOut e (moveElems x dst pats (fun p => ctl.isSome || bad p)) put
    match ctl with
    | some a => j.poisonedAt e.step a
    | none => j

/-- A descriptor that needs a Sniffer unit which runs for another, or which a close holds, waits (13 R405, R409, R411). -/
def Dev.snFree (d : Dev) (on : Bool) (u : Nat) : Bool := !on || !(d.unit u).held

/-- Start a move or Retriever descriptor once its Sniffer unit is free. -/
def Dev.startMove (d : Dev) (id op : Nat) (f : Dev → Entry → Job) : Dev :=
  match d.entry id with
  | none => d
  | some e => if d.snFree (mvSniffEn e.desc) (mvSniffUnit e.desc) then d.startWith id op f else d

/-- A slot's view at a host address. -/
def View.at (v : View) (a : Nat) : View := { v with addr := a }

/-- The source patterns of a local source, and their poison. -/
def Dev.localRaw (d : Dev) (v : View) (p : Nat × Nat) : Nat := d.anyNum (v.place p.1 p.2) v.fmt.size
def Dev.localBad (d : Dev) (v : View) (p : Nat × Nat) : Bool := d.anyBad (v.place p.1 p.2) v.fmt.size

/-- The end of a move that read poisoned data in device memory, in row order (09 R274). -/
def Job.endLocal (j : Job) (e : Entry) (v : View) (bad : Nat × Nat → Bool) : Job :=
  if j.done.code != 0 then j
  else
    match (grid (mvRows e.desc) (mvCols e.desc)).find? bad with
    | some p => j.poisonedAt e.step (v.place p.1 p.2)
    | none => j

/-- MOVE_COPY (04 R131). -/
def execMoveCopy (id : Nat) (ecc : List EccHit) (s : State) : Host.Outcome State Fault Refusal :=
  run s (fun _ d => d.startMove id 0x30 (fun d e =>
    let j := Job.start (d.eccRead (d.accReads e.desc) ecc)
    let v := j.d.view (mvSrc e.desc)
    let d := j.d
    (j.moveRun e (j.d.view (mvDst e.desc)) (d.localRaw v) (d.localBad v) Dev.writeElems).endLocal e v (d.localBad v)))

/-- The bytes of a host read that cannot be had: 0xFF, all poisoned (14 R424). -/
def lostBytes (n : Nat) : List (Byte × Bool) := List.replicate n (0xFF#8, true)

/-- The bytes of a host read of `n` bytes: as answered, or 0xFF and poisoned where a request failed (14 R424). -/
def Dev.hostRead (d : Dev) (host : HostReply) (n : Nat) : List (Byte × Bool) :=
  match host with
  | .data l => if d.hostUp && decide (n ≤ l.length) then l.map (fun b => (b, false)) else lostBytes n
  | .part l failed =>
    if d.hostUp && decide (n ≤ l.length) then
      (l.zipIdx).map (fun q => if failed.any (fun f => decide (f.1 ≤ q.2) && decide (q.2 < f.1 + f.2)) then (0xFF#8, true) else (q.1, false))
    else lostBytes n
  | .failed => lostBytes n

/-- Where the failed request that asked for byte `i` of a host read begins, from the start of the read. -/
def hostRequestOf (host : HostReply) (i : Nat) : Nat :=
  match host with
  | .part _ failed =>
    match failed.find? (fun f => decide (f.1 ≤ i) && decide (i < f.1 + f.2)) with
    | some f => f.1
    | none => 0
  | _ => 0

/-- The bytes of element `p` in what a host read brought; the first that came lost, by its place. -/
def hostElem (v : View) (l : List (Byte × Bool)) (p : Nat × Nat) : List (Byte × Bool) := (l.drop (v.place p.1 p.2)).take v.fmt.size
def hostBad (v : View) (l : List (Byte × Bool)) (p : Nat × Nat) : Bool := (hostElem v l p).any (fun q => q.2)
def firstLost (x : Nat) (v : View) (l : List (Byte × Bool)) : Option Nat :=
  match (grid (mvRows x) (mvCols x)).find? (hostBad v l) with
  | some p => some (v.place p.1 p.2 + (hostElem v l p).findIdx (fun q => q.2))
  | none => none

/-- MOVE_FROM_HOST (04 R131, 14 R424): the bytes of a failed read count as 0xFF, poisoned. -/
def execMoveFromHost (id : Nat) (host : HostReply) (ecc : List EccHit) (s : State) : Host.Outcome State Fault Refusal :=
  run s (fun _ d => d.startMove id 0x31 (fun d e =>
    let x := e.desc
    let j := Job.start (d.eccRead (d.accReads e.desc) ecc)
    let v := (j.d.view (mvSrc x)).at 0
    let n := (hull 0 (mvRows x) v.stride (mvCols x * v.fmt.size)).2
    let l := j.d.hostRead host n
    let raw (p : Nat × Nat) : Nat := ofBytes ((hostElem v l p).map (fun q => q.1))
    let j := j.moveRun e (j.d.view (mvDst x)) raw (hostBad v l) Dev.writeElems
    match firstLost x v l with
    | some i => if j.done.code = 0 then j.poisonedHost e.step (mvHostAddr x + hostRequestOf host i) else j
    | none => j))

/-- MOVE_TO_HOST (04 R131, 14 R424). -/
def execMoveToHost (id : Nat) (ecc : List EccHit) (s : State) : Host.Outcome State Fault Refusal :=
  run s (fun _ d => d.startMove id 0x32 (fun d e =>
    let j := Job.start (d.eccRead (d.accReads e.desc) ecc)
    let v := j.d.view (mvSrc e.desc)
    let d := j.d
    (j.moveRun e ((j.d.view (mvDst e.desc)).at (mvHostAddr e.desc)) (d.localRaw v) (d.localBad v) Dev.postElems).endLocal e v
      (d.localBad v)))

/-- MOVE_FILL (04 R130, R131). -/
def execMoveFill (id : Nat) (s : State) : Host.Outcome State Fault Refusal :=
  run s (fun _ d => d.startMove id 0x33 (fun d e =>
    let v := d.view (mvDst e.desc)
    let p := bits (mvFillValue e.desc) 0 (8 * v.fmt.size)
    let l := moveElems e.desc v ((grid (mvRows e.desc) (mvCols e.desc)).map (fun _ => p)) (fun _ => false)
    (Job.start d).moveOut e l Dev.writeElems))

end Sys2Proof.Machine
end

