-- ==== Sys2Proof/Machine/Retriever.lean ====
section
/-! DEFINITION. The Retriever opcodes (09 R283-R288), the state-ready map (08 R243, R244) and the check of fetched shards
(08 R248-R250). -/

namespace Sys2Proof.Machine

/-! ## The state-ready map -/

/-- The bit of a shard in the map, and its change (08 R243, R244). -/
def Dev.readyBit (d : Dev) (k : Nat) : Bool := bit (d.num (d.readyBase + k / 8) 1) (k % 8)
def Dev.setReady (d : Dev) (k : Nat) (on : Bool) : Dev :=
  let a := d.readyBase + k / 8
  d.wr a (toBytes 1 (setBits (d.num a 1) (k % 8) 1 (b2n on))) false

/-! ## Fingerprints (08 R248, R249) -/

def fpPub (v : Nat) : Nat := bits v 192 64
def fpState (v : Nat) : Nat := bits v 128 64
def fpVersion (v : Nat) : Nat := bits v 112 16
def fpEpoch (v : Nat) : Nat := bits v 96 16
def fpShard (v : Nat) : Nat := bits v 64 32
def fpValid (v : Nat) : Bool := bit v 0

/-- The trailer: version, epoch, shard. -/
def fpTrailer (version epoch shard : Nat) : List Byte := toBytes 2 version ++ toBytes 2 epoch ++ toBytes 4 shard

/-- The fingerprint of bytes with a trailer. -/
def fingerprint (l : List Byte) (version epoch shard : Nat) : Nat := crcOf crc64Set (l ++ fpTrailer version epoch shard)

/-- The record of a stored shard. -/
def fpRecord (pub state version epoch shard : Nat) : Nat :=
  bits pub 0 64 <<< 192 + bits state 0 64 <<< 128 + bits version 0 16 <<< 112 + bits epoch 0 16 <<< 96 + bits shard 0 32 <<< 64 + 1

/-- Whether received bytes match a record (08 R250). -/
def fpMatches (l : List Byte) (v : Nat) : Bool := fingerprint l (fpVersion v) (fpEpoch v) (fpShard v) == fpPub v

/-! ## Remote requests -/

/-- The traffic class of a descriptor's requests: `TC`, or the opcode's default (09 R283). -/
def retrTc (x : Nat) : Nat := if mvTc x != 0 then mvTc x else if hdOpcode x = 0x34 then 4 else 5

/-- `n` bytes from `a` in granules of 4,096 bytes (09 R289). -/
def granules (a n : Nat) : List Ext := (below ((n + 4095) / 4096)).map (fun i => (a + 4096 * i, min 4096 (n - 4096 * i)))

/-- The reads of a descriptor at `REMOTE`: the source's extent, and the 32-byte record where a fetch names one (09 R285, R289). -/
def Dev.remoteReads (d : Dev) (x : Nat) : List Ext :=
  let v := d.view (mvSrc x)
  let n := (hull v.addr (mvRows x) v.stride (mvCols x * v.fmt.size)).2
  granules v.addr n ++ (if hdOpcode x = 0x34 ∧ mvHostAddr x ≠ 0 then [(bits (mvHostAddr x) 0 48, 32)] else [])

/-- The requests for them leave. -/
def Dev.askRemote (d : Dev) (x : Nat) : Dev :=
  (d.remoteReads x).foldl (fun d r => d.emit (.retrieverRequest (mvRemote x) (retrTc x) false r.1 [] r.2 false false)) d

/-- What this device answers to a fetch from itself, under the same check as every request (09 R287, 11 R349). -/
def Dev.serveSelf (d : Dev) (x : Nat) : Dev × RemoteReply :=
  let refused := (d.remoteReads x).filter (fun r => !d.inAperture r.1 r.2)
  let v := d.view (mvSrc x)
  let n := (hull v.addr (mvRows x) v.stride (mvCols x * v.fmt.size)).2
  if refused.isEmpty then (d, ⟨true, d.rd v.addr n, d.marksOf v.addr n, d.rd (bits (mvHostAddr x) 0 48) 32⟩)
  else (refused.foldl (fun d _ => d.refuseRequest) d, ⟨false, [], [], []⟩)

/-- A fetch asks its owner, whose answer is `r`; the device itself answers where it is the owner. -/
def Dev.fetched (d : Dev) (x : Nat) (r : RemoteReply) : Dev × RemoteReply :=
  if mvRemote x = d.self then d.serveSelf x else (d.askRemote x, r)

/-- Whether a reply serves a request for `n` bytes. -/
def replyServes (r : RemoteReply) (n : Nat) : Bool := r.served && decide (n ≤ r.bytes.length)

/-- Element (r, c) of a source extent as a reply brings it: the offset from the extent's start. -/
def remoteRaw (v : View) (l : List Byte) (p : Nat × Nat) : Nat :=
  ofBytes ((l.drop (p.1 * v.stride + p.2 * v.fmt.size)).take v.fmt.size)

/-- Whether element (r, c) of a reply carries the poison mark (09 R275), and the address at the source of the first that does. -/
def remoteBad (v : View) (marks : List Bool) (p : Nat × Nat) : Bool :=
  ((marks.drop (p.1 * v.stride + p.2 * v.fmt.size)).take v.fmt.size).any id
def firstRemoteBad (x : Nat) (v : View) (marks : List Bool) : Option Nat :=
  match (grid (mvRows x) (mvCols x)).find? (remoteBad v marks) with
  | some p => some (v.place p.1 p.2)
  | none => none

/-- The bytes of a source in logical order. -/
def remoteBytes (x : Nat) (v : View) (l : List Byte) : List Byte :=
  (grid (mvRows x) (mvCols x)).flatMap (fun p => toBytes v.fmt.size (remoteRaw v l p))

/-- The number of bytes a descriptor moves. -/
def moveBytes (x : Nat) : Nat := mvRows x * (mvCols x * fmtBytes (slFmt (mvSrc x)))

/-- `RETR_BYTES` grows by what a descriptor moved. -/
def Job.retrCount (j : Job) (x : Nat) : Job := j.dev (fun d => d.addWrap 0x4050 3 (moveBytes x))

/-- Write a remote source's bytes at the destination. -/
def Job.retrIn (j : Job) (e : Entry) (r : RemoteReply) : Job :=
  let x := e.desc
  let v := j.d.view (mvSrc x)
  let j := j.moveOut e (moveElems x (j.d.view (mvDst x)) ((grid (mvRows x) (mvCols x)).map (remoteRaw v r.bytes)) (remoteBad v r.marks))
    Dev.writeElems
  let j := j.retrCount x
  match firstRemoteBad x v r.marks with
  | some a => j.poisonedAt e.step a
  | none => j

/-- The bytes of a failed fetch: unspecified (08 R250), and folded as they are written (13 R403, R407). -/
def Job.retrJunk (j : Job) (e : Entry) : Job :=
  let x := e.desc
  let n := j.d.draws
  let v := j.d.view (mvDst x)
  let g := grid (mvRows x) (mvCols x)
  let l := (g.zipIdx).map (fun q => (⟨v.place q.1.1 q.1.2, toBytes v.fmt.size (Config.unspecified n q.2), false⟩ : MoveElem))
  ((j.dev (fun d => { (d.writeElems l) with draws := d.draws + 1 })).sniff (mvSniffEn x) (mvSniffUnit x) e.id (elemBytes l)).retrCount x

/-- The extent's length at the source. -/
def Dev.retrLength (d : Dev) (x : Nat) : Nat :=
  let v := d.view (mvSrc x)
  (hull v.addr (mvRows x) v.stride (mvCols x * v.fmt.size)).2

/-- The second fetch of a shard whose first copy did not match (08 R250). -/
def Job.refetch (j : Job) (e : Entry) (second : RemoteReply) : Job :=
  let x := e.desc
  let v := j.d.view (mvSrc x)
  let (d, second) := j.d.fetched x second
  let j := j.dev (fun _ => d.addSat 0x50A0 8 32 1)
  if !replyServes second (j.d.retrLength x) then j.fail ccAddressRange
  else if (firstRemoteBad x v second.marks).isSome then j.retrIn e second
  else if fpMatches (remoteBytes x v second.bytes) (ofBytes (second.record.take 32)) then
    ((j.retrIn e second).flag sfRefetched).raise 0x1541 (fpShard (ofBytes (second.record.take 32))) 0
  else ((j.retrJunk e).raise 0x2542 (fpShard (ofBytes (second.record.take 32))) 0).fail ccFetchMismatch

/-- The lengths of the messages that a descriptor sends to `REMOTE`: what it writes there, or the reads it asks for. -/
def Dev.messages (d : Dev) (x : Nat) : List Nat :=
  if hdOpcode x = 0x36 then (granules 0 (moveBytes x)).map (fun r => r.2) else (d.remoteReads x).map (fun r => r.2)

/-- Start a Retriever descriptor. Where its device cannot be reached, its requests are dropped and counted, and it waits for an answer that
does not come (11 R349). -/
def Dev.startRetr (d : Dev) (id op : Nat) (f : Dev → Entry → Job) : Dev :=
  match d.entry id with
  | none => d
  | some e =>
    if d.reaches (mvRemote e.desc) || hdOpcode e.desc != op || !d.mayStart e || !d.snFree (mvSniffEn e.desc) (mvSniffUnit e.desc)
    then d.startMove id op f
    else (d.messages e.desc).foldl (fun d n => d.dropMessage n) (d.markStarted e)

/-- RETRIEVE_FETCH (09 R283, R285, R287; 08 R250): `first` and `second` are what the owner answers to the fetch and to a repeat. -/
def execRetrieveFetch (id : Nat) (first second : RemoteReply) (s : State) : Host.Outcome State Fault Refusal :=
  run s (fun _ d => d.startRetr id 0x34 (fun d e =>
    let x := e.desc
    let (d, first) := d.fetched x first
    let j := Job.start d
    let v := j.d.view (mvSrc x)
    if !replyServes first (j.d.retrLength x) then j.fail ccAddressRange
    else if (firstRemoteBad x v first.marks).isSome || mvHostAddr x == 0 then j.retrIn e first
    else if fpMatches (remoteBytes x v first.bytes) (ofBytes (first.record.take 32)) then j.retrIn e first
    else j.refetch e second))

/-- A Retriever copy from local memory into local memory. -/
def Job.retrLocal (j : Job) (e : Entry) : Job :=
  let x := e.desc
  let v := j.d.view (mvSrc x)
  let d := j.d
  let g := grid (mvRows x) (mvCols x)
  let l := moveElems x (d.view (mvDst x)) (g.map (d.localRaw v)) (d.localBad v)
  ((j.moveOut e l Dev.writeElems).retrCount x).endLocal e v (d.localBad v)

/-- RETRIEVE_PREFETCH (09 R283, 08 R244): the ready bit is set on `OK` alone. -/
def execRetrievePrefetch (id : Nat) (ecc : List EccHit) (s : State) : Host.Outcome State Fault Refusal :=
  run s (fun _ d => d.startMove id 0x35 (fun d e =>
    let j := (Job.start (d.eccRead (d.accReads e.desc) ecc)).retrLocal e
    if j.done.code = 0 then j.dev (fun d => d.setReady (mvShard e.desc) true) else j))

/-- Whether a granule may take a further element: it follows on, is marked alike, and does not make it longer than 4,096 bytes. -/
def MoveElem.joins (a b : MoveElem) : Bool :=
  a.dst + a.bytes.length == b.dst && a.poison == b.poison && decide (a.bytes.length + b.bytes.length ≤ 4096)

/-- Elements gathered into granules of at most 4,096 bytes, in order (09 R289); `g` is the granule that grows. -/
def gatherFrom (g : MoveElem) : List MoveElem → List MoveElem
  | [] => [g]
  | m :: t => if g.joins m then gatherFrom ⟨g.dst, g.bytes ++ m.bytes, g.poison⟩ t else g :: gatherFrom m t
def gather : List MoveElem → List MoveElem
  | [] => []
  | m :: t => gatherFrom m t

/-- RETRIEVE_OFFLOAD (09 R283, R288): `remote` is what the destination answers where it is another device. -/
def execRetrieveOffload (id : Nat) (remote : RemoteReply) (ecc : List EccHit) (s : State) : Host.Outcome State Fault Refusal :=
  run s (fun _ d => d.startRetr id 0x36 (fun d e =>
    let x := e.desc
    let j := Job.start (d.eccRead (d.accReads e.desc) ecc)
    if mvRemote x = j.d.self then j.retrLocal e
    else
      let v := j.d.view (mvSrc x)
      let d := j.d
      let send (d : Dev) (l : List MoveElem) : Dev :=
        (gather l).foldl (fun d m => d.emit (.retrieverRequest (mvRemote x) (retrTc x) true m.dst m.bytes m.bytes.length m.poison false)) d
      let l := moveElems x (d.view (mvDst x)) ((grid (mvRows x) (mvCols x)).map (d.localRaw v)) (d.localBad v)
      let j := j.moveOut e l send
      if !remote.served && !l.isEmpty then j.fail ccAddressRange
      else (j.retrCount x).endLocal e v (d.localBad v)))

/-- RETRIEVE_RESTORE (09 R283): `remote` is what the source answers where it is another device. -/
def execRetrieveRestore (id : Nat) (remote : RemoteReply) (ecc : List EccHit) (s : State) : Host.Outcome State Fault Refusal :=
  run s (fun _ d => d.startRetr id 0x37 (fun d e =>
    let x := e.desc
    let j := Job.start (d.eccRead (d.accReads e.desc) ecc)
    if mvRemote x = j.d.self then j.retrLocal e
    else
      let j := j.dev (fun d => d.askRemote x)
      if !replyServes remote (j.d.retrLength x) then j.fail ccAddressRange else j.retrIn e remote))

end Sys2Proof.Machine
end

