-- ==== Sys2Proof/Machine/Engine.lean ====
section
/-! DEFINITION. The collectives engine (11 R353-R367): what each opcode sends, combines and receives, and when a collective
completes. -/

namespace Sys2Proof.Machine

/-! ## Trees (11 R357) -/

/-- `ALG`, the rank list and the own rank of tree `t` of the active bank; none where it is unused or does not list the device. -/
def Dev.treeInfo (d : Dev) (t : Nat) : Option (Nat × List Nat × Nat) :=
  match d.slots.active with
  | none => none
  | some b =>
    let h := d.treeHead b.tree t
    let l := d.treeRanks b.tree t
    if 1 < bits h 16 2 then none
    else (l.findIdx? (fun a => a == d.self)).map (fun r => (bits h 16 2, l, r))

/-- What a collective reads of the tree image. -/
def Dev.treeExt (d : Dev) (t : Nat) : List Ext :=
  match d.slots.active with
  | none => []
  | some b => [(b.tree + 64 * t, 64), (b.tree + 0x4000 + 0x8000 * t, 2 * bits (d.treeHead b.tree t) 0 15)]

/-! ## Parts -/

/-- The count of part `j`, and its first element in the concatenation (11 R359). -/
def Coll.count (c : Coll) (j : Nat) : Nat := (c.counts[j]?).getD 0
def Coll.first (c : Coll) (j : Nat) : Nat := (c.counts.take j).foldl (· + ·) 0
def Coll.total (c : Coll) : Nat := c.counts.foldl (· + ·) 0

/-- Whether the second halves travel towards lower ranks: BIDIR over three ranks or more (11 R359). -/
def Coll.twoWay (c : Coll) : Bool := c.alg == 1 && decide (3 ≤ c.q)

/-- The elements of half `h` of part `j`: how many, and where in the part they begin. -/
def Coll.halfCount (c : Coll) (j h : Nat) : Nat :=
  let n := c.count j
  if !c.twoWay then (if h = 0 then n else 0) else if h = 0 then (n + 1) / 2 else n - (n + 1) / 2
def Coll.halfFirst (c : Coll) (j h : Nat) : Nat := if h = 0 then 0 else (c.count j + 1) / 2

/-- Bytes of an element of SEND and of RECV. -/
def Coll.sendSize (c : Coll) : Nat := fmtBytes (slFmt (coSend c.desc))
def Coll.recvSize (c : Coll) : Nat := fmtBytes (slFmt (coRecv c.desc))

/-- The part `k` places behind this rank in the direction of a half. -/
def Coll.behind (c : Coll) (h k : Nat) : Nat := (c.rank + (if h = 0 then c.q - k % c.q else k)) % c.q

/-! ## Sending and noting -/

/-- A segment of a collective to a rank; none where it would hold nothing (11 R360). -/
def Dev.collSend (d : Dev) (c : Coll) (rank stage : Nat) (data : Marked) (record : Option Nat) : Dev :=
  let x := c.desc
  if data.isEmpty then d
  else d.startSegment
    { owner := some c.id, dest := (c.tree[rank]?).getD 0, tc := coTc x, sched := coSched x, epoch := coEpoch x, collId := coCollId x
      tensor := coTensor x, stage := stage % 256, data := data, record := record }

/-- The first poisoned address that a collective meets stands. -/
def Coll.note (c : Coll) (bad : Bool) (a : Nat) : Coll := if bad && c.bad == 0 then { c with bad := a + 1 } else c

/-- A segment of `bytes` bytes is expected, if it holds any. -/
def needOf (rank stage part half bytes : Nat) : List Need :=
  if bytes = 0 then [] else [⟨rank, stage % 256, part, half, bytes, none⟩]

/-- A collective in the engine is replaced; an event that the engine noted for it meanwhile stands beside its own (00 R12). -/
def Dev.putColl (d : Dev) (c : Coll) : Dev :=
  { d with eng := { d.eng with flights := d.eng.flights.map (fun x =>
      if x.id = c.id then { c with event := pickEvent x.event c.event } else x) } }
def Dev.coll (d : Dev) (id : Nat) : Option Coll := d.eng.flights.find? (fun c => c.id == id)

/-- The value of a marked number: its pattern, with bit 64 for the poison mark. -/
def markNum (p : Nat) (bad : Bool) : Nat := p + (if bad then 2 ^ 64 else 0)
def numBad (v : Nat) : Bool := decide (2 ^ 64 ≤ v)
def numPat (v : Nat) : Nat := v % 2 ^ 64
def Coll.at (c : Coll) (k : Nat) : Nat := sget (fun _ => 0) c.acc k
def Coll.set (c : Coll) (k v : Nat) : Coll := { c with acc := sset (fun _ => 0) c.acc k v }

/-- Marked bytes of a list of marked numbers of `n` bytes, and back. -/
def markedOf (n : Nat) (l : List Nat) : Marked := l.flatMap (fun v => (toBytes n (numPat v)).map (fun b => (b, numBad v)))
def numsOf (n : Nat) (l : Marked) : List Nat :=
  (chunksOf n l.length l).map (fun p => markNum (ofBytes (p.map (fun q => q.1))) (p.any (fun q => q.2)))

/-! ## Reduce-scatter (11 R359; 02 R53) -/

/-- An input element: subnormal G16 and A32 values are read as zero in Pedigree mode (02 R59). -/
def inputValue (ped : Bool) (f : DFmt) (v : Fp) : Fp := if f = .g16 ∨ f = .a32 then flushIf ped v else v

/-- The address of element `i` of SEND, its value, and whether it is poisoned. -/
def Dev.sendElem (d : Dev) (c : Coll) (i : Nat) : Nat × Fp × Bool :=
  let v := d.view (coSend c.desc)
  let a := v.addr + i * v.fmt.size
  (a, inputValue d.pedigree v.fmt (v.fmt.value v.e (d.num a v.fmt.size)), d.mem.anyPoison a v.fmt.size)

/-- The random bits of element `i` at a hop (02 R55, R56). -/
def Dev.collBits (d : Dev) (c : Coll) (i hop : Nat) : Nat :=
  srBits (d.get 0x5040 1) c.step (coTensor c.desc) hop ((coIndex0 c.desc + i) % 2 ^ 40)

/-- An A32 value rounded to G16 as the descriptor selects (02 R53, R54, R59). -/
def Dev.collRound (d : Dev) (c : Coll) (i hop : Nat) (v : Fp) : Nat :=
  if coRound c.desc && !d.pedigree then srG16 (fmtA32.enc v) (d.collBits c i hop)
  else fmtG16.enc (flushIf d.pedigree (rne16 v))

/-- Element `i` of SEND as the exchange takes it: times 2^X, in G16 (02 R31, R53, hop 0); a W64 element is rounded once and directly. -/
def Dev.ownElem (d : Dev) (c : Coll) (i : Nat) : Nat :=
  let e := d.sendElem c i
  let y := e.2.1.scale (sgn 8 (coXscale c.desc))
  let p := if slFmt (coSend c.desc) = 2 ∨ slFmt (coSend c.desc) = 4 then fmtG16.enc (flushIf d.pedigree (rne16 y))
    else d.collRound c i 0 (flushIf d.pedigree (rne32 y))
  markNum p e.2.2

/-- One reduction step on element `i` at hop `s`. -/
def Dev.hopElem (d : Dev) (c : Coll) (i s v : Nat) : Nat :=
  let o := d.ownElem c i
  let w := add32 d.pedigree (flushIf d.pedigree (fmtG16.dec (numPat v))) (flushIf d.pedigree (fmtG16.dec (numPat o)))
  markNum (d.collRound c i s w) (numBad v || numBad o)

/-- The numbers of the elements of half `h` of part `j` in the concatenation. -/
def Coll.halfElems (c : Coll) (j h : Nat) : List Nat := upFrom (c.first j + c.halfFirst j h) (c.halfCount j h)

/-- The collective notes poison among marked numbers of elements. -/
def Dev.noteNums (d : Dev) (c : Coll) (l : List (Nat × Nat)) : Coll :=
  match l.find? (fun q => numBad q.2) with
  | some q => c.note true (d.sendElem c q.1).1
  | none => c

/-- The start of a reduce-scatter: the own element of the first part to send, in both directions; alone, the result. -/
def Dev.rsStart (d : Dev) (c : Coll) : Dev × Coll :=
  if c.q = 1 then
    let l := (below (c.count 0)).map (fun i => (i, d.ownElem c i))
    (d, l.foldl (fun c q => c.set q.1 q.2) (d.noteNums c l))
  else
    (below 2).foldl (fun (p : Dev × Coll) h =>
      let j := c.behind h 1
      let l := (c.halfElems j h).map (fun i => (i, d.ownElem c i))
      let needs := (upFrom 1 (c.q - 1)).flatMap (fun s =>
        needOf (c.prev h) s (c.behind h (1 + s)) h (2 * c.halfCount (c.behind h (1 + s)) h))
      (p.1.collSend c (c.next h) 1 (markedOf 2 (l.map (fun q => q.2))) none,
        { d.noteNums p.2 l with need := p.2.need ++ needs })) (d, c)

/-- A segment of a reduce-scatter is complete: the own elements are added; the last stage delivers, the others send on. -/
def Dev.rsTake (d : Dev) (c : Coll) (n : Need) (data : Marked) : Dev × Coll :=
  let l := (c.halfElems n.part n.half).zip (numsOf 2 data)
  let l := l.map (fun q => (q.1, d.hopElem c q.1 n.stage q.2))
  let c := d.noteNums c l
  if n.part = c.rank then
    (d, l.foldl (fun c q => c.set (q.1 - c.first c.rank) q.2) c)
  else (d.collSend c (c.next n.half) (n.stage + 1) (markedOf 2 (l.map (fun q => q.2))) none, c)

/-- The result of a reduce-scatter goes to RECV in its format, 8-bit formats through their record. -/
def Job.rsWrite (j : Job) (c : Coll) : Job :=
  let v := j.d.view (coRecv c.desc)
  let l := (below (c.count c.rank)).map (fun i => (i, c.at i))
  let vals := l.map (fun q => fmtG16.dec (numPat q.2))
  let (j, pats) :=
    if v.fmt.isScaled then j.produce (slScale (coRecv c.desc)) (v.fmt == .gb8) vals
    else (j, vals.map (fun x => (v.fmt.pattern false 0 x).1))
  let data := markedOf v.fmt.size ((l.zip pats).map (fun q => markNum q.2 (numBad q.1.2)))
  j.dev (fun d => d.wrMarked v.addr data)

/-! ## Gradient noise (06 R183) -/

/-- The A32 run sums over aligned runs of 1,024 logical indices, of exact squares, widened and added in W64. -/
def noiseSum (i0 : Nat) (l : List Fp) : Fp :=
  let step (a : Nat × Fp × Fp) (x : Fp) : Nat × Fp × Fp :=
    let sq := fpMul x x
    if (a.1 / 1024) ≠ ((a.1 + 1) / 1024) then (a.1 + 1, fp0, rne64 (fpAdd a.2.2 (rne32 (fpAdd a.2.1 sq))))
    else (a.1 + 1, rne32 (fpAdd a.2.1 sq), a.2.2)
  let r := l.foldl step (i0, fp0, fp0)
  rne64 (fpAdd r.2.2 r.2.1)

/-- The group of a tensor: none where the measurement is off or the tensor is untracked (06 R181, R183). -/
def Dev.noiseGroup (d : Dev) (tensor : Nat) : Option Nat :=
  if d.get 0x6100 1 != 1 then none
  else
    let g := d.num (d.noiseBase + tensor) 1
    if g = 0xFF then none else some g

/-- S_loc of a reduce-scatter, taken at its start. -/
def Dev.noiseLocal (d : Dev) (c : Coll) : Option Nat :=
  (d.noiseGroup (coTensor c.desc)).map (fun _ =>
    fmtW64.enc (rne64 ((noiseSum (coIndex0 c.desc) ((below c.total).map (fun i => (d.sendElem c i).2.1))).scale
      (-2 * (d.lossL : Int)))))

/-- Both sums enter the group record, or neither (06 R183, R184). -/
def Dev.noiseAdd (d : Dev) (c : Coll) : Dev :=
  match c.sLoc, d.noiseGroup (coTensor c.desc) with
  | some p, some g =>
    let sl := fmtW64.dec p
    let n := c.count c.rank
    let sr := rne64 ((noiseSum (coIndex0 c.desc + c.first c.rank) ((below n).map (fun i => fmtG16.dec (numPat (c.at i))))).scale
      (-2 * ((d.lossL : Int) + sgn 8 (coXscale c.desc))))
    if !sl.isFinite || !sr.isFinite then d.addSat 0x6110 4 32 1
    else
      let a := d.noiseBase + 0x10000 + 32 * g
      let v := d.num a 32
      let v := setBits v 0 64 (fmtW64.enc (fpAdd (fmtW64.dec (bits v 0 64)) sl))
      let v := setBits v 64 64 (fmtW64.enc (fpAdd (fmtW64.dec (bits v 64 64)) sr))
      let v := setBits v 128 64 (bits v 128 64 + c.total)
      let v := setBits v 192 64 (bits v 192 64 + n)
      d.wr a (toBytes 32 v) false
  | _, _ => d

/-! ## All-gather and broadcast (11 R359, R362) -/

/-- Where element `i` of the concatenation lies in RECV, and in SEND. -/
def Coll.recvAt (c : Coll) (i : Nat) : Nat := slAddr (coRecv c.desc) + i * c.recvSize
def Coll.sendAt (c : Coll) (i : Nat) : Nat := slAddr (coSend c.desc) + i * c.sendSize

/-- The collective notes poison among bytes that lie from `a` on. -/
def Coll.noteBytes (c : Coll) (a : Nat) (l : Marked) : Coll :=
  match l.findIdx? (fun q => q.2) with
  | some i => c.note true (a + i)
  | none => c

def Coll.attaches (c : Coll) : Bool := bit (coFprint c.desc) 0
def Coll.checks (c : Coll) : Bool := bit (coFprint c.desc) 1
def Coll.record (c : Coll) (j : Nat) : Option Nat := sget (fun _ => none) c.records j
def Coll.setRecord (c : Coll) (j : Nat) (v : Option Nat) : Coll := { c with records := sset (fun _ => none) c.records j v }

/-- The start of an all-gather: the own part goes to RECV and out in both directions, its record with the first half. -/
def Dev.agStart (d : Dev) (c : Coll) : Dev × Coll :=
  let r := c.rank
  let own := d.markedAt (c.sendAt 0) (c.count r * c.sendSize)
  let c := if c.attaches then c.setRecord r (some (d.num (coFprintAddr c.desc) 32)) else c
  let c := c.noteBytes (c.sendAt 0) own
  let d := d.wrMarked (c.recvAt (c.first r)) own
  if c.q = 1 then (d, c)
  else
    (below 2).foldl (fun (p : Dev × Coll) h =>
      let data := (own.drop (c.halfFirst r h * c.sendSize)).take (c.halfCount r h * c.sendSize)
      let needs := (upFrom 1 (c.q - 1)).flatMap (fun s =>
        needOf (c.prev h) s (c.behind h s) h (c.recvSize * c.halfCount (c.behind h s) h))
      (p.1.collSend c (c.next h) 1 data (if h = 0 ∧ c.attaches then c.record r else none),
        { p.2 with need := p.2.need ++ needs })) (d, c)

/-- The bytes of a received part. -/
def Dev.partBytes (d : Dev) (c : Coll) (k : Nat) : List Byte := d.rd (c.recvAt (c.first k)) (c.count k * c.recvSize)

/-- A REFETCH_REQ to rank `k` (11 R362). -/
def Dev.askPart (d : Dev) (c : Coll) (k : Nat) : Dev :=
  let h : ChunkHead := ⟨0, coTensor c.desc, 0, 0, 1, 0, 0, coCollId c.desc, 4⟩
  d.sendControl ((c.tree[k]?).getD 0) (coTc c.desc) (coEpoch c.desc) (h.value [])

/-- An event of the engine for a collective, kept for its record (00 R12). -/
def Coll.event' (c : Coll) (code : Nat) : Coll := { c with event := pickEvent c.event code }

/-- A whole part has come with its record: it is checked, and asked for once more where it differs (08 R250). -/
def Dev.checkPart (d : Dev) (c : Coll) (k : Nat) : Dev × Coll :=
  match c.record k with
  | none => (d, c)
  | some v =>
    let d := d.wr (coFprintAddr c.desc + 32 * k) (toBytes 32 v) false
    let good := fpMatches (d.partBytes c k) v
    if c.refetch.contains k then
      let c := { c with refetch := c.refetch.filter (fun j => j != k) }
      if good then (d.raise 0x1541 (fpShard v) 0, { c.event' 0x1541 with status := orBit c.status sfRefetched })
      else
        let n := d.draws
        let l := (below (c.count k * c.recvSize)).map (fun i => BitVec.ofNat 8 (Config.unspecified n i))
        let d := { d.wr (c.recvAt (c.first k)) l false with draws := n + 1 }
        (d.raise 0x2542 (fpShard v) 0, { c.event' 0x2542 with code := if c.code = 0 then ccFetchMismatch else c.code })
    else if good then (d, c)
    else
      let d := (d.addSat 0x50A0 8 32 1).askPart c k
      (d, { c.setRecord k none with
        refetch := c.refetch ++ [k]
        need := c.need ++ needOf k 0 k 2 (c.count k * c.recvSize) })

/-- A segment of an all-gather is complete: it is written, sent on, and its part checked once whole. -/
def Dev.agTake (d : Dev) (c : Coll) (n : Need) (data : Marked) : Dev × Coll :=
  let half := if n.half = 2 then 0 else n.half
  let a := c.recvAt (c.first n.part + c.halfFirst n.part half)
  let d := d.wrMarked a data
  let c := c.noteBytes a data
  let d := if n.half = 2 ∨ n.part = c.next n.half then d
    else d.collSend c (c.next n.half) (n.stage + 1) data (if n.half = 0 ∧ c.checks then c.record n.part else none)
  if c.checks && !c.need.any (fun m => m.part == n.part) then d.checkPart c n.part else (d, c)

/-- The start of a broadcast: rank 0 sends, every other rank expects (11 R359). -/
def Dev.bcStart (d : Dev) (c : Coll) : Dev × Coll :=
  if c.rank = 0 then
    let own := d.markedAt (c.sendAt 0) (c.count 0 * c.sendSize)
    (if c.q = 1 then d else d.collSend c 1 1 own none, c.noteBytes (c.sendAt 0) own)
  else (d, { c with need := needOf (c.rank - 1) c.rank 0 0 (c.count 0 * c.recvSize) })

/-- A broadcast's segment is written and sent on to the next rank. -/
def Dev.bcTake (d : Dev) (c : Coll) (data : Marked) : Dev × Coll :=
  let d := d.wrMarked (c.recvAt 0) data
  let c := c.noteBytes (c.recvAt 0) data
  (if c.rank + 1 < c.q then d.collSend c (c.rank + 1) (c.rank + 1) data none else d, c)

/-! ## Exact reduction (11 R361) -/

/-- Numbers per element: two for a pair. -/
def Coll.lanes (c : Coll) : Nat := if coRedop c.desc = 3 then 2 else 1

/-- Key of number `i` of the block held at level `l`; level 0 holds the own contribution and then the combination. -/
def levelKey (l i : Nat) : Nat := l * 2 ^ 20 + i

/-- A sum in the width of the mode (02 R59). -/
def sumMode (ped : Bool) (x y : Fp) : Fp := if ped then add32 true x y else rne64 (fpAdd x y)

/-- The combination of two elements, the lower block on the left. -/
def redop (ped : Bool) (op : Nat) (a b : List Fp) : List Fp :=
  match op, a, b with
  | 2, [x], [y] => [fpMax x y]
  | 3, [m, s], [n, t] =>
    let k := fpMax m n
    let e (v : Fp) : Fp := fmtW64.dec (Config.expW64 (BitVec.ofNat 64 (fmtW64.enc (rne64 (fpSub v k))))).toNat
    [k, sumMode ped (rne64 (fpMul s (e m))) (rne64 (fpMul t (e n)))]
  | _, [x], [y] => [sumMode ped x y]
  | _, a, _ => a

/-- A rank's contribution: squared for the sum of squares. -/
def leafOf (ped : Bool) (op : Nat) (x : Fp) : Fp :=
  if op = 1 then (if ped then flush32 (rne32 (fpMul (rne32 x) (rne32 x))) else rne64 (fpMul x x)) else x

/-- The numbers held at level `l`. -/
def Coll.levelNums (c : Coll) (l : Nat) : List Nat := (below (c.count 0 * c.lanes)).map (fun i => c.at (levelKey l i))
def Coll.setLevel (c : Coll) (l : Nat) (v : List Nat) : Coll := (v.zipIdx).foldl (fun c q => c.set (levelKey l q.2) q.1) c

/-- Two blocks combined, number by number. -/
def combine (ped : Bool) (op lanes : Nat) (a b : List Nat) : List Nat :=
  ((chunksOf lanes a.length a).zip (chunksOf lanes b.length b)).flatMap (fun q =>
    let bad := q.1.any numBad || q.2.any numBad
    (redop ped op (q.1.map (fun v => fmtW64.dec (numPat v))) (q.2.map (fun v => fmtW64.dec (numPat v)))).map
      (fun v => markNum (fmtW64.enc v) bad))

/-- The result reaches RECV, and every rank below this one at levels under `l`. -/
def Dev.erDeliver (d : Dev) (c : Coll) (v : List Nat) (levels : Nat) : Dev × Coll :=
  let data := markedOf 8 v
  let d := d.wrMarked (c.recvAt 0) data
  let c := { c.noteBytes (c.recvAt 0) data with level := 100 }
  ((below levels).reverse.foldl (fun d l =>
    if c.rank + 2 ^ l < c.q then d.collSend c (c.rank + 2 ^ l) (0x81 + l) data none else d) d, c)

/-- The reduction goes on from its level as far as it may. -/
def Dev.erAdvance (d : Dev) (c : Coll) : Nat → Dev × Coll
  | 0 => (d, c)
  | fuel + 1 =>
    let l := c.level
    if 100 ≤ l then (d, c)
    else if c.q ≤ 2 ^ l then d.erDeliver c (c.levelNums 0) l
    else if c.rank / 2 ^ l % 2 = 1 then
      (d.collSend c (c.rank - 2 ^ l) (l + 1) (markedOf 8 (c.levelNums 0)) none,
        { c with level := 101 + l, need := c.need ++ needOf (c.rank - 2 ^ l) (0x81 + l) l 1 (8 * c.count 0 * c.lanes) })
    else if c.q ≤ c.rank + 2 ^ l then Dev.erAdvance d { c with level := l + 1 } fuel
    else if c.need.any (fun n => n.part == l && n.half == 0) then (d, c)
    else
      let v := combine d.pedigree (coRedop c.desc) c.lanes (c.levelNums 0) (c.levelNums (l + 1))
      Dev.erAdvance d { c.setLevel 0 v with level := l + 1 } fuel

/-- The levels at which this rank leads a block: those below its lowest set bit. -/
def Coll.leads (c : Coll) : List Nat := (below 15).filter (fun l => decide (c.rank % 2 ^ (l + 1) = 0))

/-- The start of an exact reduction: the own contribution, and the blocks expected. -/
def Dev.erStart (d : Dev) (c : Coll) : Dev × Coll :=
  let n := c.count 0 * c.lanes
  let own := numsOf 8 (d.markedAt (c.sendAt 0) (8 * n))
  let leaf := own.map (fun v => markNum (fmtW64.enc (leafOf d.pedigree (coRedop c.desc) (fmtW64.dec (numPat v)))) (numBad v))
  let needs := c.leads.flatMap (fun l =>
    if c.rank + 2 ^ l < c.q then needOf (c.rank + 2 ^ l) (l + 1) l 0 (8 * n) else [])
  d.erAdvance ({ c.setLevel 0 leaf with need := needs }.noteBytes (c.sendAt 0) (d.markedAt (c.sendAt 0) (8 * n))) 20

/-- A block or the result has come. -/
def Dev.erTake (d : Dev) (c : Coll) (n : Need) (data : Marked) : Dev × Coll :=
  if n.half = 1 then d.erDeliver c (numsOf 8 data) n.part
  else d.erAdvance (c.setLevel (n.part + 1) (numsOf 8 data)) 20

/-! ## Permutation (11 R365) -/

/-- A piece: peer rank, whether it receives, elements, first element, and its place among the peer's pieces of its direction. -/
structure Piece where
  peer : Nat
  recv : Bool
  count : Nat
  first : Nat
  place : Nat
deriving DecidableEq, Repr

/-- The piece list. -/
def Dev.pieces (d : Dev) (x : Nat) : List Piece :=
  let a := coCountsAddr x
  let raw := (below (d.num a 4)).map (fun i =>
    let v := d.num (a + 4 + 16 * i) 16
    (⟨bits v 0 16, bits v 16 16 == 1, bits v 32 32, bits v 64 32, 0⟩ : Piece))
  (raw.zipIdx).map (fun q => { q.1 with
    place := ((raw.take q.2).filter (fun p => p.peer == q.1.peer && p.recv == q.1.recv)).length })

/-- The start of a permutation: every piece for another rank leaves or is expected, pieces for itself are copied. -/
def Dev.peStart (d : Dev) (c : Coll) : Dev × Coll :=
  let l := d.pieces c.desc
  let out := l.filter (fun p => !p.recv)
  let d0 := d
  let sent := out.foldl (fun (s : Dev × Coll) p =>
    let data := d0.markedAt (c.sendAt p.first) (p.count * c.sendSize)
    (if p.peer = c.rank then s.1 else s.1.collSend c p.peer p.place data none, s.2.noteBytes (c.sendAt p.first) data)) (d, c)
  (l.zipIdx).foldl (fun (s : Dev × Coll) q =>
    let p := q.1
    if !p.recv then s
    else if p.peer = c.rank then
      match out.find? (fun o => o.peer == c.rank && o.place == p.place) with
      | some o => (s.1.wrMarked (c.recvAt p.first) (d0.markedAt (c.sendAt o.first) (min o.count p.count * c.sendSize)), s.2)
      | none => s
    else (s.1, { s.2 with need := s.2.need ++ needOf p.peer p.place q.2 0 (p.count * c.recvSize) })) sent

/-- A piece has come; the need holds its number in the list. -/
def Dev.peTake (d : Dev) (c : Coll) (n : Need) (data : Marked) : Dev × Coll :=
  match (d.pieces c.desc)[n.part]? with
  | some p =>
    let a := c.recvAt p.first
    (d.wrMarked a data, c.noteBytes a data)
  | none => (d, c)

/-! ## Taking segments -/

/-- A segment that the collective expected is complete. -/
def Dev.collTake (d : Dev) (c : Coll) (n : Need) (data : Marked) : Dev × Coll :=
  match c.op with
  | 0x40 => d.rsTake c n data
  | 0x41 => d.agTake c n data
  | 0x42 => d.bcTake c data
  | 0x43 => d.peTake c n data
  | _ => d.erTake c n data

/-! ## Completion (11 R363) -/

/-- The bytes of RECV that a Sniffer folds, with their marks (13 R404). -/
def Dev.recvBytes (d : Dev) (c : Coll) : Marked :=
  match c.op with
  | 0x40 => d.markedAt (c.recvAt 0) (c.count c.rank * c.recvSize)
  | 0x41 => d.markedAt (c.recvAt 0) (c.total * c.recvSize)
  | 0x42 => if c.rank = 0 then [] else d.markedAt (c.recvAt 0) (c.count 0 * c.recvSize)
  | 0x43 => (d.pieces c.desc).flatMap (fun p => if p.recv then d.markedAt (c.recvAt p.first) (p.count * c.recvSize) else [])
  | _ => d.markedAt (c.recvAt 0) (8 * c.count 0 * c.lanes)

/-- A collective that waits for nothing more: every receive accepted and written, every segment acknowledged. -/
def Dev.collOver (d : Dev) (c : Coll) : Bool :=
  c.need.isEmpty && c.refetch.isEmpty && d.eng.segments.all (fun g => g.owner != some c.id)
    && d.eng.backlog.all (fun g => g.owner != some c.id)

/-- The last acts of a collective, and its outcome. -/
def Dev.conclude (d : Dev) (c : Coll) : Dev :=
  let d : Dev := { d with eng := { d.eng with
    flights := d.eng.flights.filter (fun x => x.id != c.id)
    past := if c.op = 0x41 then c :: d.eng.past else d.eng.past } }
  let j : Job := ⟨d, ⟨c.code, c.status, c.event, 0⟩⟩
  let j := if c.op = 0x40 then j.rsWrite c else j
  let j := if c.bad = 0 then j else j.poisonedAt c.step (c.bad - 1)
  let j := if c.op = 0x40 ∧ j.done.code = 0 then j.dev (fun d => d.noiseAdd c) else j
  let j := if c.op = 0x43 ∧ j.done.code = 0
    then j.dev (fun d => { d with eng := { d.eng with
      epochs := sset (fun _ => 0) d.eng.epochs (coTensor c.desc) (coEpoch c.desc) } }) else j
  let l := j.d.recvBytes c
  let j := j.sniff (coSniffEn c.desc) (coSniffUnit c.desc) c.id l
  j.d.finish c.id (j.result c.result).done

/-- Conclude a collective that waits for nothing more. -/
def Dev.settle (d : Dev) (id : Nat) : Dev :=
  match d.coll id with
  | some c => if d.collOver c then d.conclude c else d
  | none => d

/-- A collective ends at once with a code: its segments are forgotten (11 R355). -/
def Dev.failColl (d : Dev) (c : Coll) (code : Nat) : Dev :=
  let d := d.discard c.id
  d.finish c.id ((⟨d, ⟨c.code, c.status, c.event, 0⟩⟩ : Job).fail code |>.result c.result).done

/-- Re-sends of a collective's chunks count in its result (11 R355). -/
def Dev.noteResent (d : Dev) (owner : Option Nat) (n : Nat) : Dev :=
  { d with eng := { d.eng with flights := d.eng.flights.map (fun c =>
      if owner = some c.id then { c with detours := c.detours + n } else c) } }

/-! ## Receiving -/

/-- The current epoch of a tensor (11 R364). -/
def Dev.epochOf (d : Dev) (t : Nat) : Nat := sget (fun _ => 0) d.eng.epochs t

/-- The duplicate key of a chunk (11 R354). -/
def Chunk.key (c : Chunk) : Nat × Nat × Nat × Nat := (c.src, chCollId c.header, chSegment c.header, chChunk c.header)
def Chunk.seg (c : Chunk) : Nat × Nat × Nat := (c.src, chCollId c.header, chSegment c.header)

/-- The data of a chunk with the marks of its flits (10 R302, 11 R353). -/
def Chunk.marked (c : Chunk) : Marked :=
  (c.data.zipIdx).map (fun q => (q.1, (c.poison[flitOfByte q.2]?).getD false))

/-- A SEG_ACK for a chunk's segment. -/
def Dev.ackSegment (d : Dev) (c : Chunk) : Dev :=
  let d : Dev := { d with eng := { d.eng with
    ackedSegs := if d.eng.ackedSegs.contains c.seg then d.eng.ackedSegs else c.seg :: d.eng.ackedSegs } }
  d.sendControl c.src c.tc c.epoch (answerHeader c.header 2)

/-- A stale chunk is dropped: counted, and reported once for the descriptor it met (11 R363). -/
def Dev.dropStale (d : Dev) (f : Option Coll) : Dev :=
  let d := d.addWrap 0x3510 1 1
  match f with
  | some c =>
    let d := d.putColl { c with stale := c.stale + 1, status := orBit c.status sfStale, staleRaised := true
                                event := if c.staleRaised then c.event else pickEvent c.event 0x0908 }
    if c.staleRaised then d else d.raise 0x0908 (coCollId c.desc) 0
  | none => d

/-- The bytes in the early-arrival store. -/
def Engine.earlyBytes (e : Engine) : Nat := e.early.foldl (fun n x => n + x.1.data.length) 0

/-- A chunk that comes early is held for the `EARLY_HOLD` of this moment (15 R460), or dropped where the store is full (11 R356). -/
def Dev.holdEarly (d : Dev) (c : Chunk) : Dev :=
  if 8 * 2 ^ 20 < d.eng.earlyBytes + c.data.length then d.addSat 0x3510 4 32 1
  else { d with eng := { d.eng with early := d.eng.early ++ [(c, d.now + d.get 0x3500 3 * 1000)] } }

/-- The expected segment that a chunk belongs to: its place in the list. -/
def Coll.needFor (c : Coll) (k : Chunk) : Option Nat :=
  let mine (n : Need) : Bool := (c.tree[n.rank]?) == some k.src && n.stage == chStage k.header
  match c.need.findIdx? (fun n => mine n && n.from_ == some (chSegment k.header)) with
  | some i => some i
  | none => c.need.findIdx? (fun n => mine n && n.from_.isNone)

/-- The chunks of a segment so far. -/
def Coll.piecesOf (c : Coll) (k : Chunk) : List (Nat × Marked) :=
  match c.incoming.find? (fun x => x.src == k.src && x.number == chSegment k.header) with
  | some x => x.pieces
  | none => []

/-- The segment that need `i` expects is complete: it is acknowledged, leaves the list, and its data are taken. -/
def Dev.segmentDone (d : Dev) (c : Coll) (i : Nat) (n : Need) (k : Chunk) (data : Marked) : Dev :=
  let c := { c with
    need := c.need.eraseIdx i
    incoming := c.incoming.filter (fun x => !(x.src == k.src && x.number == chSegment k.header)) }
  let d := d.ackSegment k
  let (d, c) := d.collTake c n data
  (d.putColl c).settle c.id

/-- Whether a segment has all that its need expects: its bytes, and the record where one is checked. -/
def Coll.whole (c : Coll) (n : Need) (data : Marked) : Bool :=
  decide (n.bytes ≤ data.length) && !(c.op == 0x41 && c.checks && n.half != 1 && (c.record n.part).isNone)

/-- An accepted chunk joins its segment. -/
def Dev.joinChunk (d : Dev) (c : Coll) (i : Nat) (n : Need) (k : Chunk) : Dev :=
  let old := c.piecesOf k
  let pieces := if chKind k.header = 0 then sinsert (chOffset k.header) k.marked old else old
  let c := if chKind k.header = 1 then c.setRecord n.part (some (ofBytes k.data)) else c
  let c := { c with
    need := c.need.set i { n with from_ := some (chSegment k.header) }
    incoming := ⟨k.src, chSegment k.header, pieces⟩
      :: c.incoming.filter (fun x => !(x.src == k.src && x.number == chSegment k.header)) }
  let d : Dev := { d with eng := { d.eng with accepted := k.key :: d.eng.accepted } }
  let data := pieces.flatMap (fun p => p.2)
  if c.whole n data then d.segmentDone c i n k data else d.putColl c

/-- A DATA or FINGERPRINT chunk reaches the engine (11 R354, R356, R363). -/
def Dev.takeChunk (d : Dev) (k : Chunk) : Dev :=
  if d.eng.accepted.contains k.key then
    let d := d.addWrap 0x3510 2 1
    if d.eng.ackedSegs.contains k.seg then d.ackSegment k else d
  else
    let f := d.eng.flights.find? (fun c => coCollId c.desc == chCollId k.header)
    if serialNewer 16 (d.epochOf (chTensor k.header)) k.epoch then d.dropStale f
    else
      match f with
      | none => d.holdEarly k
      | some c =>
        if serialNewer 16 (coEpoch c.desc) k.epoch then d.dropStale f
        else if coEpoch c.desc != k.epoch then d.holdEarly k
        else
          match c.needFor k with
          | none => d
          | some i =>
            match c.need[i]? with
            | none => d
            | some n => d.joinChunk c i n k

/-- The early chunks of a collective are consumed when it starts (11 R356). -/
def Dev.takeEarly (d : Dev) (c : Coll) : Dev :=
  let mine (k : Chunk) : Bool := chCollId k.header == coCollId c.desc && k.epoch == coEpoch c.desc
  let l := (d.eng.early.filter (fun e => mine e.1)).map (fun e => e.1)
  let d : Dev := { d with eng := { d.eng with early := d.eng.early.filter (fun e => !mine e.1) } }
  l.foldl (fun d k => d.takeChunk k) d

end Sys2Proof.Machine
end

