-- ==== Sys2Proof/Machine/Collective.lean ====
section
/-! DEFINITION. The collective opcodes (04 R132, R133; 11 R357-R366): their checks at start, and what starts them. -/

namespace Sys2Proof.Machine

/-- The counts of a collective over `q` ranks (11 R360), and the single count of an exact reduction (11 R361). -/
def Dev.countsOf (d : Dev) (x q : Nat) : List Nat :=
  match hdOpcode x with
  | 0x43 => []
  | 0x44 => [d.num (coCountsAddr x) 4]
  | _ => (below q).map (fun i => d.num (coCountsAddr x + 4 * i) 4)

/-- What `COUNTS_ADDR` holds. -/
def Dev.countsExt (d : Dev) (x q : Nat) : List Ext :=
  match hdOpcode x with
  | 0x43 => [(coCountsAddr x, 4), (coCountsAddr x + 4, 16 * d.num (coCountsAddr x) 4)]
  | 0x44 => [(coCountsAddr x, 4)]
  | _ => [(coCountsAddr x, 4 * q)]

/-- A collective before its start. -/
def newColl (e : Entry) (step alg : Nat) (tree : List Nat) (rank : Nat) (counts : List Nat) : Coll :=
  { id := e.id, desc := e.desc, step := step, ring := e.ring, index := e.index, tree := tree, alg := alg, rank := rank
    counts := counts, need := [], incoming := [], acc := [], level := 0, sLoc := none, stale := 0, staleRaised := false
    detours := 0, status := 0, event := 0, code := 0, bad := 0, records := [], refetch := [] }

/-- The bytes of the largest segment a collective may have: 65,536 chunks (11 R358). -/
def segmentMax : Nat := 65536 * chunkMax

/-- Whether a segment of a part would exceed them: each half is a segment of its own, and a fingerprint record is one chunk more
(11 R353, R358, R359, R362). -/
def Coll.tooLong (c : Coll) (size : Nat) (record : Bool) : Bool :=
  (below c.counts.length).any (fun j => (below 2).any (fun h =>
    decide (segmentMax < c.halfCount j h * size + (if record && h == 0 then chunkMax else 0))))

/-- The cases of 11 R358 that every opcode shares: the identifier in flight, and the epoch rule. -/
def Dev.collClash (d : Dev) (x : Nat) : Bool :=
  d.eng.flights.any (fun c => coCollId c.desc == coCollId x)
    || (if hdOpcode x = 0x43 then coEpoch x != (d.epochOf (coTensor x) + 1) % 65536 else coEpoch x != d.epochOf (coTensor x))

/-- The element format carries bits unchanged: SEND and RECV of one size. -/
def Coll.sameSize (c : Coll) : Bool := c.sendSize == c.recvSize

/-- The refusals of an opcode beyond `collClash` (11 R358, R361, R365). -/
def Dev.collInvalid (d : Dev) (c : Coll) : Bool :=
  let x := c.desc
  match c.op with
  | 0x40 => decide (4 < slFmt (coSend x)) || decide (4 < slFmt (coRecv x)) || (coRound x && decide (256 < c.q))
      || c.tooLong 2 false
  | 0x43 =>
    let l := d.pieces x
    !c.sameSize || l.isEmpty || decide (65536 < l.length)
      || l.any (fun p => decide (c.q ≤ p.peer) || decide (segmentMax < p.count * c.sendSize))
      || (below l.length).any (fun i => decide (1 < bits (d.num (coCountsAddr x + 6 + 16 * i) 2) 0 16))
  | 0x44 => decide (c.count 0 = 0) || decide (4096 < c.count 0) || slFmt (coSend x) != 4 || slFmt (coRecv x) != 4
  | 0x41 => !c.sameSize || c.tooLong c.sendSize (c.attaches || c.checks)
  | _ => !c.sameSize || decide (segmentMax < c.count 0 * c.sendSize)

/-- The extents of a collective's operands: SEND, RECV, fingerprint records. -/
def Dev.collExts (d : Dev) (c : Coll) : List Ext :=
  let s := slAddr (coSend c.desc)
  let r := slAddr (coRecv c.desc)
  match c.op with
  | 0x40 => [(s, c.total * c.sendSize), (r, c.count c.rank * c.recvSize)]
      ++ (if slFmt (coRecv c.desc) ≤ 1 then [d.histExt (slScale (coRecv c.desc))] else [])
  | 0x41 => [(s, c.count c.rank * c.sendSize), (r, c.total * c.recvSize),
      (coFprintAddr c.desc, if c.checks then 32 * c.q else if c.attaches then 32 else 0)]
  | 0x42 => [if c.rank = 0 then (s, c.count 0 * c.sendSize) else (r, c.count 0 * c.recvSize)]
  | 0x43 => (d.pieces c.desc).map (fun p =>
      if p.recv then (r + p.first * c.recvSize, p.count * c.recvSize) else (s + p.first * c.sendSize, p.count * c.sendSize))
  | _ => [(s, 8 * c.count 0 * c.lanes), (r, 8 * c.count 0 * c.lanes)]

/-- The control data that a start reads beside tree and counts: scale records and their history, the record to attach. -/
def Dev.collControl (d : Dev) (c : Coll) : List Ext :=
  match c.op with
  | 0x40 => d.slotRecord (coSend c.desc)
      ++ (if slFmt (coRecv c.desc) ≤ 1 then d.producerReads (slScale (coRecv c.desc)) else [])
  | 0x41 => if c.attaches then [(coFprintAddr c.desc, 32)] else []
  | _ => []

/-- The opcode's own start. -/
def Dev.collGo (d : Dev) (c : Coll) : Dev × Coll :=
  match c.op with
  | 0x40 => d.rsStart { c with sLoc := d.noiseLocal c }
  | 0x41 => d.agStart c
  | 0x42 => d.bcStart c
  | 0x43 => d.peStart c
  | _ => d.erStart c

/-- A collective that passed every check enters the engine, sends, takes its early chunks, and may be over at once. -/
def Dev.launchColl (d : Dev) (c : Coll) : Dev :=
  let d : Dev := { d with eng := { d.eng with flights := d.eng.flights ++ [c] } }
  let (d, c) := d.collGo c
  ((d.putColl c).takeEarly c).settle c.id

/-- A started collective ends with a code. -/
def Dev.endWith (d : Dev) (id code : Nat) : Dev := d.finish id { Done.init with code := code }

/-- A started collective ends on poisoned control data. -/
def Dev.endPoisoned (d : Dev) (id step addr : Nat) : Dev :=
  let j := (Job.start d).poisonedAt step addr
  j.d.finish id j.done

/-- The checks after tree and counts are known. -/
def Dev.checkColl (d : Dev) (c : Coll) : Dev :=
  if d.collClash c.desc || d.collInvalid c then d.endWith c.id ccInvalidField
  else if !(d.collExts c).all (d.extentIn coreRegions) then d.endWith c.id ccAddressRange
  else
    match d.firstPoison (d.collControl c) with
    | some a => d.endPoisoned c.id c.step a
    | none => d.launchColl c

/-- A collective starts: the tree, the counts, the checks (11 R357, R358). -/
def Dev.beginColl (d : Dev) (e : Entry) : Dev :=
  let x := e.desc
  let step := d.stepOf x
  match d.firstPoison (d.treeExt (coTree x)) with
  | some a => d.endPoisoned e.id step a
  | none =>
    match d.treeInfo (coTree x) with
    | none => d.endWith e.id ccInvalidField
    | some (alg, tree, rank) =>
      if !(d.countsExt x tree.length).all (d.extentIn coreRegions) then d.endWith e.id ccAddressRange
      else
        match d.firstPoison (d.countsExt x tree.length) with
        | some a => d.endPoisoned e.id step a
        | none => d.checkColl (newColl e step alg tree rank (d.countsOf x tree.length))

/-- Start descriptor `id`, if its opcode is `op` and it may start. -/
def Dev.startColl (d : Dev) (id op : Nat) (ecc : List EccHit) : Dev :=
  match d.entry id with
  | none => d
  | some e => if hdOpcode e.desc != op || !d.mayStart e then d else ((d.markStarted e).eccRead [] ecc).beginColl e

/-- COLL_REDUCE_SCATTER (11 R359, R360). -/
def execCollReduceScatter (id : Nat) (ecc : List EccHit) (s : State) : Host.Outcome State Fault Refusal :=
  run s (fun _ d => d.startColl id 0x40 ecc)

/-- COLL_ALL_GATHER (11 R359, R362). -/
def execCollAllGather (id : Nat) (ecc : List EccHit) (s : State) : Host.Outcome State Fault Refusal :=
  run s (fun _ d => d.startColl id 0x41 ecc)

/-- COLL_BROADCAST (11 R359). -/
def execCollBroadcast (id : Nat) (ecc : List EccHit) (s : State) : Host.Outcome State Fault Refusal :=
  run s (fun _ d => d.startColl id 0x42 ecc)

/-- COLL_PERMUTE (04 R133; 11 R364, R365). -/
def execCollPermute (id : Nat) (ecc : List EccHit) (s : State) : Host.Outcome State Fault Refusal :=
  run s (fun _ d => d.startColl id 0x43 ecc)

/-- COLL_EXACT_REDUCE (11 R361). -/
def execCollExactReduce (id : Nat) (ecc : List EccHit) (s : State) : Host.Outcome State Fault Refusal :=
  run s (fun _ d => d.startColl id 0x44 ecc)

end Sys2Proof.Machine
end

