-- ==== Sys2Proof/Machine/Shadow.lean ====
section
/-! DEFINITION. Littermate shadows (12 R380-R388): the stream of the owner, and the hold slots of the holder. -/

namespace Sys2Proof.Machine

/-! ## The owner side -/

/-- Whether a segment is shadow data, or a commit, of the stream of a step. -/
def Segment.shadowOf (g : Segment) (kind s : Nat) : Bool :=
  g.owner.isNone && g.chunks.any (fun k => chKind k.header == kind && chTensor k.header == s % 65536)

/-- The first `SWEEP_SHARDS` of a step, or of a repeated attempt of it, decides whether the step is shadowed (12 R383). -/
def Dev.shadowStart (d : Dev) (s : Nat) : Dev :=
  if d.shadow.decided = some (s, d.get 0x7200 5) then d
  else if d.get 0x7200 1 = 1 then
    { d with shadow := { d.shadow with
      decided := some (s, d.get 0x7200 5), current := some s, attempt := d.get 0x7200 5, total := 0, boundary := false, commitSent := false, failed := false } }
  else { d with shadow := { d.shadow with decided := some (s, d.get 0x7200 5), current := none } }

/-- Whether the first `SWEEP_SHARDS` of step `s` waits for the commit of step s - 1 (12 R383). -/
def Dev.shadowWaits (d : Dev) (s : Nat) : Bool :=
  match d.shadow.current with
  | some p => p + 1 == s && !d.shadow.failed && d.get 0x7200 4 != p
  | none => false

/-- The entry of a shard in the shadow map; 0, not valid, beyond the map (12 R380). -/
def Dev.shadowEntry (d : Dev) (shard : Nat) : Nat := if shard < 2 ^ 20 then d.num (d.get 0x7200 3 + 8 * shard) 8 else 0

/-- The chunks of one contiguous run of a shadow record: offset in the generation and marked bytes. -/
def shadowRun (off : Nat) (l : Marked) : List (Nat × Marked) :=
  ((chunksOf chunkMax l.length l).zipIdx).map (fun q => (off + chunkMax * q.2, q.1))

/-- The SHADOW_DATA chunks of a shard (12 R382). -/
def shadowChunks (dest key shard s attempt : Nat) (runs : List (Nat × Marked)) : List Kept :=
  (runs.zipIdx).map (fun q =>
    let bytes := q.1.2.map (fun b => b.1)
    let h : ChunkHead := ⟨q.1.1, s % 65536, attempt, bytes.length, flitCount bytes.length, q.2, shard, 0, 5⟩
    (⟨key + q.2, dest, 3, false, h.value bytes, bytes, flitMarks q.1.2, 0, 0⟩ : Kept))

/-- A shard of step `step` is queued where that step is the one shadowed: its runs, then its fingerprint record (12 R380, R381, R383). -/
def Dev.queueShadow (d : Dev) (step shard : Nat) (runs : List (Nat × Marked)) (recOff record : Nat) : Dev :=
  let e := d.shadowEntry shard
  match d.shadow.current with
  | none => d
  | some s =>
    if d.get 0x7200 1 != 1 || s != step || d.shadow.failed || !bit e 63 then d
    else
      let base := bits e 0 40
      let recBytes : Marked := (toBytes 32 record).map (fun b => (b, false))
      let l := runs.flatMap (fun r => shadowRun (base + r.1) r.2) ++ [(base + recOff, recBytes)]
      let n := l.foldl (fun n r => n + r.2.length) 0
      let d : Dev := { d with shadow := { d.shadow with total := d.shadow.total + n } }
      let d := d.addWrap 0x7200 6 n
      d.launch none (bits (d.get 0x7200 2) 0 14) shard (shadowChunks (bits (d.get 0x7200 2) 0 14) d.eng.nextKey shard s d.shadow.attempt l)

/-- A shadow segment or commit was re-sent in vain: the stream of its step has failed (12 R384). -/
def Dev.failShadow (d : Dev) (g : Segment) : Dev :=
  let s := (g.chunks.head?.map (fun k => chTensor k.header)).getD 0
  let d := d.forget (fun x => x.shadowOf 5 s || x.shadowOf 6 s)
  match d.shadow.current with
  | some p =>
    if p % 65536 ≠ s ∨ d.shadow.failed then d
    else
      let d : Dev := { d with shadow := { d.shadow with failed := true } }
      (d.addSat 0x7200 7 32 1).raise 0x2A05 p 0
  | none => d

/-- The SHADOW_COMMIT chunk of a step (12 R382). -/
def commitChunk (dest key s attempt total : Nat) : Kept :=
  let bytes := toBytes 8 s ++ toBytes 8 total
  let h : ChunkHead := ⟨0, s % 65536, attempt, 16, 1, 0, 0, 0, 6⟩
  ⟨key, dest, 3, false, h.value bytes, bytes, [false], 0, 0⟩

/-- SHADOW_COMMIT_SEND (12 R383). -/
def execShadowCommitSend (s : State) : Host.Outcome State Fault Refusal :=
  run s (fun _ d =>
    match d.shadow.current with
    | none => d
    | some p =>
      if !d.shadow.boundary || d.shadow.commitSent || d.shadow.failed || d.eng.segments.any (fun g => g.shadowOf 5 p) then d
      else
        let dest := bits (d.get 0x7200 2) 0 14
        let d := ({ d with shadow := { d.shadow with commitSent := true } } : Dev).note 10 0 p
        d.launch none dest 0 [commitChunk dest d.eng.nextKey p d.shadow.attempt d.shadow.total])

/-- The holder acknowledged the commit (12 R383). -/
def Dev.commitAcked (d : Dev) (g : Segment) : Dev :=
  match d.shadow.current with
  | some p => if g.shadowOf 6 p ∧ d.shadow.commitSent then d.put 0x7200 4 p else d
  | none => d

/-! ## The holder side -/

def Dev.hold (d : Dev) (h : Nat) : Hold := sget (fun _ => Hold.init) d.shadow.holds h
def Dev.setHold (d : Dev) (h : Nat) (x : Hold) : Dev :=
  { d with shadow := { d.shadow with holds := sset (fun _ => Hold.init) d.shadow.holds h x } }

/-- The valid hold slot of an owner (12 R386). -/
def Dev.holdOf (d : Dev) (src : Nat) : Option Nat := (below 4).find? (fun h => d.get (0x7210 + h) 1 == 0x8000 + src)

/-- The step that a slot takes next (12 R386): any while EMPTY, else the one after `HOLD_COMMITTED`. -/
def Dev.holdStepOk (d : Dev) (h s16 : Nat) : Bool :=
  d.get (0x7210 + h) 5 == 0 || (d.get (0x7210 + h) 4 + 1) % 65536 == s16

/-- A chunk that fails a condition is dropped without acknowledgement (12 R386). -/
def Dev.rejectShadow (d : Dev) (slot : Option Nat) (src : Nat) : Dev :=
  let d := match slot with
    | some h => d.addSat (0x7210 + h) 6 32 1
    | none => d
  d.oncePerSecond 0x2A06 (fun d => d.raise 0x2A06 src 0)

/-- Answer a shadow chunk with SEG_ACK. -/
def Dev.ackShadow (d : Dev) (src tc epoch header : Nat) : Dev := d.sendControl src tc epoch (answerHeader header 2)

/-- Whether a chunk's data are the fingerprint record of its shard, with which the sender ends the shard's segment. -/
def Chunk.endsShard (c : Chunk) : Bool :=
  let v := ofBytes c.data
  c.data.length == 32 && fpValid v && fpShard v % 2 ^ 24 == chSegment c.header

/-- Whether every chunk of a shard's segment has been accepted. -/
def Hold.shardWhole (x : Hold) (shard : Nat) : Bool :=
  x.keys.any (fun k => k.1 == shard && decide (65536 ≤ k.2)
    && (below (k.2 - 65535)).all (fun i => x.keys.contains (shard, i)))

/-- The commit is applied, with its Trail entry (12 R387, R390; DESIGN CHOICE, log entry 166). -/
def Dev.commitHold (d : Dev) (h s : Nat) : Dev :=
  (((d.put (0x7210 + h) 4 s).put (0x7210 + h) 5 1).setHold h Hold.init).note 10 1 s

/-- A held commit is applied once its total is reached. -/
def Dev.tryHeld (d : Dev) (h src : Nat) : Dev :=
  let x := d.hold h
  match x.commit with
  | some (s, total, _, header, way) =>
    if x.step = some (s % 65536) ∧ x.attempt = chStage header ∧ x.bytes = total
    then (d.commitHold h s).ackShadow src (way / 65536) (way % 65536) header else d
  | none => d

/-- A SHADOW_DATA chunk that a slot accepts: its bytes, its key (12 R385, R386). -/
def Dev.acceptShadow (d : Dev) (h : Nat) (x : Hold) (c : Chunk) : Dev :=
  let v := c.header
  let a := d.get (0x7210 + h) 2 + chTensor v % 2 * d.get (0x7210 + h) 3 + chOffset v
  let d := d.wrMarked a c.marked
  let last := if c.endsShard then [(chSegment v, 65536 + chChunk v)] else []
  let x := { x with keys := (chSegment v, chChunk v) :: (last ++ x.keys), bytes := x.bytes + c.data.length }
  let d := d.setHold h x
  let d := if d.get (0x7210 + h) 5 = 0 then d else d.put (0x7210 + h) 5 2
  let d := if x.shardWhole (chSegment v) then d.ackShadow c.src c.tc c.epoch v else d
  d.tryHeld h c.src

/-- A SHADOW_DATA chunk arrives (12 R386). -/
def Dev.takeShadow (d : Dev) (c : Chunk) : Dev :=
  let v := c.header
  match d.holdOf c.src with
  | none => d.rejectShadow none c.src
  | some h =>
    if !d.holdStepOk h (chTensor v) || decide (d.get (0x7210 + h) 3 < chOffset v + c.data.length) then d.rejectShadow (some h) c.src
    else
      let x := d.hold h
      if x.step ≠ some (chTensor v) ∨ serialNewer 8 (chStage v) x.attempt then
        d.acceptShadow h { x with step := some (chTensor v), attempt := chStage v, keys := [], bytes := 0 } c
      else if x.attempt ≠ chStage v then d.ackShadow c.src c.tc c.epoch v
      else if x.keys.contains (chSegment v, chChunk v) then
        let d := d.addWrap 0x3510 2 1
        if x.shardWhole (chSegment v) then d.ackShadow c.src c.tc c.epoch v else d
      else d.acceptShadow h x c

/-- A SHADOW_COMMIT chunk arrives (12 R387). -/
def Dev.takeCommit (d : Dev) (c : Chunk) : Dev :=
  let v := c.header
  let s := ofBytes (c.data.take 8)
  let total := ofBytes ((c.data.drop 8).take 8)
  match d.holdOf c.src with
  | none => d
  | some h =>
    let x := d.hold h
    if d.get (0x7210 + h) 5 ≠ 0 ∧ d.get (0x7210 + h) 4 = s then (d.addWrap 0x3510 2 1).ackShadow c.src c.tc c.epoch v
    else if !d.holdStepOk h (s % 65536) then d
    else if x.step ≠ some (s % 65536) ∧ total = 0 then (d.commitHold h s).ackShadow c.src c.tc c.epoch v
    else if x.step = some (s % 65536) ∧ serialNewer 8 x.attempt (chStage v) then d
    else (d.setHold h { x with commit := some (s, total, d.now + d.get 0x3500 1 * 1000, v, c.tc * 65536 + c.epoch) }).tryHeld h c.src

/-- SHADOW_COMMIT_HOLD_TIMEOUT (12 R387): a held commit is dropped after `COLL_ACK_TIMEOUT`. -/
def execShadowCommitHoldTimeout (slot : Fin 4) (s : State) : Host.Outcome State Fault Refusal :=
  run s (fun _ d =>
    let x := d.hold slot
    match x.commit with
    | some (_, _, at_, _, _) =>
      if at_ ≤ d.now then d.setHold slot { x with commit := none } else d
    | none => d)

end Sys2Proof.Machine
end

