-- ==== Sys2Proof/Machine/Chunks.lean ====
section
/-! DEFINITION. The commands that take a received chunk from the inbox, by its kind (11 R353), and the timers of the engine. -/

namespace Sys2Proof.Machine

/-- The flits that this device sent to itself reach its own reassembly (11 R349). -/
def Dev.loopBack (d : Dev) : Dev :=
  d.eng.loop.foldl (fun d f => d.reassemble f) { d with eng := { d.eng with loop := [] } }

/-- Take the oldest chunk of a kind out of the inbox and act on it. -/
def Dev.fromInbox (d : Dev) (kind : Nat) (f : Dev → Chunk → Dev) : Dev :=
  let d := d.loopBack
  match d.eng.inbox.find? (fun c => chKind c.header == kind) with
  | some c => f { d with eng := { d.eng with inbox := d.eng.inbox.erase c } } c
  | none => d

/-- As `fromInbox`, for a chunk on which the engine computes or reads memory: its reads find the errors that stand (09 R271), and a
device-fatal event has stopped it (00 R10). -/
def Dev.fromInboxRead (d : Dev) (kind : Nat) (f : Dev → Chunk → Dev) : Dev :=
  if d.disp.fatal then d else d.readFlaws.fromInbox kind f

/-- COLL_DATA_CHUNK_RECEIVED (11 R354-R356, R363). -/
def execCollDataChunkReceived (s : State) : Host.Outcome State Fault Refusal :=
  run s (fun _ d => d.fromInboxRead 0 Dev.takeChunk)

/-- FINGERPRINT_CHUNK_RECEIVED (11 R362): accepted as any chunk of its segment. -/
def execFingerprintChunkReceived (s : State) : Host.Outcome State Fault Refusal :=
  run s (fun _ d => d.fromInboxRead 1 Dev.takeChunk)

/-- Whether a kept chunk belongs to the segment that a control chunk names: collective, tensor and stage. -/
def Kept.sameSegment (k : Kept) (v : Nat) : Bool :=
  chCollId k.header == chCollId v && chTensor k.header == chTensor v && chStage k.header == chStage v

/-- The segment that a control chunk from a device names. -/
def Dev.segmentOf (d : Dev) (c : Chunk) : Option Segment :=
  d.eng.segments.find? (fun g => g.dest == c.src && g.number == chSegment c.header && g.chunks.any (fun k => k.sameSegment c.header))

/-- The segment leaves the engine. -/
def Dev.dropSegment (d : Dev) (g : Segment) : Dev := d.forget (fun x => x == g)

/-- A SEG_ACK releases the kept chunks (11 R355, R363; 12 R383). -/
def Dev.takeSegAck (d : Dev) (c : Chunk) : Dev :=
  match d.segmentOf c with
  | none => d
  | some g =>
    let d := d.dropSegment g
    match g.owner with
    | some id => d.settle id
    | none => d.commitAcked g

/-- SEG_ACK_RECEIVED (11 R355). -/
def execSegAckReceived (s : State) : Host.Outcome State Fault Refusal :=
  run s (fun _ d => d.fromInboxRead 2 Dev.takeSegAck)

/-- A chunk or segment was re-sent `COLL_RESENDS` times without acceptance (11 R355, 12 R384). -/
def Dev.giveUpSegment (d : Dev) (g : Segment) : Dev :=
  match g.owner with
  | none => d.failShadow g
  | some id =>
    match d.coll id with
    | some c => (d.raiseStep 0x390A (coCollId c.desc) 0 c.step).failColl (c.event' 0x390A) ccCollIntegrity
    | none => d.dropSegment g

/-- A segment some of whose chunks are re-sent once more: the wait for its SEG_ACK starts again. -/
def Segment.bump (g : Segment) (f : Kept → Bool) (now wait : Nat) : Segment :=
  { g with chunks := g.chunks.map (fun k => if f k then { k with resends := k.resends + 1 } else k), lastSend := now, wait := wait }

/-- Whether the segment, or one of the chunks that a test picks, has been re-sent as often as it may (11 R355). -/
def Segment.spent (g : Segment) (f : Kept → Bool) : Bool :=
  decide (g.limit ≤ g.resends) || g.chunks.any (fun k => f k && decide (g.limit ≤ k.resends))

/-- A CHUNK_NAK makes the sender re-send a chunk it has sent, or give up (11 R355). -/
def Dev.takeNak (d : Dev) (c : Chunk) : Dev :=
  match d.segmentOf c with
  | none => d
  | some g =>
    match (g.chunks.take g.sent).find? (fun k => chChunk k.header == chChunk c.header) with
    | none => d
    | some k =>
      if g.limit ≤ k.resends then d.giveUpSegment g
      else
        ((d.setSegment g (g.bump (fun x => x.key == k.key) d.now (d.get 0x3500 1))).noteResent g.owner 1).resendChunk g.owner k

/-- CHUNK_NAK_RECEIVED (11 R355). -/
def execChunkNakReceived (s : State) : Host.Outcome State Fault Refusal :=
  run s (fun _ d => d.fromInbox 3 Dev.takeNak)

/-- A REFETCH_REQ makes the owner of a part send it again from SEND (11 R362). -/
def Dev.takeRefetch (d : Dev) (k : Chunk) : Dev :=
  match (d.eng.flights ++ d.eng.past).find? (fun c => c.op == 0x41 && coCollId c.desc == chCollId k.header) with
  | none => d
  | some c =>
    match c.tree.findIdx? (fun a => a == k.src) with
    | none => d
    | some r =>
      d.collSend c r 0 (d.markedAt (c.sendAt 0) (c.count c.rank * c.sendSize)) (if c.attaches then c.record c.rank else none)

/-- REFETCH_REQ_RECEIVED (11 R362). -/
def execRefetchReqReceived (s : State) : Host.Outcome State Fault Refusal :=
  run s (fun _ d => d.fromInboxRead 4 Dev.takeRefetch)

/-- Whether the SEG_ACK of a segment is overdue: all of it has been sent, and the `COLL_ACK_TIMEOUT` of its last send is over. -/
def Segment.overdue (g : Segment) (now : Nat) : Bool := decide (g.chunks.length ≤ g.sent) && decide (g.lastSend + g.wait * 1000 ≤ now)

/-- COLL_ACK_TIMEOUT (11 R355): a segment with this number whose SEG_ACK is overdue is sent again whole, or given up. -/
def execCollAckTimeout (segment : Nat) (s : State) : Host.Outcome State Fault Refusal :=
  run s (fun _ d =>
    match d.eng.segments.find? (fun g => g.number == segment && g.overdue d.now) with
    | none => d
    | some g =>
      if g.spent (fun _ => true) then d.giveUpSegment g
      else
        let d := d.setSegment g { g.bump (fun _ => true) d.now (d.get 0x3500 1) with resends := g.resends + 1 }
        g.chunks.foldl (fun d k => d.resendChunk g.owner k) (d.noteResent g.owner g.chunks.length))

/-- EARLY_HOLD_EXPIRED (11 R356): early chunks held longer than `EARLY_HOLD` are dropped and counted. -/
def execEarlyHoldExpired (s : State) : Host.Outcome State Fault Refusal :=
  run s (fun _ d =>
    let due (e : Chunk × Nat) : Bool := decide (e.2 ≤ d.now)
    let n := (d.eng.early.filter due).length
    ({ d with eng := { d.eng with early := d.eng.early.filter (fun e => !due e) } } : Dev).addSat 0x3510 4 32 n)

/-- SHADOW_DATA_RECEIVED (12 R386). -/
def execShadowDataReceived (s : State) : Host.Outcome State Fault Refusal :=
  run s (fun _ d => d.fromInbox 5 Dev.takeShadow)

/-- SHADOW_COMMIT_RECEIVED (12 R387). -/
def execShadowCommitReceived (s : State) : Host.Outcome State Fault Refusal :=
  run s (fun _ d => d.fromInbox 6 Dev.takeCommit)

end Sys2Proof.Machine
end

