-- ==== Sys2Proof/Machine/Taps.lean ====
section
/-! DEFINITION. Tap flushes and merges into factors (06 R173-R180). -/

namespace Sys2Proof.Machine

/-- Read and write an A32 value in memory. -/
def Dev.a32At (d : Dev) (a : Nat) : Fp := fmtA32.dec (d.num a 4)
def Dev.setA32 (d : Dev) (a : Nat) (x : Fp) (poison : Bool) : Dev := d.wr a (toBytes 4 (fmtA32.enc x)) poison

/-- The block edge and the bytes of a flush's blocks. -/
def TapFlush.edge (t : TapFlush) : Nat := 64 * 2 ^ t.block
def TapFlush.bytes (t : TapFlush) : Nat := 4 * t.sums.length * t.edge * t.edge

/-- The address of sum `i` of block `b` in the tile (06 R174). -/
def TapFlush.sumAddr (t : TapFlush) (b i : Nat) : Nat := t.addr + 64 + 4 * (t.edge * t.edge * b + i)

/-- Add a flush's sums into the tile (06 R173). -/
def Dev.addSums (d : Dev) (t : TapFlush) : Dev :=
  t.sums.foldl (fun d s => (s.2.zipIdx).foldl (fun d q =>
    let v := fmtA32.dec q.1
    let v := if t.gradient then rne32 (v.scale (-(2 * (t.lossL : Int)))) else v
    let a := t.sumAddr s.1 q.2
    d.setA32 a (rne32 (fpAdd (d.a32At a) v)) t.poison) d) d

/-- The header with `TOKENS` and `OPS` grown (06 R173). -/
def thAfterFlush (h tokens : Nat) : Nat := setBits (setBits h 272 64 (thTokens h + tokens)) 400 16 (thOps h + 1)

/-- Whether a block's sums are all finite. -/
def Dev.blockFinite (d : Dev) (t : TapFlush) (b : Nat) : Bool :=
  (below (t.edge * t.edge)).all (fun i => (d.a32At (t.sumAddr b i)).isFinite)

/-- A merge of one block (06 R179): the factor's new values unless the block is skipped; its sums return to +0. -/
def Dev.mergeBlock (d : Dev) (t : TapFlush) (factor : Nat) (valid : Bool) (beta w omb : Fp) (b : Nat) : Dev :=
  let n := t.edge * t.edge
  let d := if !d.blockFinite t b then d
    else (below n).foldl (fun d i =>
      let f := factor + 4 * (n * b + i)
      let m := rne32 (fpMul (d.a32At (t.sumAddr b i)) w)
      d.setA32 f (if valid then rne32 (fpAdd (fpMul beta (d.a32At f)) (rne32 (fpMul omb m))) else m) t.poison) d
  (below n).foldl (fun d i => d.setA32 (t.sumAddr b i) fp0 t.poison) d

/-- The blocks that a merge takes into the factor: those whose sums are all finite. -/
def Dev.mergedBlocks (d : Dev) (t : TapFlush) : List Nat := (below t.sums.length).filter (d.blockFinite t)

/-- Where the factor's blocks of a list lie. -/
def TapFlush.factorExts (t : TapFlush) (factor : Nat) (l : List Nat) : List Ext :=
  let n := 4 * (t.edge * t.edge)
  l.map (fun b => (factor + n * b, n))

/-- The factor data that a merge reads: none before the factor's first value, and none without tokens (06 R179; 09 R274). -/
def Dev.mergeReads (d : Dev) (t : TapFlush) : List Ext :=
  let h := d.num t.addr 64
  if thValid h && thTokens h != 0 then t.factorExts (thFactor h) (d.mergedBlocks t) else []

/-- A merge (06 R179, R180). A factor's first value covers its units whole (09 R276). -/
def Job.merge (j : Job) (t : TapFlush) : Job :=
  let h := j.d.num t.addr 64
  if thTokens h = 0 then
    (j.dev (fun d => d.wr t.addr (toBytes 64 (setBits h 400 16 0)) t.poison)).raise 0x0611 0 0
  else
    let w := rne32 (fpDiv fp1 (fpNat (thTokens h)))
    let beta := fmtA32.dec (thBeta h)
    let omb := rne32 (fpSub fp1 beta)
    let blocks := below t.sums.length
    let skipped := (blocks.filter (fun b => !j.d.blockFinite t b)).length
    let j := if thValid h then j else j.dev (fun d => d.clearCovered (t.factorExts (thFactor h) (d.mergedBlocks t)))
    let j := j.dev (fun d => blocks.foldl (fun d b => d.mergeBlock t (thFactor h) (thValid h) beta w omb b) d)
    let h := setBits (setBits (setBits h 272 64 0) 400 16 0) 336 32 (satAdd 32 (thMerges h) 1)
    let h := setBits (setBits h 252 1 1) 368 32 (satAdd 32 (thSkipped h) skipped)
    let j := j.dev (fun d => ((d.wr t.addr (toBytes 64 h) t.poison).addSat 0x6110 2 32 1).addSat 0x6110 3 32 skipped)
    if skipped = 0 then j else j.raise 0x0610 t.addr skipped

/-- A flush reads extents: poisoned data count for the operation, and mark what it writes afterwards (09 R274, R275). -/
def Job.tapReads (j : Job) (t : TapFlush) (s : Nat) (l : List Ext) : Job × TapFlush :=
  match j.d.firstPoison l with
  | some a => (if j.done.code = 0 then j.poisonedAt s a else j, { t with poison := true })
  | none => (j, t)

/-- The flush at the front of the queue, with any merge it triggers (06 R173, R177). -/
def Job.flushTap (j : Job) (t : TapFlush) (s : Nat) : Job :=
  let h := j.d.num t.addr 64
  let merges := thMergeOps h != 0 && thOps h + 1 == thMergeOps h
  let (j, t) := j.tapReads t s [(t.addr, 64 + t.bytes)]
  let j := j.dev (fun d => ((d.addSums t).wr t.addr (toBytes 64 (thAfterFlush h t.tokens)) t.poison).addWrap 0x6110 1 1)
  if !merges then j
  else
    let (j, t) := j.tapReads t s (j.d.mergeReads t)
    j.merge t

/-- TAP_FLUSH (06 R173, R177): the first flush of the queue runs, unless a device-fatal event has stopped compute (00 R10). -/
def execTapFlush (s : State) : Host.Outcome State Fault Refusal :=
  run s (fun _ d =>
    match d.cmp.taps with
    | [] => d
    | t :: rest =>
      if d.disp.fatal then d else
      let d : Dev := { d.readFlaws with cmp := { d.cmp with taps := rest } }
      match d.entry t.id with
      | none => (Job.start d |>.flushTap t 0).d
      | some e =>
        let j := (⟨d, e.done.getD Done.init⟩ : Job).flushTap t e.step
        j.d.finish t.id j.done)

end Sys2Proof.Machine
end

