-- ==== Sys2Proof/Machine/Curvature.lean ====
section
/-! DEFINITION. The Curvature Engine (07): fixed-point arithmetic, the range plan, inverse roots, damped inverses, least squares and
the root store. -/

namespace Sys2Proof.Machine

/-! ## Fixed point (02 R38-R40, 07 R191) -/

/-- A row-major matrix of fixed-point integers. -/
abbrev Mat := List (List Int)

def Mat.at (a : Mat) (i j : Nat) : Int := (((a[i]?).getD [])[j]?).getD 0
/-- The matrix of `r` rows and `c` columns with given entries. -/
def Mat.make (r c : Nat) (f : Nat → Nat → Int) : Mat := (below r).map (fun i => (below c).map (f i))
/-- The sum of `f` over the indices below `n`. -/
def isum (n : Nat) (f : Nat → Int) : Int := ((below n).map f).foldl (· + ·) 0

/-- An integer held in 36 bits: saturated, and whether it saturated (02 R31, R38). -/
def sat36 (v : Int) : Int × Bool :=
  let w := max (-(2 ^ 35)) (min (2 ^ 35 - 1) v)
  (w, w != v)

/-- `v / d` rounded to the nearest integer, ties to even; `d` is positive. -/
def rdiv (v : Int) (d : Nat) : Int :=
  let q := v / (d : Int)
  let r := v % (d : Int)
  if 2 * r > (d : Int) ∨ (2 * r = (d : Int) ∧ q % 2 = 1) then q + 1 else q

/-- A value with `from_` fraction bits converted to `dst` fraction bits with RNE and saturation (07 R191). -/
def toQ (dst from_ : Nat) (v : Int) : Int × Bool :=
  sat36 (if from_ ≤ dst then v * 2 ^ (dst - from_) else rdiv v (2 ^ (from_ - dst)))

/-- A finite value converted to `frac` fraction bits. -/
def fpToQ (frac : Nat) (x : Fp) : Int × Bool :=
  match x with
  | .fin s m e => sat36 (rneInt s m (e + frac))
  | _ => (0, false)

/-- The value of a fixed-point integer. -/
def qValue (frac : Nat) (v : Int) : Fp := .fin (decide (v < 0)) v.natAbs (-(frac : Int))

/-- A matrix whose entries are conversions, with the mark that one of them saturated. -/
def Mat.convert (r c : Nat) (f : Nat → Nat → Int × Bool) : Mat × Bool :=
  let l := (below r).map (fun i => (below c).map (f i))
  (l.map (fun w => w.map (fun q => q.1)), l.any (fun w => w.any (fun q => q.2)))

/-- A product converted to a format; `symm` computes the entries on and below the diagonal and mirrors them (07 R191). -/
def Mat.mul (n inner : Nat) (symm : Bool) (dst from_ : Nat) (a b : Mat) : Mat × Bool :=
  let f := fun i j => toQ dst from_ (isum inner (fun k => a.at i k * b.at k j))
  Mat.convert n n (fun i j => if symm ∧ i < j then f j i else f i j)

/-- `rownorm` of a matrix of integers with 34 fraction bits (07 R205), as an A32 value. -/
def rownorm (n frac : Nat) (f : Nat → Nat → Int) : Fp :=
  let m := ((below n).map (fun i => isum n (fun j => ((f i j).natAbs : Int)))).foldl max 0
  rne32 (qValue frac m)

/-- 1.0 on or off the diagonal. -/
def unitQ (frac i j : Nat) : Int := if i = j then 2 ^ frac else 0

/-- I - M for M in Q1.34. -/
def residual (n : Nat) (m : Mat) : Fp := rownorm n 34 (fun i j => unitQ 34 i j - m.at i j)

/-! ## Normalisation and the range plan (07 R199-R203) -/

/-- A nonnegative value rounded to W64 towards plus infinity. -/
def up64 (x : Fp) : Fp :=
  let p := fmtW64.enc x
  if fpLt (fmtW64.dec p) x then fmtW64.dec (p + 1) else fmtW64.dec p

/-- The smallest integer E with a positive value at most 2^E. -/
def ceilLog2 : Fp → Int
  | .fin _ m e => if m = 2 ^ Nat.log2 m then e + Nat.log2 m else e + Nat.log2 m + 1
  | _ => 0

/-- The largest absolute row sum, every addition rounded up; 1 for a zero matrix. -/
def rowSumMax (n : Nat) (f : Nat → Nat → Fp) : Fp :=
  let m := ((below n).map (fun i => (below n).foldl (fun s j => up64 (fpAdd s (f i j).abs)) fp0)).foldl fpMax fp0
  if m.isZero then fp1 else m

/-- Whether K = 2(1 + rho) / rho is at most 2^k. -/
def kAtMost (rho : Fp) (k : Nat) : Bool := fpLe ((fpAdd fp1 rho).scale 1) (rho.scale k)

/-- ceil(log2(K) / p): the smallest t with K at most 2^(pt), none above 20. -/
def planT (rho : Fp) (p : Nat) : Option Nat := (below 21).find? (fun t => kAtMost rho (p * t))

/-- m of the result's format, `extra` integer bits added; none when the plan is not feasible. -/
def planM (rho : Fp) (p extra : Nat) : Option Nat :=
  match planT rho p with
  | some t => if 1 + t + extra ≤ 20 ∧ !rho.isZero then some (1 + t + extra) else none
  | none => none

/-- The smallest A32 value for which the plan is feasible (07 R203). -/
def clampRho (p extra : Nat) : Nat :=
  let q := fmtA32.enc (fpDiv (fpNat 2) (fpNat (2 ^ (p * (19 - extra)) - 2)))
  let ok := fun a => (planM (fmtA32.dec a) p extra).isSome
  if ok (q - 1) then q - 1 else if ok q then q else q + 1

/-- What the normalisation fixes: lambda, E, rho_eff, m, and the clamped ratio's pattern if it was clamped. -/
structure Plan where
  lambda : Fp
  e : Int
  rho : Fp
  m : Nat
  clamped : Option Nat
deriving DecidableEq, Repr

/-- The plan from c, lambda under ABSOLUTE, p, extra integer bits; none when infeasible without a clamp (07 R199-R203). -/
def makePlan (x : Nat) (c absolute : Fp) (p extra : Nat) : Option Plan :=
  let rho := fmtA32.dec (ceDamp x)
  let lambda := if ceDampClass x = 0 then rne64 (fpMul rho c) else absolute
  let eff := if ceDampClass x = 0 then rho else rne64 (fpDiv lambda c)
  match planM eff p extra with
  | some m => some ⟨lambda, ceilLog2 (up64 (fpAdd c lambda)), eff, m, none⟩
  | none =>
    if ceClampDamping x then
      let q := clampRho p extra
      let r := fmtA32.dec q
      let lambda := rne64 (fpMul r c)
      some ⟨lambda, ceilLog2 (up64 (fpAdd c lambda)), r, (planM r p extra).getD 20, some q⟩
    else none

/-- The pivot threshold in units of 2^-34 (07 R209). -/
def pivotTau (rho : Fp) : Nat :=
  match rho with
  | .fin _ m e =>
    let t := if 0 ≤ e then 2 ^ 34 * (m * 2 ^ e.toNat) / (4 * (1 + m * 2 ^ e.toNat)) else 2 ^ 34 * m / (4 * (2 ^ (-e).toNat + m))
    max 1 t
  | _ => 1

/-- (A + lambda I) * 2^-E in Q1.34 (07 R200). -/
def normalised (n : Nat) (pl : Plan) (f : Nat → Nat → Fp) : Mat × Bool :=
  Mat.convert n n (fun i j =>
    fpToQ 34 ((rne64 (if i = j then fpAdd (f i j) pl.lambda else f i j)).scale (-pl.e)))

/-! ## Inverse roots (07 R205-R207, R217) -/

/-- The state of the coupled iteration, with its saturation mark, and how it stopped. -/
structure RootRun where
  x : Mat
  m : Mat
  k : Nat
  r : Fp
  sat : Bool
  converged : Bool
deriving DecidableEq, Repr

/-- One iteration: the new x and m, and whether a conversion saturated. -/
def rootIter (n pcode frac : Nat) (x m : Mat) : Mat × Mat × Bool :=
  let p := 2 ^ pcode
  let t := Mat.convert n n (fun i j => toQ 33 (34 + pcode) ((p + 1 : Nat) * unitQ 34 i j - m.at i j))
  let sq := fun (a : Mat × Bool) => let r := Mat.mul n n true 33 66 a.1 a.1; (r.1, a.2 || r.2)
  let tp := if pcode = 0 then t else if pcode = 1 then sq t else sq (sq t)
  let nx := Mat.mul n n true frac (frac + 33) x t.1
  let nm := Mat.mul n n true 34 67 tp.1 m
  (nx.1, nm.1, tp.2 || nx.2 || nm.2)

/-- The loop, from `k` iterations done, with `fuel` left. -/
def rootLoop (n pcode frac tol : Nat) : Nat → Mat → Mat → Nat → Bool → RootRun
  | 0, x, m, k, s => ⟨x, m, k, residual n m, s, fpLe (residual n m) (fp1.scale (-(tol : Int)))⟩
  | fuel + 1, x, m, k, s =>
    let r := residual n m
    if fpLe r (fp1.scale (-(tol : Int))) then ⟨x, m, k, r, s, true⟩
    else
      let q := rootIter n pcode frac x m
      rootLoop n pcode frac tol fuel q.1 q.2.1 (k + 1) (s || q.2.2)

/-- The product chain of a warm start's m0: Y_1 to Y_p, the last symmetric in Q1.34 (07 R217). -/
def warmChain (n frac : Nat) (x0 a : Mat) : Nat → Mat × Bool
  | 0 => (a, false)
  | 1 => Mat.mul n n true 34 (frac + 34) x0 a
  | p + 2 =>
    let first := Mat.mul n n false 33 (frac + 34) x0 a
    let mid := (below p).foldl (fun (y : Mat × Bool) _ =>
      let r := Mat.mul n n false 33 (frac + 33) x0 y.1; (r.1, y.2 || r.2)) first
    let last := Mat.mul n n true 34 (frac + 33) x0 mid.1
    (last.1, mid.2 || last.2)

/-- 2^(k/4) for k below 4, to far more bits than W64 keeps. -/
def quarterPower (k : Nat) : Fp :=
  let s2 := fpSqrt (fpNat 2)
  let s4 := fpSqrt (fpTrim s2)
  if k = 0 then fp1 else if k = 1 then s4 else if k = 2 then s2 else fpTrim (fpMul s2 s4)

/-- phi = 2^(-E/p) in W64 (07 R207). -/
def phi (e : Int) (p : Nat) : Fp :=
  let q := (-e) / (p : Int)
  let r := ((-e) % (p : Int)).toNat
  rne64 ((quarterPower (r * (4 / p))).scale q)

/-! ## Cholesky (07 R208-R210) -/

/-- How a factorisation went: the columns of L (each with its entries from the top), pivots replaced, the first of them, saturation, the
column at which ABORT stopped it. -/
structure Factor where
  cols : List (List Int)
  damped : Nat
  first : Option Nat
  sat : Bool
  stop : Option Nat
deriving DecidableEq, Repr

/-- l[i][k] of the columns so far. -/
def lAt (cols : List (List Int)) (i k : Nat) : Int := (((cols[k]?).getD [])[i]?).getD 0

/-- The square root of `d`, correctly rounded. -/
def sqrtQ (d : Nat) : Int :=
  let r := isqrt d
  if r < d - r * r then r + 1 else r

/-- Column `j` joins the factor. -/
def factorCol (n : Nat) (a : Mat) (tau : Nat) (abort : Bool) (f : Factor) (j : Nat) : Factor :=
  if f.stop.isSome then f
  else
    let d := a.at j j * 2 ^ 34 - isum j (fun k => lAt f.cols j k * lAt f.cols j k)
    let low := decide (d < (tau : Int) * 2 ^ 34)
    if low && abort then { f with stop := some j }
    else
      let d := if low then tau * 2 ^ 34 else d.toNat
      let p := sat36 (sqrtQ d)
      let col := (below n).map (fun i =>
        if i < j then (0, false)
        else if i = j then p
        else sat36 (rdiv (a.at i j * 2 ^ 34 - isum j (fun k => lAt f.cols i k * lAt f.cols j k)) p.1.toNat))
      { f with cols := f.cols ++ [col.map (fun q => q.1)]
               damped := f.damped + b2n low
               first := if low ∧ f.first.isNone then some j else f.first
               sat := f.sat || col.any (fun q => q.2) }

/-- The factorisation. -/
def factorise (n : Nat) (a : Mat) (tau : Nat) (abort : Bool) : Factor :=
  (below n).foldl (factorCol n a tau abort) ⟨[], 0, none, false, none⟩

/-- A column solved forward: L z = b, entries in `frac` fraction bits; `b i` has 34 + frac fraction bits. -/
def forward (n : Nat) (cols : List (List Int)) (b : Nat → Int) : List Int × Bool :=
  (below n).foldl (fun (z : List Int × Bool) i =>
    let q := sat36 (rdiv (b i - isum i (fun k => lAt cols i k * (z.1[k]?).getD 0)) (lAt cols i i).toNat)
    (z.1 ++ [q.1], z.2 || q.2)) ([], false)

/-- Back substitution: transpose(L) x = z, the result from the last entry to the first. -/
def backward (n : Nat) (cols : List (List Int)) (z : List Int) : List Int × Bool :=
  (below n).foldl (fun (x : List Int × Bool) i' =>
    let i := n - 1 - i'
    let s := isum i' (fun k => lAt cols (n - 1 - k) i * (x.1[i' - 1 - k]?).getD 0)
    let q := sat36 (rdiv ((z[i]?).getD 0 * 2 ^ 34 - s) (lAt cols i i).toNat)
    (q.1 :: x.1, x.2 || q.2)) ([], false)

/-! ## The root store (07 R213-R218) -/

def rrDataAddr (v : Nat) : Nat := bits v 464 48
def rrDataCap (v : Nat) : Nat := bits v 439 25
def rrSeq (v : Nat) : Nat := bits v 407 32
def rrENorm (v : Nat) : Int := sgn 16 (bits v 295 16)
def rrPartHash (v : Nat) : Nat := bits v 263 32
def rrDim (v : Nat) : Nat := bits v 250 13
def rrPCode (v : Nat) : Nat := bits v 248 2
def rrDampClass (v : Nat) : Nat := bits v 244 4
def rrM (v : Nat) : Nat := bits v 239 5
def rrValid (v : Nat) : Bool := bit v 0

/-- The address and the value of a job's root record. -/
def Dev.rootAddr (d : Dev) (x : Nat) : Nat := d.get 0x6000 2 + 64 * ceRootRec x
def Dev.rootRec (d : Dev) (x : Nat) : Nat := d.num (d.rootAddr x) 64

/-- `P_CODE` as a signature carries it: 0 for `CE_CHOL_INV`. -/
def sigP (x : Nat) : Nat := if hdOpcode x = 0x50 then cePCode x else 0

/-- Whether a record matches a job with format m (07 R216). -/
def rrMatches (v x m : Nat) : Bool :=
  rrValid v && rrDim v == ceDim x && rrPartHash v == cePartHash x && rrPCode v == sigP x && rrDampClass v == ceDampClass x
    && rrM v == m

/-- The stored solution of a record. -/
def Dev.rootData (d : Dev) (v n : Nat) : Mat :=
  Mat.make n n (fun i j => sgn 36 (bits (d.num (rrDataAddr v + 8 * (n * i + j)) 8) 0 36))

/-- The data that a solution stores. -/
def rootBytes (n : Nat) (a : Mat) : List Byte := (grid n n).flatMap (fun p => toBytes 8 (unsgn 64 (a.at p.1 p.2)))

/-- Store a solution, whose data bytes are `l` (07 R218). -/
def Dev.storeRoot (d : Dev) (x : Nat) (l : List Byte) (e : Int) (m iters rPat : Nat) : Dev :=
  let v := d.rootRec x
  let n := ceDim x
  let d := d.wr (rrDataAddr v) l false
  let v := setBits (setBits (setBits v 407 32 (rrSeq v + 1)) 343 64 d.ht) 311 32 rPat
  let v := setBits (setBits (setBits v 295 16 (unsgn 16 e)) 263 32 (cePartHash x)) 250 13 n
  let v := setBits (setBits (setBits v 248 2 (sigP x)) 244 4 (ceDampClass x)) 239 5 m
  d.wr (d.rootAddr x) (toBytes 64 (setBits (setBits v 231 8 iters) 0 1 1)) false

/-! ## Jobs -/

/-- A solver job's `RESULT` (04 R106). -/
def ceResult (iters pivots index rPat : Nat) : Nat :=
  bits iters 0 8 <<< 56 + min pivots 255 <<< 48 + bits index 0 12 <<< 36 + bits rPat 0 32

/-- A pattern of no residual. -/
def noResid : Nat := 0x7FC00000

/-- End a job with a code before it computes: no index, and the residual given (07 R220). -/
def Job.ceStop (j : Job) (code rPat : Nat) : Job := (j.fail code).result (ceResult 0 0 0xFFF rPat)

/-- The scratch bytes a job needs (07 R195). -/
def scratchNeed (x : Nat) : Nat :=
  let n := ceDim x
  let k := ceNcols x
  if hdOpcode x = 0x50 then 40 * n * n else if hdOpcode x = 0x51 then 24 * n * n else 8 * (n * k + 2 * k * k + n + k)

/-- The unit a job runs on, and its scratch: unit 0 stands for the lowest idle one (07 R190, R195). -/
def ceUnitOf (x : Nat) : Nat := if ceUnit x = 4 then 0 else ceUnit x
def Dev.scratch (d : Dev) (x : Nat) : Ext := (d.get 0x6000 (3 + ceUnitOf x), scratchNeed x)

/-- The parts of the input that a job reads (07 R192, R193). -/
def ceInput (x : Nat) : List Ext :=
  if hdOpcode x = 0x52 then [(ceInAddr x, 4 * ceDim x * ceNcols x), (ceAuxAddr x, 4 * ceDim x)]
  else (below (ceDim x)).map (fun i => (ceInAddr x + 4 * ceDim x * i, 4 * (i + 1)))

/-- The root-store data that a job reads or names. -/
def Dev.ceStored (d : Dev) (x : Nat) : List Ext :=
  if ceWarmEn x || ceStoreRoot x then [(d.rootAddr x, 64)] else []

/-- The input of a square job, mirrored (07 R192). -/
def Dev.ceSquare (d : Dev) (x : Nat) (i j : Nat) : Fp :=
  d.a32At (ceInAddr x + 4 * (ceDim x * max i j + min i j))

/-- The contents of the scratch area after a job are not stated: free values. -/
def Job.useScratch (j : Job) (x : Nat) : Job :=
  let s := j.d.scratch x
  let n := j.d.draws
  j.dev (fun d => { (d.wr s.1 ((below s.2).map (fun i => BitVec.ofNat 8 (Config.unspecified n i))) false) with draws := n + 1 })

/-- An event of a job's own; a job that ends `POISONED` raises none (07 R220). -/
def Job.ceEvent (j : Job) (quiet : Bool) (code arg0 arg1 : Nat) : Job := if quiet then j else j.raise code arg0 arg1

/-- A saturated conversion: flag, event and counter, once for the job (07 R204). -/
def Job.ceSat (j : Job) (quiet s : Bool) : Job :=
  if s then ((j.flag sfRange).ceEvent quiet 0x0621 0 0).dev (fun d => d.addSat 0x6010 6 32 1) else j

/-- A clamped ratio (07 R203). -/
def Job.ceClamp (j : Job) (quiet : Bool) (pl : Plan) : Job :=
  match pl.clamped with
  | some q => (j.flag sfDamping).ceEvent quiet 0x0622 q 0
  | none => j

/-- Replaced pivots (07 R210). -/
def Job.cePivots (j : Job) (f : Factor) : Job :=
  if f.damped = 0 then j
  else ((j.flag sfPivot).raise 0x0620 f.damped (f.first.getD 0)).dev (fun d => d.addSat 0x6010 5 32 f.damped)

/-- The first damped index as `RESULT` carries it (07 R211). -/
def Factor.index (f : Factor) : Nat := if f.damped = 0 then 0xFFF else f.first.getD 0

/-- Scratch and capacity (07 R195, R215; 04 R118), the root header being read after the scratch check (07 R221); `OK` when they suffice. -/
def Dev.ceRoom (d : Dev) (x : Nat) : Nat :=
  let v := d.rootRec x
  let n := ceDim x
  if d.get 0x6000 7 * 1048576 < scratchNeed x then ccInvalidField
  else if (d.firstPoison (d.ceStored x)).isSome then ccPoisoned
  else if ceStoreRoot x && decide (rrDataCap v < n * n) then ccInvalidField
  else if !d.extentIn [.near] (d.scratch x) then ccAddressRange
  else if ceStoreRoot x && !d.extentIn coreRegions (rrDataAddr v, 8 * n * n) then ccAddressRange
  else ccOk

/-- Whether scratch is read poisoned: an uncorrectable error found in the area while the job runs, or a poisoned unit that the job's writes
cover only in part (07 R220; 09 R276). -/
def Dev.scratchBad (d : Dev) (x : Nat) (ecc : List EccHit) : Bool :=
  let s := d.scratch x
  ecc.any (fun h => h.uncorrectable && overlaps h.addr 1 s.1 s.2)
    || (unitsOf s.1 s.2).any (fun u => d.mem.poisoned u && !coversUnit [s] u)

/-- Free bytes for a job's output. -/
def freeBytes (n len : Nat) : List Byte := (below len).map (fun i => BitVec.ofNat 8 (Config.unspecified n i))

/-- Poison found in scratch: what the job would have written is unspecified, and so is how far it had come: the iterations, the pivots
damped, whether a conversion had saturated. It raises no event of its own (07 R220). -/
def Job.ceLate (j : Job) (x len bound damped first : Nat) (sat : Bool) : Job :=
  let n := j.d.draws
  let k := Config.unspecified (n + 1) 0 % (bound + 1)
  let p := Config.unspecified (n + 1) 1 % (damped + 1)
  let j := j.dev (fun d => { (d.wr (ceOutAddr x) (freeBytes n len) false) with draws := d.draws + 2 })
  let j := (j.flagIf (decide (0 < p)) sfPivot).dev (fun d => d.addSat 0x6010 5 32 p)
  let j := j.ceSat true (sat && Config.unspecified (n + 1) 2 % 2 == 1)
  (j.fail ccPoisoned).result (ceResult k p (if p = 0 then 0xFFF else first) noResid)

/-- The data that a job reads or writes beside its scratch. -/
def Dev.ceTouched (d : Dev) (x : Nat) : List Ext :=
  ceInput x ++ ((solverOperands x).filter (fun o => o.write)).flatMap Operand.parts ++ d.ceStored x
    ++ (if ceWarmEn x || ceStoreRoot x then [(rrDataAddr (d.rootRec x), 8 * ceDim x * ceDim x)] else [])

/-- Whether a job's scratch overlaps another area or data that the job reads or writes: its output is unspecified then (07 R196). -/
def Dev.ceWild (d : Dev) (x : Nat) : Bool :=
  let s := d.scratch x
  (d.ceTouched x).any (fun e => overlaps s.1 s.2 e.1 e.2)
    || (below 4).any (fun k => k != ceUnitOf x && overlaps s.1 s.2 (d.get 0x6000 (3 + k)) (d.get 0x6000 7 * 1048576))

/-- The bytes that a job's output takes: `l`, or free bytes where its scratch overlaps (07 R196). -/
def Job.ceBytes (j : Job) (wild : Bool) (l : List Byte) : List Byte := if wild then freeBytes j.d.draws l.length else l

/-- Begin a job: errors of its reads, poison, finiteness; then `f`; then the job counter (07 R198, R220, R221). -/
def Job.ceRun (j : Job) (e : Entry) (ecc : List EccHit) (finite : Dev → Bool) (f : Job → Job) : Job :=
  let x := e.desc
  let j := j.dev (fun d => (d.eccRead [] ecc).addWrap 0x6010 1 1)
  if (j.d.firstPoison (ceInput x)).isSome then j.ceStop ccPoisoned noResid
  else if !finite j.d then j.ceStop ccNonfinite noResid
  else f j

/-- Bring G16 or A32 values to `OUT_ADDR`. -/
def Job.ceWrite (j : Job) (x : Nat) (wild : Bool) (l : List Byte) : Job :=
  let b := j.ceBytes wild l
  j.dev (fun d => { (d.wr (ceOutAddr x) b false) with draws := if wild then d.draws + 1 else d.draws })

/-- Store a job's solution, if it asks for it (07 R218); an overlapping scratch area leaves its data unspecified (07 R196). -/
def Job.ceStore (j : Job) (x : Nat) (wild : Bool) (a : Mat) (e : Int) (m iters rPat : Nat) : Job :=
  if !ceStoreRoot x then j
  else
    let b := j.ceBytes wild (rootBytes (ceDim x) a)
    j.dev (fun d => { (d.storeRoot x b e m iters rPat) with draws := if wild then d.draws + 1 else d.draws })

/-- A G16 matrix as bytes. -/
def g16Bytes (n : Nat) (f : Nat → Nat → Fp) : List Byte := (grid n n).flatMap (fun p => toBytes 2 (fmtG16.enc (f p.1 p.2)))

/-- The warm-start decision: the start pair, and which flag it sets (07 R217). -/
def Dev.warmStart (d : Dev) (x : Nat) (pl : Plan) (a : Mat) : (Mat × Mat) ⊕ Nat :=
  let v := d.rootRec x
  let n := ceDim x
  let p := 2 ^ cePCode x
  let frac := 35 - pl.m
  if !rrMatches v x pl.m || !d.extentIn coreRegions (rrDataAddr v, 8 * n * n) then .inr sfWarmRejected
  else
    let s := rdiv (pl.e - rrENorm v) p
    let st := d.rootData v n
    let x0 := Mat.convert n n (fun i j => if 0 ≤ s then sat36 (st.at i j * 2 ^ s.toNat) else sat36 (rdiv (st.at i j) (2 ^ (-s).toNat)))
    let m0 := warmChain n frac x0.1 a p
    if x0.2 || m0.2 || fpLe (fp1.scale (-1)) (residual n m0.1) then .inr sfWarmDivergent else .inl (x0.1, m0.1)

/-- Whether the data area of a matching record is poisoned. -/
def Dev.warmPoison (d : Dev) (x : Nat) (pl : Plan) : Bool :=
  let v := d.rootRec x
  ceWarmEn x && rrMatches v x pl.m && d.mem.anyPoison (rrDataAddr v) (8 * ceDim x * ceDim x)

/-- A root job after its plan. -/
def Job.ceRootRun (j : Job) (e : Entry) (ecc : List EccHit) (pl : Plan) : Job :=
  let x := e.desc
  let n := ceDim x
  let frac := 35 - pl.m
  let a := normalised n pl (j.d.ceSquare x)
  let i := Mat.make n n (unitQ frac)
  let start := if ceWarmEn x then j.d.warmStart x pl a.1 else .inl (i, a.1)
  let (j, x0, m0) :=
    match start with
    | .inl (x0, m0) => (if ceWarmEn x then j.dev (fun d => d.addSat 0x6010 2 32 1) else j, x0, m0)
    | .inr b => ((j.flag b).dev (fun d => d.addSat 0x6010 (if b = sfWarmRejected then 3 else 4) 32 1), i, a.1)
  let r := rootLoop n (cePCode x) frac (ceTolExp x) (ceMaxIter x) x0 m0 0 a.2
  let late := j.d.scratchBad x ecc
  let wild := j.d.ceWild x
  let j := j.useScratch x
  let rPat := fmtA32.enc r.r
  if late then j.ceLate x (2 * n * n) r.k 0 0 r.sat
  else
    let f := phi pl.e (2 ^ cePCode x)
    let j := (j.ceSat false r.sat).ceWrite x wild (g16Bytes n (fun p q => rne64 (fpMul (qValue frac (r.x.at p q)) f)))
    let j := j.result (ceResult r.k 0 0xFFF rPat)
    if !r.converged then j.fail ccNotConverged
    else j.ceStore x wild r.x pl.e pl.m r.k rPat

/-- A Cholesky inverse after its plan (07 R208-R211). -/
def Job.ceCholRun (j : Job) (e : Entry) (ecc : List EccHit) (pl : Plan) : Job :=
  let x := e.desc
  let n := ceDim x
  let frac := 35 - pl.m
  let fu := 34 - ((below 40).find? (fun t => kAtMost pl.rho (2 * t))).getD 20
  let a := normalised n pl (j.d.ceSquare x)
  let f := factorise n a.1 (pivotTau pl.rho) (cePivotPolicy x)
  let late := j.d.scratchBad x ecc
  let wild := j.d.ceWild x
  let j := j.useScratch x
  match f.stop with
  | some k =>
    if late then j.ceLate x (2 * n * n) 0 f.damped f.index (a.2 || f.sat)
    else ((((j.cePivots f).ceSat false (a.2 || f.sat)).ceWrite x wild (g16Bytes n (fun p q => qValue 34 (lAt f.cols p q)))).fail ccPivotAbort).result (ceResult 0 0 k noResid)
  | none =>
    let us := (below n).map (fun c => forward n f.cols (fun i => if i = c then 2 ^ (34 + fu) else 0))
    let u := us.map (fun q => q.1)
    let inv := Mat.convert n n (fun p q =>
      toQ frac (2 * fu) (isum n (fun k => ((((u[p]?).getD [])[k]?).getD 0) * ((((u[q]?).getD [])[k]?).getD 0))))
    let prod := Mat.mul n n false 34 (34 + frac) a.1 inv.1
    let r := residual n prod.1
    let sat := a.2 || f.sat || us.any (fun q => q.2) || inv.2 || prod.2
    if late then j.ceLate x (2 * n * n) 0 f.damped f.index sat
    else
      let rPat := fmtA32.enc r
      let j := (((j.cePivots f).ceSat false sat).ceWrite x wild (g16Bytes n (fun p q => (qValue frac (inv.1.at p q)).scale (-pl.e)))).result
        (ceResult 0 f.damped f.index rPat)
      j.ceStore x wild inv.1 pl.e pl.m 0 rPat

/-- The plan of a job, or its end; then the room it needs, poisoned stored data, and `f` (07 R221). `sat` says that a conversion before the
plan saturated. -/
def Job.cePlan (j : Job) (e : Entry) (ecc : List EccHit) (sat : Bool) (pl : Option Plan) (f : Job → Plan → Job) : Job :=
  let x := e.desc
  match pl with
  | none => (j.ceSat false sat).ceStop ccRange noResid
  | some pl =>
    let c := j.d.ceRoom x
    let warm := j.d.warmPoison x pl
    let quiet := c == ccPoisoned || (c == 0 && (warm || j.d.scratchBad x ecc))
    let j := (j.ceSat quiet sat).ceClamp quiet pl
    if c != 0 then j.ceStop c (if c = ccPoisoned then noResid else 0)
    else if warm then j.ceStop ccPoisoned noResid
    else f j pl

/-- Whether the input of a square job is finite (07 R198). -/
def Dev.squareFinite (d : Dev) (x : Nat) : Bool :=
  (below (ceDim x)).all (fun i => (below (i + 1)).all (fun k => (d.ceSquare x i k).isFinite))

/-- The plan of a square job (07 R199). -/
def Dev.squarePlan (d : Dev) (x p : Nat) : Option Plan :=
  makePlan x (rowSumMax (ceDim x) (d.ceSquare x)) (fmtA32.dec (ceDamp x)) p 0

/-- CE_ROOT (07 R205-R207, R217). -/
def execCeRoot (id : Nat) (ecc : List EccHit) (s : State) : Host.Outcome State Fault Refusal :=
  run s (fun _ d => d.startWith id 0x50 (fun d e =>
    (Job.start d).ceRun e ecc (fun d => d.squareFinite e.desc) (fun j =>
      j.cePlan e ecc false (j.d.squarePlan e.desc (2 ^ cePCode e.desc)) (fun j pl => j.ceRootRun e ecc pl))))

/-- CE_CHOL_INV (07 R208-R211). -/
def execCeCholInv (id : Nat) (ecc : List EccHit) (s : State) : Host.Outcome State Fault Refusal :=
  run s (fun _ d => d.startWith id 0x51 (fun d e =>
    (Job.start d).ceRun e ecc (fun d => d.squareFinite e.desc) (fun j =>
      j.cePlan e ecc false (j.d.squarePlan e.desc 1) (fun j pl => j.ceCholRun e ecc pl))))

/-! ## Regularised least squares (07 R212) -/

/-- D[t][k] and y[t]. -/
def Dev.lsqD (d : Dev) (x t k : Nat) : Fp := d.a32At (ceInAddr x + 4 * (ceNcols x * t + k))
def Dev.lsqY (d : Dev) (x t : Nat) : Fp := d.a32At (ceAuxAddr x + 4 * t)

/-- The smallest F with every magnitude of a list at most 2^F; 0 when all are zero. -/
def scaleOf (l : List Fp) : Int :=
  let m := l.foldl fpMaxAbs fp0
  if m.isZero then 0 else ceilLog2 m

/-- The scaled problem: F, Fy, h, g with the saturation mark. -/
structure Lsq where
  f : Int
  fy : Int
  h : Mat
  g : List Int
  sat : Bool
deriving DecidableEq, Repr

/-- Scale D and y, and form h and g. -/
def Dev.lsq (d : Dev) (x : Nat) : Lsq :=
  let n := ceDim x
  let c := ceNcols x
  let f := scaleOf ((grid n c).map (fun p => d.lsqD x p.1 p.2))
  let fy := scaleOf ((below n).map (d.lsqY x))
  let dt := Mat.convert n c (fun t k => fpToQ 34 ((d.lsqD x t k).scale (-f)))
  let yt := (below n).map (fun t => fpToQ 34 ((d.lsqY x t).scale (-fy)))
  let hAt := fun a b => toQ 34 68 (isum n (fun t => dt.1.at t a * dt.1.at t b))
  let h := Mat.convert c c (fun a b => if a < b then hAt b a else hAt a b)
  let g := (below c).map (fun a => toQ 34 68 (isum n (fun t => dt.1.at t a * ((yt[t]?).getD (0, false)).1)))
  ⟨f, fy, h.1, g.map (fun q => q.1), dt.2 || yt.any (fun q => q.2) || h.2 || g.any (fun q => q.2)⟩

/-- The plan of a least-squares job: p = 1 and the extra bits of the x-hat format. -/
def lsqPlan (x : Nat) (l : Lsq) : Option Plan :=
  let c := rowSumMax (ceNcols x) (fun i j => qValue 34 (l.h.at i j))
  let extra := ((below 8).find? (fun u => decide (ceNcols x ≤ 4 ^ u))).getD 6
  makePlan x c (rne64 ((fmtA32.dec (ceDamp x)).scale (-(2 * l.f)))) 1 extra

/-- A least-squares job after its plan; a saturation before the plan has been reported there. -/
def Job.ceLsqRun (j : Job) (e : Entry) (ecc : List EccHit) (l : Lsq) (pl : Plan) : Job :=
  let x := e.desc
  let n := ceNcols x
  let frac := 35 - pl.m
  let hh := normalised n pl (fun i k => qValue 34 (l.h.at i k))
  let gs := scaleOf (l.g.map (qValue 34))
  let gh := l.g.map (fun v => fpToQ 34 ((qValue 34 v).scale (-gs)))
  let f := factorise n hh.1 (pivotTau pl.rho) (cePivotPolicy x)
  let late := j.d.scratchBad x ecc
  let wild := j.d.ceWild x
  let j := j.useScratch x
  let sat := !l.sat && (hh.2 || gh.any (fun q => q.2) || f.sat)
  match f.stop with
  | some k =>
    if late then j.ceLate x (4 * n) 0 f.damped f.index sat
    else ((((j.cePivots f).ceSat false sat).ceWrite x wild (List.replicate (4 * n) 0#8)).fail ccPivotAbort).result (ceResult 0 0 k noResid)
  | none =>
    let z := forward n f.cols (fun i => ((gh[i]?).getD (0, false)).1 * 2 ^ frac)
    let xh := backward n f.cols z.1
    let at_ := fun i => (xh.1[i]?).getD 0
    let r := ((below n).map (fun i =>
      (isum n (fun k => hh.1.at i k * at_ k) - ((gh[i]?).getD (0, false)).1 * 2 ^ frac).natAbs)).foldl max 0
    let rPat := fmtA32.enc (qValue (34 + frac) r)
    let sat := sat || (!l.sat && (z.2 || xh.2))
    if late then j.ceLate x (4 * n) 0 f.damped f.index sat
    else (((j.cePivots f).ceSat false sat).ceWrite x wild ((below n).flatMap (fun i =>
      toBytes 4 (fmtA32.enc ((qValue frac (at_ i)).scale (l.fy - l.f - pl.e + gs)))))).result (ceResult 0 f.damped f.index rPat)

/-- CE_LSQ (07 R212). -/
def execCeLsq (id : Nat) (ecc : List EccHit) (s : State) : Host.Outcome State Fault Refusal :=
  run s (fun _ d => d.startWith id 0x52 (fun d e =>
    let x := e.desc
    (Job.start d).ceRun e ecc
      (fun d => (grid (ceDim x) (ceNcols x)).all (fun p => (d.lsqD x p.1 p.2).isFinite)
        && (below (ceDim x)).all (fun t => (d.lsqY x t).isFinite))
      (fun j =>
        let l := j.d.lsq x
        j.cePlan e ecc l.sat (lsqPlan x l) (fun j pl => j.ceLsqRun e ecc l pl))))

end Sys2Proof.Machine
end

