-- ==== Sys2Proof/Machine/HostPort.lean ====
section
/-! DEFINITION. The PCI Express function beyond rings and the dictionary window: BAR2, configuration requests, the link, MSI-X, the event
queue (14 R417-R432). -/

namespace Sys2Proof.Machine

/-! ## BAR2 (14 R422, 09 R262) -/

/-- Whether a byte of BAR2 falls in a hole. -/
def Dev.inHole (d : Dev) (a : Nat) : Bool :=
  !(d.power.pstate == .ready || d.power.pstate == .run)
    || !(decide (a < nearSize) || (decide (kennelBase ≤ a) && decide (a < kennelBase + d.kennelSize)))

/-- An access with a byte in a hole counts once, and 0x0B02 is raised at most once per second. -/
def Dev.holeAccess (d : Dev) (offset : Nat) : Dev :=
  (d.addSat 0x1300 1 32 1).oncePerSecond (0x0B02 * 64) (fun d => d.raise 0x0B02 offset 0)

/-- Whether an access lies inside BAR2. -/
def Dev.inBar2 (d : Dev) (offset n : Nat) : Bool := d.barOpen && decide (offset + n ≤ 2 ^ d.host.bar2Log2)

/-- The addresses of an access. -/
def Dev.holesIn (d : Dev) (offset n : Nat) : Bool := (upFrom offset n).any d.inHole

/-- BAR2_READ (14 R422): 0xFF in holes, the stored data elsewhere; EP when poisoned data was read, `read.ecc` being the errors that the read finds
(09 R271). -/
def execBar2Read (offset : Nat) (read : BarRead) (s : State) : Host.Outcome State Fault Refusal :=
  run s (fun _ d =>
    let length := read.length
    if !d.inBar2 offset length then d
    else
      let d := d.eccRead [] read.ecc
      let l := upFrom offset length
      let bytes := l.map (fun a => if d.inHole a then 0xFF#8 else d.mem.byte a)
      let bad := l.any (fun a => !d.inHole a && d.mem.poisoned a)
      let d := if d.holesIn offset length then d.holeAccess offset else d
      d.emit (.readCompletion bytes bad))

/-- The bytes of an access that are in no hole are stored; a unit that the access covers loses its mark (14 R422, 09 R276). -/
def Dev.bar2Store (d : Dev) (offset : Nat) (bytes : List Byte) : Dev :=
  if d.holesIn offset bytes.length then
    let m := (bytes.zip (upFrom offset bytes.length)).foldl (fun (m : Mem) e => if d.inHole e.2 then m else m.setByte e.2 e.1) d.mem
    let m := (unitsOf offset bytes.length).foldl (fun (m : Mem) u =>
      if offset ≤ u ∧ u + 64 ≤ offset + bytes.length ∧ !(d.holesIn u 64) then m.mark u false else m) m
    { d with mem := m }
  else d.wr offset bytes false

/-- BAR2_WRITE (14 R422). -/
def execBar2Write (offset : Nat) (bytes : List Byte) (s : State) : Host.Outcome State Fault Refusal :=
  run s (fun _ d =>
    if !d.inBar2 offset bytes.length then d
    else
      let e := d.bar2Store offset bytes
      if d.holesIn offset bytes.length then e.holeAccess offset else e)

/-! ## MSI-X (14 R426) -/

/-- A pending message whose vector is not masked leaves. -/
def Dev.sendPending (d : Dev) (v : Nat) : Dev :=
  if sget (fun _ => false) d.host.msixPending v && !d.masked v then
    ({ d with host := { d.host with msixPending := sset (fun _ => false) d.host.msixPending v false } } : Dev).message v
  else d

/-- A dword of the MSI-X table is written. -/
def Dev.setMsixWord (d : Dev) (k v : Nat) : Dev := { d with host := { d.host with msix := sset msixDefault d.host.msix k v } }

/-- A write of 4 or 8 bytes to half an entry of the MSI-X table: its address, or its data and its control word, whose bit 0 masks the
vector; a vector that the write leaves unmasked sends the message that waits for it (14 R421, R426). -/
def Dev.msixWrite (d : Dev) (v : Nat) (upper : Bool) (part : Part) (value : Nat) : Dev :=
  let k := 4 * v + 2 * b2n upper
  let w := mergePart (d.msixWord k + d.msixWord (k + 1) * 2 ^ 32) part value
  ((d.setMsixWord k (bits w 0 32)).setMsixWord (k + 1) (bits w 32 (if upper then 1 else 32))).sendPending v

/-- MSIX_UNMASK (14 R426). -/
def execMsixUnmask (write : MsixWrite) (s : State) : Host.Outcome State Fault Refusal :=
  run s (fun _ d => if d.barOpen then d.msixWrite write.vector write.upper write.part write.value.toNat else d)

/-! ## Configuration requests (14 R417-R420, R423) -/

/-- The registers whose values 14 R417 and R420 fix, by the offsets of the PCI header. -/
def Dev.configKnown (d : Dev) (offset : Nat) : Option Nat :=
  if offset = 0x00 then some 0x0D011F3C
  else if offset = 0x08 then some 0x120000A1
  else if offset = 0x20 ∨ offset = 0x24 then some 0
  else if offset = 0x2C then some ((0x0D10 + bits d.straps 14 2) * 0x10000 + 0x1F3C)
  else none

/-- The value last written to a configuration register. -/
def Dev.configWritten (d : Dev) (offset : Nat) : Nat := sget (fun _ => 0) d.host.config offset

/-- A value with its lowest `n` bits cleared: the base of a BAR of 2^`n` bytes. -/
def alignTo (v n : Nat) : Nat := v / 2 ^ n * 2 ^ n

/-- The base-address registers of BAR0 and BAR2, of 64 bits each, BAR2 prefetchable (14 R420): their type bits, and the bits of the base that the
BAR's size leaves; and the interrupt line, beside the interrupt pin, which is none (14 R417). -/
def Dev.configHeader (d : Dev) (offset : Nat) : Option Nat :=
  let w := d.configWritten offset
  let n := d.host.bar2Log2
  if offset = 0x10 then some (alignTo w 26 + 4)
  else if offset = 0x14 then some w
  else if offset = 0x18 then some (alignTo w (min n 32) + 0xC)
  else if offset = 0x1C then some (alignTo w (n - 32))
  else if offset = 0x34 then some (bits (Config.capOffset 0) 0 8)
  else if offset = 0x3C then some (bits w 0 8)
  else none

/-- The head of a capability (14 R419): its identifier and the next one of its list. The seven stand in the rule's order, the PCI ones first,
the extended ones from 0x100 on. -/
def Dev.configCapability (d : Dev) (offset : Nat) : Option Nat :=
  let c := Config.capOffset
  let free := (Config.pcieRegister offset (d.configWritten offset)).toNat
  let extended (id next : Nat) := some (id + bits free 16 4 * 2 ^ 16 + next * 2 ^ 20)
  if offset = c 0 then some (0x01 + bits (c 1) 0 8 * 2 ^ 8 + bits free 16 16 * 2 ^ 16)
  else if offset = c 1 then some (0x10 + bits (c 2) 0 8 * 2 ^ 8 + 0x0002 * 2 ^ 16 + 2 ^ 31)
  else if offset = c 2 then some (0x11 + 0x7FF * 2 ^ 16 + b2n d.host.functionMask * 2 ^ 30 + b2n d.host.msixEnable * 2 ^ 31)
  else if offset = 0x100 then extended 0x0001 (c 4)
  else if offset = c 4 then extended 0x0003 (c 5)
  else if offset = c 5 then extended 0x0015 (c 6)
  else if offset = c 6 then extended 0x002E 0
  else none

/-- The registers of the capabilities, as far as 14 R417-R421 and R427 settle their bits; the other bits are free. -/
def Dev.configCapRegister (d : Dev) (offset : Nat) : Option Nat :=
  let c := Config.capOffset
  let free := (Config.pcieRegister offset (d.configWritten offset)).toNat
  if offset = Config.pmControl then some (setBits free 0 2 (if d.host.d3hot then 3 else 0))
  else if offset = c 1 + 4 then some (setBits (setBits free 0 3 2) 28 1 1)
  else if offset = c 1 + 8 then some (setBits free 12 3 (bits (d.configWritten offset) 12 3))
  else if offset = c 1 + 0xC then some (setBits (setBits (setBits free 0 4 7) 4 6 16) 10 2 2)
  else if offset = c 1 + 0x24 then some (setBits (setBits (setBits (setBits free 0 5 0x1F) 6 4 0) 12 2 0) 16 2 3)
  else if offset = c 1 + 0x2C then some (setBits free 1 7 0x7F)
  else if offset = c 2 + 4 then some 0x00400000
  else if offset = c 2 + 8 then some 0x00408000
  else if offset = c 4 + 4 then some (bits Config.serial.toNat 0 32)
  else if offset = c 4 + 8 then some (bits Config.serial.toNat 32 32)
  else if offset = c 5 + 4 then some 0x0FFFC000
  else if offset = Config.rebarControl then some (2 + 1 * 2 ^ 5 + (d.host.bar2Log2 - 20) * 2 ^ 8)
  else if offset = Config.doeControl then some (setBits (setBits free 0 1 0) 31 1 0)
  else if offset = c 6 + 0xC then some (setBits free 2 1 (b2n d.host.doeError))
  else none

/-- The value that a configuration read returns. -/
def Dev.configRead (d : Dev) (offset : Nat) : Nat :=
  match d.configKnown offset with
  | some v => v
  | none => ((d.configHeader offset).orElse (fun _ => (d.configCapability offset).orElse (fun _ => d.configCapRegister offset))).getD
      (Config.pcieRegister offset (d.configWritten offset)).toNat

/-- A configuration write: the value, and what it selects: MSI-X enable and function mask, the power state, the size of BAR2, and the abort that
clears DOE Error. -/
def Dev.configWrite (d : Dev) (offset v : Nat) : Dev :=
  if (d.configKnown offset).isSome then d
  else
    let h := { d.host with config := sset (fun _ => 0) d.host.config offset v }
    let h := if offset = Config.msixControl then { h with msixEnable := bit v 31, functionMask := bit v 30 } else h
    let h := if offset = Config.pmControl then
        { h with d3hot := if bits v 0 2 = 3 then true else if bits v 0 2 = 0 then false else h.d3hot } else h
    let n := bits v 8 6
    let h := if offset = Config.rebarControl ∧ 10 ≤ n ∧ n ≤ 23 then { h with bar2Log2 := 20 + n } else h
    let h := if offset = Config.doeControl ∧ bit v 0 then { h with doeError := false } else h
    let d := { d with host := h }
    if offset = Config.msixControl then (below 2048).foldl (fun d k => d.sendPending k) d else d

/-- PCIE_CONFIG_REQUEST (14 R417-R423): Request Retry Status until the function is ready; answered in D3hot too. -/
def execPcieConfigRequest (write : Bool) (offset : Nat) (value : Word) (s : State) : Host.Outcome State Fault Refusal :=
  run s (fun _ d =>
    if !d.hostUp then d
    else if d.now < d.host.readyAt then d.emit (.configAnswer 0 true)
    else if write then (d.configWrite offset value.toNat).emit (.configAnswer 0 false)
    else d.emit (.configAnswer (d.configRead offset) false))

/-! ## The link (14 R424) -/

/-- PCIE_LINK_DOWN (14 R424). -/
def execPcieLinkDown (s : State) : Host.Outcome State Fault Refusal := run s (fun _ d => d.pcieDrop)

/-- PCIE_LINK_UP (14 R424, 17 R518): not while reset holds the function, nor while its domain is stopped. -/
def execPcieLinkUp (s : State) : Host.Outcome State Fault Refusal :=
  run s (fun _ d =>
    if d.host.held || (d.domain 1).stopped then d else { d with host := { d.host with linkUp := true } })

/-! ## Reads of BAR0 (04 R94, 14 R421) -/

/-- The 32-bit half `k` of a 64-bit register. -/
def half (v k : Nat) : Nat := bits v (32 * k) 32

/-- A dword of a command ring's registers (04 R94); `RING_CTRL` is write-only. -/
def Dev.ringWord (d : Dev) (n off : Nat) : Nat :=
  let r := d.ring n
  let c := d.cpl n
  if off < 0x8 then half r.base (off / 4)
  else if off = 0x8 then r.cfg
  else if off = 0x10 ∨ off = 0x14 then half c.base (off / 4 - 4)
  else if off = 0x18 then c.cfg
  else if off = 0x1C then c.head
  else if off = 0x20 then r.head
  else if off = 0x24 then r.tail
  else if off = 0x28 then c.tail
  else if off = 0x30 ∨ off = 0x34 then half (d.ringStatus n) (off / 4 - 12)
  else 0

/-- A dword of the event-queue registers (14 R431). -/
def HostPort.evqWord (h : HostPort) (off : Nat) : Nat :=
  if off < 0x8 then half h.evqBase (off / 4)
  else if off = 0x8 then h.evqCfg
  else if off = 0xC then h.evqHead
  else if off = 0x10 then h.evqTail
  else if off = 0x14 then h.evqDropped
  else 0

/-- A dword of the dictionary window (14 R435); `OD_CMD` is write-only. -/
def HostPort.windowWord (h : HostPort) (off : Nat) : Nat :=
  if off = 0 then h.odSel
  else if off = 8 then h.odStatus
  else if off = 0xC then h.odLen
  else if 0x20 ≤ off then bits h.odData (8 * (off - 0x20)) 32
  else 0

/-- A dword of the MSI-X pending bits: one for each vector. -/
def Dev.pendingWord (d : Dev) (k : Nat) : Nat :=
  (below 32).foldl (fun v i => v + b2n (sget (fun _ => false) d.host.msixPending (32 * k + i)) * 2 ^ i) 0

/-- The dword at an offset of BAR0 (14 R421); 0 outside every block. -/
def Dev.bar0Word (d : Dev) (a : Nat) : Nat :=
  if a = 0 then 0x0D011F3C
  else if a = 4 then 1
  else if 0x100000 ≤ a ∧ a < 0x104000 then d.ringWord ((a - 0x100000) / 0x100) (a % 0x100)
  else if 0x200000 ≤ a ∧ a < 0x240000 then (if a % 0x1000 = 0 then (d.ring ((a - 0x200000) / 0x1000)).tail else 0)
  else if 0x300000 ≤ a ∧ a < 0x304000 then d.counter ((a - 0x300000) / 4)
  else if 0x400000 ≤ a ∧ a < 0x408000 then d.msixWord ((a - 0x400000) / 4)
  else if 0x408000 ≤ a ∧ a < 0x408100 then d.pendingWord ((a - 0x408000) / 4)
  else if 0x500000 ≤ a ∧ a < 0x500020 then d.host.evqWord (a - 0x500000)
  else if 0x600000 ≤ a ∧ a < 0x600040 then d.host.windowWord (a - 0x600000)
  else 0

/-- What a read of `n` bytes at an offset of BAR0 returns (04 R94, 14 R421): an aligned one of 4 or 8 bytes; 0 for any other. -/
def Dev.bar0Read (d : Dev) (offset n : Nat) : Nat :=
  if n = 4 ∧ offset % 4 = 0 then d.bar0Word offset
  else if n = 8 ∧ offset % 8 = 0 then d.bar0Word offset + d.bar0Word (offset + 4) * 2 ^ 32
  else 0

/-! ## The event queue (14 R431, R432) -/

/-- A write of `EVQ_BASE`. -/
def Dev.writeEvqBase (d : Dev) (v : Nat) : Dev :=
  if bit d.host.evqCfg 31 || v % 64 != 0 then d else { d with host := { d.host with evqBase := v } }

/-- A write of `EVQ_CFG`: out of range it is ignored as a whole; while `ENABLE` is 1 only `ENABLE` changes. -/
def Dev.writeEvqCfg (d : Dev) (v : Nat) : Dev :=
  let lg := log2Field v
  if lg < 6 ∨ 16 < lg ∨ 4 < bits v 0 3 then d
  else if bit d.host.evqCfg 31 then { d with host := { d.host with evqCfg := setBits d.host.evqCfg 31 1 (bits v 31 1) } }
  else { d with host := { d.host with evqCfg := setBits (setBits v 3 2 0) 21 10 0 } }

/-- A write of `EVQ_HEAD`: it frees records and re-arms the message. -/
def Dev.writeEvqHead (d : Dev) (v : Nat) : Dev := { d with host := { d.host with evqHead := v, evqArmed := true } }

/-- A configuration write of the event queue; `EVQ_CFG` shares its 8 bytes with `EVQ_HEAD`. -/
def Dev.evqConfig (d : Dev) (reg : EvqReg) (part : Part) (v : Nat) : Dev :=
  match reg with
  | .evqBase => d.writeEvqBase (mergePart d.host.evqBase part v)
  | .evqCfg =>
    let d := if part = .high then d else d.writeEvqCfg (bits v 0 32)
    if part = .low then d else d.writeEvqHead (bits v (if part = .whole then 32 else 0) 32)

/-- EVQ_CONFIG_WRITE (14 R431). -/
def execEvqConfigWrite (reg : EvqReg) (part : Part) (value : DWord) (s : State) : Host.Outcome State Fault Refusal :=
  run s (fun _ d => if d.barOpen then d.evqConfig reg part value.toNat else d)

/-- EVQ_HEAD_WRITE (14 R432). -/
def execEvqHeadWrite (value : Word) (s : State) : Host.Outcome State Fault Refusal :=
  run s (fun _ d => if d.barOpen then d.writeEvqHead value.toNat else d)

end Sys2Proof.Machine
end

