-- ==== Sys2Proof/Machine/Leash.lean ====
section
/-! DEFINITION. The Leash semaphores (14 R443-R448). -/

namespace Sys2Proof.Machine

/-- The owner that a requester is (14 R444). -/
def ownerOf : Requester → Owner
  | .pcie => .pcie
  | .mgmt addr udp _ => .mgmt addr udp

/-- The code of a holder (14 R448). -/
def Owner.code : Owner → Nat
  | .free => 0
  | .pcie => 1
  | .mgmt _ _ => 2

/-- The owner of a Leash at this instant: nobody once the lease has ended (14 R446). -/
def Dev.leashOwner (d : Dev) (n : Nat) : Owner :=
  let x := d.leash n
  if d.now < x.until_ then x.owner else .free

/-- A lease that has ended frees its Leash and raises 0x0B01 (14 R446). -/
def Dev.settleLeash (d : Dev) (n : Nat) : Dev :=
  let x := d.leash n
  if x.owner = .free ∨ d.now < x.until_ then d
  else (d.setLeash n { x with owner := .free, until_ := 0 }).raise 0x0B01 n x.owner.code

/-- A lease starts now (14 R446). -/
def Dev.startLease (d : Dev) (n : Nat) (o : Owner) : Dev :=
  d.setLeash n { d.leash n with owner := o, until_ := d.now + d.get 0x1100 2 * 1000000 }

/-- A write of `LEASH_REQ` by an owner (14 R445): the status, none while the arbiter has still to decide. -/
def Dev.leashReq (d : Dev) (o : Owner) (route : Route) (v : Nat) : Option Nat × Dev :=
  let n := bits v 0 5
  let act := bits v 8 2
  if act = 0 then (some 4, d)
  else
    let d := d.settleLeash n
    let x := d.leash n
    if act = 1 then
      (if x.owner = .free then (none, d.setLeash n { x with claims := x.claims ++ [⟨o, d.now, route⟩] })
       else if x.owner = o then (some 0, d.startLease n o) else (some 6, d))
    else if act = 2 then (if x.owner = o then (some 0, d.startLease n o) else (some 5, d))
    else if x.owner = .free then (some 0, d)
    else if x.owner = o then (some 0, d.setLeash n { x with owner := .free, until_ := 0 })
    else (some 5, d)

/-- The winner among tied ACQUIREs, oldest first, and whether the ports tied (14 R447). -/
def tieWinner (nextTie : Bool) (l : List Claim) : Owner × Bool :=
  match l.find? (fun c => c.owner == .pcie), l.find? (fun c => c.owner != .pcie) with
  | some p, some m => (if nextTie then m.owner else p.owner, true)
  | some p, none => (p.owner, false)
  | none, some m => (m.owner, false)
  | none, none => (.free, false)

/-- The arbiter decides (14 R447): the tied ACQUIREs are those within 1 μs of the first. -/
def Dev.arbitrate (d : Dev) (n : Nat) : Dev :=
  let x := d.leash n
  match x.claims with
  | [] => d
  | c :: _ =>
    if d.now < c.at_ + 1000 then d
    else
      let w := tieWinner x.nextTie (x.claims.filter (fun e => decide (e.at_ ≤ c.at_ + 1000)))
      let d := (d.setLeash n { x with claims := [], nextTie := x.nextTie != w.2 }).startLease n w.1
      x.claims.foldl (fun d e => d.answer e.route false (if e.owner = w.1 then 0 else 6) 4 0) d

/-- `LEASH_STATE` of a Leash (14 R448). -/
def Dev.leashState (d : Dev) (n : Nat) : Nat :=
  let o := d.leashOwner n
  o.code * 2 ^ 30 + b2n (d.leash n).nextTie * 2 ^ 29
    + (if o = .free then 0 else bits (((d.leash n).until_ - d.now) / 1000000) 0 29)

/-- `LEASH_MGMT_OWNER` of a Leash (14 R450). -/
def Dev.leashMgmtOwner (d : Dev) (n : Nat) : Nat :=
  match d.leashOwner n with
  | .mgmt addr udp => addr.toNat + udp.toNat * 2 ^ 128
  | _ => 0

/-- The Leash of an index's group (14 R443). -/
def leashGroup (index : Nat) : Nat :=
  if index < 0x2000 then 0
  else if index < 0x2100 then 1
  else index / 0x1000

/-- Whether an owner may write an entry as far as Leashes go (14 R444, 15 R463). -/
def Dev.leashHeld (d : Dev) (o : Owner) (index sub : Nat) : Bool :=
  (index == 0x1100 && sub == 1) || d.leashOwner (leashGroup index) == o

/-- LEASH_ARBITRATION (14 R447). -/
def execLeashArbitration (leash : Fin 32) (s : State) : Host.Outcome State Fault Refusal :=
  run s (fun _ d => d.arbitrate leash)

/-- LEASH_EXPIRED (14 R446). -/
def execLeashExpired (leash : Fin 32) (s : State) : Host.Outcome State Fault Refusal :=
  run s (fun _ d => d.settleLeash leash)

end Sys2Proof.Machine
end

