-- ==== Sys2Proof/Machine/Entries.lean ====
section
/-! DEFINITION. What a read of each dictionary entry returns, which values a write may carry, and what an accepted write does
(02 R62, 03 R78-R92, 05 R151, 06 R181, 07 R213-R224, 08 R243, 09 R286-R291, 10 R322-R325, 11 R340-R369, 12 R374-R396, 13 R402,
14 R451, 15 R465-R479, 16 R483). -/

namespace Sys2Proof.Machine

/-! ## Reads -/

/-- `ACC_STATUS` of a tile (03 R78). -/
def Tile.status (t : Tile) (busy : Bool) : Nat :=
  b2n t.torn * 2 ^ 24 + b2n busy * 2 ^ 23 + b2n t.spillValid * 2 ^ 22 + b2n t.boundLost * 2 ^ 21 + bits t.spillCount 0 21

/-- Whether an operation that names a tile is in flight: issued and not completed (03 R78, R88; 04 R96). -/
def Dev.tileBusy (d : Dev) (t : Nat) : Bool := d.disp.board.any (fun e => (d.tileUses e).any (fun u => u.1 == t))

/-- `PORT_STATUS` (10 R325). -/
def Port.status (x : Port) : Nat :=
  bits x.commonMinor 0 4 * 2 ^ 28 + bits x.nbPort 0 3 * 2 ^ 25 + bits x.nbLoc 0 16 * 2 ^ 9 + bits x.quarReason 0 4 * 2 ^ 5
    + b2n x.reversed * 2 ^ 4 + x.state.code

/-- `MGMT_SUBSCRIBER` (14 R450). -/
def Dev.subscriberValue (d : Dev) (n : Nat) : Nat :=
  match d.mgmt.subscribers[n]? with
  | some (some x) => x.addr.toNat + x.udp.toNat * 2 ^ 128 + bits x.cls 0 8 * 2 ^ 144
  | _ => 0

/-- The value of an entry of the groups 0x1000 to 0x3FFF that the device computes at the read; none where it is stored. -/
def Dev.computedLow (d : Dev) (i s : Nat) : Option Nat :=
  if i = 0x1018 ∧ s = 7 then some d.sec.runVersion
  else if i = 0x1018 ∧ s = 8 then some d.sec.runSlot
  else if i = 0x1110 then some (d.leashState (s - 1))
  else if i = 0x1120 then some (d.leashMgmtOwner (s - 1))
  else if i = 0x1220 then some (d.subscriberValue (s - 1))
  else if i = 0x2000 ∧ s = 2 then some d.power.pstate.code
  else if i = 0x2000 ∧ s = 3 then some (b2n d.power.target.isSome)
  else if i = 0x2110 then some d.sourcesReady
  else if i = 0x2120 then some (d.domain s).status
  else if i = 0x3012 then some (d.port (s - 1)).status
  else if i = 0x3200 ∧ s = 1 then some d.ht
  else if i = 0x3520 ∧ s = 2 then some (d.epochOf (d.get 0x3520 1))
  else none

/-- The same for the groups from 0x5000. -/
def Dev.computedHigh (d : Dev) (fuse i s : Nat) : Option Nat :=
  if i = 0x5010 ∧ s = 2 then some (d.get 0x5010 1)
  else if i = 0x5020 ∧ s = 2 then some (b2n d.pedigree)
  else if i = 0x5050 ∧ s = 2 then some d.currentCount
  else if i = 0x5070 then some ((d.tile (s - 1)).status (d.tileBusy (s - 1)))
  else if i = 0x5080 ∧ s = 2 then some d.disp.board.length
  else if i = 0x7110 ∧ s = 2 then some d.readTrail.1
  else if 0x7400 ≤ i ∧ i ≤ 0x7407 ∧ s = 8 then some (d.unit (i - 0x7400)).status
  else if i = 0x8000 ∧ s = 1 then some fuse
  else if i = 0x8020 ∧ s = 1 then some (b2n d.sec.unlocked)
  else if i = 0x8020 ∧ s = 2 then some d.sec.nonce
  else if i = 0x8030 ∧ s = 1 then some (if d.sec.recovery then 0 else 6)
  else if i = 0x8030 ∧ s = 2 then some d.sec.sessions.length
  else if i = 0x9010 ∧ s = 1 then some d.ledgerFill
  else if i = 0x9010 ∧ s = 2 then some d.store.nextSeq
  else if i = 0x9010 ∧ 4 ≤ s ∧ s ≤ 0xC then some (d.ledgerRead s)
  else if i = 0x9010 ∧ s = 0xE then some d.unreadFaults
  else if i = 0x9020 ∧ s = 2 then some d.dumpUsed
  else if i = 0x9100 ∧ s = 6 then some d.sec.versionA
  else if i = 0x9100 ∧ s = 7 then some d.sec.versionB
  else none

/-- Whether an entry is write-only: a read returns 0 (00 R7). -/
def writeOnly (i s : Nat) : Bool :=
  match odRow i s with
  | some r => r.access == .wo
  | none => false

/-- The value that a read of an existing entry returns (15 R454; 00 R7). -/
def Dev.entryValue (d : Dev) (fuse i s : Nat) : Nat :=
  if s = 0 then odTop i
  else if writeOnly i s then 0
  else
    match (if i < 0x5000 then d.computedLow i s else d.computedHigh fuse i s) with
    | some v => v
    | none => d.get i s

/-- What a read does besides returning the value: `TRAIL_ENTRY` moves the index on (12 R393), `HT_NOW` latches the fraction
(11 R329). -/
def Dev.afterRead (d : Dev) (i s : Nat) : Dev :=
  if i = 0x7110 ∧ s = 2 then d.readTrail.2
  else if i = 0x3200 ∧ s = 1 then d.put 0x3200 2 (bits d.tb.htf 0 16)
  else d

/-! ## Reserved bits and values -/

/-- Entries that hold a 48-bit device address in a u64 (15 R458). -/
def isAddressEntry (i s : Nat) : Bool :=
  (i == 0x5050 && s == 1) || i == 0x5060 || (i == 0x5090 && s == 1) || (i == 0x6100 && s == 2) || (i == 0x6000 && 2 ≤ s && s ≤ 6)
    || (i == 0x50A0 && s == 1) || i == 0x4040 || i == 0x3310 || (i == 0x7200 && s == 3)
    || (0x7210 ≤ i && i ≤ 0x7213 && s == 2)

/-- The value without the bits that are reserved in the entry (00 R6, 15 R458). -/
def maskEntry (i s v : Nat) : Nat :=
  if isAddressEntry i s then bits v 0 48
  else if i = 0x3010 then setBits (setBits v 3 1 0) 16 16 0
  else if i = 0x3110 then setBits v 0 30 0
  else if i = 0x3100 ∧ s = 1 then bits v 0 14
  else if i = 0x7200 ∧ s = 2 then bits v 0 14
  else if 0x7210 ≤ i ∧ i ≤ 0x7213 ∧ s = 1 then setBits v 14 1 0
  else if 0x7400 ≤ i ∧ i ≤ 0x7407 ∧ s = 2 then bits v 0 12
  else v

/-- The device tables of the tile store whose bases are entries: base entry, size, aligned bits (02 R41, 03 R80, 05 R151, 06 R181,
08 R243). -/
def tableEntries : List (Nat × Nat × Nat × Nat) :=
  [(0x5050, 1, 0x200000, 21), (0x5060, 1, 0x10000000, 21), (0x5090, 1, 0x40000, 18), (0x6100, 2, 0x20000, 17),
   (0x50A0, 1, 0x20000, 17)]

/-- A new base of a table is aligned, keeps it inside the tile store and apart from the other tables. -/
def Dev.tableBaseOk (d : Dev) (i s v : Nat) : Bool :=
  match tableEntries.find? (fun e => e.1 == i && e.2.1 == s) with
  | some (_, _, size, al) =>
    v % 2 ^ al == 0 && decide (tileBase ≤ v) && decide (v + size ≤ tileBase + tileSize)
      && tableEntries.all (fun e => (e.1 == i && e.2.1 == s)
          || decide (v + size ≤ d.get e.1 e.2.1) || decide (d.get e.1 e.2.1 + e.2.2.1 ≤ v))
  | none => true

/-- A hold slot's two generations lie in the near stacks and meet no other slot's (12 R396). -/
def Dev.holdOk (d : Dev) (h base size : Nat) : Bool :=
  size == 0 || (decide (base + 2 * size ≤ nearSize)
    && (below 4).all (fun k =>
        let b := d.get (0x7210 + k) 2
        let n := d.get (0x7210 + k) 3
        k == h || n == 0 || decide (base + 2 * size ≤ b) || decide (b + 2 * n ≤ base)))

/-- A port code of the time entries (11 R369). -/
def portCodeOk (v : Nat) : Bool := decide (v ≤ 5) || v == 7

/-- The value rules of the groups 0x1000 and 0x2000 (14 R451; 15 R468, R472). -/
def valueOkIdentityPower (i s v : Nat) : Bool :=
  if i = 0x1100 ∧ s = 2 then decide (100 ≤ v) && decide (v ≤ 3600000)
  else if i = 0x1200 ∧ (s = 1 ∨ s = 2) then decide (v ≤ 2)
  else if i = 0x1200 ∧ s = 3 then bits v 0 12 != 4095 && !bit v 12 && (bits v 13 3 == 0 || bits v 0 12 != 0)
  else if i = 0x1200 ∧ s = 5 then decide (v ≤ 128)
  else if i = 0x1200 ∧ s = 7 then v != 0 && v != 319 && v != 320
  else if i = 0x1200 ∧ s = 8 then decide (v ≤ 1)
  else if i = 0x2010 ∧ s = 1 then decide (800 ≤ v) && decide (v ≤ 2000)
  else if i = 0x2010 ∧ s = 2 then decide (550 ≤ v) && decide (v ≤ 880)
  else if i = 0x2010 ∧ s = 3 then decide (500 ≤ v) && decide (v ≤ 2600)
  else if i = 0x2020 ∧ s = 2 then decide (v ≤ 114)
  else if i = 0x2130 then loopRefOk (s - 1) v
  else if i = 0x2131 then loopFreqOk (s - 1) v
  else if i = 0x2140 ∧ s = 1 then decide (v ≤ 2)
  else true

/-- The value rules of the groups 0x3000 and 0x4000 (09 R277, R286, R291; 10 R324; 11 R342, R369). -/
def Dev.valueOkFabricMemory (d : Dev) (i s v : Nat) : Bool :=
  if i = 0x3010 then !(bit v 0 && bits v 1 2 == 0)
  else if i = 0x3210 ∧ s = 1 then decide (v ≤ 2)
  else if i = 0x3210 ∧ (s = 2 ∨ s = 3) then portCodeOk v
  else if i = 0x3210 ∧ s = 4 then decide (1 ≤ v) && decide (v ≤ 15)
  else if i = 0x3300 ∧ s = 1 then d.swapState != 1 && d.swapState != 2
  else if i = 0x3310 then d.swapState != 1 && d.swapState != 2
  else if i = 0x3400 then !([0, 1, 2, 6].contains (s - 1))
  else if i = 0x3500 ∧ s = 2 then v != 0
  else if i = 0x4010 ∧ s = 1 then v == 0 || v == 8 || v == 16
  else if i = 0x4010 ∧ s = 2 then v == 8800 || v == 12800
  else if i = 0x4020 ∧ (s = 1 ∨ s = 2) then v == 0 || decide (3600 ≤ v)
  else if i = 0x4040 then d.apertureOk v (d.get 0x4041 s)
  else if i = 0x4041 then d.apertureOk (d.get 0x4040 s) v
  else if i = 0x4050 ∧ s = 1 then decide (1 ≤ v) && decide (v ≤ 7)
  else true

/-- Whether the root store's table may stand at an address (07 R213). -/
def rootBaseOk (v : Nat) : Bool := v % 2 ^ 22 == 0 && decide (v + 0x400000 ≤ nearSize)

/-- The value rules of the groups from 0x5000 (02 R62, 03 R92, 04 R146, 06 R187, 07 R224, 12 R396, 13 R402). -/
def Dev.valueOkCompute (d : Dev) (i s v : Nat) : Bool :=
  if i = 0x5010 ∧ s = 1 then decide (v ≤ 1)
  else if i = 0x5030 ∧ s = 1 then decide (v ≤ 32)
  else if i = 0x5030 ∧ s = 3 then v != 0
  else if i = 0x5080 ∧ s = 4 then decide (v < 2 ^ 48)
  else if i = 0x6000 ∧ s = 1 then v == 0 || (v == 1 && rootBaseOk (d.get 0x6000 2))
  else if i = 0x6000 ∧ s = 2 then rootBaseOk v
  else if i = 0x6000 ∧ 3 ≤ s ∧ s ≤ 6 then v % 64 == 0
  else if i = 0x6100 ∧ s = 1 then decide (v ≤ 1)
  else if i = 0x7100 ∧ s = 3 then !bit v 7
  else if i = 0x7200 ∧ s = 1 then
    v != 1 || (d.get 0x7200 3 % 2 ^ 23 == 0 && decide (d.get 0x7200 3 + 0x800000 ≤ nearSize))
  else if 0x7210 ≤ i ∧ i ≤ 0x7213 ∧ s = 2 then v % 64 == 0 && d.holdOk (i - 0x7210) v (d.get i 3)
  else if 0x7210 ≤ i ∧ i ≤ 0x7213 ∧ s = 3 then d.holdOk (i - 0x7210) (d.get i 2) v
  else if 0x7400 ≤ i ∧ i ≤ 0x7407 then d.snWriteOk (i - 0x7400) s v
  else true

/-- Whether a masked value may be stored in an rw or rwq entry. -/
def Dev.valueOk (d : Dev) (i s v : Nat) : Bool :=
  (if i < 0x3000 then valueOkIdentityPower i s v
   else if i < 0x5000 then d.valueOkFabricMemory i s v
   else d.valueOkCompute i s v) && d.tableBaseOk i s v

/-! ## What an accepted write of a stored entry does besides -/

/-- A port whose `ENABLE` is 1 trains when the power state allows (10 R297). -/
def Dev.enablePort (d : Dev) (p : Nat) : Dev :=
  if bit (d.portCfg p) 0 && d.fabricOn && !d.disp.fatal && (d.port p).state == .disabled then d.setLink p .detect else d

/-- The further effect of an accepted write (02 R51: a step counter set anew begins a step, which latches L anew; 08 R243; 10 R297; 11 R336; 13 R408; 17 R510; 18 R539). -/
def Dev.stored (d : Dev) (fuse old i s v : Nat) : Dev :=
  if i = 0x1200 ∧ s = 8 then (if v = old then d else d.measured fuse 6)
  else if i = 0x2130 ∨ i = 0x2131 then d.relock (s - 1)
  else if i = 0x3010 then d.enablePort (s - 1)
  else if i = 0x3210 ∧ s = 2 then { d with tb := { d.tb with parentRun := if v = old then d.tb.parentRun else 0 } }
  else if i = 0x3210 ∧ s = 5 then { d with tb := { d.tb with secondsWritten := true } }
  else if i = 0x5030 ∧ s = 1 then { d with cmp := { d.cmp with lossWritten := true } }
  else if i = 0x5080 ∧ s = 4 then { d with cmp := { d.cmp with lossL := none, lossWritten := false } }
  else if i = 0x50A0 ∧ s = 1 then d.wr v (List.replicate 0x20000 0#8) false
  else if 0x7400 ≤ i ∧ i ≤ 0x7407 ∧ (s = 6 ∨ s = 7) then d.snContext (i - 0x7400)
  else d

/-! ## Commands and entries with an effect of their own -/

/-- How a write of an entry ended: accepted or refused, the device, and a reset that follows the answer (kind 1 warm, 2 full; 19 R557). -/
structure Written where
  ok : Bool
  d : Dev
  reset : Option Nat
deriving DecidableEq, Repr

/-- An effect that is refused when there is none. -/
def Written.of (d : Dev) (x : Option Dev) : Written :=
  match x with
  | some d' => ⟨true, d', none⟩
  | none => ⟨false, d, none⟩

/-- A write of `PSTATE_CMD` (15 R468; 16 R480, R483, R500; 18 R532). -/
def Dev.pstateCmd (d : Dev) (fuse v : Nat) : Option Dev :=
  if 3 < v ∨ d.sec.recovery then none
  else if d.power.pstate = .protect then
    (if v = 0 ∧ d.causeCleared then some (((d.put 0x2000 4 0).warmReset fuse 6).raise 0x0C01 0 4) else none)
  else if d.power.target.isSome then none
  else
    let target : PState := if v = 0 then .standby else if v = 1 then .hold else if v = 2 then .ready else .run
    if target = d.power.pstate then some d
    else if v ≤ 1 ∧ (d.power.pstate = .ready ∨ d.power.pstate = .run) ∧ d.inFlight ≠ 0 then none
    else
      let d := d.put 0x2000 1 v
      some { d with power := { d.power with target := some target } }

/-- `FW_UPD_CMD` (18 R540): 1 to 3 as `updCommand`; ACTIVATE applies check 8 again and writes the marker. -/
def Dev.updateCmd (d : Dev) (fuse v : Nat) : Option Dev :=
  if v = 4 then
    (if d.updState ≠ 2 then none
     else
       let h := imHeader (d.image d.idleSlot)
       if imSvn h < fuse then some ((d.put 0x9100 5 8).put 0x9100 4 3)
       else
         let d := (d.setTrailer d.idleSlot ⟨true, false, 0⟩).put 0x9100 4 0
         some (((d.raise 0x0E03 (imVersion h) 0).life 9 32 1).writeLife))
  else d.updCommand v

/-- A write of `SWAP_CMD` (11 R340, R341). -/
def Dev.swapCmd (d : Dev) (v : Nat) : Written :=
  if v = 1 then ⟨d.arm.2, d.arm.1, none⟩
  else if v = 2 then ⟨true, d.disarm, none⟩
  else ⟨false, d, none⟩

/-- A write of an entry that acts instead of storing; none for an entry that stores. `flashOk` says whether the flash operation of a
Trail dump succeeds. -/
def Dev.actingEntry (d : Dev) (fuse : Nat) (flashOk : Bool) (i s v : Nat) : Option Written :=
  if i = 0x2000 ∧ s = 1 then some (.of d (d.pstateCmd fuse v))
  else if i = 0x2100 then some (.of d (d.domainWrite s v))
  else if i = 0x3011 then some (.of d (d.portCtrl (s - 1) v))
  else if i = 0x3300 ∧ s = 2 then some (d.swapCmd v)
  else if i = 0x3520 ∧ s = 2 then
    some ⟨true, { d with eng := { d.eng with epochs := sset (fun _ => 0) d.eng.epochs (d.get 0x3520 1) v } }, none⟩
  else if i = 0x7100 ∧ s = 1 then some (.of d (d.trailCtrl v flashOk))
  else if i = 0x7100 ∧ s = 9 then some ⟨true, d.note 9 0 v, none⟩
  else if i = 0x7300 ∧ s = 2 then some ⟨true, d.howl 5 7 0 false v d.step, none⟩
  else if i = 0x7300 ∧ s = 6 then some (.of d (d.abandon v))
  else if 0x7400 ≤ i ∧ i ≤ 0x7407 ∧ s = 1 then some (.of d (d.snCtrl (i - 0x7400) v))
  else if i = 0x8000 ∧ s = 3 then some (if d.rollbackOk v then ⟨true, d.rollback fuse, none⟩ else ⟨false, d, none⟩)
  else if i = 0x8020 ∧ s = 4 then some (.of d (d.tokenData v))
  else if i = 0x8020 ∧ s = 5 then
    some (if v = 1 then ⟨true, d.debugSubmit fuse, none⟩ else if v = 2 then ⟨true, d.debugLock fuse, none⟩ else ⟨false, d, none⟩)
  else if i = 0x9000 ∧ s = 1 then some (if v = 1 ∨ v = 2 then ⟨true, d, some v⟩ else ⟨false, d, none⟩)
  else if i = 0x9010 ∧ s = 0xD then some (.of d (d.ledgerAck v))
  else if i = 0x9020 ∧ s = 3 then some (.of d (d.releaseDump v))
  else if i = 0x9100 ∧ s = 1 then some (.of d (d.updateCmd fuse v))
  else if i = 0x9100 ∧ s = 3 then some (.of d (d.updData v))
  else if i = 0xA000 ∧ s = 1 then some (.of d (d.calendarWrite v))
  else none

/-- A write of an existing, writable entry other than `LEASH_REQ` whose earlier checks have passed. `local_` says that it comes from
the PCI Express port or from inside a secure session (14 R442). -/
def Dev.writeEntry (d : Dev) (fuse : Nat) (local_ flashOk : Bool) (i s v : Nat) : Written :=
  match d.actingEntry fuse flashOk i s v with
  | some w => w
  | none =>
    let m := maskEntry i s v
    if !d.valueOk i s m || (i == 0x1200 && s == 8 && !local_) then ⟨false, d, none⟩
    else ⟨true, (d.put i s m).stored fuse (d.get i s) i s m, none⟩

end Sys2Proof.Machine
end

