-- ==== Sys2Proof/Machine/Dictionary.lean ====
section
/-! DEFINITION. Dictionary requests (14 R433-R435, R590; 15 R453-R463): the checks in their order, and the answer. -/

namespace Sys2Proof.Machine

/-- The indices that the ROM serves in recovery (18 R532). -/
def recoveryIndex (i : Nat) : Bool :=
  i == 0x1018 || (decide (0x1100 ≤ i) && decide (i ≤ 0x1120)) || (decide (0x8000 ≤ i) && decide (i ≤ 0x8030)) || i == 0x9100

/-- Whether an entry exists (15 R454, R455; 18 R532). -/
def Dev.entryExists (d : Dev) (i s : Nat) : Bool := odSize (odKey i s) != 0 && (!d.sec.recovery || recoveryIndex i)

/-- The size that an answer reports. -/
def entrySize (i s : Nat) : Nat := odSize (odKey i s)

/-- The statuses of a write that come before the rules on its value, in the order of 14 R590; 0 when none applies. -/
def Dev.accessStatus (d : Dev) (o : Owner) (i s : Nat) : Nat :=
  if !d.entryExists i s then 1
  else
    match odRow i s with
    | none => 2
    | some r =>
      if r.access == .const || r.access == .ro then 2
      else if !d.leashHeld o i s then 5
      else if r.access == .rwq && !d.quiescent then 3
      else 0

/-- Whether a management request is answered `NOT_SECURE` (14 R442). -/
def Dev.notSecure (d : Dev) (o : Owner) (secure : Bool) : Bool := o != .pcie && !secure && d.get 0x1200 8 == 1

/-- How a write request ended: its status (none while a Leash is being arbitrated), the fuses, the device, the reset that follows. -/
structure WriteEnd where
  status : Option Nat
  fuse : Nat
  d : Dev
  reset : Option Nat
deriving DecidableEq, Repr

/-- Execute a write request (14 R590). -/
def Dev.portWrite (d : Dev) (fuse : Nat) (o : Owner) (secure flashOk : Bool) (route : Route) (i s v : Nat) : WriteEnd :=
  let v := v % 2 ^ (8 * entrySize i s)
  if i == 0x9100 && s == 3 && d.updBusy then ⟨some 9, fuse, d, none⟩
  else if d.notSecure o secure then ⟨some 8, fuse, d, none⟩
  else
    let d := if i = 0x1100 ∧ s = 1 then d else d.settleLeash (leashGroup i)
    let st := d.accessStatus o i s
    if st ≠ 0 then ⟨some st, fuse, d, none⟩
    else if i = 0x1100 ∧ s = 1 then
      let r := d.leashReq o route v
      ⟨r.1, fuse, r.2, none⟩
    else
      let w := d.writeEntry fuse (o == .pcie || secure) flashOk i s v
      ⟨some (if w.ok then 0 else 4), if w.ok && i == 0x8000 && s == 3 then d.fuseAfter fuse else fuse, w.d, w.reset⟩

/-- A write request with its answer, and the reset that `DEVICE_RESET` starts after the answer (19 R555, R557): cause 4 from the PCI
Express port, 5 from the management port; `pins` are the levels of LOC. -/
def Dev.doWrite (d : Dev) (fuse : Nat) (o : Owner) (secure flashOk : Bool) (pins : Option (BitVec 16)) (route : Route) (i s v : Nat) :
    Nat × Dev :=
  let w := d.portWrite fuse o secure flashOk route i s v
  let d := match w.status with
    | some st => w.d.answer route false st (entrySize i s) 0
    | none => w.d
  let cause := if o = .pcie then 4 else 5
  match w.reset with
  | none => (w.fuse, d)
  | some 1 => (w.fuse, d.warmReset w.fuse cause)
  | some _ => (w.fuse, d.fullReset w.fuse cause (match pins with
      | some p => p.toNat
      | none => d.pins.loc))

/-- A read request with its answer. -/
def Dev.doRead (d : Dev) (fuse : Nat) (o : Owner) (secure : Bool) (route : Route) (i s : Nat) : Dev :=
  if d.notSecure o secure then d.answer route true 8 (entrySize i s) 0
  else if !d.entryExists i s then d.answer route true 1 0 0
  else (d.afterRead i s).answer route true 0 (entrySize i s) (d.entryValue fuse i s)

end Sys2Proof.Machine
end

