-- ==== Sys2Proof/Machine/Spdm.lean ====
section
/-! DEFINITION. The SPDM responder (18 R534-R539): its answers by the content that the manual's rules give. -/

namespace Sys2Proof.Machine

/-- A random number of 256 bits: four draws. -/
def Dev.randomWide (d : Dev) : BitVec 256 :=
  BitVec.ofNat 256 ((below 4).foldl (fun v i => v + (Config.draw (d.draws + i)).toNat * 2 ^ (64 * i)) 0)

/-- The measurement blocks (18 R539). -/
def Dev.allMeasurements (d : Dev) (fuse : Nat) : List (Nat × List Byte) :=
  (upFrom 1 6).map (fun i => (i, d.measurement fuse i))

/-- The hash of all measurements. -/
def Dev.measurementSummary (d : Dev) (fuse : Nat) : BitVec 384 :=
  Config.sha384 ((d.allMeasurements fuse).flatMap (fun e => e.2))

/-- Certificate slot 0: the identity chain, empty when it does not match the identity key (18 R535, 19 R550). -/
def Dev.slotChain (d : Dev) : List Byte := if d.sec.chainOk then Config.identityChain else []

/-- Whether a session of a port exists. -/
def Dev.hasSession (d : Dev) (port : SpdmPort) (n : Nat) : Bool := d.sec.sessions.any (fun x => x.number == n && x.port == port)

/-- CHALLENGE_AUTH: the responder's nonce, the summary, and the identity key's signature over both nonces and the summary
(18 R534, R536). -/
def Dev.challengeReply (d : Dev) (fuse : Nat) (nonce : BitVec 256) : SpdmReply × Dev :=
  let own := d.randomWide
  let sum := d.measurementSummary fuse
  let sig := Config.identitySign (digestBytes (Config.sha384 (toBytes 32 nonce.toNat ++ toBytes 32 own.toNat ++ digestBytes sum)))
  (.challengeAuth own sum sig, { d with draws := d.draws + 4 })

/-- GET_MEASUREMENTS: block 0 asks for the number, 255 for all, 1 to 6 for one (18 R539). -/
def Dev.measurementsReply (d : Dev) (fuse block : Nat) : SpdmReply :=
  if block = 0 then .measurements 6 []
  else if block = 255 then .measurements 6 (d.allMeasurements fuse)
  else if block ≤ 6 then .measurements 6 [(block, d.measurement fuse block)]
  else .invalidRequest

/-- KEY_EXCHANGE: a session, unless four are held (18 R538). -/
def Dev.keyExchangeReply (d : Dev) (port : SpdmPort) : SpdmReply × Dev :=
  if 4 ≤ d.sec.sessions.length then (.sessionLimitExceeded, d)
  else
    let n := d.sec.nextSession
    (.keyExchanged n, { d with sec := { d.sec with sessions := d.sec.sessions ++ [⟨n, port, false⟩], nextSession := n + 1 } })

/-- The sessions with one of them finished. -/
def Dev.finishSession (d : Dev) (n : Nat) : Dev :=
  { d with sec := { d.sec with sessions := d.sec.sessions.map (fun x => if x.number = n then { x with finished := true } else x) } }

/-- The sessions without one of them. -/
def Dev.dropSession (d : Dev) (n : Nat) : Dev :=
  { d with sec := { d.sec with sessions := d.sec.sessions.filter (fun x => x.number != n) } }

/-- RESPOND_IF_READY: the result that was deferred under a token (18 R537). -/
def Dev.readyReply (d : Dev) (port : SpdmPort) (token : Nat) : SpdmReply × Dev :=
  match d.sec.deferred.find? (fun x => x.1 == port && x.2.1 == token) with
  | some x => (x.2.2, { d with sec := { d.sec with deferred := d.sec.deferred.filter (fun y => !(y.1 == port && y.2.1 == token)) } })
  | none => (.unexpectedRequest, d)

/-- The responder's answer to a request, and what it changes (18 R535-R539). -/
def Dev.spdmReply (d : Dev) (fuse : Nat) (port : SpdmPort) (r : SpdmReq) : SpdmReply × Dev :=
  match r with
  | .getVersion => (.version, d)
  | .getCapabilities => (.capabilities, d)
  | .negotiateAlgorithms all => (if all then .algorithms else .invalidRequest, d)
  | .getDigests => (.digests (if d.slotChain.isEmpty then [] else [Config.sha384 d.slotChain]), d)
  | .getCertificate slot off len =>
    if slot ≠ 0 ∨ d.slotChain.isEmpty then (.invalidRequest, d)
    else
      let part := (d.slotChain.drop off).take len
      (.certificate 0 part (d.slotChain.length - (off + part.length)), d)
  | .challenge slot nonce => if slot ≠ 0 ∨ d.slotChain.isEmpty then (.invalidRequest, d) else d.challengeReply fuse nonce
  | .getMeasurements block => (d.measurementsReply fuse block, d)
  | .keyExchange slot => if slot ≠ 0 ∨ d.slotChain.isEmpty then (.invalidRequest, d) else d.keyExchangeReply port
  | .finish n => if d.hasSession port n then (.finished n, d.finishSession n) else (.invalidRequest, d)
  | .heartbeat n => (if d.hasSession port n then .heartbeatAck n else .invalidRequest, d)
  | .keyUpdate n => (if d.hasSession port n then .keyUpdated n else .invalidRequest, d)
  | .endSession n => if d.hasSession port n then (.sessionEnded n, d.dropSession n) else (.invalidRequest, d)
  | .respondIfReady token => d.readyReply port token
  | .setCertificate _ => (.unsupportedRequest 0xEE, d)
  | .other code => (.unsupportedRequest code, d)

/-- An answer that is not ready in time is kept under a token, with ERROR ResponseNotReady in its place (18 R537). -/
def Dev.deferReply (d : Dev) (port : SpdmPort) (reply : SpdmReply) : SpdmReply × Dev :=
  let t := d.sec.nextToken
  (.responseNotReady 14 t, { d with sec := { d.sec with deferred := d.sec.deferred ++ [(port, t, reply)], nextToken := t + 1 } })

/-- The envelope of an SPDM answer on the management port: the request frame's own fields, where a frame carried it, under the operation's
response code, with the length of the message, which is free (14 R438). -/
def Dev.spdmEnvelope (d : Dev) (frame : Option MgmtFrame) (reply : SpdmReply) : Envelope :=
  let len := Config.spdmLength reply % 1201
  match frame with
  | some f =>
    let h := f.header.toNat
    d.envelope f.dst f.dport (mgmtHeader d.ht 0 (bits h 128 32) (bits h 112 16) (bits h 104 8) 0 len 0x86)
  | none => d.ownEnvelope (mgmtHeader d.ht 0 0 0 0 0 len 0x86)

/-- An SPDM message on a port with its answer, which is kept where a frame carried the request (14 R440). -/
def Dev.spdmMessage (d : Dev) (fuse : Nat) (port : SpdmPort) (r : SpdmReq) (late : Bool) (frame : Option MgmtFrame) : Dev :=
  let x := d.spdmReply fuse port r
  let y := if late then x.2.deferReply port x.1 else x
  match port with
  | .doe => y.2.emit (.spdm port y.1 none)
  | .mgmt addr udp =>
    let out : Out := .spdm port y.1 (some (y.2.spdmEnvelope frame y.1))
    let d := match frame with
      | some f => y.2.keepResponse ⟨addr, udp, bits f.header.toNat 128 32, out, d.now⟩
      | none => y.2
    if d.get 0x1200 9 = 0 then d else d.emit out

end Sys2Proof.Machine
end

