-- ==== Sys2Proof/Machine/Requests.lean ====
section
/-! DEFINITION. How requests of both ports reach Shepherd (14 R434-R442, 17 R520, 18 R532, R538): the window, management frames, SPDM
messages, and the requests that wait while the Shepherd domain stands still. -/

namespace Sys2Proof.Machine

/-- The meaning of a command whose effect may burn fuses. -/
def runF (s : State) (f : Nat → Dev → Nat × Dev) : Host.Outcome State Fault Refusal :=
  .next { s with fuse := (f s.fuse s.dev).1, dev := (f s.fuse s.dev).2 }

/-- The management link is up. -/
def Dev.mgmtUp (d : Dev) : Bool := d.get 0x1200 9 != 0

/-- Whether a port of an SPDM exchange is reachable; in recovery it is not served (18 R532). -/
def Dev.spdmOpen (d : Dev) (port : SpdmPort) : Bool :=
  !d.sec.recovery && (match port with
    | .doe => d.windowOpen
    | .mgmt _ _ => d.mgmtUp)

/-- Whether a requester's port is reachable. -/
def Dev.requesterOpen (d : Dev) : Requester → Bool
  | .pcie => d.windowOpen
  | .mgmt _ _ _ => d.mgmtUp

/-- Whether a management request counts as inside a secure session: its requester holds a finished one (14 R442, 18 R546). -/
def Dev.inSession (d : Dev) (addr : BitVec 128) (udp : BitVec 16) (claimed : Bool) : Bool :=
  claimed && d.sec.sessions.any (fun x => x.port == .mgmt addr udp && x.finished)

def Dev.requesterSecure (d : Dev) : Requester → Bool
  | .pcie => false
  | .mgmt addr udp secure => d.inSession addr udp secure

/-! ## Frames -/

end Sys2Proof.Machine

namespace Sys2Proof

def MgmtFrame.head (f : MgmtFrame) : Nat := f.header.toNat
def MgmtFrame.op (f : MgmtFrame) : Nat := Machine.bits f.head 72 8
def MgmtFrame.reqId (f : MgmtFrame) : Nat := Machine.bits f.head 128 32
def MgmtFrame.index (f : MgmtFrame) : Nat := Machine.bits f.head 112 16
def MgmtFrame.sub (f : MgmtFrame) : Nat := Machine.bits f.head 104 8

/-- `MAGIC` is right (14 R438). -/
def MgmtFrame.magicOk (f : MgmtFrame) : Bool := Machine.bits f.head 48 16 == 0x0D01

/-- A frame of the right `MAGIC` whose header does not match its data, or whose `VERSION` is not 1. -/
def MgmtFrame.headBad (f : MgmtFrame) : Bool :=
  Machine.bits f.head 64 8 != 1 || Machine.bits f.head 80 16 != f.data.length || decide (1200 < f.data.length)

/-- A malformed READ, WRITE or SUBSCRIBE, and any other operation (14 R439). -/
def MgmtFrame.malformed (f : MgmtFrame) : Bool :=
  f.headBad ||
    (if f.op = 1 then !f.data.isEmpty
     else if f.op = 2 then Machine.entrySize f.index f.sub != 0 && f.data.length != Machine.entrySize f.index f.sub
     else if f.op = 3 then f.data.length != 1
     else true)

end Sys2Proof

namespace Sys2Proof.Machine

/-- Whether an address is the port's own: its further address, where it has one, or its link-local one (14 R437). -/
def Dev.ownAddress (d : Dev) (a : BitVec 128) : Bool :=
  (d.get 0x1200 4 != 0 && a.toNat == d.get 0x1200 4) || a == linkLocal

/-- Whether the port takes a frame at all: the link is up, the tag is the configured one, and it is sent to an address of the port and to
its UDP port for object access (14 R437). -/
def Dev.frameTaken (d : Dev) (f : MgmtFrame) : Bool :=
  let id := bits (d.get 0x1200 3) 0 12
  d.mgmtUp && (id == 0 || f.vlan == some id) && f.dport.toNat == d.get 0x1200 7 && d.ownAddress f.dst

/-- The slot of a subscriber. -/
def Dev.subscriberSlot (d : Dev) (addr : BitVec 128) (udp : BitVec 16) : Option Nat :=
  (below 4).find? (fun i => match d.mgmt.subscribers[i]? with
    | some (some x) => x.addr == addr && x.udp == udp
    | _ => false)

def Dev.setSubscriber (d : Dev) (i : Nat) (x : Option Subscriber) : Dev :=
  { d with mgmt := { d.mgmt with subscribers := d.mgmt.subscribers.set i x } }

/-- SUBSCRIBE with its status (14 R441). -/
def Dev.subscribe (d : Dev) (addr : BitVec 128) (udp : BitVec 16) (cls : Nat) : Nat × Dev :=
  match d.subscriberSlot addr udp with
  | some i =>
    if cls = 0xFF then (0, d.setSubscriber i none)
    else if 4 < cls then (4, d)
    else match d.mgmt.subscribers[i]? with
      | some (some x) => (0, d.setSubscriber i (some { x with cls := cls }))
      | _ => (0, d)
  | none =>
    if cls = 0xFF then (0, d)
    else if 4 < cls then (4, d)
    else match (below 4).find? (fun i => (d.mgmt.subscribers[i]?).getD none == none) with
      | some i => (0, d.setSubscriber i (some ⟨addr, udp, cls, [], []⟩))
      | none => (4, d)

/-- Events of the queue leave while fewer than 16 are unacknowledged (14 R441). -/
def Dev.sendQueued (d : Dev) (i : Nat) : Nat → Dev
  | 0 => d
  | fuel + 1 =>
    match d.mgmt.subscribers[i]? with
    | some (some x) =>
      match x.queue with
      | [] => d
      | e :: rest =>
        if 16 ≤ x.unacked.length then d
        else
          let d := d.eventFrame x e.1 e.2
          Dev.sendQueued (d.setSubscriber i (some { x with unacked := x.unacked ++ [(e.1, e.2, 1, d.now)], queue := rest })) i fuel
    | _ => d

/-- An event of a subscriber is no longer outstanding. -/
def Dev.settleEvent (d : Dev) (i eseq : Nat) : Dev :=
  match d.mgmt.subscribers[i]? with
  | some (some x) =>
    (d.setSubscriber i (some { x with unacked := x.unacked.filter (fun e => e.1 != eseq) })).sendQueued i 16
  | _ => d

/-- How the answer to a frame goes back. -/
def frameRoute (f : MgmtFrame) (session : Option (SpdmPort × Nat)) : Route := .frame f.addr f.udp f.dst f.dport f.head session

/-! ## Execution -/

/-- Execute a frame that the port has taken (14 R439, R442, R590): a data write that is answered `BUSY` is not even checked. -/
def Dev.doFrame (d : Dev) (fuse : Nat) (f : MgmtFrame) (session : Option (SpdmPort × Nat)) (o : Owner) (secure : Bool) : Nat × Dev :=
  let route := frameRoute f session
  if f.op = 2 ∧ f.index = 0x9100 ∧ f.sub = 3 ∧ d.updBusy then (fuse, d.answer route false 9 0 0)
  else if f.malformed then (fuse, d.answer route false 7 0 0)
  else if f.op = 1 then (fuse, d.doRead fuse o secure route f.index f.sub)
  else if f.op = 2 then d.doWrite fuse o secure true none route f.index f.sub (ofBytes f.data)
  else if d.notSecure o secure then (fuse, d.answer route false 8 0 0)
  else
    let r := d.subscribe f.addr f.udp (ofBytes f.data)
    (fuse, r.2.answer route false r.1 0 0)

/-- A secured frame's requester: that of the management port, or the PCI Express port for the DOE mailbox (18 R538). -/
def frameOwner (f : MgmtFrame) (session : Option (SpdmPort × Nat)) : Owner :=
  match session with
  | some (.doe, _) => .pcie
  | _ => .mgmt f.addr f.udp

/-- Execute one request (14 R434). -/
def Dev.doRequest (d : Dev) (fuse : Nat) (r : OdReq) : Nat × Dev :=
  match r with
  | .window write sel data =>
    if write then d.doWrite fuse .pcie false true none .window (bits sel 8 16) (bits sel 0 8) data
    else (fuse, d.doRead fuse .pcie false .window (bits sel 8 16) (bits sel 0 8))
  | .plain who write sel data flashOk pins =>
    let o := ownerOf who
    let sec := d.requesterSecure who
    if write then d.doWrite fuse o sec flashOk pins .plain (bits sel 8 16) (bits sel 0 8) data
    else (fuse, d.doRead fuse o sec .plain (bits sel 8 16) (bits sel 0 8))
  | .frame f session =>
    let sec := match session with
      | some (port, n) => d.hasSession port n
      | none => d.inSession f.addr f.udp f.secure
    d.doFrame fuse f session (frameOwner f session) sec
  | .spdm port req late frame => (fuse, d.spdmMessage fuse port req late frame)

/-- Whether a waiting request came over the management port. -/
def OdReq.isMgmt : OdReq → Bool
  | .frame _ _ => true
  | .spdm (.mgmt _ _) _ _ _ => true
  | .plain (.mgmt _ _ _) _ _ _ _ _ => true
  | _ => false

/-- Management requests that wait. -/
def Dev.mgmtWaiting (d : Dev) : Nat := (d.requests.filter OdReq.isMgmt).length

/-- A request executes at once, or waits while the Shepherd domain is in HOLD_CLOCK (17 R520). -/
def Dev.submit (d : Dev) (fuse : Nat) (r : OdReq) : Nat × Dev :=
  if (d.domain 0xB).hold then (fuse, { d with requests := d.requests ++ [r] }) else d.doRequest fuse r

/-- Shepherd serves the waiting requests in the order of their arrival (14 R434, 17 R520). -/
def Dev.serveAll (fuse : Nat) (d : Dev) : Nat → Nat × Dev
  | 0 => (fuse, d)
  | fuel + 1 =>
    match d.requests with
    | [] => (fuse, d)
    | r :: rest =>
      if (d.domain 0xB).hold then (fuse, d)
      else
        let x := ({ d with requests := rest } : Dev).doRequest fuse r
        Dev.serveAll x.1 x.2 fuel

/-- Serve all that waits, after something that may have started the Shepherd domain. -/
def Dev.wake (d : Dev) (fuse : Nat) : Nat × Dev := Dev.serveAll fuse d d.requests.length

/-! ## Arrival -/

/-- A write of `OD_CMD` with its selection and data (14 R435); ignored while `BUSY`. -/
def Dev.windowCmd (d : Dev) (fuse : Nat) (write : Bool) (sel data : Nat) : Nat × Dev :=
  if !d.windowOpen || bit d.host.odStatus 31 then (fuse, d)
  else
    let d : Dev := { d with host := { d.host with odSel := sel, odData := data, odStatus := 2 ^ 31 } }
    d.submit fuse (.window write sel data)

/-- A kept response of a requester under a `REQ_ID` (14 R440). -/
def Dev.keptResponse (d : Dev) (addr : BitVec 128) (udp : BitVec 16) (reqId : Nat) : Option Kept64 :=
  d.mgmt.kept.find? (fun k => k.addr == addr && k.udp == udp && k.reqId == reqId && decide (d.now < k.at_ + 1000000000))

/-- Whether the firmware serves the dictionary yet (19 R554). -/
def Dev.dictServed (d : Dev) : Bool := decide (d.mgmt.servedAt ≤ d.now)

/-- Whether a new management request is answered `BUSY` and not executed: the dictionary is not yet served, or 64 requests wait
(14 R440, 19 R554). -/
def Dev.mgmtBusy (d : Dev) : Bool := !d.dictServed || decide (64 ≤ d.mgmtWaiting)

/-- A management request is counted in `MGMT_REQUESTS` as it arrives (14 R440). -/
def Dev.counted (d : Dev) : Dev := d.addWrap 0x1210 1 1

/-- A request that is turned away counts in `MGMT_BUSY` when 64 wait (14 R440). -/
def Dev.countBusy (d : Dev) : Dev := if d.dictServed then d.addSat 0x1210 3 32 1 else d

/-- A new management request arrives: counted; answered again from the kept responses; answered `BUSY`; else executed in its turn
(14 R440, 19 R554). -/
def Dev.arrive (d : Dev) (fuse : Nat) (f : MgmtFrame) (session : Option (SpdmPort × Nat)) (r : OdReq) : Nat × Dev :=
  let d := d.counted
  if !d.dictServed then (fuse, d.answer (frameRoute f session) false 9 0 0)
  else match d.keptResponse f.addr f.udp f.reqId with
    | some k => (fuse, d.emit k.out)
    | none => if d.mgmtBusy then (fuse, d.countBusy.answer (frameRoute f session) false 9 0 0) else d.submit fuse r

/-- The device as a request of a requester that no frame carries arrives: one of the management port is counted. -/
def Dev.asked (d : Dev) (who : Requester) : Dev := if who = .pcie then d else d.counted

/-- A request that no frame carries, of the management port or not: executed in its turn, or answered `BUSY` by `turnedAway`. -/
def Dev.request (d : Dev) (fuse : Nat) (mgmt : Bool) (r : OdReq) (turnedAway : Dev → Dev) : Nat × Dev :=
  if !mgmt then d.submit fuse r
  else if d.mgmtBusy then (fuse, turnedAway d.counted.countBusy)
  else d.counted.submit fuse r

/-- A frame of operation `op` arrives at the management port (14 R437-R440; 18 R532). A frame of an operation that the device does not
know is malformed; one of another known operation is another row's. -/
def Dev.receiveFrame (d : Dev) (fuse op : Nat) (f : MgmtFrame) : Nat × Dev :=
  if !d.frameTaken f then (fuse, d)
  else if !f.magicOk then (fuse, d.addSat 0x1210 2 32 1)
  else if d.sec.recovery && f.op != 1 && f.op != 2 then (fuse, d)
  else if f.op != op && [1, 2, 3, 5, 6].contains f.op then (fuse, d)
  else d.arrive fuse f none (.frame f none)

/-- EVENT_ACK (14 R441): no response. With `MGMT_SECURE` 1 it counts inside a session only. -/
def Dev.receiveAck (d : Dev) (fuse : Nat) (f : MgmtFrame) : Nat × Dev :=
  if f.op != 5 || !f.magicOk then d.receiveFrame fuse 5 f
  else if !d.frameTaken f || d.sec.recovery then (fuse, d)
  else if !d.dictServed then (fuse, d)
  else if f.headBad || !f.data.isEmpty then (fuse, d.answer (frameRoute f none) false 7 0 0)
  else if d.notSecure (.mgmt f.addr f.udp) (d.inSession f.addr f.udp f.secure) then (fuse, d)
  else match d.subscriberSlot f.addr f.udp with
    | some i => (fuse, d.settleEvent i (bits f.head 160 32))
    | none => (fuse, d)

/-- An object-access frame that arrives inside a secure session (18 R538). -/
def Dev.receiveSecured (d : Dev) (fuse : Nat) (port : SpdmPort) (n : Nat) (f : MgmtFrame) : Nat × Dev :=
  if !f.magicOk then (fuse, d.addSat 0x1210 2 32 1)
  else if f.op = 5 then
    if !d.dictServed then (fuse, d)
    else if f.headBad || !f.data.isEmpty then (fuse, d.answer (frameRoute f (some (port, n))) false 7 0 0)
    else if d.notSecure (frameOwner f (some (port, n))) (d.hasSession port n) then (fuse, d)
    else (match d.subscriberSlot f.addr f.udp with
     | some i => (fuse, d.settleEvent i (bits f.head 160 32))
     | none => (fuse, d))
  else d.arrive fuse f (some (port, n)) (.frame f (some (port, n)))

/-- An SPDM operation frame (14 R439, 18 R536-R538). -/
def Dev.receiveSpdm (d : Dev) (fuse : Nat) (f : MgmtFrame) (body : SpdmBody) : Nat × Dev :=
  if f.op != 6 || !f.magicOk then d.receiveFrame fuse 6 f
  else if !d.frameTaken f || d.sec.recovery then (fuse, d)
  else
    let port : SpdmPort := .mgmt f.addr f.udp
    match body with
    | .message r =>
      if f.headBad then d.arrive fuse f none (.frame f none) else d.arrive fuse f none (.spdm port r false (some f))
    | .secured n g =>
      if f.headBad then d.arrive fuse f none (.frame f none)
      else d.receiveSecured fuse port n { g with addr := f.addr, udp := f.udp, dst := f.dst, dport := f.dport }

/-- What a DOE Discovery object asks for (14 R427): the three types of vendor 1, and the next index, 0 at the end of the list. -/
def doeType (index : Nat) : Out := if index ≤ 2 then .doeDiscovery 1 index ((index + 1) % 3) else .doeDiscovery 0xFFFF 0 0

/-- A data object in the DOE mailbox (14 R427). -/
def Dev.receiveDoe (d : Dev) (fuse : Nat) (x : DoeObject) : Nat × Dev :=
  if !d.spdmOpen .doe then (fuse, d)
  else if d.host.doeError then (fuse, d)
  else if 4096 < x.dwords then (fuse, { d with host := { d.host with doeError := true } })
  else if x.vendor ≠ 1 then (fuse, d)
  else if x.kind = 0 then (fuse, d.emit (doeType x.index))
  else match x.body with
    | .message r => if x.kind = 1 then d.submit fuse (.spdm .doe r false none) else (fuse, d)
    | .secured n f => if x.kind = 2 then d.receiveSecured fuse .doe n f else (fuse, d)

/-- An SPDM request at a port. -/
def Dev.spdmIn (d : Dev) (fuse : Nat) (port : SpdmPort) (r : SpdmReq) (late : Bool) : Nat × Dev :=
  if !d.spdmOpen port then (fuse, d)
  else match port with
    | .doe => d.request fuse false (.spdm port r late none) id
    | .mgmt addr udp => d.request fuse true (.spdm port r late none)
        (fun d => d.frame addr udp (d.ownEnvelope (mgmtHeader d.ht 0 0 0 0 9 0 0x86)) [])

/-- A write of entry (`i`, `s`) by a requester. -/
def Dev.writeIn (d : Dev) (fuse : Nat) (who : Requester) (i s v : Nat) (flashOk : Bool) (pins : Option (BitVec 16)) : Nat × Dev :=
  if !d.requesterOpen who then (fuse, d)
  else d.request fuse (who != .pcie) (.plain who true (odKey i s) v flashOk pins) (fun d => d.answer .plain false 9 0 0)

/-- A read of an entry by a requester. -/
def Dev.readIn (d : Dev) (fuse : Nat) (who : Requester) (i s : Nat) : Nat × Dev :=
  if !d.requesterOpen who then (fuse, d)
  else d.request fuse (who != .pcie) (.plain who false (odKey i s) 0 true none) (fun d => d.answer .plain true 9 0 0)

end Sys2Proof.Machine
end

