-- ==== Sys2Proof/Machine/Ports.lean ====
section
/-! DEFINITION. The commands of the dictionary window, the management port and SPDM (14 R427, R435-R441; 18 R536-R538). -/

namespace Sys2Proof.Machine

/-- OD_READ (14 R435): `OD_SEL` is written, then `OD_CMD` = 1; `OD_DATA` keeps what it held until the answer. -/
def execOdRead (sel : BitVec 24) (s : State) : Host.Outcome State Fault Refusal :=
  runF s (fun fuse d => d.windowCmd fuse false sel.toNat d.host.odData)

/-- OD_WRITE (14 R435): `OD_SEL` and `OD_DATA` are written, then `OD_CMD` = 2. -/
def execOdWrite (sel : BitVec 24) (data : BitVec 256) (s : State) : Host.Outcome State Fault Refusal :=
  runF s (fun fuse d => d.windowCmd fuse true sel.toNat data.toNat)

/-- OD_ENTRY_WRITE (15 R460): a write of any entry by a requester. -/
def execOdEntryWrite (who : Requester) (sel : BitVec 24) (data : BitVec 256) (s : State) : Host.Outcome State Fault Refusal :=
  runF s (fun fuse d => d.writeIn fuse who (bits sel.toNat 8 16) (bits sel.toNat 0 8) data.toNat true none)

/-- MGMT_READ (14 R439). -/
def execMgmtRead (frame : MgmtFrame) (s : State) : Host.Outcome State Fault Refusal :=
  runF s (fun fuse d => d.receiveFrame fuse 1 frame)

/-- MGMT_WRITE (14 R439). -/
def execMgmtWrite (frame : MgmtFrame) (s : State) : Host.Outcome State Fault Refusal :=
  runF s (fun fuse d => d.receiveFrame fuse 2 frame)

/-- MGMT_SUBSCRIBE (14 R441). -/
def execMgmtSubscribe (frame : MgmtFrame) (s : State) : Host.Outcome State Fault Refusal :=
  runF s (fun fuse d => d.receiveFrame fuse 3 frame)

/-- MGMT_EVENT_ACK (14 R441). -/
def execMgmtEventAck (frame : MgmtFrame) (s : State) : Host.Outcome State Fault Refusal :=
  runF s (fun fuse d => d.receiveAck fuse frame)

/-- MGMT_SPDM (18 R536-R538). -/
def execMgmtSpdm (frame : MgmtFrame) (body : SpdmBody) (s : State) : Host.Outcome State Fault Refusal :=
  runF s (fun fuse d => d.receiveSpdm fuse frame body)

/-- MGMT_BAD_MAGIC_FRAME (14 R439). -/
def execMgmtBadMagicFrame (frame : MgmtFrame) (s : State) : Host.Outcome State Fault Refusal :=
  run s (fun _ d => if d.frameTaken frame && !frame.magicOk then d.addSat 0x1210 2 32 1 else d)

/-- An unacknowledged event is due again: re-sent, five times at most, and then dropped (14 R441). -/
def Dev.resendEvent (d : Dev) (i eseq : Nat) : Dev :=
  match d.mgmt.subscribers[i]? with
  | some (some x) =>
    match x.unacked.find? (fun e => e.1 == eseq) with
    | some (_, record, sends, at_) =>
      if d.now < at_ + 20000000 then d
      else if 6 ≤ sends then (d.addSat 0x1210 4 32 1).settleEvent i eseq
      else
        (d.setSubscriber i (some { x with unacked := x.unacked.map (fun e => if e.1 = eseq then (eseq, record, sends + 1, d.now) else e) })).eventFrame
          x eseq record
    | none => d
  | _ => d

/-- MGMT_EVENT_RESEND (14 R441). -/
def execMgmtEventResend (subscriber : Fin 4) (eseq : Word) (s : State) : Host.Outcome State Fault Refusal :=
  run s (fun _ d => d.resendEvent subscriber eseq.toNat)

/-- MGMT_SPEED_ALTERNATE (14 R436): 2 s of one rate pass without a link. -/
def execMgmtSpeedAlternate (s : State) : Host.Outcome State Fault Refusal :=
  run s (fun _ d =>
    if d.get 0x1200 1 = 0 ∧ d.get 0x1200 9 = 0 ∧ d.mgmt.trySince + 2000000000 ≤ d.now then
      { d with mgmt := { d.mgmt with alternate := !d.mgmt.alternate, trySince := d.now } }
    else d)

/-- The rate at which the management link forms (14 R436). -/
def Dev.mgmtRate (d : Dev) : Nat :=
  let m := d.get 0x1200 1
  if m = 2 ∨ (m = 0 ∧ d.mgmt.alternate) then 10 else 25

/-- The forward error correction that goes with it: 0 RS-FEC, 1 BASE-R FEC, 2 none; at 10 Gb/s 0 acts as 2 (14 R436). -/
def Dev.mgmtFec (d : Dev) : Nat :=
  let v := d.get 0x1200 2
  if d.mgmtRate = 10 ∧ v = 0 then 2 else v

/-- MGMT_LINK_CHANGE (14 R436). The link does not come up while its domain is stopped. -/
def execMgmtLinkChange (up : Bool) (s : State) : Host.Outcome State Fault Refusal :=
  run s (fun _ d =>
    if up then (if (d.domain 0xC).stopped || d.get 0x1200 9 == d.mgmtRate then d
      else (d.mgmtLink d.mgmtRate).emit (.mgmtLine d.mgmtRate d.mgmtFec))
    else d.mgmtLink 0)

/-- DOE_REQUEST (14 R427). -/
def execDoeRequest (object : DoeObject) (s : State) : Host.Outcome State Fault Refusal :=
  runF s (fun fuse d => d.receiveDoe fuse object)

/-- GET_VERSION (18 R536). -/
def execGetVersion (port : SpdmPort) (s : State) : Host.Outcome State Fault Refusal :=
  runF s (fun fuse d => d.spdmIn fuse port .getVersion false)

/-- GET_CAPABILITIES (18 R536). -/
def execGetCapabilities (port : SpdmPort) (s : State) : Host.Outcome State Fault Refusal :=
  runF s (fun fuse d => d.spdmIn fuse port .getCapabilities false)

/-- NEGOTIATE_ALGORITHMS (18 R536). -/
def execNegotiateAlgorithms (port : SpdmPort) (offersAll : Bool) (s : State) : Host.Outcome State Fault Refusal :=
  runF s (fun fuse d => d.spdmIn fuse port (.negotiateAlgorithms offersAll) false)

/-- GET_DIGESTS (18 R536). -/
def execGetDigests (port : SpdmPort) (s : State) : Host.Outcome State Fault Refusal :=
  runF s (fun fuse d => d.spdmIn fuse port .getDigests false)

/-- GET_CERTIFICATE (18 R535). -/
def execGetCertificate (port : SpdmPort) (slot offset length : Nat) (s : State) : Host.Outcome State Fault Refusal :=
  runF s (fun fuse d => d.spdmIn fuse port (.getCertificate slot offset length) false)

/-- CHALLENGE (18 R536, R537). -/
def execChallenge (port : SpdmPort) (late : Bool) (slot : Nat) (nonce : BitVec 256) (s : State) : Host.Outcome State Fault Refusal :=
  runF s (fun fuse d => d.spdmIn fuse port (.challenge slot nonce) late)

/-- GET_MEASUREMENTS (18 R537, R539). -/
def execGetMeasurements (port : SpdmPort) (late : Bool) (block : Nat) (s : State) : Host.Outcome State Fault Refusal :=
  runF s (fun fuse d => d.spdmIn fuse port (.getMeasurements block) late)

/-- KEY_EXCHANGE (18 R537, R538). -/
def execKeyExchange (port : SpdmPort) (late : Bool) (slot : Nat) (s : State) : Host.Outcome State Fault Refusal :=
  runF s (fun fuse d => d.spdmIn fuse port (.keyExchange slot) late)

/-- FINISH (18 R536). -/
def execFinish (port : SpdmPort) (session : Nat) (s : State) : Host.Outcome State Fault Refusal :=
  runF s (fun fuse d => d.spdmIn fuse port (.finish session) false)

/-- HEARTBEAT (18 R536). -/
def execHeartbeat (port : SpdmPort) (session : Nat) (s : State) : Host.Outcome State Fault Refusal :=
  runF s (fun fuse d => d.spdmIn fuse port (.heartbeat session) false)

/-- KEY_UPDATE (18 R536). -/
def execKeyUpdate (port : SpdmPort) (session : Nat) (s : State) : Host.Outcome State Fault Refusal :=
  runF s (fun fuse d => d.spdmIn fuse port (.keyUpdate session) false)

/-- END_SESSION (18 R536). -/
def execEndSession (port : SpdmPort) (session : Nat) (s : State) : Host.Outcome State Fault Refusal :=
  runF s (fun fuse d => d.spdmIn fuse port (.endSession session) false)

/-- RESPOND_IF_READY (18 R537). -/
def execRespondIfReady (port : SpdmPort) (token : Nat) (s : State) : Host.Outcome State Fault Refusal :=
  runF s (fun fuse d => d.spdmIn fuse port (.respondIfReady token) false)

/-- SET_CERTIFICATE (18 R535): refused. -/
def execSetCertificate (port : SpdmPort) (slot : Nat) (s : State) : Host.Outcome State Fault Refusal :=
  runF s (fun fuse d => d.spdmIn fuse port (.setCertificate slot) false)

/-- SPDM_UNSUPPORTED_REQUEST (18 R536). -/
def execSpdmUnsupportedRequest (port : SpdmPort) (code : Nat) (s : State) : Host.Outcome State Fault Refusal :=
  runF s (fun fuse d => d.spdmIn fuse port (.other code) false)

end Sys2Proof.Machine
end

