-- ==== Sys2Proof/Machine/Sweep.lean ====
section
/-! DEFINITION. The update sweep (08 R226-R256): the table, the decision, the update of a shard, publication and fingerprints, the
visits out of order, the claim of a version slot, and the check of stored shards. -/

namespace Sys2Proof.Machine

/-! ## Records -/

/-! Fields of a shard-table entry (08 R228). -/

def shId (v : Nat) : Nat := bits v 512 32
def shNoDecay (v : Nat) : Bool := bit v 483
def shNoPrecond (v : Nat) : Bool := bit v 482
def shPp (v : Nat) : Bool := bit v 481
def shResident (v : Nat) : Bool := bit v 480
def shEpoch (v : Nat) : Nat := bits v 464 16
def shXscale (v : Nat) : Int := sgn 8 (bits v 456 8)
def shValidRows (v : Nat) : Nat := bits v 432 24
def shCols (v : Nat) : Nat := bits v 408 24
def shRows (v : Nat) : Nat := bits v 384 24
def shStride (v : Nat) : Nat := bits v 336 48
def shPub (v : Nat) : Nat := bits v 288 48
def shRroot (v : Nat) : Nat := bits v 240 48
def shLroot (v : Nat) : Nat := bits v 192 48
def shState (v : Nat) : Nat := bits v 144 48
def shC (v : Nat) : Nat := bits v 96 48
def shW (v : Nat) : Nat := bits v 48 48
def shGrad (v : Nat) : Nat := bits v 0 48

/-- Elements of a shard's arrays, and valid elements. -/
def shAll (v : Nat) : Nat := shRows v * shCols v
def shLive (v : Nat) : Nat := shValidRows v * shCols v

/-- The offset of a version's bank (08 R230). -/
def shBank (v version : Nat) : Nat := if shPp v then version % 2 * shStride v else 0

/-- Whether a kind keeps v (08 R239). -/
def keepsV (kind : Nat) : Bool := kind != 0

/-- Whether a shard is preconditioned. -/
def shPrecond (kind v : Nat) : Bool := kind == 2 && !shNoPrecond v

/-! Fields of the hyperparameter block (08 R231). -/

def hyClear (h : Nat) : Bool := bit h 232
def hyTile1 (h : Nat) : Nat := bits h 228 4
def hyTile0 (h : Nat) : Nat := bits h 224 4
/-- An A32 field of the block as the sweep takes it: subnormals read as zero in Pedigree mode (02 R59). -/
def hyField (ped : Bool) (h lo : Nat) : Fp := flushIf ped (fmtA32.dec (bits h lo 32))
def hyBc2 (ped : Bool) (h : Nat) : Fp := hyField ped h 192
def hyBc1 (ped : Bool) (h : Nat) : Fp := hyField ped h 160
def hyWd (ped : Bool) (h : Nat) : Fp := hyField ped h 128
def hyEps (ped : Bool) (h : Nat) : Fp := hyField ped h 96
def hyBeta2 (ped : Bool) (h : Nat) : Fp := hyField ped h 64
def hyBeta1 (ped : Bool) (h : Nat) : Fp := hyField ped h 32
def hyLr (ped : Bool) (h : Nat) : Fp := hyField ped h 0

/-! Fields of the norm record (08 R232). -/

def nrNonfinite (v : Nat) : Nat := bits v 192 64
def nrSumsq (v : Nat) : Nat := bits v 128 64

/-! ## The table (08 R229) -/

/-- The entries of a descriptor's table. -/
def Dev.shardTable (d : Dev) (x : Nat) : List Nat := (below (swShardCount x)).map (fun i => d.num (swShardTable x + 128 * i) 128)

/-- Whether an entry violates a rule of 08 R229. -/
def entryRefused (kind v : Nat) : Bool :=
  shRows v == 0 || shCols v == 0 || shValidRows v == 0 || decide (shRows v < shValidRows v) || decide (2 ^ 40 < shAll v)
    || decide (2 ^ 20 ≤ shId v) || (shPrecond kind v && (decide (4096 < shRows v) || decide (4096 < shCols v)))
    || (shPp v && shStride v == 0)

/-- The arrays of an entry's state at a bank offset. -/
def stateExts (kind v off : Nat) : List Ext :=
  [(shW v + off, 2 * shAll v), (shC v + off, 2 * shAll v), (shState v + off, (if keepsV kind then 8 else 4) * shAll v)]

/-- The extents of an entry, both banks counted. -/
def entryExts (kind v : Nat) : List Ext :=
  (shGrad v, 2 * shAll v) :: stateExts kind v 0 ++ (if shPp v then stateExts kind v (shStride v) else [])
    ++ (if shPrecond kind v then [(shLroot v, 2 * shRows v * shRows v), (shRroot v, 2 * shCols v * shCols v)] else [])

/-- Where a descriptor publishes: the base of its slot, or 0 (08 R229, R247). -/
def Dev.pubBase (d : Dev) (x : Nat) : Nat :=
  if swVring x = 0xFFF then 0
  else
    let v := d.vring (swVring x)
    vrSlotBase v (vrSlot v (swNewVersion x))

/-- A descriptor's table is read and checked: the code, 0 where all is well; publication for `SWEEP_SHARDS` alone. -/
def Dev.tableCheck (d : Dev) (x : Nat) (table : List Nat) : Nat :=
  let kind := swOptKind x
  let shards := hdOpcode x == 0x61
  if table.any (entryRefused kind) then ccInvalidField
  else if shards && kind == 2 && (let h := d.num (swHyperAddr x) 64; hyTile0 h == hyTile1 h) then ccInvalidField
  else if shards && swVring x != 0xFFF && !vrUsable (d.vring (swVring x)) then ccInvalidField
  else if !table.all (fun v => (entryExts kind v).all (d.extentIn coreRegions)) then ccAddressRange
  else if shards && !table.all (fun v => d.extentIn coreRegions (d.pubBase x + shPub v, 2 * shLive v)) then ccAddressRange
  else 0

/-- The control data that a sweep descriptor reads at its start. -/
def Dev.sweepControl (x : Nat) (d : Dev) : List Ext :=
  (swShardTable x, 128 * swShardCount x)
    :: (if hdOpcode x = 0x61 then
          [(swHyperAddr x, 64), (swNormAddr x, 64)] ++ (if swVring x = 0xFFF then [] else [(d.vringAddr (swVring x), 64)])
        else [])

/-! ## Arithmetic (08 R233-R239) -/

/-- Round to A32 in the mode in force. -/
def rnd32 (ped : Bool) (x : Fp) : Fp := flushIf ped (rne32 x)

/-- x * y + z rounded once. -/
def fma32 (ped : Bool) (x y z : Fp) : Fp := rnd32 ped (fpAdd (fpMul x y) z)

/-- The gradient values of a shard, as stored. -/
def Dev.gradients (d : Dev) (v : Nat) : List Fp := (below (shLive v)).map (fun i => fmtG16.dec (d.num (shGrad v + 2 * i) 2))

/-- A gradient with the scales taken out (02 R50): times 2^-(L + X). -/
def unscale (ped : Bool) (l : Nat) (v : Nat) (g : Fp) : Fp := rnd32 ped ((flushIf ped g).scale (-((l : Int) + shXscale v)))

/-- One gradient in the norm: the sum of squares and the count of values that are not finite. -/
def normStep (ped : Bool) (a : Fp × Nat) (g : Fp) : Fp × Nat :=
  if !g.isFinite then (a.1, a.2 + 1)
  else if ped then (rnd32 true (fpAdd a.1 (rnd32 true (fpMul g g))), a.2)
  else (rne64 (fpAdd a.1 (fpMul g g)), a.2)

/-- The decision of a step: norm, skip, clip factor (08 R235). -/
structure Decision where
  norm : Fp
  skip : Bool
  clip : Fp
deriving DecidableEq, Repr

/-- The decision from the global fields. -/
def decideStep (ped : Bool) (x record : Nat) : Decision :=
  let s := fmtW64.dec (nrSumsq record)
  let norm := if ped then rnd32 true (fpSqrt (rnd32 true s)) else rne64 (fpSqrt s)
  let bad := fmtW64.dec (nrNonfinite record)
  let limit := flushIf ped (fmtA32.dec (swNormLimit x))
  let clipNorm := flushIf ped (fmtA32.dec (swClipNorm x))
  ⟨norm, !bad.isZero || !norm.isFinite || fpLt limit norm,
    if clipNorm.isZero || fpLe norm clipNorm then fp1
    else if ped then rnd32 true (fpDiv clipNorm norm) else rne32 (rne64 (fpDiv clipNorm norm))⟩

/-- The state of one element as values, and what its update leaves. -/
structure Elem where
  g : Fp
  m : Fp
  v : Fp
deriving DecidableEq, Repr

/-- The new second moment (08 R239). -/
def newV (ped : Bool) (h : Nat) (e : Elem) : Fp :=
  fma32 ped (hyBeta2 ped h) e.v (rnd32 ped (fpMul (rnd32 ped (fpSub fp1 (hyBeta2 ped h))) (rnd32 ped (fpMul e.g e.g))))

/-- The denominator of ADAMW from the new second moment. -/
def denom (ped : Bool) (h : Nat) (v : Fp) : Fp :=
  rnd32 ped (fpAdd (rnd32 ped (fpSqrt (rnd32 ped (fpMul v (hyBc2 ped h))))) (hyEps ped h))

/-- MOMENTUM (08 R239): direction, m, v. -/
def momentum (ped : Bool) (h : Nat) (e : Elem) : Fp × Fp × Fp :=
  let m := fma32 ped (hyBeta1 ped h) e.m e.g
  (m, m, e.v)

/-- ADAMW (08 R239). -/
def adamw (ped : Bool) (h : Nat) (e : Elem) : Fp × Fp × Fp :=
  let m := fma32 ped (hyBeta1 ped h) e.m (rnd32 ped (fpMul (rnd32 ped (fpSub fp1 (hyBeta1 ped h))) e.g))
  let v := newV ped h e
  (rnd32 ped (fpDiv (rnd32 ped (fpMul m (hyBc1 ped h))) (denom ped h v)), m, v)

/-- The sum of squares in W64, in logical order. -/
def sumSquares (l : List Fp) : Fp := l.foldl (fun a x => rne64 (fpAdd a (fpMul x x))) fp0

/-- The graft factor (08 R239). -/
def graft (a p : List Fp) : Fp :=
  let sp := sumSquares p
  if sp.isZero then fp0 else rne32 (rne64 (fpSqrt (fpDiv (sumSquares a) sp)))

/-- KRON_GRAFT over a shard, with the preconditioned gradient (08 R239). -/
def kronGraft (h : Nat) (l : List Elem) (p : List Fp) : List (Fp × Fp × Fp) :=
  let vs := l.map (newV false h)
  let a := (l.zip vs).map (fun q => rne32 (fpDiv q.1.g (denom false h q.2)))
  let k := graft a p
  ((l.zip vs).zip p).map (fun q =>
    let m := fma32 false (hyBeta1 false h) q.1.1.m (rne32 (fpMul k q.2))
    (m, m, q.1.2))

/-- Preconditioning (08 R240): p = LROOT * g16(g) * RROOT, U drained to G16 and p read as A32. -/
def Dev.precondition (d : Dev) (v : Nat) (g : List Fp) : List Fp :=
  let cols := shCols v
  let live := shValidRows v
  let gq := (g.map rne16).toArray
  let at_ (a : Array Fp) (i : Nat) : Fp := (a[i]?).getD fp0
  let rr (k j : Nat) : Fp := fmtG16.dec (d.num (shRroot v + 2 * (cols * k + j)) 2)
  let lr (r k : Nat) : Fp := fmtG16.dec (d.num (shLroot v + 2 * (shRows v * r + k)) 2)
  let u := ((grid live cols).map (fun q =>
    rne16 (rne32 (reduceNative (fun k => if k < cols then some (fpMul (at_ gq (cols * q.1 + k)) (rr k q.2)) else none)
      16 2 cols fp0)))).toArray
  (grid live cols).map (fun q =>
    rne32 (reduceNative (fun k => if k < live then some (fpMul (lr q.1 k) (at_ u (cols * k + q.2))) else none)
      16 2 (shRows v) fp0))

/-- After the sweep the tiles of preconditioning hold unspecified values (08 R240). -/
def Dev.scramble (d : Dev) (t : Nat) : Dev :=
  let x := d.tile t
  let d := d.tear t false
  { d.setTile t { x with spillValid := Config.unspecified d.draws 0 % 2 == 1, spillCount := 1, boundLost := false } with
    draws := d.draws + 1 }

/-- The master update of one element (08 R238; 02 R36, R59): the new patterns of W and c. -/
def masterStep (ped noDecay : Bool) (h w c : Nat) (dir : Fp) : Nat × Nat :=
  let word := if ped then flush32 (fmtA32.dec (w * 65536 + c)) else fmtG16.dec w
  let wd := if noDecay then fp0 else hyWd ped h
  let inc := rnd32 ped (fpMul (hyLr ped h).neg (rnd32 ped (fpAdd dir (rnd32 ped (fpMul wd word)))))
  if ped then
    let p := fmtA32.enc (rnd32 true (fpAdd word inc))
    (p / 65536, p % 65536)
  else masterUpdate w c inc

/-! ## One shard -/

/-- The stored patterns of a shard's state in a bank. -/
structure ShardState where
  w : List Nat
  c : List Nat
  m : List Nat
  v : List Nat
deriving DecidableEq, Repr

/-- `n` numbers of `z` bytes from `a`. -/
def Dev.nums (d : Dev) (a n z : Nat) : List Nat := (below n).map (fun i => d.num (a + z * i) z)

/-- Where v lies. -/
def shVaddr (x : Nat) : Nat := shState x + 4 * shAll x

/-- The state of a shard at a bank offset. -/
def Dev.readState (d : Dev) (kind x off : Nat) : ShardState :=
  let n := shLive x
  ⟨d.nums (shW x + off) n 2, d.nums (shC x + off) n 2, d.nums (shState x + off) n 4,
    if keepsV kind then d.nums (shVaddr x + off) n 4 else []⟩

/-- The extents that hold it. -/
def liveExts (kind x off : Nat) : List Ext :=
  let n := shLive x
  [(shW x + off, 2 * n), (shC x + off, 2 * n), (shState x + off, 4 * n)] ++ (if keepsV kind then [(shVaddr x + off, 4 * n)] else [])

def bytesOf (z : Nat) (l : List Nat) : List Byte := l.flatMap (toBytes z)

/-- Write the state of a shard to a bank. -/
def Dev.writeState (d : Dev) (kind x off : Nat) (s : ShardState) : Dev :=
  let d := ((d.wr (shW x + off) (bytesOf 2 s.w) false).wr (shC x + off) (bytesOf 2 s.c) false).wr (shState x + off) (bytesOf 4 s.m) false
  if keepsV kind then d.wr (shVaddr x + off) (bytesOf 4 s.v) false else d

/-- The two fingerprints of a shard's state (08 R248). -/
def ShardState.prints (s : ShardState) (version x : Nat) : Nat × Nat :=
  (fingerprint (bytesOf 2 s.w) version (shEpoch x) (shId x),
    fingerprint (bytesOf 2 s.c ++ bytesOf 4 s.m ++ bytesOf 4 s.v) version (shEpoch x) (shId x))

/-- The updated state of a shard, and how many values it wrote that are not finite (08 R238, R239, R241). -/
def Dev.updateShard (d : Dev) (r : SweepRun) (kind x : Nat) (s : ShardState) : ShardState × Nat :=
  let ped := d.pedigree
  let h := r.hyper
  let clip := flushIf ped (fmtA32.dec r.clip)
  let g := (d.gradients x).map (fun y => rnd32 ped (fpMul (unscale ped r.lossL x y) clip))
  let vals := if keepsV kind then s.v else s.m.map (fun _ => 0)
  let inp (p : Nat) : Fp := flushIf ped (fmtA32.dec p)
  let elems := (g.zip (s.m.zip vals)).map (fun q => (⟨q.1, inp q.2.1, inp q.2.2⟩ : Elem))
  let out :=
    if kind = 0 then elems.map (momentum ped h)
    else if shPrecond kind x then kronGraft h elems (d.precondition x g)
    else elems.map (adamw ped h)
  let wc := ((s.w.zip s.c).zip out).map (fun q => masterStep ped (shNoDecay x) h q.1.1 q.1.2 q.2.1)
  let m := out.map (fun o => fmtA32.enc o.2.1)
  let v := if keepsV kind then out.map (fun o => fmtA32.enc o.2.2) else []
  let bad := (wc.filter (fun p => bits p.1 7 8 == 255)).length + ((m ++ v).filter (fun p => bits p 23 8 == 255)).length
  (⟨wc.map (fun p => p.1), wc.map (fun p => p.2), m, v⟩, bad)

/-! ## Verifying stored shards (08 R252, R253) -/

/-- The Littermate's record of a shard, where it can supply the version expected (12 R388). -/
def Dev.supplied (d : Dev) (kind x version : Nat) (l : List ShadowRec) : Option ShadowRec :=
  let n := shLive x
  if d.get 0x7200 1 != 1 || !bit (d.shadowEntry (shId x)) 63 then none
  else l.find? (fun s => s.shard == shId x && s.w.length == 2 * n && s.c.length == 2 * n && s.m.length == 4 * n
    && s.v.length == (if keepsV kind then 4 * n else 0) && fpVersion (ofBytes s.fprint) == version)

/-- Where the fingerprint record follows in a shard's shadow record (12 R381). -/
def recordAt (kind x : Nat) : Nat := ((if keepsV kind then 12 else 8) * shAll x + 63) / 64 * 64

/-- Ask the Littermate for a shard's shadow record, as class-4 requests by offset in the committed generation (12 R388). -/
def Dev.askShadow (d : Dev) (kind x : Nat) : Dev :=
  let e := d.shadowEntry (shId x)
  let a := bits (d.get 0x7200 2) 0 14
  if d.get 0x7200 1 != 1 || !bit e 63 then d
  else (granules (bits e 0 40) (recordAt kind x + 32)).foldl (fun d r =>
    if d.reaches a then d.emit (.retrieverRequest a 4 false r.1 [] r.2 false true) else d.dropMessage r.2) d

/-- Whether the stored shard matches its record, with no poisoned data. -/
def Dev.shardGood (d : Dev) (kind x off fp : Nat) (at_ : Nat) : Bool :=
  (d.firstPoison ((at_, 32) :: liveExts kind x off)).isNone
    && (d.readState kind x off).prints (fpVersion fp) x == (fpPub fp, fpState fp)

/-- The check of one shard against its record at `at_`, with the restore of a mismatch; the job fails where that does not help. -/
def Job.verifyShard (j : Job) (s kind x off version at_ : Nat) (shadows : List ShadowRec) : Job :=
  let fp := j.d.num at_ 32
  if !fpValid fp || fpVersion fp != version || fpEpoch fp != shEpoch x || fpShard fp != shId x then
    j.dev (fun d => d.addSat 0x50A0 5 32 1)
  else
    let j := j.dev (fun d => d.addSat 0x50A0 4 64 1)
    if j.d.shardGood kind x off fp at_ then j
    else
      let j := j.dev (fun d => (d.addSat 0x50A0 6 32 1).askShadow kind x)
      match j.d.supplied kind x version shadows with
      | none => (j.fail ccFetchMismatch).raiseStep 0x3544 (shId x) 0 s
      | some r =>
        let st : ShardState := ⟨(chunksOf 2 r.w.length r.w).map ofBytes, (chunksOf 2 r.c.length r.c).map ofBytes,
          (chunksOf 4 r.m.length r.m).map ofBytes, (chunksOf 4 r.v.length r.v).map ofBytes⟩
        let j := j.dev (fun d => (d.writeState kind x off st).addSat 0x50A0 4 64 1)
        if j.d.shardGood kind x off fp at_ then (j.flag sfRefetched).raise 0x2543 (shId x) 0
        else ((j.dev (fun d => d.addSat 0x50A0 6 32 1)).fail ccFetchMismatch).raiseStep 0x3544 (shId x) 0 s

/-! ## Visiting a shard (08 R238) -/

/-- The runs of a shard's shadow record in a bank, and where its fingerprint record follows (12 R381). -/
def Dev.shadowRuns (d : Dev) (kind x off : Nat) : List (Nat × Marked) × Nat :=
  let n := shLive x
  let a := shAll x
  ([(0, d.markedAt (shW x + off) (2 * n)), (2 * a, d.markedAt (shC x + off) (2 * n)), (4 * a, d.markedAt (shState x + off) (4 * n))]
    ++ (if keepsV kind then [(8 * a, d.markedAt (shVaddr x + off) (4 * n))] else []),
   recordAt kind x)

/-- The microseconds an entry was found not eligible. -/
def SweepRun.stallOf (r : SweepRun) (i now : Nat) : Nat :=
  match r.seen.find? (fun v => v.entry == i) with
  | some v => min ((now - v.since) / 1000) 0xFFFFFFFF
  | none => 0

/-- What follows the state of entry `i`: publication, fingerprint record, gradient, `STALL_US` and `NONFINITE_OUT`, ready bit,
shadow, count (08 R236, R238, R241, R247, R249; 12 R380). -/
def Dev.publish (d : Dev) (r : SweepRun) (step desc i x bad : Nat) (s : ShardState) : Dev :=
  let kind := swOptKind desc
  let version := swNewVersion desc
  let d := d.wr (d.pubBase desc + shPub x) (bytesOf 2 s.w) false
  let fp := s.prints version x
  let record := fpRecord fp.1 fp.2 version (shEpoch x) (shId x)
  let d := d.wr (swFprintAddr desc + 32 * i) (toBytes 32 record) false
  let d := if hyClear r.hyper then d.wr (shGrad x) (List.replicate (2 * shLive x) 0#8) false else d
  let d := d.wr (swShardTable desc + 128 * i + 68) (toBytes 4 (r.stallOf i d.now) ++ toBytes 4 (min bad 0xFFFFFFFF)) false
  let d := if shResident x then d.setReady (shId x) false else d
  let q := d.shadowRuns kind x (shBank x version)
  (d.queueShadow step (shId x) q.1 q.2 record).addSat 0x50A0 3 64 1

/-- One shard: entry `i` of the table. A code other than OK stops the sweep. -/
def Job.visit (j : Job) (r : SweepRun) (e : Entry) (i x : Nat) (shadows : List ShadowRec) : Job × Nat :=
  let desc := e.desc
  let kind := swOptKind desc
  let version := swNewVersion desc
  let rd := shBank x ((version + 65535) % 65536)
  let wr := shBank x version
  let j := if r.verify then j.verifyShard e.step kind x rd ((version + 65535) % 65536) (swFprintAddr desc + 32 * i) shadows else j
  if j.done.code != 0 then (j, 0)
  else
    match j.d.firstPoison (liveExts kind x rd) with
    | some a => (j.poisonedAt e.step a, 0)
    | none =>
      if !r.skip && (j.d.firstPoison [(shGrad x, 2 * shLive x)]).isSome then
        ((j.raiseStep 0x3548 (shId x) 0 e.step).fail ccPoisoned, 0)
      else
        let roots := if shPrecond kind x && !r.skip
          then [(shLroot x, 2 * shRows x * shRows x), (shRroot x, 2 * shCols x * shCols x)] else []
        match j.d.firstPoison roots with
        | some a => (j.poisonedAt e.step a, 0)
        | none =>
          let old := j.d.readState kind x rd
          let new := if r.skip then (old, 0) else j.d.updateShard r kind x old
          let j := if r.skip && !shPp x then j else j.dev (fun d => d.writeState kind x wr new.1)
          let j := if roots.isEmpty then j else j.dev (fun d => (d.scramble (hyTile0 r.hyper)).scramble (hyTile1 r.hyper))
          (j.dev (fun d => d.publish r e.step desc i x new.2 new.1), new.2)

/-! ## The course of SWEEP_SHARDS -/

/-- Whether entry `i` is eligible (08 R245). -/
def Dev.eligible (d : Dev) (r : SweepRun) (i : Nat) : Bool :=
  match r.table[i]? with
  | some x => !shResident x || d.readyBit (shId x)
  | none => false

/-- The sweep sequencer holds a sweep, or none. -/
def Dev.setSweep (d : Dev) (r : Option SweepRun) : Dev := { d with cmp := { d.cmp with sweep := r } }

/-- The sweep has ended: `RESULT`, `RESIDENCY_STALL` (04 R106; 08 R246). -/
def Dev.endSweep (d : Dev) (r : SweepRun) : Dev :=
  ((d.setSweep none).addSat 0x50A0 7 64 r.idleUs).finish r.id { r.done with result := r.result }

/-- An update wrote values that are not finite: 0x2546 once for the descriptor (08 R241). -/
def Job.noteNonfinite (j : Job) (r : SweepRun) (e : Entry) (bad : Nat) : Job :=
  if r.nonfinite || bad == 0 then j else j.raise 0x2546 e.ring e.index

/-- The entries found not eligible for the first time are noted (08 R246). -/
def Dev.noteWaiting (d : Dev) (r : SweepRun) : SweepRun :=
  let new := r.left.filter (fun i => !d.eligible r i && !r.seen.any (fun v => v.entry == i))
  { r with seen := r.seen ++ new.map (fun i => ⟨i, d.now, d.get 0x5080 1, false⟩) }

/-- The sweep takes the lowest-indexed eligible entry, again and again, until none is left or none is eligible, or its step is
abandoned (08 R245, R255). -/
def Dev.sweepOn (d : Dev) (r : SweepRun) (e : Entry) (shadows : List ShadowRec) : Nat → Dev
  | 0 => d.endSweep r
  | fuel + 1 =>
    if r.left.isEmpty then d.endSweep r
    else if d.disp.fatalSteps.contains e.step then
      d.endSweep { r with done := { r.done with code := if r.done.code = 0 then ccAbandoned else r.done.code } }
    else
      let r := d.noteWaiting r
      match r.left.find? (d.eligible r) with
      | none => d.setSweep (some { r with idleFrom := some d.now })
      | some i =>
        let (j, bad) := (⟨d, r.done⟩ : Job).visit r e i ((r.table[i]?).getD 0) shadows
        let j := j.noteNonfinite r e bad
        let r := { r with left := r.left.filter (fun k => k != i), done := j.done, nonfinite := r.nonfinite || decide (0 < bad) }
        if j.done.code != 0 then j.d.endSweep r
        else Dev.sweepOn j.d { r with processed := r.processed + 1 } e shadows fuel

/-- The step's decision is noted, with 0x2547 once where sweeps of one step disagree (08 R237). -/
def Job.noteDecision (j : Job) (s ring index : Nat) (skip : Bool) : Job :=
  let k := (j.d.cmp.skips.find? (fun k => k.step == s)).getD ⟨s, false, false, false⟩
  let k := if skip then { k with skipped := true } else { k with kept := true }
  let mixed := k.skipped && k.kept && !k.mixed
  let j := j.dev (fun d => { d with cmp := { d.cmp with
    skips := { k with mixed := k.mixed || mixed } :: d.cmp.skips.filter (fun y => y.step != s) } })
  if mixed then j.raise 0x2547 ring index else j

/-- The start of `SWEEP_SHARDS` after its checks: the decision is written, the claim made or awaited (05 R159, R160; 08 R235-R237). -/
def Job.sweepStart (j : Job) (e : Entry) (table : List Nat) (shadows : List ShadowRec) : Dev :=
  let x := e.desc
  let ped := j.d.pedigree
  let c := decideStep ped x (j.d.num (swNormAddr x) 64)
  let clip := fmtA32.enc c.clip
  let j := j.dev (fun d => d.wr (swNormAddr x + 32) (toBytes 8 (fmtW64.enc c.norm) ++ toBytes 4 clip ++ [BitVec.ofNat 8 (b2n c.skip)]) false)
  let j := if c.skip then (j.raise 0x0540 e.ring e.index).flag sfSkipped else j
  let j := j.noteDecision e.step e.ring e.index c.skip
  let d := j.d.shadowStart e.step
  let every := d.get 0x50A0 2
  let r : SweepRun :=
    { id := e.id, claiming := false, since := d.now, watch := d.get 0x5080 1, raised := false, table := table
      hyper := d.num (swHyperAddr x) 64, lossL := d.lossL, skip := c.skip, clip := clip
      verify := every != 0 && e.step % every == 0, left := below table.length, seen := [], idleFrom := none, idle := 0, processed := 0
      nonfinite := false, done := j.done }
  if swVring x = 0xFFF then d.sweepOn r e shadows (table.length + 1)
  else
    let v := d.vring (swVring x)
    if claimReady v (swNewVersion x) then
      (d.setVring (swVring x) (claimed v (swNewVersion x))).sweepOn r e shadows (table.length + 1)
    else (d.addSat 0x5090 2 32 1).setSweep (some { r with claiming := true })

/-- The checks at the start of a sweep descriptor; `f` goes on with the table. -/
def Dev.sweepCheck (d : Dev) (e : Entry) (f : Job → List Nat → Dev) : Dev :=
  let x := e.desc
  match d.firstPoison (Dev.sweepControl x d) with
  | some a =>
    let j := (Job.start d).poisonedAt e.step a
    j.d.finish e.id j.done
  | none =>
    let table := d.shardTable x
    let c := d.tableCheck x table
    if c != 0 then d.finish e.id { Done.init with code := c } else f (Job.start d) table

/-- Start sweep descriptor `id`, if its opcode is `op` and it may start. -/
def Dev.startSweep (d : Dev) (id op : Nat) (ecc : List EccHit) (f : Job → Entry → List Nat → Dev) : Dev :=
  match d.entry id with
  | none => d
  | some e =>
    if hdOpcode e.desc != op || !d.mayStart e then d
    else
      let d := (d.markStarted e).eccRead [] ecc
      let e := { e with started := true, step := d.stepOf e.desc }
      d.sweepCheck e (fun j t => f j e t)

/-- Sweep `id` of the next step waits for the commit of a shadowed step: since when (12 R383). -/
def Dev.waitCommit (d : Dev) (id : Nat) : Dev :=
  match d.shadow.waitFrom with
  | some (i, _) => if i = id then d else { d with shadow := { d.shadow with waitFrom := some (id, d.now) } }
  | none => { d with shadow := { d.shadow with waitFrom := some (id, d.now) } }

/-- Whether descriptor `id` is a `SWEEP_SHARDS` that may start but for the commit of the step before (12 R383). -/
def Dev.awaitsCommit (d : Dev) (id : Nat) : Bool :=
  match d.entry id with
  | some e => hdOpcode e.desc == 0x61 && d.mayStart e && d.shadowWaits (d.stepOf e.desc)
  | none => false

/-- SWEEP_SHARDS (08 R229-R247). -/
def execSweepShards (id : Nat) (shadows : List ShadowRec) (ecc : List EccHit) (s : State) : Host.Outcome State Fault Refusal :=
  run s (fun _ d =>
    if d.awaitsCommit id then d.waitCommit id
    else d.startSweep id 0x61 ecc (fun j e t => (j.dev (fun d => d.waitOver id)).sweepStart e t shadows))

/-- The sum over a table for the norm check: each entry's gradients in table order; the entry with a poisoned gradient stops it. -/
def Dev.normSum (d : Dev) (table : List Nat) : (Fp × Nat) × Nat × Option Nat :=
  table.foldl (fun (a : (Fp × Nat) × Nat × Option Nat) x =>
    if a.2.2.isSome then a
    else if (d.firstPoison [(shGrad x, 2 * shLive x)]).isSome then (a.1, a.2.1, some x)
    else (((d.gradients x).map (unscale d.pedigree d.lossL x)).foldl (normStep d.pedigree) a.1, a.2.1 + 1, none))
    ((fp0, 0), 0, none)

/-- SWEEP_NORM_CHECK (08 R233, R256). -/
def execSweepNormCheck (id : Nat) (ecc : List EccHit) (s : State) : Host.Outcome State Fault Refusal :=
  run s (fun _ d => d.startSweep id 0x60 ecc (fun j e t =>
    let r := j.d.normSum t
    let j := match r.2.2 with
      | some x => (j.raiseStep 0x3548 (shId x) 0 e.step).fail ccPoisoned
      | none => j.dev (fun d => d.wr (swNormAddr e.desc)
          (toBytes 8 (fmtW64.enc r.1.1) ++ toBytes 8 (fmtW64.enc (fpNat r.1.2))) false)
    j.d.finish e.id (j.result (r.2.1 <<< 32)).done))

/-- SWEEP_VERIFY (08 R252, R253): bank `NEW_VERSION` mod 2, in table order. -/
def execSweepVerify (id : Nat) (shadows : List ShadowRec) (ecc : List EccHit) (s : State) : Host.Outcome State Fault Refusal :=
  run s (fun _ d => d.startSweep id 0x62 ecc (fun j e t =>
    let x := e.desc
    let r := (t.zipIdx).foldl (fun (a : Job × Nat) q =>
      if a.1.done.code != 0 then a
      else
        let j := a.1.verifyShard e.step (swOptKind x) q.1 (shBank q.1 (swNewVersion x)) (swNewVersion x) (swFprintAddr x + 32 * q.2) shadows
        (j, if j.done.code = 0 then a.2 + 1 else a.2)) (j, 0)
    r.1.d.finish e.id (r.1.result (r.2 <<< 32)).done))

/-! ## The commands of a sweep under way -/

/-- The sweep under way with its entry. -/
def Dev.sweeping (d : Dev) : Option (SweepRun × Entry) :=
  match d.cmp.sweep with
  | some r => (d.entry r.id).map (fun e => (r, e))
  | none => none

/-- VRING_CLAIM (05 R159-R161): the slot's `REFS` has reached 0; or the step was abandoned while the claim waited (08 R255). Each wait
counts in whole microseconds, its fraction dropped (DESIGN CHOICE, log entry 160). Nothing goes on after a device-fatal event (00 R10). -/
def execVringClaim (shadows : List ShadowRec) (ecc : List EccHit) (s : State) : Host.Outcome State Fault Refusal :=
  run s (fun _ d =>
    match d.sweeping with
    | none => d
    | some (r, e) =>
      let n := swVring e.desc
      let v := d.vring n
      let us := (d.now - r.since) / 1000
      if !r.claiming || d.disp.fatal then d
      else if d.disp.fatalSteps.contains e.step then
        (d.setVring n (claimStall v us)).sweepOn { r with claiming := false } e shadows 1
      else if !claimReady v (swNewVersion e.desc) then d
      else
        let v := claimStall (claimed v (swNewVersion e.desc)) us
        ((d.eccRead [] ecc).setVring n v).sweepOn { r with claiming := false } e shadows (r.left.length + 1))

/-- VRING_CLAIM_WAIT (05 R160). -/
def execVringClaimWait (s : State) : Host.Outcome State Fault Refusal :=
  run s (fun _ d =>
    match d.sweeping with
    | none => d
    | some (r, e) =>
      if !r.claiming || r.raised || r.watch == 0 || decide (d.now - r.since ≤ r.watch * 1000000) then d
      else
        let n := swVring e.desc
        let j := (⟨d, r.done⟩ : Job).raise 0x0532 n (vrSlot (d.vring n) (swNewVersion e.desc))
        j.d.setSweep (some { r with raised := true, done := j.done }))

/-- SWEEP_SHARD_ELIGIBLE (08 R245, R246): the waiting sweep looks at the map again; or its step was abandoned (08 R255). -/
def execSweepShardEligible (shadows : List ShadowRec) (ecc : List EccHit) (s : State) : Host.Outcome State Fault Refusal :=
  run s (fun _ d =>
    match d.sweeping with
    | none => d
    | some (r, e) =>
      match r.idleFrom with
      | none => d
      | some t =>
        if d.disp.fatal || (!d.disp.fatalSteps.contains e.step && !r.left.any (d.eligible r)) then d
        else (d.eccRead [] ecc).sweepOn { r with idleFrom := none, idle := r.idle + (d.now - t) } e shadows (r.left.length + 1))

/-- SWEEP_RESIDENCY_WAIT (08 R246): one shard has waited longer than `WAIT_WATCH`. -/
def execSweepResidencyWait (entry : Nat) (s : State) : Host.Outcome State Fault Refusal :=
  run s (fun _ d =>
    match d.sweeping with
    | none => d
    | some (r, _) =>
      match r.seen.find? (fun v => v.entry == entry) with
      | none => d
      | some v =>
        if !r.left.contains entry || v.raised || v.watch == 0 || d.eligible r entry || decide (d.now - v.since ≤ v.watch * 1000000) then d
        else
          let j := (⟨d, r.done⟩ : Job).raise 0x0545 (shId ((r.table[entry]?).getD 0)) 0
          j.d.setSweep (some { r with
            done := j.done
            seen := r.seen.map (fun w => if w.entry = entry then { w with raised := true } else w) }))

end Sys2Proof.Machine
end

