-- ==== Sys2Proof/Machine/Wake.lean ====
section
/-! DEFINITION. The clock commands after which the Shepherd domain may run again, so that waiting requests are served (17 R506, R515,
R520). -/

namespace Sys2Proof.Machine

/-- The monitor of a source trips (17 R515, R517). -/
def Dev.monitorTrip (d : Dev) (n : Nat) (kind : TripKind) : Dev :=
  if n = 0 || !isSource n || !d.sourcePowered n || (d.source n).failed then d
  else ((d.trip n (kind == .stopped)).laneReference n).tripLoops n

/-- How long a source has run since its last enable, in nanoseconds, before it can be ready (17 R504). -/
def steadyTime (n : Nat) : Nat := if n = 1 then 20000 else if n ≤ 4 then 1000000 else 0

/-- A source reports ready (17 R504-R506). -/
def Dev.sourceUp (d : Dev) (n : Nat) : Dev :=
  if !isSource n || !d.sourcePowered n || (d.source n).failed || (d.source n).ready || decide (d.now < (d.source n).startAt + steadyTime n) then d
  else if 16 ≤ n ∧ !d.sourceReady (d.loopRef (n - 16)) then d
  else d.becomesReady n

/-- An oscillator's start-up limit passes; the domains that await it await the next member of their chains (17 R506, R515). -/
def Dev.startFailed (d : Dev) (n : Nat) : Dev :=
  match startLimit n with
  | some t =>
    let x := d.source n
    if x.ready || x.failed || !decide (x.startAt + t ≤ d.now) then d
    else
      let d := d.setSource n { x with failed := true }
      domainList.foldl (fun d k =>
        let y := d.domain k
        if y.hold && y.awaited == n then d.await k (d.nextMember k n y.prior) else d) d
  | none => d

/-- An attempt of loop `k` to lock (17 R506): every 1 ms while the reference is ready and the loop is not. -/
def Dev.lockAttempt (d : Dev) (k : Nat) (locked : Bool) : Dev :=
  let n := 16 + k
  let x := d.source n
  if x.ready || !d.sourcePowered n || !d.sourceReady (d.loopRef k) || !decide (x.startAt + 1000000 ≤ d.now) then d
  else if locked then d.becomesReady n
  else d.setSource n { x with startAt := d.now }

/-- CLK_MONITOR_TRIP (17 R504-R507, R515, R517). -/
def execClkMonitorTrip (source : Fin 32) (kind : TripKind) (s : State) : Host.Outcome State Fault Refusal :=
  runF s (fun fuse d => (d.monitorTrip source kind).wake fuse)

/-- CLK_SOURCE_READY (17 R504-R506, R515). -/
def execClkSourceReady (source : Fin 32) (s : State) : Host.Outcome State Fault Refusal :=
  runF s (fun fuse d => (d.sourceUp source).wake fuse)

/-- OSCILLATOR_START_FAILED (17 R506, R515). -/
def execOscillatorStartFailed (source : Fin 32) (s : State) : Host.Outcome State Fault Refusal :=
  runF s (fun fuse d => (d.startFailed source).wake fuse)

/-- LOOP_RELOCK_ATTEMPT (17 R506). -/
def execLoopRelockAttempt (loop : Fin 12) (locked : Bool) (s : State) : Host.Outcome State Fault Refusal :=
  runF s (fun fuse d => (d.lockAttempt loop locked).wake fuse)

end Sys2Proof.Machine
end

