-- ==== Sys2Proof/Machine/Writes.lean ====
section
/-! DEFINITION. The commands that are a write, or a read, of one dictionary entry by a requester: Leash requests, port, swap, Trail,
Sniffer, power, clock, security, update, reset, ledger and calendar commands. Each runs the checks of 14 R590 on its entry. -/

namespace Sys2Proof.Machine

/-- LEASH_ACQUIRE (14 R445). -/
def execLeashAcquire (who : Requester) (leash : Fin 32) (s : State) : Host.Outcome State Fault Refusal :=
  runF s (fun fuse d => d.writeIn fuse who 0x1100 1 (0x100 + leash.val) true none)

/-- LEASH_RENEW (14 R445). -/
def execLeashRenew (who : Requester) (leash : Fin 32) (s : State) : Host.Outcome State Fault Refusal :=
  runF s (fun fuse d => d.writeIn fuse who 0x1100 1 (0x200 + leash.val) true none)

/-- LEASH_RELEASE (14 R445). -/
def execLeashRelease (who : Requester) (leash : Fin 32) (s : State) : Host.Outcome State Fault Refusal :=
  runF s (fun fuse d => d.writeIn fuse who 0x1100 1 (0x300 + leash.val) true none)

/-- FORCE_DOWN (10 R322: a write of `PORT_CTRL` with its bit set, and whatever else `also` sets). -/
def execForceDown (who : Requester) (port : Fin 6) (also : BitVec 4) (s : State) : Host.Outcome State Fault Refusal :=
  runF s (fun fuse d => d.writeIn fuse who 0x3011 (port.val + 1) (also.toNat ||| 8) true none)

/-- REARM (10 R322: a write of `PORT_CTRL` with its bit set, and whatever else `also` sets). -/
def execRearm (who : Requester) (port : Fin 6) (also : BitVec 4) (s : State) : Host.Outcome State Fault Refusal :=
  runF s (fun fuse d => d.writeIn fuse who 0x3011 (port.val + 1) (also.toNat ||| 4) true none)

/-- RETRAIN (10 R322: a write of `PORT_CTRL` with its bit set, and whatever else `also` sets). -/
def execRetrain (who : Requester) (port : Fin 6) (also : BitVec 4) (s : State) : Host.Outcome State Fault Refusal :=
  runF s (fun fuse d => d.writeIn fuse who 0x3011 (port.val + 1) (also.toNat ||| 2) true none)

/-- REDISCOVER (10 R322: a write of `PORT_CTRL` with its bit set, and whatever else `also` sets). -/
def execRediscover (who : Requester) (port : Fin 6) (also : BitVec 4) (s : State) : Host.Outcome State Fault Refusal :=
  runF s (fun fuse d => d.writeIn fuse who 0x3011 (port.val + 1) (also.toNat ||| 1) true none)

/-- STEP_ABANDON_WRITE (12 R379). -/
def execStepAbandonWrite (who : Requester) (value : DWord) (s : State) : Host.Outcome State Fault Refusal :=
  runF s (fun fuse d => d.writeIn fuse who 0x7300 6 value.toNat true none)

/-- HOWL_SEND_WRITE (12 R374). -/
def execHowlSendWrite (who : Requester) (value : BitVec 16) (s : State) : Host.Outcome State Fault Refusal :=
  runF s (fun fuse d => d.writeIn fuse who 0x7300 2 value.toNat true none)

/-- SWAP_ARM (11 R340, R341). -/
def execSwapArm (who : Requester) (s : State) : Host.Outcome State Fault Refusal :=
  runF s (fun fuse d => d.writeIn fuse who 0x3300 2 1 true none)

/-- SWAP_DISARM (11 R340). -/
def execSwapDisarm (who : Requester) (s : State) : Host.Outcome State Fault Refusal :=
  runF s (fun fuse d => d.writeIn fuse who 0x3300 2 2 true none)

/-- TRAIL_FREEZE (12 R391). -/
def execTrailFreeze (who : Requester) (s : State) : Host.Outcome State Fault Refusal :=
  runF s (fun fuse d => d.writeIn fuse who 0x7100 1 1 true none)

/-- TRAIL_RESUME (12 R391). -/
def execTrailResume (who : Requester) (s : State) : Host.Outcome State Fault Refusal :=
  runF s (fun fuse d => d.writeIn fuse who 0x7100 1 2 true none)

/-- TRAIL_DUMP (12 R392, 19 R566). -/
def execTrailDump (who : Requester) (flashOk : Bool) (s : State) : Host.Outcome State Fault Refusal :=
  runF s (fun fuse d => d.writeIn fuse who 0x7100 1 3 flashOk none)

/-- TRAIL_MARK_WRITE (12 R390, kind 9). -/
def execTrailMarkWrite (who : Requester) (value : DWord) (s : State) : Host.Outcome State Fault Refusal :=
  runF s (fun fuse d => d.writeIn fuse who 0x7100 9 value.toNat true none)

/-- SN_CLOSE (13 R409, R410). -/
def execSnClose (who : Requester) (unit : Fin 8) (s : State) : Host.Outcome State Fault Refusal :=
  runF s (fun fuse d => d.writeIn fuse who (0x7400 + unit.val) 1 2 true none)

/-- SN_RESET (13 R409). -/
def execSnReset (who : Requester) (unit : Fin 8) (s : State) : Host.Outcome State Fault Refusal :=
  runF s (fun fuse d => d.writeIn fuse who (0x7400 + unit.val) 1 1 true none)

/-- SN_CONTEXT_WRITE (13 R408). -/
def execSnContextWrite (who : Requester) (unit : Fin 8) (field : SnCtx) (value : DWord) (s : State) : Host.Outcome State Fault Refusal :=
  runF s (fun fuse d => d.writeIn fuse who (0x7400 + unit.val) (if field = .value then 6 else 7) value.toNat true none)

/-- EPOCH_VALUE_WRITE (11 R364). -/
def execEpochValueWrite (who : Requester) (value : BitVec 16) (s : State) : Host.Outcome State Fault Refusal :=
  runF s (fun fuse d => d.writeIn fuse who 0x3520 2 value.toNat true none)

/-- PSTATE_CMD_STANDBY (16 R480, R483, R500). -/
def execPstateCmdStandby (who : Requester) (s : State) : Host.Outcome State Fault Refusal :=
  runF s (fun fuse d => d.writeIn fuse who 0x2000 1 0 true none)

/-- PSTATE_CMD_HOLD (16 R480, R483, R500). -/
def execPstateCmdHold (who : Requester) (s : State) : Host.Outcome State Fault Refusal :=
  runF s (fun fuse d => d.writeIn fuse who 0x2000 1 1 true none)

/-- PSTATE_CMD_READY (16 R480, R483, R500). -/
def execPstateCmdReady (who : Requester) (s : State) : Host.Outcome State Fault Refusal :=
  runF s (fun fuse d => d.writeIn fuse who 0x2000 1 2 true none)

/-- PSTATE_CMD_RUN (16 R480, R483, R500). -/
def execPstateCmdRun (who : Requester) (s : State) : Host.Outcome State Fault Refusal :=
  runF s (fun fuse d => d.writeIn fuse who 0x2000 1 3 true none)

/-- DOMAIN_SOURCE_WRITE (17 R511, R513). -/
def execDomainSourceWrite (who : Requester) (domain : Fin 14) (source : Byte) (s : State) : Host.Outcome State Fault Refusal :=
  runF s (fun fuse d => d.writeIn fuse who 0x2100 (domain.val + 1) source.toNat true none)

/-- LOOP_CONFIG_WRITE (17 R508, R510). -/
def execLoopConfigWrite (who : Requester) (reg : LoopReg) (loop : Fin 12) (value : Word) (s : State) : Host.Outcome State Fault Refusal :=
  runF s (fun fuse d => d.writeIn fuse who (if reg = .ref then 0x2130 else 0x2131) (loop.val + 1) value.toNat true none)

/-- ROLLBACK_COMMIT (18 R542). -/
def execRollbackCommit (who : Requester) (value : Byte) (s : State) : Host.Outcome State Fault Refusal :=
  runF s (fun fuse d => d.writeIn fuse who 0x8000 3 value.toNat true none)

/-- DEBUG_TOKEN_DATA_WRITE (15 R474). -/
def execDebugTokenDataWrite (who : Requester) (data : BitVec 256) (s : State) : Host.Outcome State Fault Refusal :=
  runF s (fun fuse d => d.writeIn fuse who 0x8020 4 data.toNat true none)

/-- DEBUG_TOKEN_SUBMIT (18 R545). -/
def execDebugTokenSubmit (who : Requester) (s : State) : Host.Outcome State Fault Refusal :=
  runF s (fun fuse d => d.writeIn fuse who 0x8020 5 1 true none)

/-- DEBUG_LOCK (18 R543). -/
def execDebugLock (who : Requester) (s : State) : Host.Outcome State Fault Refusal :=
  runF s (fun fuse d => d.writeIn fuse who 0x8020 5 2 true none)

/-- FW_UPD_BEGIN (18 R540). -/
def execFwUpdBegin (who : Requester) (s : State) : Host.Outcome State Fault Refusal :=
  runF s (fun fuse d => d.writeIn fuse who 0x9100 1 1 true none)

/-- FW_UPD_DATA_WRITE (15 R478, 18 R541). -/
def execFwUpdDataWrite (who : Requester) (data : BitVec 256) (s : State) : Host.Outcome State Fault Refusal :=
  runF s (fun fuse d => d.writeIn fuse who 0x9100 3 data.toNat true none)

/-- FW_UPD_VERIFY (18 R540). -/
def execFwUpdVerify (who : Requester) (s : State) : Host.Outcome State Fault Refusal :=
  runF s (fun fuse d => d.writeIn fuse who 0x9100 1 2 true none)

/-- FW_UPD_CANCEL (18 R540). -/
def execFwUpdCancel (who : Requester) (s : State) : Host.Outcome State Fault Refusal :=
  runF s (fun fuse d => d.writeIn fuse who 0x9100 1 3 true none)

/-- FW_UPD_ACTIVATE (18 R540). -/
def execFwUpdActivate (who : Requester) (s : State) : Host.Outcome State Fault Refusal :=
  runF s (fun fuse d => d.writeIn fuse who 0x9100 1 4 true none)

/-- WARM_RESET (19 R555, R557). -/
def execWarmReset (who : Requester) (s : State) : Host.Outcome State Fault Refusal :=
  runF s (fun fuse d => d.writeIn fuse who 0x9000 1 1 true none)

/-- FULL_RESET (19 R555, R557). -/
def execFullReset (who : Requester) (pins : BitVec 16) (s : State) : Host.Outcome State Fault Refusal :=
  runF s (fun fuse d => d.writeIn fuse who 0x9000 1 2 true (some pins))

/-- LEDGER_ACK (19 R560). -/
def execLedgerAck (who : Requester) (value : Word) (s : State) : Host.Outcome State Fault Refusal :=
  runF s (fun fuse d => d.writeIn fuse who 0x9010 0xD value.toNat true none)

/-- TRAIL_DUMP_RELEASE (19 R566, R567). -/
def execTrailDumpRelease (who : Requester) (slot : Byte) (s : State) : Host.Outcome State Fault Refusal :=
  runF s (fun fuse d => d.writeIn fuse who 0x9020 3 slot.toNat true none)

/-- CALENDAR_WRITE (19 R568). -/
def execCalendarWrite (who : Requester) (value : DWord) (s : State) : Host.Outcome State Fault Refusal :=
  runF s (fun fuse d => d.writeIn fuse who 0xA000 1 value.toNat true none)

/-- TRAIL_ENTRY_READ (12 R393). -/
def execTrailEntryRead (who : Requester) (s : State) : Host.Outcome State Fault Refusal :=
  runF s (fun fuse d => d.readIn fuse who 0x7110 2)

end Sys2Proof.Machine
end

