-- ==== Sys2Proof/Machine/Dispatch.lean ====
section
/-! DEFINITION. One arm per command: its meaning on the state whose queue no longer holds it. -/

namespace Sys2Proof.Machine

/-- The effect of a command on everything but the queue. -/
def exec (i : Instr) (s : State) : Host.Outcome State Fault Refusal :=
  match i with
  | .doorbellWrite ring value => Sys2Proof.Machine.execDoorbellWrite ring value s
  | .eventCounterWrite counter value => Sys2Proof.Machine.execEventCounterWrite counter value s
  | .ringConfigWrite ring reg part value => Sys2Proof.Machine.execRingConfigWrite ring reg part value s
  | .ringEnable ring => Sys2Proof.Machine.execRingEnable ring s
  | .ringDisable ring => Sys2Proof.Machine.execRingDisable ring s
  | .ringReset ring also => Sys2Proof.Machine.execRingReset ring also s
  | .ringAbort ring also => Sys2Proof.Machine.execRingAbort ring also s
  | .ringResume ring also => Sys2Proof.Machine.execRingResume ring also s
  | .cplHeadWrite ring value => Sys2Proof.Machine.execCplHeadWrite ring value s
  | .descriptorIssue host ecc => Sys2Proof.Machine.execDescriptorIssue host ecc s
  | .descriptorCompletion id => Sys2Proof.Machine.execDescriptorCompletion id s
  | .waitWatchExpired id => Sys2Proof.Machine.execWaitWatchExpired id s
  | .arrayMatmul id ecc => Sys2Proof.Machine.execArrayMatmul id ecc s
  | .arrayTwin id ecc => Sys2Proof.Machine.execArrayTwin id ecc s
  | .arrayDrain id ecc => Sys2Proof.Machine.execArrayDrain id ecc s
  | .tapFlush => Sys2Proof.Machine.execTapFlush s
  | .vecMap id ecc => Sys2Proof.Machine.execVecMap id ecc s
  | .vecNorm id ecc => Sys2Proof.Machine.execVecNorm id ecc s
  | .vecSoftmax id ecc => Sys2Proof.Machine.execVecSoftmax id ecc s
  | .vecLoss id ecc => Sys2Proof.Machine.execVecLoss id ecc s
  | .vecReduce id ecc => Sys2Proof.Machine.execVecReduce id ecc s
  | .vecConvert id ecc => Sys2Proof.Machine.execVecConvert id ecc s
  | .moveCopy id ecc => Sys2Proof.Machine.execMoveCopy id ecc s
  | .moveFromHost id host ecc => Sys2Proof.Machine.execMoveFromHost id host ecc s
  | .moveToHost id ecc => Sys2Proof.Machine.execMoveToHost id ecc s
  | .moveFill id => Sys2Proof.Machine.execMoveFill id s
  | .retrieveFetch id first second => Sys2Proof.Machine.execRetrieveFetch id first second s
  | .retrievePrefetch id ecc => Sys2Proof.Machine.execRetrievePrefetch id ecc s
  | .retrieveOffload id remote ecc => Sys2Proof.Machine.execRetrieveOffload id remote ecc s
  | .retrieveRestore id remote ecc => Sys2Proof.Machine.execRetrieveRestore id remote ecc s
  | .remoteRetrieverRequest port source write addr body ecc => Sys2Proof.Machine.execRemoteRetrieverRequest port source write addr body ecc s
  | .collReduceScatter id ecc => Sys2Proof.Machine.execCollReduceScatter id ecc s
  | .collAllGather id ecc => Sys2Proof.Machine.execCollAllGather id ecc s
  | .collBroadcast id ecc => Sys2Proof.Machine.execCollBroadcast id ecc s
  | .collPermute id ecc => Sys2Proof.Machine.execCollPermute id ecc s
  | .collExactReduce id ecc => Sys2Proof.Machine.execCollExactReduce id ecc s
  | .ceRoot id ecc => Sys2Proof.Machine.execCeRoot id ecc s
  | .ceCholInv id ecc => Sys2Proof.Machine.execCeCholInv id ecc s
  | .ceLsq id ecc => Sys2Proof.Machine.execCeLsq id ecc s
  | .sweepNormCheck id ecc => Sys2Proof.Machine.execSweepNormCheck id ecc s
  | .sweepShards id shadows ecc => Sys2Proof.Machine.execSweepShards id shadows ecc s
  | .vringClaim shadows ecc => Sys2Proof.Machine.execVringClaim shadows ecc s
  | .vringClaimWait => Sys2Proof.Machine.execVringClaimWait s
  | .sweepShardEligible shadows ecc => Sys2Proof.Machine.execSweepShardEligible shadows ecc s
  | .sweepResidencyWait entry => Sys2Proof.Machine.execSweepResidencyWait entry s
  | .sweepVerify id shadows ecc => Sys2Proof.Machine.execSweepVerify id shadows ecc s
  | .syncNop id => Sys2Proof.Machine.execSyncNop id s
  | .syncWaitHt id => Sys2Proof.Machine.execSyncWaitHt id s
  | .syncCounterSet id => Sys2Proof.Machine.execSyncCounterSet id s
  | .syncStepBoundary id => Sys2Proof.Machine.execSyncStepBoundary id s
  | .syncMarker id => Sys2Proof.Machine.execSyncMarker id s
  | .patrolScrub addr found => Sys2Proof.Machine.execPatrolScrub addr found s
  | .bar2Read offset read => Sys2Proof.Machine.execBar2Read offset read s
  | .bar2Write offset bytes => Sys2Proof.Machine.execBar2Write offset bytes s
  | .pcieConfigRequest write offset value => Sys2Proof.Machine.execPcieConfigRequest write offset value s
  | .pcieLinkDown => Sys2Proof.Machine.execPcieLinkDown s
  | .msixUnmask write => Sys2Proof.Machine.execMsixUnmask write s
  | .doeRequest object => Sys2Proof.Machine.execDoeRequest object s
  | .evqConfigWrite reg part value => Sys2Proof.Machine.execEvqConfigWrite reg part value s
  | .evqHeadWrite value => Sys2Proof.Machine.execEvqHeadWrite value s
  | .odRead sel => Sys2Proof.Machine.execOdRead sel s
  | .odWrite sel data => Sys2Proof.Machine.execOdWrite sel data s
  | .odEntryWrite who sel data => Sys2Proof.Machine.execOdEntryWrite who sel data s
  | .mgmtRead frame => Sys2Proof.Machine.execMgmtRead frame s
  | .mgmtWrite frame => Sys2Proof.Machine.execMgmtWrite frame s
  | .mgmtSubscribe frame => Sys2Proof.Machine.execMgmtSubscribe frame s
  | .mgmtEventAck frame => Sys2Proof.Machine.execMgmtEventAck frame s
  | .mgmtSpdm frame body => Sys2Proof.Machine.execMgmtSpdm frame body s
  | .mgmtBadMagicFrame frame => Sys2Proof.Machine.execMgmtBadMagicFrame frame s
  | .mgmtEventResend subscriber eseq => Sys2Proof.Machine.execMgmtEventResend subscriber eseq s
  | .mgmtSpeedAlternate => Sys2Proof.Machine.execMgmtSpeedAlternate s
  | .mgmtLinkChange up => Sys2Proof.Machine.execMgmtLinkChange up s
  | .ptpMessageReceived msg => Sys2Proof.Machine.execPtpMessageReceived msg s
  | .leashAcquire who leash => Sys2Proof.Machine.execLeashAcquire who leash s
  | .leashArbitration leash => Sys2Proof.Machine.execLeashArbitration leash s
  | .leashRenew who leash => Sys2Proof.Machine.execLeashRenew who leash s
  | .leashRelease who leash => Sys2Proof.Machine.execLeashRelease who leash s
  | .leashExpired leash => Sys2Proof.Machine.execLeashExpired leash s
  | .getVersion port => Sys2Proof.Machine.execGetVersion port s
  | .getCapabilities port => Sys2Proof.Machine.execGetCapabilities port s
  | .negotiateAlgorithms port offersAll => Sys2Proof.Machine.execNegotiateAlgorithms port offersAll s
  | .getDigests port => Sys2Proof.Machine.execGetDigests port s
  | .getCertificate port slot offset length => Sys2Proof.Machine.execGetCertificate port slot offset length s
  | .challenge port late slot nonce => Sys2Proof.Machine.execChallenge port late slot nonce s
  | .getMeasurements port late block => Sys2Proof.Machine.execGetMeasurements port late block s
  | .keyExchange port late slot => Sys2Proof.Machine.execKeyExchange port late slot s
  | .finish port session => Sys2Proof.Machine.execFinish port session s
  | .heartbeat port session => Sys2Proof.Machine.execHeartbeat port session s
  | .keyUpdate port session => Sys2Proof.Machine.execKeyUpdate port session s
  | .endSession port session => Sys2Proof.Machine.execEndSession port session s
  | .respondIfReady port token => Sys2Proof.Machine.execRespondIfReady port token s
  | .setCertificate port slot => Sys2Proof.Machine.execSetCertificate port slot s
  | .spdmUnsupportedRequest port code => Sys2Proof.Machine.execSpdmUnsupportedRequest port code s
  | .laneSignalDetected port => Sys2Proof.Machine.execLaneSignalDetected port s
  | .trainingComplete port => Sys2Proof.Machine.execTrainingComplete port s
  | .alignComplete port reversed => Sys2Proof.Machine.execAlignComplete port reversed s
  | .trainTimeout port => Sys2Proof.Machine.execTrainTimeout port s
  | .discoveryReceived port round2 record => Sys2Proof.Machine.execDiscoveryReceived port round2 record s
  | .discoverySend port => Sys2Proof.Machine.execDiscoverySend port s
  | .linkFaultDetected port cause => Sys2Proof.Machine.execLinkFaultDetected port cause s
  | .retrainTimeout port => Sys2Proof.Machine.execRetrainTimeout port s
  | .forceDown who port also => Sys2Proof.Machine.execForceDown who port also s
  | .rearm who port also => Sys2Proof.Machine.execRearm who port also s
  | .retrain who port also => Sys2Proof.Machine.execRetrain who port also s
  | .rediscover who port also => Sys2Proof.Machine.execRediscover who port also s
  | .dataFlitReceived port flit => Sys2Proof.Machine.execDataFlitReceived port flit s
  | .linkCtrlReceived port flit => Sys2Proof.Machine.execLinkCtrlReceived port flit s
  | .nakResendTimeout port => Sys2Proof.Machine.execNakResendTimeout port s
  | .replayTimeout port => Sys2Proof.Machine.execReplayTimeout port s
  | .timeMarkSend port => Sys2Proof.Machine.execTimeMarkSend port s
  | .timeMarkReceived port mark arrivalFrac => Sys2Proof.Machine.execTimeMarkReceived port mark arrivalFrac s
  | .timeHoldover => Sys2Proof.Machine.execTimeHoldover s
  | .trefPpsEdge highNs => Sys2Proof.Machine.execTrefPpsEdge highNs s
  | .trefPpsLoss => Sys2Proof.Machine.execTrefPpsLoss s
  | .tref10mLoss => Sys2Proof.Machine.execTref10mLoss s
  | .barkSend port => Sys2Proof.Machine.execBarkSend port s
  | .barkReceived port bark => Sys2Proof.Machine.execBarkReceived port bark s
  | .neighbourLost port => Sys2Proof.Machine.execNeighbourLost port s
  | .howlReceived port flit => Sys2Proof.Machine.execHowlReceived port flit s
  | .stepAbandonWrite who value => Sys2Proof.Machine.execStepAbandonWrite who value s
  | .howlSendWrite who value => Sys2Proof.Machine.execHowlSendWrite who value s
  | .slotStart port => Sys2Proof.Machine.execSlotStart port s
  | .forwardSlot port => Sys2Proof.Machine.execForwardSlot port s
  | .swapArm who => Sys2Proof.Machine.execSwapArm who s
  | .swapDisarm who => Sys2Proof.Machine.execSwapDisarm who s
  | .swapLoadComplete ecc => Sys2Proof.Machine.execSwapLoadComplete ecc s
  | .slotSwap => Sys2Proof.Machine.execSlotSwap s
  | .collDataChunkReceived => Sys2Proof.Machine.execCollDataChunkReceived s
  | .fingerprintChunkReceived => Sys2Proof.Machine.execFingerprintChunkReceived s
  | .segAckReceived => Sys2Proof.Machine.execSegAckReceived s
  | .chunkNakReceived => Sys2Proof.Machine.execChunkNakReceived s
  | .refetchReqReceived => Sys2Proof.Machine.execRefetchReqReceived s
  | .chunkStreamTimeout source collId detour => Sys2Proof.Machine.execChunkStreamTimeout source collId detour s
  | .collAckTimeout segment => Sys2Proof.Machine.execCollAckTimeout segment s
  | .earlyHoldExpired => Sys2Proof.Machine.execEarlyHoldExpired s
  | .shadowDataReceived => Sys2Proof.Machine.execShadowDataReceived s
  | .shadowCommitReceived => Sys2Proof.Machine.execShadowCommitReceived s
  | .shadowCommitHoldTimeout slot => Sys2Proof.Machine.execShadowCommitHoldTimeout slot s
  | .shadowCommitSend => Sys2Proof.Machine.execShadowCommitSend s
  | .trailFreeze who => Sys2Proof.Machine.execTrailFreeze who s
  | .trailResume who => Sys2Proof.Machine.execTrailResume who s
  | .trailDump who flashOk => Sys2Proof.Machine.execTrailDump who flashOk s
  | .trailPostFreeze => Sys2Proof.Machine.execTrailPostFreeze s
  | .trailMarkWrite who value => Sys2Proof.Machine.execTrailMarkWrite who value s
  | .trailEntryRead who => Sys2Proof.Machine.execTrailEntryRead who s
  | .snClose who unit => Sys2Proof.Machine.execSnClose who unit s
  | .snReset who unit => Sys2Proof.Machine.execSnReset who unit s
  | .snDeferredClose unit => Sys2Proof.Machine.execSnDeferredClose unit s
  | .snContextWrite who unit field value => Sys2Proof.Machine.execSnContextWrite who unit field value s
  | .snifferRun id groups => Sys2Proof.Machine.execSnifferRun id groups s
  | .epochValueWrite who value => Sys2Proof.Machine.execEpochValueWrite who value s
  | .pstateCmdStandby who => Sys2Proof.Machine.execPstateCmdStandby who s
  | .pstateCmdHold who => Sys2Proof.Machine.execPstateCmdHold who s
  | .pstateCmdReady who => Sys2Proof.Machine.execPstateCmdReady who s
  | .pstateCmdRun who => Sys2Proof.Machine.execPstateCmdRun who s
  | .pstateStepComplete env => Sys2Proof.Machine.execPstateStepComplete env s
  | .heelPeriod pace power rails => Sys2Proof.Machine.execHeelPeriod pace power rails s
  | .avsbusFault rail command => Sys2Proof.Machine.execAvsbusFault rail command s
  | .avsbusRetry rail answered => Sys2Proof.Machine.execAvsbusRetry rail answered s
  | .sensorConversion sensor tenths => Sys2Proof.Machine.execSensorConversion sensor tenths s
  | .sensorFailed sensor => Sys2Proof.Machine.execSensorFailed sensor s
  | .railOutOfWindow rail => Sys2Proof.Machine.execRailOutOfWindow rail s
  | .vrFaultAsserted => Sys2Proof.Machine.execVrFaultAsserted s
  | .vrFaultLatchClear => Sys2Proof.Machine.execVrFaultLatchClear s
  | .clkMonitorTrip source kind => Sys2Proof.Machine.execClkMonitorTrip source kind s
  | .clkSourceReady source => Sys2Proof.Machine.execClkSourceReady source s
  | .oscillatorStartFailed source => Sys2Proof.Machine.execOscillatorStartFailed source s
  | .loopRelockAttempt loop locked => Sys2Proof.Machine.execLoopRelockAttempt loop locked s
  | .domainSourceWrite who domain source => Sys2Proof.Machine.execDomainSourceWrite who domain source s
  | .clkForcedSwitch domain => Sys2Proof.Machine.execClkForcedSwitch domain s
  | .loopConfigWrite who reg loop value => Sys2Proof.Machine.execLoopConfigWrite who reg loop value s
  | .fioTrim errorPpb => Sys2Proof.Machine.execFioTrim errorPpb s
  | .rollbackCommit who value => Sys2Proof.Machine.execRollbackCommit who value s
  | .debugTokenDataWrite who data => Sys2Proof.Machine.execDebugTokenDataWrite who data s
  | .debugTokenSubmit who => Sys2Proof.Machine.execDebugTokenSubmit who s
  | .debugLock who => Sys2Proof.Machine.execDebugLock who s
  | .fwUpdBegin who => Sys2Proof.Machine.execFwUpdBegin who s
  | .fwUpdDataWrite who data => Sys2Proof.Machine.execFwUpdDataWrite who data s
  | .fwUpdVerify who => Sys2Proof.Machine.execFwUpdVerify who s
  | .fwVerifyComplete flashOk => Sys2Proof.Machine.execFwVerifyComplete flashOk s
  | .fwUpdCancel who => Sys2Proof.Machine.execFwUpdCancel who s
  | .fwUpdActivate who => Sys2Proof.Machine.execFwUpdActivate who s
  | .firmwareConfirm => Sys2Proof.Machine.execFirmwareConfirm s
  | .powerOnReset pins found => Sys2Proof.Machine.execPowerOnReset pins found s
  | .warmReset who => Sys2Proof.Machine.execWarmReset who s
  | .fullReset who pins => Sys2Proof.Machine.execFullReset who pins s
  | .perstAsserted pins => Sys2Proof.Machine.execPerstAsserted pins s
  | .perstDeasserted => Sys2Proof.Machine.execPerstDeasserted s
  | .hotReset pins => Sys2Proof.Machine.execHotReset pins s
  | .functionLevelReset => Sys2Proof.Machine.execFunctionLevelReset s
  | .strapsCheck pins => Sys2Proof.Machine.execStrapsCheck pins s
  | .stopNChange level => Sys2Proof.Machine.execStopNChange level s
  | .stopLockoutEnd => Sys2Proof.Machine.execStopLockoutEnd s
  | .ledgerCommit flashOk => Sys2Proof.Machine.execLedgerCommit flashOk s
  | .ledgerAck who value => Sys2Proof.Machine.execLedgerAck who value s
  | .ledgerCompaction => Sys2Proof.Machine.execLedgerCompaction s
  | .trailDumpRelease who slot => Sys2Proof.Machine.execTrailDumpRelease who slot s
  | .lifetimeRecordWrite flashOk => Sys2Proof.Machine.execLifetimeRecordWrite flashOk s
  | .calendarWrite who value => Sys2Proof.Machine.execCalendarWrite who value s
  | .standbySupplyLoss => Sys2Proof.Machine.execStandbySupplyLoss s
  | .pcieLinkUp => Sys2Proof.Machine.execPcieLinkUp s
  | .memDeviceFailed device => Sys2Proof.Machine.execMemDeviceFailed device s
  | .kennelClockStopTimeout half => Sys2Proof.Machine.execKennelClockStopTimeout half s
  | .tref10mRestored => Sys2Proof.Machine.execTref10mRestored s
  | .fwUpdFlashDone job => Sys2Proof.Machine.execFwUpdFlashDone job s
  | .testPortAccess instr => Sys2Proof.Machine.execTestPortAccess instr s

end Sys2Proof.Machine
end

