-- ==== Sys2Proof/Machine/Tick.lean ====
section
/-! DEFINITION. The passage of time: what one nanosecond without a command changes (11 R328, R331; 04 R146; 10 R307; 19 R569). -/

namespace Sys2Proof.Machine

/-- Issue stalls on a full scoreboard: some ring would issue but for it (04 R146). -/
def Dev.issueStalls (d : Dev) : Bool :=
  d.computes && decide (8192 ≤ d.disp.board.length)
    && (below 64).any (fun n => (d.ring n).state == .running && (d.ring n).head != (d.ring n).tail)

/-- A port has as many flits unacknowledged as R307 permits. -/
def Dev.windowFull (d : Dev) (p : Nat) : Bool := (d.port p).state == .active && decide (4095 ≤ (d.port p).txBuf.length)

/-- One nanosecond passes. -/
def Dev.tick (d : Dev) : Dev :=
  let d := ({ d with now := d.now + 1, tb := d.tb.tick } : Dev).lifeTick
  let d := if d.timeState = 3 then d.addSat 0x3220 3 64 1 else d
  let d := if d.issueStalls then d.addSat 0x5080 3 64 1 else d
  (below 6).foldl (fun d p => if d.windowFull p then d.addSat (0x3020 + p) 0xA 64 1 else d) d

end Sys2Proof.Machine
end

