-- ==== Sys2Proof/Safety.lean ====
section
/-! DEFINITION. What counts as a safe run, and the words in which claims say what a command answers and what it leaves alone. -/

namespace Sys2Proof

/-- A run of `k` steps from `s` stays among next states. -/
def SafeFor : Nat → Machine.State → Prop
  | 0, _ => True
  | k + 1, s => ∃ t, Machine.step s = .next t ∧ SafeFor k t

namespace Machine

/-- The command answers the next state `t`, in which the waiting commands and the fuses are as they were. -/
def Answers (c : Instr) (s t : State) : Prop := exec c s = .next t ∧ t.pending = s.pending ∧ t.fuse = s.fuse

/-- The device with everything blanked that an event, a Trail entry, a ledger record, a posted write, a message or a management frame
may change: the dictionary's counters, the output log, the Trail, the ledger buffer, the event queue, the subscribers. -/
def Dev.mute (d : Dev) : Dev :=
  { d with
    od := []
    out := []
    trail := { d.trail with entries := [], postLeft := 0, trigger := 0 }
    store := { d.store with buffer := [], nextSeq := 0 }
    host := { d.host with evqTail := 0, evqArmed := false, evqDropped := 0, msixPending := [] }
    mgmt := { d.mgmt with subscribers := [] } }

/-- The entries that count events and what comes of them. -/
def noticeKeys : List Nat := [odKey 0x1300 2, odKey 0x1300 3, odKey 0x7100 2, odKey 0x7100 7, odKey 0x9010 0xF, odKey 0x1210 4]

/-- Two devices differ at most in what events, Trail entries, ledger records, posted writes, messages and management frames change. -/
def Dev.SameButNotices (a b : Dev) : Prop :=
  a.mute = b.mute ∧ ∀ i j, odKey i j ∉ noticeKeys → a.get i j = b.get i j

/-- The entries of a scoreboard with those of number `id` replaced. -/
def boardWith (b : List Entry) (id : Nat) (e : Entry) : List Entry := b.map (fun x => if x.id = id then e else x)

/-- An entry that has started, with the step fixed at its start (04 R110). -/
def Dev.startedEntry (d : Dev) (e : Entry) : Entry := { e with started := true, step := d.stepOf e.desc }

/-- The scoreboard after the descriptor of entry `e` has started and its work has ended with an outcome; `pin` says whether it holds
a pin on a weight version (05 R155). -/
def Dev.boardAfter (d : Dev) (e : Entry) (pin : Bool) (done : Done) : List Entry :=
  boardWith d.disp.board e.id { d.startedEntry e with pinned := pin, done := some done }

/-- The descriptor number and the opcode of a command that runs a descriptor from its start to the end of its work. -/
def startedBy : Instr → Option (Nat × Nat)
  | .arrayMatmul id _ => some (id, 0x10)
  | .arrayTwin id _ => some (id, 0x11)
  | .arrayDrain id _ => some (id, 0x12)
  | .vecMap id _ => some (id, 0x20)
  | .vecNorm id _ => some (id, 0x21)
  | .vecSoftmax id _ => some (id, 0x22)
  | .vecLoss id _ => some (id, 0x23)
  | .vecReduce id _ => some (id, 0x24)
  | .vecConvert id _ => some (id, 0x25)
  | .moveCopy id _ => some (id, 0x30)
  | .moveFromHost id _ _ => some (id, 0x31)
  | .moveToHost id _ => some (id, 0x32)
  | .moveFill id => some (id, 0x33)
  | .retrieveFetch id _ _ => some (id, 0x34)
  | .retrievePrefetch id _ => some (id, 0x35)
  | .retrieveOffload id _ _ => some (id, 0x36)
  | .retrieveRestore id _ _ => some (id, 0x37)
  | .ceRoot id _ => some (id, 0x50)
  | .ceCholInv id _ => some (id, 0x51)
  | .ceLsq id _ => some (id, 0x52)
  | .syncNop id => some (id, 0x70)
  | .syncCounterSet id => some (id, 0x72)
  | .syncStepBoundary id => some (id, 0x73)
  | .syncMarker id => some (id, 0x74)
  | _ => none

/-- The memory errors that the reads of such a command find. -/
def eccOf : Instr → List EccHit
  | .arrayMatmul _ ecc => ecc
  | .arrayTwin _ ecc => ecc
  | .arrayDrain _ ecc => ecc
  | .vecMap _ ecc => ecc
  | .vecNorm _ ecc => ecc
  | .vecSoftmax _ ecc => ecc
  | .vecLoss _ ecc => ecc
  | .vecReduce _ ecc => ecc
  | .vecConvert _ ecc => ecc
  | .moveCopy _ ecc => ecc
  | .moveFromHost _ _ ecc => ecc
  | .moveToHost _ ecc => ecc
  | .retrievePrefetch _ ecc => ecc
  | .retrieveOffload _ _ ecc => ecc
  | .retrieveRestore _ _ ecc => ecc
  | .ceRoot _ ecc => ecc
  | .ceCholInv _ ecc => ecc
  | .ceLsq _ ecc => ecc
  | _ => []

/-- The device on which the work of a descriptor begins: its entry has started, and the errors that its reads find are recorded. -/
def Dev.begun (d : Dev) (e : Entry) (ecc : List EccHit) : Dev := (d.markStarted e).eccRead (d.accReads e.desc) ecc

/-- The work of a descriptor has ended: the command answers `t`, in which the scoreboard holds its outcome `done`. -/
def Ended (c : Instr) (s t : State) (e : Entry) (done : Done) : Prop :=
  Answers c s t ∧ ∃ pin, t.dev.disp.board = s.dev.boardAfter e pin done

/-- The descriptor that a command starts: its entry, in a state in which it may start (04 R111-R115); a move or Retriever descriptor
also needs its Sniffer unit free (13 R405), and one that asks another device needs a route to it (11 R349). -/
def Starts (c : Instr) (s : State) (e : Entry) : Prop :=
  ∃ id op, startedBy c = some (id, op) ∧ s.dev.entry id = some e ∧ hdOpcode e.desc = op ∧ s.dev.mayStart e = true
    ∧ (opClass op = 3 → s.dev.snFree (mvSniffEn e.desc) (mvSniffUnit e.desc) = true)
    ∧ (op = 0x34 ∨ op = 0x36 ∨ op = 0x37 → s.dev.reaches (mvRemote e.desc) = true)

/-- The command answers the state in which the device has become `x`; the waiting commands and the fuses are as they were. -/
def Effect (c : Instr) (s : State) (x : Dev) : Prop := exec c s = .next { s with dev := x }

/-- The requester may write entry (`i`, `k`) now: its port is open, Shepherd's clock runs, a management request is not turned away, the request is
secure enough, the entry exists and may be written, the Leash is the requester's and the device is quiescent where the entry asks for it
(14 R440, R442-R444, R590; 19 R554). -/
def Dev.Grants (d : Dev) (who : Requester) (i k : Nat) : Prop :=
  d.requesterOpen who = true ∧ (d.domain 0xB).hold = false ∧ (who ≠ .pcie → d.mgmtBusy = false) ∧ d.notSecure (ownerOf who) (d.requesterSecure who) = false
    ∧ d.accessStatus (ownerOf who) i k = 0

/-- Entries whose write does no more than store the value: not the Leash and update commands, nor those with a further effect (02 R51; 08 R243; 10 R297;
11 R331, R336; 13 R408; 17 R510; 18 R539). -/
def storesOnly (i k : Nat) : Prop :=
  ¬ (i = 0x1100 ∧ k = 1) ∧ ¬ (i = 0x9100 ∧ k = 3) ∧ ¬ (i = 0x1200 ∧ k = 8) ∧ i ≠ 0x2130 ∧ i ≠ 0x2131 ∧ i ≠ 0x3010 ∧ ¬ (i = 0x3210 ∧ k = 5) ∧ ¬ (i = 0x3210 ∧ k = 2)
    ∧ ¬ (i = 0x5030 ∧ k = 1) ∧ ¬ (i = 0x5080 ∧ k = 4) ∧ ¬ (i = 0x50A0 ∧ k = 1) ∧ ¬ (0x7400 ≤ i ∧ i ≤ 0x7407)

/-- A write of entry (`i`, `k`) was executed: the device has become `x`, and answers `OK`. -/
def Accepted (c : Instr) (s : State) (i k : Nat) (x : Dev) : Prop := Effect c s (x.emit (.odAnswer 0 (entrySize i k) 0))

/-- A write of entry (`i`, `k`) by a requester was refused with `VALUE_REFUSED`: nothing changes but for the count of the request, where it is a
management request, and the answer. -/
def Declined (c : Instr) (who : Requester) (s : State) (i k : Nat) : Prop :=
  Effect c s ((s.dev.asked who).emit (.odAnswer 4 (entrySize i k) 0))

/-- The command answers `t`, whose device answered last that a write of entry (`i`, `k`) was executed. -/
def Does (c : Instr) (s t : State) (i k : Nat) : Prop :=
  Answers c s t ∧ t.dev.out.head? = some (.odAnswer 0 (entrySize i k) 0)

/-- Port `p` has changed to a state at this instant; a time parent that it was no longer qualifies (11 R331). -/
def Dev.moved (d : Dev) (p : Nat) (st : LinkState) : Dev := (d.setPort p { d.port p with state := st, since := d.now }).unqualify p

/-- The descriptor number, opcode and memory errors of a command that starts a collective. -/
def collOf : Instr → Option (Nat × Nat × List EccHit)
  | .collReduceScatter id ecc => some (id, 0x40, ecc)
  | .collAllGather id ecc => some (id, 0x41, ecc)
  | .collBroadcast id ecc => some (id, 0x42, ecc)
  | .collPermute id ecc => some (id, 0x43, ecc)
  | .collExactReduce id ecc => some (id, 0x44, ecc)
  | _ => none

/-- The command starts the collective of entry `e`, which may start (04 R111-R115). -/
def CollStarts (c : Instr) (s : State) (e : Entry) (ecc : List EccHit) : Prop :=
  ∃ op, collOf c = some (e.id, op, ecc) ∧ s.dev.entry e.id = some e ∧ hdOpcode e.desc = op ∧ s.dev.mayStart e = true

/-- What the staging store's feeding leaves of a segment: owner, destination, number, chunks, re-sends (11 R356). -/
def Segment.fixed (g : Segment) : Option Nat × Nat × Nat × List Kept × Nat := (g.owner, g.dest, g.number, g.chunks, g.resends)

/-- The segments of the engine, but for how far each has been sent. -/
def Dev.segs (d : Dev) : List (Option Nat × Nat × Nat × List Kept × Nat) := d.eng.segments.map Segment.fixed

/-- The device with a chunk taken out of the inbox. -/
def Dev.withoutChunk (d : Dev) (k : Chunk) : Dev := { d with eng := { d.eng with inbox := d.eng.inbox.erase k } }

/-- The collective `k` of entry `e` passes every check of its start on device `d` (11 R357-R365): `k` holds its tree, rank and counts. -/
def Dev.CollPasses (d : Dev) (e : Entry) (k : Coll) : Prop :=
  ∃ alg tree rank, d.firstPoison (d.treeExt (coTree e.desc)) = none ∧ d.treeInfo (coTree e.desc) = some (alg, tree, rank)
    ∧ k = newColl e (d.stepOf e.desc) alg tree rank (d.countsOf e.desc tree.length)
    ∧ (d.countsExt e.desc tree.length).all (d.extentIn coreRegions) = true ∧ d.firstPoison (d.countsExt e.desc tree.length) = none
    ∧ d.collClash e.desc = false ∧ d.collInvalid k = false ∧ (d.collExts k).all (d.extentIn coreRegions) = true
    ∧ d.firstPoison (d.collControl k) = none

/-- The device on which a descriptor that has started ends at once with a code: of all else nothing changes. -/
def Dev.endedAs (d : Dev) (before : Dev) (e : Entry) (code : Nat) : Dev :=
  { d with disp := { d.disp with board := before.boardAfter e e.pinned { Done.init with code := code } } }

/-- The SPDM request, its port, and whether its answer is late, of a command that is one (18 R535-R539). -/
def spdmOf : Instr → Option (SpdmPort × SpdmReq × Bool)
  | .getVersion p => some (p, .getVersion, false)
  | .getCapabilities p => some (p, .getCapabilities, false)
  | .negotiateAlgorithms p all => some (p, .negotiateAlgorithms all, false)
  | .getDigests p => some (p, .getDigests, false)
  | .getCertificate p slot off len => some (p, .getCertificate slot off len, false)
  | .challenge p late slot nonce => some (p, .challenge slot nonce, late)
  | .getMeasurements p late block => some (p, .getMeasurements block, late)
  | .keyExchange p late slot => some (p, .keyExchange slot, late)
  | .finish p n => some (p, .finish n, false)
  | .heartbeat p n => some (p, .heartbeat n, false)
  | .keyUpdate p n => some (p, .keyUpdate n, false)
  | .endSession p n => some (p, .endSession n, false)
  | .respondIfReady p token => some (p, .respondIfReady token, false)
  | .setCertificate p slot => some (p, .setCertificate slot, false)
  | .spdmUnsupportedRequest p code => some (p, .other code, false)
  | _ => none

/-- The management port has answered a frame (14 R438-R440): the response, which carries status and data under the request's own header
fields, has left, by itself or inside a session, and is kept for a repeat of the request. -/
def Dev.responded (d : Dev) (f : MgmtFrame) (session : Option Nat) (status : Nat) (data : List Byte) : Dev :=
  let h := mgmtHeader d.ht 0 f.reqId f.index f.sub status data.length (f.op + 0x80)
  let out : Out := match session with
    | some n => .secured (.mgmt f.addr f.udp) n h data
    | none => .mgmtFrame f.addr f.udp (d.envelope f.dst f.dport h) data
  (d.keepResponse ⟨f.addr, f.udp, f.reqId, out, d.now⟩).emit out

/-- A management request of operation `op` that is new and executes at once: the port takes it, its magic is right, it is no repeat, the
dictionary is served, fewer than 64 wait, and Shepherd's clock runs (14 R437-R440; 17 R520; 19 R554). -/
def Dev.executes (d : Dev) (f : MgmtFrame) (op : Nat) : Prop :=
  d.frameTaken f = true ∧ f.magicOk = true ∧ d.sec.recovery = false ∧ f.op = op ∧ d.keptResponse f.addr f.udp f.reqId = none
    ∧ d.dictServed = true ∧ d.mgmtWaiting < 64 ∧ (d.domain 0xB).hold = false

/-- An offset, doubled and in units of 2^-16 ps, has been taken (11 R333; 17 R519): `TIME_OFFSET` holds it in picoseconds; in ACQUIRE one above 1 μs with no
slot bank active steps hall time, which is counted, and every other corrects it by rate; 64 good means lock, 8 bad offsets unlock. On FIO nothing is corrected. -/
def Dev.Corrected (d t : Dev) (theta2 : Int) : Prop :=
  ((d.domain 0xA).source = 1 → t.tb.htf = d.tb.htf ∧ t.tb.slew = d.tb.slew ∧ t.get 0x3200 3 = d.get 0x3200 3)
  ∧ ((d.domain 0xA).source ≠ 1 →
      let was := d.get 0x3200 3
      let starts := was = 0 ∨ was = 3
      let ts := if starts then 1 else was
      let step := ts = 1 ∧ 2000000 * 65536 < theta2.natAbs ∧ d.slots.active = none
      let good := if meanWithin ((theta2 :: if starts then [] else d.tb.offsets).take 8) = true then (if starts then 0 else d.tb.good) + 1 else 0
      let bad := if ts = 2 ∧ 2 * 500 * 65536 < theta2.natAbs then d.tb.bad + 1 else 0
      t.getInt 0x3200 5 32 = max (-2147483648) (min 2147483647 (thetaPs theta2)) ∧ t.tb.lastRef = d.now
          ∧ -214748 ≤ t.tb.rate ∧ t.tb.rate ≤ 214748
      ∧ (step → t.tb.htf = ((d.tb.htf : Int) + theta2 / 2000).toNat ∧ t.tb.slew = 0 ∧ t.get 0x3200 3 = 1
          ∧ t.get 0x3220 2 = min (d.get 0x3220 2 + 1) 0xFFFFFFFF)
      ∧ (¬ step → t.tb.htf = d.tb.htf ∧ t.tb.slew = theta2 * 65536 / 2000 ∧ t.get 0x3220 2 = d.get 0x3220 2
          ∧ t.get 0x3200 3 = (if ts = 1 ∧ 64 ≤ good then 2 else if ts = 2 ∧ 8 ≤ bad then 1 else ts)))

/-- The device has entered PROTECT for a cause, or was in it (16 R498, R499): the cause is kept, nothing computes, every port is DISABLED, the rails
that PROTECT leaves unpowered are off. -/
def Dev.Halted (d t : Dev) (cause : Nat) : Prop :=
  t.power.pstate = .protect
  ∧ (d.power.pstate ≠ .protect → t.get 0x2000 4 = cause ∧ t.disp.fatal = true ∧ t.power.target = none ∧ t.power.v = 0 ∧ t.waiting = []
      ∧ (∀ p < 6, (t.port p).state = .disabled) ∧ ∀ r < 16, t.railOn r = true → 12 ≤ r ∧ r ≤ 14)

/-- The ROM's choice (18 R529-R531): a slot passes when it bears the marker, its image passes every check, and its trial boots are not used up; the newest that
passes runs, slot A on a tie; without one, or with a root key hash that is not the ROM's, the device is in recovery. -/
def Dev.Chose (d t : Dev) (fuse : Nat) : Prop :=
  let passes (z : Nat) := (d.trailer z).marker = true ∧ imageResult (d.image z) fuse = 1 ∧ ((d.trailer z).confirmed = true ∨ (d.trailer z).trials < 3)
  let v (z : Nat) := imVersion (imHeader (d.image z))
  let rootOk := Config.romRootHash = Config.rootKeyHash
  (¬ rootOk ∨ (¬ passes 0 ∧ ¬ passes 1) → t.sec.recovery = true ∧ t.sec.runVersion = 0 ∧ t.sec.trial = false)
  ∧ (rootOk → ∀ z < 2, passes z → (passes (1 - z) → v (1 - z) < v z ∨ (v (1 - z) = v z ∧ z = 0)) →
      t.sec.recovery = false ∧ t.sec.runSlot = z ∧ t.sec.runVersion = v z ∧ t.sec.runSvn = imSvn (imHeader (d.image z))
        ∧ (t.sec.trial = true ↔ (d.trailer z).confirmed = false))

/-- `SWAP_HT` came while the bank was loading (11 R342): no swap takes place, every slot counts as FREE, and 0x2904 says so. -/
def Missed (s t : State) : Prop :=
  t.dev.slots = { s.dev.slots with allFree := true } ∧ t.dev.get 0x3300 3 = 0 ∧ t.dev.get 0x3300 5 = s.dev.get 0x3300 5
    ∧ t.dev.get 0x1300 3 = (s.dev.get 0x1300 3 + 1) % 2 ^ 32

/-- What every reset leaves (19 R555): nothing computes, waits or is held in device memory, every port is DISABLED, debug access is locked without a
session; the images in flash stand. -/
def Dev.Cleared (d t : Dev) : Prop :=
  t.disp = Disp.init ∧ t.mem = ⟨[], []⟩ ∧ t.flaws = [] ∧ t.requests = [] ∧ t.waiting = [] ∧ (∀ p, t.port p = Port.init) ∧ t.sec.unlocked = false
    ∧ t.sec.sessions = [] ∧ t.sec.imageA = d.sec.imageA ∧ t.sec.imageB = d.sec.imageB

end Machine

end Sys2Proof
end

