-- ==== Sys2Proof/Certificates/Slice0/Obligations.lean ====
section
/-! DEFINITION. The statements about the block, in the order of the chapters of spec/. A clause that rests on a choice of the model names
its log entry. -/

open Sys2Proof Sys2Proof.Machine

/-! ## The queue, the fuses, reset -/

/-- One step takes the command at the front of the queue and runs it with the rest of the queue. -/
def Obligations.StepRunsFrontCommand : Prop :=
  ∀ (c : Instr) (rest : List Instr) (s : State), s.pending = c :: rest → step s = exec c { s with pending := rest }

/-- With no command waiting, one nanosecond passes: the queue stays empty, the fuses stay, `now` grows by 1 ns, and so does hall time
while it runs at its nominal rate with no correction to make (the model's choice: log entry 1). -/
def Obligations.IdleStepPassesOneNanosecond : Prop :=
  ∀ s : State, s.pending = [] →
    ∃ t, step s = .next t ∧ t.pending = [] ∧ t.fuse = s.fuse ∧ t.dev.now = s.dev.now + 1
      ∧ t.dev.disp = s.dev.disp ∧ t.dev.mem = s.dev.mem ∧ t.dev.ports = s.dev.ports ∧ t.dev.power = s.dev.power
      ∧ (s.dev.tb.running = true → s.dev.tb.rate = 0 → s.dev.tb.slew = 0 → s.dev.tb.part < 65536 → t.dev.tb.htf = s.dev.tb.htf + 65536)
      ∧ (s.dev.tb.running = false → t.dev.tb.htf = s.dev.tb.htf)

/-- No command changes the commands that wait behind it. -/
def Obligations.CommandsKeepTheQueue : Prop :=
  ∀ (c : Instr) (s t : State), exec c s = .next t → t.pending = s.pending

/-- `ROLLBACK_COUNTER` never falls and never passes its 96 steps, in any step from any state whose counter is in range (18 R526, R542). -/
def Obligations.FuseStepsNeverFallAndStayInRange : Prop :=
  ∀ s t : State, s.fuse ≤ 96 → step s = .next t → s.fuse ≤ t.fuse ∧ t.fuse ≤ 96

/-- At reset no fuse step beyond the 96 is burnt. -/
def Obligations.FuseStepsInRangeAtReset : Prop := State.reset.fuse ≤ 96

/-- Every step but that of a privately documented test instruction answers a next state: no run of the block ends in a fault, and only
a private test instruction or Shepherd debug with debug access unlocked is refused (18 R543 names them and gives no effect). -/
def Obligations.OnlyPrivateTestInstructionsStop : Prop :=
  ∀ s : State, (∃ t, step s = .next t)
    ∨ (∃ (code : Nat) (rest : List Instr) (i : TestInstr), step s = .refused (.privateTestInstruction code)
        ∧ s.pending = .testPortAccess i :: rest ∧ s.dev.sec.unlocked = true)

/-- What reset leaves: STANDBY, every ring DISABLED with nothing held and the reset values of its registers, every event counter 0, every
port DISABLED with 256 credits of each class, no Leash held, no event queued, debug access locked, no session, and `WAIT_WATCH`, `RING_CFG`
and the rest of the dictionary at its defaults. -/
def Obligations.ResetLeavesDefaults : Prop :=
  let d := State.reset.dev
  State.reset.pending = [] ∧ d.power.pstate = .standby
    ∧ (∀ n, d.ring n = ⟨0, 0x00400030, 0, 0, .disabled, false, false, 0, 0⟩ ∧ d.ringStatus n = 0)
    ∧ (∀ n, d.cpl n = ⟨0, 0xC0, 0, 0, true⟩) ∧ (∀ c, d.counter c = 0) ∧ d.disp.board = []
    ∧ (∀ p, (d.port p).state = .disabled ∧ (d.port p).credits = [])
    ∧ (∀ n, d.leashOwner n = .free) ∧ d.host.evqHead = 0 ∧ d.host.evqTail = 0
    ∧ d.sec.unlocked = false ∧ d.sec.sessions = []
    ∧ (∀ i j, d.get i j = odDefault (odKey i j)) ∧ (∀ a, d.region a = some .near → d.mem.byte a = 0)

/-! ## Rings and counters (04 R94-R102) -/

/-- DOORBELL_WRITE: an accepted doorbell sets `TAIL`; one that would overfill the ring sets `BAD_DOORBELL` in every ring state and
stops a RUNNING ring. Nothing else changes. -/
def Obligations.DoorbellSetsTailOrStopsRing : Prop :=
  ∀ (n : Fin 64) (v : Word) (s : State), s.dev.barOpen = true →
    let r := s.dev.ring n
    ∃ t, Answers (.doorbellWrite n v) s t
      ∧ (2 ^ bits r.cfg 3 5 < (v.toNat + 2 ^ 32 - r.head) % 2 ^ 32 →
          t.dev.ring n = { r with badDoorbell := true, state := if r.state = .running then .stopped else r.state })
      ∧ (¬ 2 ^ bits r.cfg 3 5 < (v.toNat + 2 ^ 32 - r.head) % 2 ^ 32 → t.dev.ring n = { r with tail := v.toNat })
      ∧ (∀ m : Nat, m ≠ n → t.dev.ring m = s.dev.ring m)
      ∧ { t.dev with disp := { t.dev.disp with rings := s.dev.disp.rings } } = s.dev

/-- EVENT_COUNTER_WRITE sets its counter and nothing else; a signal adds its increment modulo 2^32; a wait for v on counter c is met
when (c - v) mod 2^32 < 2^31. -/
def Obligations.EventCountersSetSignalAndWait : Prop :=
  (∀ (c : Fin 4096) (v : Word) (s : State), s.dev.barOpen = true →
    ∃ t, Answers (.eventCounterWrite c v) s t ∧ t.dev.counter c = v.toNat ∧ (∀ k : Nat, k ≠ c → t.dev.counter k = s.dev.counter k)
      ∧ { t.dev with disp := { t.dev.disp with counters := s.dev.disp.counters } } = s.dev)
  ∧ (∀ (d : Dev) (c inc : Nat), d.counter c < 2 ^ 32 →
      (d.signal c inc).counter c = (d.counter c + inc) % 2 ^ 32 ∧ ∀ k, k ≠ c → (d.signal c inc).counter k = d.counter k)
  ∧ (∀ (d : Dev) (c : Nat) (v : Word), d.counter c < 2 ^ 32 →
      (d.waitMet c v.toNat = true ↔ (((d.counter c : Int) - v.toNat) % 2 ^ 32) < 2 ^ 31))

/-- Writes of the configuration registers: refused with `CFG_REFUSED` while the ring is RUNNING, DRAINING or has descriptors in the
scoreboard, or out of range; else stored, with `CFG_REFUSED` cleared. `ENABLE` moves DISABLED to RUNNING, and 0 moves STOPPED to DISABLED. RING_ENABLE
and RING_DISABLE are writes of `RING_CFG` with its present fields. -/
def Obligations.RingConfigurationWrites : Prop :=
  ∀ (n : Fin 64) (s : State), s.dev.barOpen = true →
    let r := s.dev.ring n
    let busy := r.state = .running ∨ r.state = .draining ∨ s.dev.inflightOf n ≠ 0
    let bad (v : Nat) := bits v 3 5 < 6 ∨ 16 < bits v 3 5 ∨ bits v 12 14 = 0 ∨ 8192 < bits v 12 14
    let kept (t : State) := (∀ m : Nat, m ≠ n → t.dev.ring m = s.dev.ring m)
      ∧ { t.dev with disp := { t.dev.disp with rings := s.dev.disp.rings } } = s.dev
    let cfgTo (v : Nat) (t : State) := (busy ∨ bad v → t.dev.ring n = { r with cfgRefused := true })
      ∧ (¬ (busy ∨ bad v) → t.dev.ring n = { r with cfg := setBits v 1 2 0, cfgRefused := false, state := r.state.enabled (bit v 0) })
    (∀ (part : Part) (v : DWord), let w := mergePart r.base part v.toNat
      ∃ t, Answers (.ringConfigWrite n .ringBase part v) s t ∧ kept t
        ∧ (busy ∨ w % 128 ≠ 0 → t.dev.ring n = { r with cfgRefused := true })
        ∧ (¬ (busy ∨ w % 128 ≠ 0) → t.dev.ring n = { r with base := w, cfgRefused := false }))
    ∧ (∀ v : DWord, ∃ t, Answers (.ringConfigWrite n .ringCfg .low v) s t ∧ kept t ∧ cfgTo (bits v.toNat 0 32) t)
    ∧ (∃ t, Answers (.ringEnable n) s t ∧ kept t ∧ cfgTo (setBits r.cfg 0 1 1) t)
    ∧ (∃ t, Answers (.ringDisable n) s t ∧ kept t ∧ cfgTo (setBits r.cfg 0 1 0) t)
    ∧ (RingState.enabled .disabled true = .running ∧ RingState.enabled .disabled false = .disabled
      ∧ RingState.enabled .stopped true = .stopped ∧ RingState.enabled .stopped false = .disabled)

/-- Writes of the registers of completion ring `n`: `CPL_BASE` and `CPL_CFG` are refused, with `CFG_REFUSED` of ring `n`, while a command
ring that names completion ring `n` is RUNNING, DRAINING or has descriptors in the scoreboard, or out of range; `CPL_HEAD` is stored and
lets the next message out (04 R95, R108). An access to both halves of `RING_CFG` or `CPL_CFG` is the access to the low one followed by
the access to the high one. -/
def Obligations.CompletionRingWrites : Prop :=
  ∀ (n : Fin 64) (s : State), s.dev.barOpen = true →
    let r := s.dev.ring n
    let c := s.dev.cpl n
    let busy := ∃ k < 64, (s.dev.ring k).cplRing = n ∧ ((s.dev.ring k).state = .running ∨ (s.dev.ring k).state = .draining ∨ s.dev.inflightOf k ≠ 0)
    let kept (t : State) := (∀ m : Nat, m ≠ n → t.dev.ring m = s.dev.ring m ∧ t.dev.cpl m = s.dev.cpl m)
      ∧ { t.dev with disp := { t.dev.disp with rings := s.dev.disp.rings, cpls := s.dev.disp.cpls } } = s.dev
    (∀ (part : Part) (v : DWord), let w := mergePart c.base part v.toNat
      ∃ t, Answers (.ringConfigWrite n .cplBase part v) s t ∧ kept t
        ∧ (busy ∨ w % 32 ≠ 0 → t.dev.ring n = { r with cfgRefused := true } ∧ t.dev.cpl n = c)
        ∧ (¬ (busy ∨ w % 32 ≠ 0) → t.dev.ring n = { r with cfgRefused := false } ∧ t.dev.cpl n = { c with base := w }))
    ∧ (∀ v : DWord, ∃ t, Answers (.ringConfigWrite n .cplCfg .low v) s t ∧ kept t
        ∧ (busy ∨ bits v.toNat 5 5 < 6 ∨ 16 < bits v.toNat 5 5 → t.dev.ring n = { r with cfgRefused := true } ∧ t.dev.cpl n = c)
        ∧ (¬ (busy ∨ bits v.toNat 5 5 < 6 ∨ 16 < bits v.toNat 5 5) →
            t.dev.ring n = { r with cfgRefused := false } ∧ t.dev.cpl n = { c with cfg := bits v.toNat 5 16 <<< 5 }))
    ∧ (∀ v : Word, ∃ t, Answers (.cplHeadWrite n v) s t ∧ kept t ∧ t.dev.ring n = r ∧ t.dev.cpl n = { c with head := v.toNat, armed := true })
    ∧ (∀ (reg : RingReg) (v : DWord), reg = .ringCfg ∨ reg = .cplCfg →
        ∃ t u, Answers (.ringConfigWrite n reg .low v) s t ∧ Answers (.ringConfigWrite n reg .high (v >>> 32)) t u
          ∧ Answers (.ringConfigWrite n reg .whole v) s u)

/-- One write of `RING_CTRL` takes the highest-ranked command that applies: ABORT to a RUNNING or STOPPED ring, RESET to a STOPPED or
DISABLED one with nothing in the scoreboard, RESUME to a STOPPED one; a write none of whose commands applies changes nothing. ABORT
discards what was not fetched and takes every entry that it may discard out of the scoreboard, and no other. -/
def Obligations.RingControlCommands : Prop :=
  ∀ (n : Fin 64) (also : BitVec 3) (c : Instr) (v : Nat) (s : State), s.dev.barOpen = true →
    (c = .ringReset n also ∧ v = (also.toNat ||| 4) ∨ c = .ringAbort n also ∧ v = (also.toNat ||| 2)
      ∨ c = .ringResume n also ∧ v = (also.toNat ||| 1) ∨ ∃ w : DWord, c = .ringConfigWrite n .ringCfg .high w ∧ v = bits w.toNat 0 32) →
    let r := s.dev.ring n
    let abort := bit v 1 = true ∧ (r.state = .running ∨ r.state = .stopped)
    let reset := bit v 2 = true ∧ (r.state = .stopped ∨ r.state = .disabled) ∧ s.dev.inflightOf n = 0
    let resume := bit v 0 = true ∧ r.state = .stopped
    ∃ t, Answers c s t
      ∧ (abort → (t.dev.ring n).head = r.tail ∧ (t.dev.ring n).tail = r.tail
          ∧ (t.dev.ring n).state = (if t.dev.anyStarted n then .draining else .stopped)
          ∧ (∀ e ∈ t.dev.disp.board, e ∈ s.dev.disp.board ∧ ¬ (e.ring = n ∧ s.dev.abortable e = true))
          ∧ ((s.dev.disp.board.map Entry.id).Nodup →
              ∀ e ∈ s.dev.disp.board, ¬ (e.ring = n ∧ s.dev.abortable e = true) → e ∈ t.dev.disp.board))
      ∧ (¬ abort → reset → t.dev.ring n = { r with head := 0, tail := 0 }
          ∧ t.dev.cpl n = (if s.dev.cplBusy n then s.dev.cpl n else { s.dev.cpl n with head := 0, tail := 0 })
          ∧ (∀ m : Nat, m ≠ n → t.dev.ring m = s.dev.ring m ∧ t.dev.cpl m = s.dev.cpl m)
          ∧ { t.dev with disp := { t.dev.disp with rings := s.dev.disp.rings, cpls := s.dev.disp.cpls } } = s.dev)
      ∧ (¬ abort → ¬ reset → resume → t.dev.ring n = { r with state := .running } ∧ (∀ m : Nat, m ≠ n → t.dev.ring m = s.dev.ring m)
          ∧ { t.dev with disp := { t.dev.disp with rings := s.dev.disp.rings } } = s.dev)
      ∧ (¬ abort → ¬ reset → ¬ resume → t = s)

/-! ## Issue, completion, start (04 R103-R116, R138, R139, R591) -/

/-- DESCRIPTOR_ISSUE of a ring whose fetch fails: a descriptor outside the near stacks and the tile store gives `ADDRESS_RANGE`, poisoned
data and a failed host read give `POISONED`. The ring becomes STOPPED with `ERR_INDEX` and `ERR_CODE` set; `HEAD` does not advance, nothing
enters the scoreboard, no record is written and no message is sent, and no event is raised but those of the memory errors found. -/
def Obligations.FailedFetchStopsRing : Prop :=
  ∀ (host : HostReply) (ecc : List EccHit) (n : Nat) (s : State), s.dev.computes = true → s.dev.nextRing = some n →
    let d := s.dev.eccRead [] ecc
    let r := s.dev.ring n
    let a := bits r.base 0 63 + 128 * (r.head % 2 ^ bits r.cfg 3 5)
    let inHost := bit r.base 63 = true
    let outside := d.extent a 128 ≠ some .near ∧ d.extent a 128 ≠ some .tile
    ∀ code, (inHost ∧ ((∀ l, host ≠ .data l) ∨ d.hostUp = false) ∧ code = ccPoisoned) ∨ (¬ inHost ∧ outside ∧ code = ccAddressRange)
        ∨ (¬ inHost ∧ ¬ outside ∧ d.mem.anyPoison a 128 = true ∧ code = ccPoisoned) →
      ∃ t, Answers (.descriptorIssue host ecc) s t
        ∧ t.dev.ring n = { r with state := .stopped, errIndex := r.head, errCode := code }
        ∧ (∀ m, m ≠ n → t.dev.ring m = s.dev.ring m)
        ∧ t.dev.disp.board = s.dev.disp.board ∧ t.dev.disp.cpls = s.dev.disp.cpls ∧ t.dev.disp.counters = s.dev.disp.counters
        ∧ { t.dev with disp := d.disp } = d

/-- DESCRIPTOR_ISSUE of a descriptor that reads whole: `HEAD` advances by one; a descriptor that passes the checks enters the scoreboard
with its waits watched against the present `WAIT_WATCH`, and nothing else changes but the turn of the ring and what the memory errors found
leave; one that fails completes at once with the code of the check, and the ring stops on that code. -/
def Obligations.IssueEntersOrRefuses : Prop :=
  (∀ (host : HostReply) (ecc : List EccHit) (n x : Nat) (s : State), s.dev.computes = true → s.dev.nextRing = some n →
    let d := s.dev.eccRead [] ecc
    let r := s.dev.ring n
    let a := bits r.base 0 63 + 128 * (r.head % 2 ^ bits r.cfg 3 5)
    (bit r.base 63 = true ∧ d.hostUp = true ∧ (∃ l : List Byte, host = .data l ∧ x = ofBytes (l.take 128))
      ∨ bit r.base 63 = false ∧ (d.extent a 128 = some .near ∨ d.extent a 128 = some .tile) ∧ d.mem.anyPoison a 128 = false
        ∧ x = d.num a 128) →
    d.issueCheck x = 0 →
    let e : Entry := ⟨s.dev.disp.nextId, n, r.head, x, s.dev.now, d.get 0x5080 1, false, false, 0, false, none⟩
    let left := if 0 < s.dev.disp.takeLeft ∧ n = s.dev.disp.lastServed then s.dev.disp.takeLeft - 1 else bits r.cfg 8 4
    exec (.descriptorIssue host ecc) s = .next { s with dev := { d with disp := { (d.setRing n { r with head := (r.head + 1) % 2 ^ 32 }).disp with board := s.dev.disp.board ++ [e], nextId := s.dev.disp.nextId + 1, lastServed := n, takeLeft := left } } })
  ∧
  ∀ (host : HostReply) (ecc : List EccHit) (n x : Nat) (s : State), s.dev.computes = true → s.dev.nextRing = some n →
    let d := s.dev.eccRead [] ecc
    let r := s.dev.ring n
    let a := bits r.base 0 63 + 128 * (r.head % 2 ^ bits r.cfg 3 5)
    (bit r.base 63 = true ∧ d.hostUp = true ∧ (∃ l : List Byte, host = .data l ∧ x = ofBytes (l.take 128))
      ∨ bit r.base 63 = false ∧ (d.extent a 128 = some .near ∨ d.extent a 128 = some .tile) ∧ d.mem.anyPoison a 128 = false
        ∧ x = d.num a 128) →
    ∃ t, Answers (.descriptorIssue host ecc) s t
      ∧ (t.dev.ring n).head = (r.head + 1) % 2 ^ 32 ∧ (∀ m, m ≠ n → t.dev.ring m = s.dev.ring m)
      ∧ (d.issueCheck x = 0 → t.dev.ring n = { r with head := (r.head + 1) % 2 ^ 32 }
          ∧ (∃ e, t.dev.disp.board = s.dev.disp.board ++ [e] ∧ e.id = s.dev.disp.nextId ∧ e.ring = n ∧ e.index = r.head ∧ e.desc = x
              ∧ e.issuedAt = s.dev.now ∧ e.watch = d.get 0x5080 1 ∧ e.watchRaised = false ∧ e.started = false ∧ e.done = none)
          ∧ t.dev.disp.nextId = s.dev.disp.nextId + 1 ∧ { t.dev with disp := d.disp } = d)
      ∧ (d.issueCheck x ≠ 0 → t.dev.disp.board = s.dev.disp.board
          ∧ (r.state = .running → t.dev.ring n =
              { r with head := (r.head + 1) % 2 ^ 32, state := .stopped, errIndex := r.head, errCode := d.issueCheck x }))

/-- DESCRIPTOR_COMPLETION of a descriptor whose work has ended: its entry leaves the scoreboard and no other does; its signals are applied
when the code is OK or `SIG_ON_ERROR` is set, and not otherwise; a record takes a slot of the ring's completion ring when `CPL_MODE` is not
0 or the code is not OK; a RUNNING ring stops on a code other than OK, with `ERR_INDEX` and `ERR_CODE`. -/
def Obligations.CompletionSignalsRecordsAndStops : Prop :=
  ∀ (id : Nat) (e : Entry) (k : Done) (s : State), s.dev.entry id = some e → s.dev.outcome e = some k → s.dev.disp.fatal = false →
    s.dev.sniffs id = false → s.dev.taps id = false →
    let r := s.dev.ring e.ring
    let c := s.dev.cpl r.cplRing
    let on := k.code = 0 ∨ hdSigOnError e.desc = true
    let record := ¬ (hdCplMode e.desc = 0 ∧ k.code = 0)
    let inc (j : Nat) := (if hdSig0Id e.desc = j then hdSig0Inc e.desc else 0) + (if hdSig1Id e.desc = j then hdSig1Inc e.desc else 0)
    ∃ t, Answers (.descriptorCompletion id) s t
      ∧ t.dev.disp.board = s.dev.disp.board.filter (fun x => x.id != id)
      ∧ (∀ j, s.dev.counter j < 2 ^ 32 → t.dev.counter j = if on then (s.dev.counter j + inc j) % 2 ^ 32 else s.dev.counter j)
      ∧ (t.dev.cpl r.cplRing).tail = (if record then (c.tail + 1) % 2 ^ 32 else c.tail)
      ∧ (∀ m, m ≠ r.cplRing → t.dev.cpl m = s.dev.cpl m) ∧ (∀ m, m ≠ e.ring → t.dev.ring m = s.dev.ring m)
      ∧ (r.state = .running → t.dev.ring e.ring =
          if k.code = 0 then r else { r with state := .stopped, errIndex := e.index, errCode := k.code })
      ∧ (r.state ≠ .running → (t.dev.ring e.ring).head = r.head ∧ (t.dev.ring e.ring).tail = r.tail
          ∧ (t.dev.ring e.ring).state =
              (if r.state = .draining ∧ ¬ (∃ x ∈ t.dev.disp.board, x.ring = e.ring ∧ x.started = true) then .stopped else r.state))
      ∧ t.dev.power = s.dev.power ∧ t.dev.clocks = s.dev.clocks ∧ t.dev.ports = s.dev.ports ∧ t.dev.sec = s.dev.sec

/-- WAIT_WATCH_EXPIRED: when the time since issue exceeds the value of `WAIT_WATCH` read at the issue (0: not watched) while an enabled
wait is unmet, the device raises 0x0401 once for the descriptor, which goes on waiting. -/
def Obligations.WaitWatchRaisesOnceAndGoesOn : Prop :=
  ∀ (id : Nat) (e : Entry) (s : State), s.dev.entry id = some e →
    ∃ t, Answers (.waitWatchExpired id) s t
      ∧ (e.watch ≠ 0 → e.watchRaised = false → e.started = false → s.dev.waitsMet e.desc = false → e.watch * 1000000 < s.dev.now - e.issuedAt →
          t.dev.entry id = some { e with watchRaised := true } ∧ (∀ k, k ≠ id → t.dev.entry k = s.dev.entry k)
          ∧ t.dev = (s.dev.setEntry { e with watchRaised := true }).raise 0x0401 e.ring e.index
          ∧ t.dev.SameButNotices (s.dev.setEntry { e with watchRaised := true })
          ∧ t.dev.get 0x1300 3 = (s.dev.get 0x1300 3 + 1) % 2 ^ 32 ∧ exec (.waitWatchExpired id) t = .next t)
      ∧ (e.watch = 0 ∨ e.watchRaised = true ∨ e.started = true ∨ s.dev.waitsMet e.desc = true
          ∨ ¬ e.watch * 1000000 < s.dev.now - e.issuedAt → t = s)

/-- Every command that runs a descriptor starts it with its step fixed and brings its work to an end with an outcome; in the scoreboard it
changes the descriptor's own entry only. A Retriever descriptor to whose device no route leads starts, drops its requests and counts their
flits, and does not end: no answer comes (11 R349). -/
def Obligations.StartedDescriptorsEnd : Prop :=
  (∀ (c : Instr) (s : State) (e : Entry), Starts c s e →
    ∃ t pin done, Answers c s t ∧ t.dev.disp.board = s.dev.boardAfter e pin done
      ∧ t.dev.entry e.id = some { s.dev.startedEntry e with pinned := pin, done := some done }
      ∧ ∀ k, k ≠ e.id → t.dev.entry k = s.dev.entry k)
  ∧ ∀ (c : Instr) (id op : Nat) (s : State) (e : Entry), startedBy c = some (id, op) → op = 0x34 ∨ op = 0x36 ∨ op = 0x37 →
    s.dev.entry id = some e → hdOpcode e.desc = op → s.dev.mayStart e = true → s.dev.snFree (mvSniffEn e.desc) (mvSniffUnit e.desc) = true →
    s.dev.reaches (mvRemote e.desc) = false →
    ∃ t, Answers c s t ∧ t.dev.disp.board = boardWith s.dev.disp.board id (s.dev.startedEntry e) ∧ t.dev.mem = s.dev.mem
      ∧ t.dev.out = s.dev.out ∧ (∀ i k, odKey i k ≠ odKey 0x3410 1 → t.dev.get i k = s.dev.get i k)

/-- A descriptor starts only in RUN, without STOP_N and before any device-fatal event, unstarted and unended, with its enabled waits met,
after its predecessor in the ring where `SERIAL` is set; a step boundary also after every earlier-issued sweep has completed; a main-array
operation not in the part of a millisecond that throttling holds (which part: the model's choice, log entry 192). -/
def Obligations.ConditionsOfAStart : Prop :=
  ∀ (d : Dev) (e : Entry), d.mayStart e = true →
    d.power.pstate = .run ∧ d.pins.stopN = false ∧ d.disp.fatal = false ∧ e.started = false ∧ e.done = none
      ∧ (bit (hdWaitEn e.desc) 0 = true → d.waitMet (hdWait0Id e.desc) (hdWait0Value e.desc) = true)
      ∧ (bit (hdWaitEn e.desc) 1 = true → d.waitMet (hdWait1Id e.desc) (hdWait1Value e.desc) = true)
      ∧ (hdSerial e.desc = true → ∀ o ∈ d.disp.board, o.ring = e.ring → (o.index + 1) % 2 ^ 32 ≠ e.index)
      ∧ (hdOpcode e.desc = 0x73 → ∀ o ∈ d.disp.board, o.id < e.id → opClass (hdOpcode o.desc) ≠ 6)
      ∧ (opClass (hdOpcode e.desc) ≠ 7 → ∀ o ∈ d.disp.board, o.id < e.id → unitOf o.desc = unitOf e.desc → d.ready o = false)
      ∧ (opClass (hdOpcode e.desc) = 1 → d.power.throttle * 1000000 ≤ 16 * ((d.now - d.power.throttleAt) % 1000000))

/-- SYNC_NOP ends as soon as it starts; SYNC_COUNTER_SET sets its counter; SYNC_MARKER writes its value, in device memory or to the host.
Each ends with OK and changes nothing else. -/
def Obligations.SynchronisationCommands : Prop :=
  ∀ (id : Nat) (s : State) (e : Entry),
    let ended (t : State) (x : Dev) := ∃ pin, t.dev = { x with disp := { x.disp with board := s.dev.boardAfter e pin Done.init, lastAction := s.dev.now } }
    (Starts (.syncNop id) s e → ∃ t, Answers (.syncNop id) s t ∧ ended t s.dev)
    ∧ (Starts (.syncCounterSet id) s e → ∃ t, Answers (.syncCounterSet id) s t
        ∧ t.dev.counter (syCid e.desc) = syCvalue e.desc ∧ (∀ k, k ≠ syCid e.desc → t.dev.counter k = s.dev.counter k)
        ∧ ended t { s.dev with disp := { s.dev.disp with counters := t.dev.disp.counters } })
    ∧ (Starts (.syncMarker id) s e → ∃ t, Answers (.syncMarker id) s t
        ∧ (syHost e.desc = false → (∀ i < 8, t.dev.mem.byte (syAddr e.desc + i) = BitVec.ofNat 8 (syHtTarget e.desc / 256 ^ i))
            ∧ (∀ a, a < syAddr e.desc ∨ syAddr e.desc + 8 ≤ a → t.dev.mem.byte a = s.dev.mem.byte a)
            ∧ ended t { s.dev with mem := t.dev.mem })
        ∧ (syHost e.desc = true → s.dev.host.linkUp = true → s.dev.host.held = false →
            ended t { s.dev with out := .hostWrite (syHostAddr e.desc) (toBytes 8 (syHtTarget e.desc)) :: s.dev.out })
        ∧ (syHost e.desc = true → ¬ (s.dev.host.linkUp = true ∧ s.dev.host.held = false) →
            ended t (s.dev.addSat 0x1300 2 32 1)))

/-- SYNC_WAIT_HT does not end before its target; it ends from its target on with the time of its release in its result, and with `LATE`
only when it starts after its target. -/
def Obligations.HallTimeWait : Prop :=
  ∀ (id : Nat) (s : State) (e : Entry), s.dev.entry id = some e → hdOpcode e.desc = 0x71 → e.done = none →
    (e.started = true ∨ s.dev.mayStart e = true) →
    let late := e.started = false ∧ syHtTarget e.desc < s.dev.ht
    let step := if e.started = true then e.step else s.dev.stepOf e.desc
    ∃ t, Answers (.syncWaitHt id) s t
      ∧ (s.dev.ht < syHtTarget e.desc → t.dev.entry id = some { e with started := true, step := step })
      ∧ (¬ s.dev.ht < syHtTarget e.desc → t.dev.entry id = some
          { e with started := true, step := step, done := some ⟨0, if late then 2 ^ sfLate else 0, 0, s.dev.ht - syHtTarget e.desc⟩ })
      ∧ (∀ k, k ≠ id → t.dev.entry k = s.dev.entry k)
      ∧ t.dev.disp.lastAction = (if e.started = true then s.dev.disp.lastAction else s.dev.now)
      ∧ { t.dev with disp := { t.dev.disp with board := s.dev.disp.board, lastAction := s.dev.disp.lastAction } } = s.dev

/-- SYNC_STEP_BOUNDARY with `NEXT_STEP` the step counter plus one, of no fatal step: the step counter takes it, L is to be latched anew,
segment numbers start again; with another `NEXT_STEP` it ends with `INVALID_FIELD` and changes nothing. -/
def Obligations.StepBoundary : Prop :=
  ∀ (id : Nat) (s : State) (e : Entry), Starts (.syncStepBoundary id) s e →
    (0 < syNextStep e.desc → (syNextStep e.desc - 1) ∉ s.dev.disp.fatalSteps) →
    ∃ t, Answers (.syncStepBoundary id) s t
      ∧ (syNextStep e.desc = s.dev.step + 1 → t.dev.step = syNextStep e.desc ∧ t.dev.cmp.lossL = none
          ∧ (s.dev.eng.backlog = [] → t.dev.eng.nextSegment = 0)
          ∧ (∃ pin done, done.code = 0 ∧ t.dev.disp.board = s.dev.boardAfter e pin done) ∧ t.dev.disp.rings = s.dev.disp.rings
          ∧ t.dev.mem = s.dev.mem ∧ t.dev.power = s.dev.power ∧ t.dev.clocks = s.dev.clocks)
      ∧ (syNextStep e.desc ≠ s.dev.step + 1 → ∃ pin, t.dev =
          { s.dev with disp := { s.dev.disp with board := s.dev.boardAfter e pin { Done.init with code := ccInvalidField }, lastAction := s.dev.now } })

/-! ## Compute: array, taps, vector, moves, Retriever, Curvature Engine -/

/-- Compute leaves control alone: a command that runs a descriptor of the array, vector, move, Retriever or solver class leaves the power
state, the clocks, security, the Leashes, the waiting requests, the time base, the slot tables, the collectives engine, the shadows, the
pins, every ring register, every completion ring and every event counter as they are. -/
def Obligations.ComputeLeavesControlAlone : Prop :=
  ∀ (c : Instr) (id op : Nat) (s t : State), startedBy c = some (id, op) → op < 0x70 → exec c s = .next t →
    t.dev.power = s.dev.power ∧ t.dev.clocks = s.dev.clocks ∧ t.dev.sec = s.dev.sec ∧ t.dev.leashes = s.dev.leashes
      ∧ t.dev.requests = s.dev.requests ∧ t.dev.tb = s.dev.tb ∧ t.dev.slots = s.dev.slots ∧ t.dev.eng = s.dev.eng
      ∧ t.dev.shadow = s.dev.shadow ∧ t.dev.pins = s.dev.pins ∧ t.dev.disp.rings = s.dev.disp.rings
      ∧ t.dev.disp.cpls = s.dev.disp.cpls ∧ t.dev.disp.counters = s.dev.disp.counters

/-- ARRAY_MATMUL and ARRAY_TWIN without a weight version end with `OK` when their start checks pass and nothing they read is poisoned; with
`POISONED`, the tile torn and poisoned, when their start checks pass and they read poison; with the code of a failing start check, or
`POISONED` where it read poison, nothing of the tile being written, when one fails; and with `POISONED`, nothing of the tile being written,
when the tap header is poisoned (how far an operation on poisoned data goes is the model's reading: log entry 23). ARRAY_DRAIN reads its tile and never changes it: with no poison in the tile or in what it reads besides, and room for the history of an
8-bit output's record, it ends with `OK` and reports the rows drained. -/
def Obligations.ArrayOperationsEnd : Prop :=
  (∀ (c : Instr) (ecc : List EccHit) (s : State) (e : Entry), (c = .arrayMatmul e.id ecc ∨ c = .arrayTwin e.id ecc) → Starts c s e →
      arWverId e.desc = 0xFFF →
      let x := e.desc
      let d := s.dev.begun e ecc
      let torn := (addTiles x).any (fun t => (s.dev.tile t).torn)
      let recs := d.firstPoison (d.arRecords x)
      let code := if d.firstPoison (d.arControl x) = none then d.arStart x torn else ccPoisoned
      ∃ t done, Ended c s t e done
        ∧ (recs ≠ none → done.code = ccPoisoned ∧ t.dev.cmp.acc = d.cmp.acc ∧ t.dev.mem = d.mem)
        ∧ (recs = none → d.arStart x torn ≠ 0 → done.code = code ∧ t.dev.cmp.acc = d.cmp.acc ∧ t.dev.mem = d.mem)
        ∧ (recs = none → d.arStart x torn = 0 → d.arBad x = none → done.code = 0
            ∧ (arAdd x = false → arM x = 1024 → arN x = 2048 → hdOpcode x = 0x10 → (t.dev.tile (arTile x)).torn = false
                ∧ (t.dev.tile (arTile x)).poison = false))
        ∧ (recs = none → d.arStart x torn = 0 → d.arBad x ≠ none → done.code = ccPoisoned
            ∧ (t.dev.tile (arTile x)).torn = true ∧ (t.dev.tile (arTile x)).poison = true))
  ∧
    ∀ (ecc : List EccHit) (s : State) (e : Entry), Starts (.arrayDrain e.id ecc) s e →
      let x := e.desc
      let d := s.dev.begun e ecc
      ∃ t done, Ended (.arrayDrain e.id ecc) s t e done ∧ t.dev.cmp = d.cmp
        ∧ (arOutMode x = 3 → d.histOk (arScaleC x) = false → done.code = ccAddressRange ∧ t.dev.mem = d.mem)
        ∧ ((arOutMode x = 3 → d.histOk (arScaleC x) = true) → (d.tile (arTile x)).poison = false → d.firstPoison (d.drainReads x) = none →
            done.code = 0 ∧ done.result = arM x)
        ∧ ((arOutMode x = 3 → d.histOk (arScaleC x) = true) → (d.tile (arTile x)).poison = true ∨ d.firstPoison (d.drainReads x) ≠ none →
            done.code = ccPoisoned)

/-- TAP_FLUSH takes the first flush out of the queue and counts it; the header's operation count grows by one and its token count by the
tokens sampled; a flush that triggers a merge leaves it at 0. Of the compute units only the queue changes. With an empty queue, and after a
device-fatal event, nothing happens. -/
def Obligations.TapFlushRunsTheFirst : Prop :=
  (∀ s : State, s.dev.cmp.taps = [] ∨ s.dev.disp.fatal = true → Effect .tapFlush s s.dev)
  ∧ ∀ (f : TapFlush) (rest : List TapFlush) (s : State), s.dev.cmp.taps = f :: rest → s.dev.disp.fatal = false →
    let h := s.dev.num f.addr 64
    let merges := thMergeOps h ≠ 0 ∧ thOps h + 1 = thMergeOps h
    ∃ t, Answers .tapFlush s t ∧ t.dev.cmp = { s.dev.cmp with taps := rest }
      ∧ t.dev.get 0x6110 1 = (s.dev.get 0x6110 1 + 1) % 2 ^ 64
      ∧ (¬ merges → t.dev.num f.addr 64 = thAfterFlush h f.tokens)
      ∧ (merges → thOps (t.dev.num f.addr 64) = 0)
      ∧ t.dev.power = s.dev.power ∧ t.dev.disp.rings = s.dev.disp.rings ∧ t.dev.disp.counters = s.dev.disp.counters

/-- The vector commands, by what they find: an invalid sequence table or a history ring out of reach ends them with its code, or with
`POISONED` where their control data are poisoned, and nothing is written; else they write, report the values written (every result of
VEC_REDUCE, every pair of STATS, and else the unmasked positions; 04 R106, R593), and end with `OK`, or with `POISONED` where they read
poison (how far an operation on poisoned data goes is the model's reading: log entry 23). -/
def Obligations.VectorOperationsEnd : Prop :=
  ∀ (c : Instr) (op : Nat) (s : State) (e : Entry), startedBy c = some (e.id, op) → 0x20 ≤ op → op ≤ 0x25 → Starts c s e →
    let x := e.desc
    let d := s.dev.begun e (eccOf c)
    let m := d.veMask x
    let live := ((grid (veRows x) (veCols x)).filter (fun p => !m.out p.1 p.2)).length
    let pairs := ((below (veRows x)).filter (fun r => !m.padRow r)).length
    let ctl := (d.firstPoison (d.vecControl x)).isSome
    ∃ t done, Ended c s t e done
      ∧ (m.ok = false → done.code = (if ctl then ccPoisoned else ccSeqTable) ∧ t.dev.mem = d.mem)
      ∧ (m.ok = true → vecProduces x = true → d.histOk (slScale (veD x)) = false →
          done.code = (if ctl then ccPoisoned else ccAddressRange) ∧ t.dev.mem = d.mem)
      ∧ (m.ok = true → (vecProduces x = true → d.histOk (slScale (veD x)) = true) →
          done.code = (if ctl ∨ (d.firstPoison (vecReads x)).isSome then ccPoisoned else 0)
          ∧ done.result = (if op = 0x24 then (reduceSets x).length else if op = 0x23 ∧ veFunc x = 0 then pairs else live))

/-- MOVE_COPY, MOVE_FROM_HOST and MOVE_TO_HOST: a history ring out of reach ends a conversion with `ADDRESS_RANGE`, or with `POISONED`
where its control data are poisoned, and nothing is written; else they write and report the bytes written, and end with `OK`, or with
`POISONED` where a source, a control record or a host read failed them (poisoned records: the model's
reading, log entry 23). MOVE_FILL ends with `OK`, reports the bytes written, and stores the pattern in every element of the destination; every byte of device
memory outside the elements is as before. -/
def Obligations.MovesEnd : Prop :=
  (∀ (ecc : List EccHit) (host : HostReply) (c : Instr) (s : State) (e : Entry),
    (c = .moveCopy e.id ecc ∨ c = .moveFromHost e.id host ecc ∨ c = .moveToHost e.id ecc) → Starts c s e →
    let x := e.desc
    let d := s.dev.begun e ecc
    let bytes := mvRows x * mvCols x * (d.view (mvDst x)).fmt.size
    let v := d.view (mvSrc x)
    let need := (hull 0 (mvRows x) v.stride (mvCols x * v.fmt.size)).2
    let lost := if c = .moveFromHost e.id host ecc then ∃ p ∈ grid (mvRows x) (mvCols x), hostBad (v.at 0) (d.hostRead host need) p = true
      else ∃ p ∈ grid (mvRows x) (mvCols x), d.localBad v p = true
    let ctl := d.firstPoison (d.moveControl x)
    ∃ t done, Ended c s t e done
      ∧ (d.moveHistOk x = false → done.code = (if ctl = none then ccAddressRange else ccPoisoned) ∧ t.dev.mem = d.mem)
      ∧ (d.moveHistOk x = true → done.result = bytes ∧ (lost ∨ ctl ≠ none → done.code = ccPoisoned)
          ∧ (¬ lost → ctl = none → done.code = 0)))
  ∧
  ∀ (s : State) (e : Entry), Starts (.moveFill e.id) s e →
    let x := e.desc
    let v := s.dev.view (mvDst x)
    ∃ t done, Ended (.moveFill e.id) s t e done ∧ done.code = 0 ∧ done.result = mvRows x * mvCols x * v.fmt.size
      ∧ ((∀ p ∈ grid (mvRows x) (mvCols x), inWindow (v.place p.1 p.2) = false) →
          (mvCols x * v.fmt.size ≤ v.stride → ∀ r < mvRows x, ∀ k < mvCols x,
            t.dev.mem.num (v.place r k) v.fmt.size = mvFillValue x % 2 ^ (8 * v.fmt.size))
          ∧ (∀ a, (∀ r < mvRows x, ∀ k < mvCols x, a < v.place r k ∨ v.place r k + v.fmt.size ≤ a) → t.dev.mem.byte a = s.dev.mem.byte a))

/-- RETRIEVE_FETCH asks the owner first, or itself where it is the owner; a refused request ends it with `ADDRESS_RANGE` and writes nothing; a
copy that carries no poison and matches the fingerprint, or is not to be checked, is written and ends it with `OK`; one that does not match is
fetched once more, which is counted; a second mismatch ends it with `FETCH_MISMATCH`. RETRIEVE_PREFETCH, RETRIEVE_OFFLOAD and
RETRIEVE_RESTORE: with unpoisoned sources, and a remote side that serves, they end with `OK` and `RETR_BYTES` grows by the bytes moved; a
refusing remote side ends them with `ADDRESS_RANGE`; poison ends them with `POISONED`. A prefetch sets its shard's ready bit on `OK` only. -/
def Obligations.RetrieverDescriptorsEnd : Prop :=
  (∀ (first second : RemoteReply) (s : State) (e : Entry), Starts (.retrieveFetch e.id first second) s e →
      let x := e.desc
      let q := (s.dev.markStarted e).fetched x first
      let d := q.1
      let r1 := q.2
      let r2 := (d.fetched x second).2
      let v := d.view (mvSrc x)
      let ok (r : RemoteReply) := replyServes r (d.retrLength x) = true
      let bad (r : RemoteReply) := ∃ p ∈ grid (mvRows x) (mvCols x), remoteBad v r.marks p = true
      let fits (r : RemoteReply) := fpMatches (remoteBytes x v r.bytes) (ofBytes (r.record.take 32)) = true
      let bytes := mvRows x * mvCols x * (d.view (mvDst x)).fmt.size
      ∃ t done, Ended (.retrieveFetch e.id first second) s t e done
        ∧ (¬ ok r1 → done.code = ccAddressRange ∧ t.dev.mem = s.dev.mem ∧ t.dev.out = d.out)
        ∧ (ok r1 → bad r1 → done.code = ccPoisoned)
        ∧ (ok r1 → ¬ bad r1 → mvHostAddr x = 0 ∨ fits r1 → done.code = 0 ∧ done.result = bytes)
        ∧ (ok r1 → ¬ bad r1 → mvHostAddr x ≠ 0 → ¬ fits r1 →
            t.dev.get 0x50A0 8 = min (s.dev.get 0x50A0 8 + 1) 0xFFFFFFFF
            ∧ (¬ ok r2 → done.code = ccAddressRange) ∧ (ok r2 → bad r2 → done.code = ccPoisoned)
            ∧ (ok r2 → ¬ bad r2 → fits r2 → done.code = 0 ∧ done.status = 2 ^ sfRefetched ∧ done.event = 0x1541)
            ∧ (ok r2 → ¬ bad r2 → ¬ fits r2 → done.code = ccFetchMismatch ∧ done.event = 0x2542)))
  ∧ (∀ (d : Dev) (x : Nat) (r : RemoteReply),
      (mvRemote x ≠ d.self → (d.fetched x r).2 = r
        ∧ (d.fetched x r).1 = { d with out := ((d.remoteReads x).map (fun q =>
            Out.retrieverRequest (mvRemote x) (retrTc x) false q.1 [] q.2 false false)).reverse ++ d.out })
      ∧ (mvRemote x = d.self → ((d.fetched x r).2.served = true ↔ ∀ q ∈ d.remoteReads x, d.inAperture q.1 q.2 = true)))
  ∧
    ∀ (remote : RemoteReply) (ecc : List EccHit) (c : Instr) (s : State) (e : Entry),
      (c = .retrievePrefetch e.id ecc ∨ c = .retrieveOffload e.id remote ecc ∨ c = .retrieveRestore e.id remote ecc) → Starts c s e →
      let x := e.desc
      let d := s.dev.begun e ecc
      let here := c = .retrievePrefetch e.id ecc ∨ mvRemote x = d.self
      let moved := mvRows x * mvCols x
      let refused := ¬ here ∧ (if c = .retrieveOffload e.id remote ecc then remote.served = false ∧ moved ≠ 0
        else replyServes remote (d.retrLength x) = false)
      let bad := ∃ p ∈ grid (mvRows x) (mvCols x), if ¬ here ∧ c = .retrieveRestore e.id remote ecc
        then remoteBad (d.view (mvSrc x)) remote.marks p = true else d.localBad (d.view (mvSrc x)) p = true
      ∃ t done, Ended c s t e done
        ∧ (refused → done.code = ccAddressRange) ∧ (¬ refused → bad → done.code = ccPoisoned)
        ∧ (¬ refused → ¬ bad → done.code = 0 ∧ done.result = moved * (d.view (mvDst x)).fmt.size
            ∧ (slFmt (mvSrc x) < 7 → t.dev.get 0x4050 3 = (d.get 0x4050 3 + moved * (d.view (mvSrc x)).fmt.size) % 2 ^ 64)
            ∧ (c = .retrievePrefetch e.id ecc → t.dev.readyBit (mvShard x) = true))

/-- REMOTE_RETRIEVER_REQUEST: inside an enabled aperture a read is answered with the bytes and their poison marks, and a write is stored with its
marks, bytes outside it staying as they were; a restore is served to the owner of a hold slot alone, from the committed generation, and never
writes; any other request is refused, counted in `APERTURE_REFUSED` and reported by 0x0705, and memory stays. The answer leaves where a route
leads to the source; a request that the port's fence keeps out has no effect. -/
def Obligations.RemoteRequestsAreServedInsideApertures : Prop :=
  (∀ (p : Fin 6) (source : BitVec 14) (write : Bool) (addr : Nat) (body : RetrBody)
    (ecc : List EccHit) (s : State), s.dev.memoryOn = true →
    let bytes := body.bytes
    let n := if write then bytes.length else body.length
    let from_ := s.dev.serves source.toNat write body.restore addr n
    let c : Instr := .remoteRetrieverRequest p source write addr body ecc
    (s.dev.fencedOut p source.toNat = true → Effect c s s.dev)
    ∧ (s.dev.fencedOut p source.toNat = false → ∃ t, Answers c s t
      ∧ (∀ a, from_ = some a → write = true → (∀ i (h : i < bytes.length), t.dev.mem.byte (a + i) = bytes[i])
          ∧ (∀ i < bytes.length, body.marks.getD i false = true → t.dev.mem.poisoned (a + i) = true)
          ∧ (∀ b, b < a ∨ a + bytes.length ≤ b → t.dev.mem.byte b = s.dev.mem.byte b)
          ∧ t.dev = ({ s.dev with mem := t.dev.mem } : Dev).answerRemote source.toNat true [] [])
      ∧ (∀ a, from_ = some a → write = false →
          let d := s.dev.eccRead [] ecc
          t.dev = d.answerRemote source.toNat true (s.dev.rd a n) (d.marksOf a n) ∧ ∀ b, t.dev.mem.byte b = s.dev.mem.byte b)
      ∧ (from_ = none → t.dev.get 0x4050 2 = min (s.dev.get 0x4050 2 + 1) 0xFFFFFFFF ∧ t.dev.mem = s.dev.mem
          ∧ t.dev = ((s.dev.addSat 0x4050 2 32 1).raise 0x0705 0 0).answerRemote source.toNat false [] [])))
  ∧ (∀ (d : Dev) (source a n : Nat) (write : Bool),
      d.serves source write false a n = (if d.inAperture a n = true then some a else none) ∧ d.serves source true true a n = none
      ∧ ∀ b, d.serves source false true a n = some b → ∃ h < 4, d.get (0x7210 + h) 1 = 0x8000 + source ∧ d.get (0x7210 + h) 5 ≠ 0
          ∧ b = d.get (0x7210 + h) 2 + d.get (0x7210 + h) 4 % 2 * d.get (0x7210 + h) 3 + a ∧ a + n ≤ d.get (0x7210 + h) 3)
  ∧ ∀ (d : Dev) (source : Nat) (served : Bool) (bytes : List Byte) (marks : List Bool),
      d.answerRemote source served bytes marks = (if d.reaches source = true then d.emit (.retrieverAnswer source served bytes marks)
        else d.addSat 0x3410 1 32 (Config.retrFlits bytes.length))

/-- CE_ROOT, CE_CHOL_INV and CE_LSQ: poisoned input ends them with `POISONED`, input that is not finite with
`NONFINITE_INPUT`, no plan within range with `RANGE`, too little room with the code of the room check; each of these before anything is written at
`OUT_ADDR`. Every job started is counted. CE_ROOT, CE_CHOL_INV and CE_LSQ that run to their end: CE_ROOT within its tolerance, the others when no pivot stops them, with no poison in
scratch, end with `OK`; CE_ROOT, its scratch overlapping nothing else, has written its result at `OUT_ADDR` in G16, and reports its iterations and residual. (Without warm start and store:
those forms run to an end by StartedDescriptorsEnd.) -/
def Obligations.SolverJobsEnd : Prop :=
  (∀ (c : Instr) (op : Nat) (s : State) (e : Entry), startedBy c = some (e.id, op) → 0x50 ≤ op → op ≤ 0x52 → Starts c s e →
      let x := e.desc
      let d := (s.dev.begun e (eccOf c)).addWrap 0x6010 1 1
      let bad := (d.firstPoison (ceInput x)).isSome = true
      let finite := if op = 0x52 then (∀ p ∈ grid (ceDim x) (ceNcols x), (d.lsqD x p.1 p.2).isFinite = true)
          ∧ (∀ t < ceDim x, (d.lsqY x t).isFinite = true) else d.squareFinite x = true
      let plan := if op = 0x52 then lsqPlan x (d.lsq x) else d.squarePlan x (if op = 0x50 then 2 ^ cePCode x else 1)
      ∃ t done, Ended c s t e done ∧ t.dev.get 0x6010 1 = (s.dev.get 0x6010 1 + 1) % 2 ^ 64
        ∧ (bad → done.code = ccPoisoned ∧ t.dev.mem = d.mem)
        ∧ (¬ bad → ¬ finite → done.code = ccNonfinite ∧ t.dev.mem = d.mem)
        ∧ (¬ bad → finite → plan = none → done.code = ccRange ∧ t.dev.mem = d.mem)
        ∧ (¬ bad → finite → plan ≠ none → d.ceRoom x ≠ 0 → done.code = d.ceRoom x ∧ t.dev.mem = d.mem))
  ∧
    ∀ (c : Instr) (op : Nat) (s : State) (e : Entry) (pl : Plan), startedBy c = some (e.id, op) → 0x50 ≤ op → op ≤ 0x52 → Starts c s e →
      let x := e.desc
      let d := (s.dev.begun e (eccOf c)).addWrap 0x6010 1 1
      let finite := if op = 0x52 then (∀ p ∈ grid (ceDim x) (ceNcols x), (d.lsqD x p.1 p.2).isFinite = true)
          ∧ (∀ t < ceDim x, (d.lsqY x t).isFinite = true) else d.squareFinite x = true
      let plan := if op = 0x52 then lsqPlan x (d.lsq x) else d.squarePlan x (if op = 0x50 then 2 ^ cePCode x else 1)
      let a := normalised (ceDim x) pl (d.ceSquare x)
      let hh := normalised (ceNcols x) pl (fun i k => qValue 34 ((d.lsq x).h.at i k))
      let i := Mat.make (ceDim x) (ceDim x) (unitQ (35 - pl.m))
      let root := rootLoop (ceDim x) (cePCode x) (35 - pl.m) (ceTolExp x) (ceMaxIter x) i a.1 0 a.2
      let f := if op = 0x52 then factorise (ceNcols x) hh.1 (pivotTau pl.rho) (cePivotPolicy x)
        else factorise (ceDim x) a.1 (pivotTau pl.rho) (cePivotPolicy x)
      (d.firstPoison (ceInput x)).isSome = false → finite → plan = some pl → d.ceRoom x = 0 → d.warmPoison x pl = false →
      d.scratchBad x (eccOf c) = false → ceWarmEn x = false → ceStoreRoot x = false →
      (op = 0x50 → root.converged = true) → (op ≠ 0x50 → f.stop = none) →
      ∃ t done, Ended c s t e done ∧ done.code = 0
        ∧ (op = 0x50 → done.result = ceResult root.k 0 0xFFF (fmtA32.enc root.r)
            ∧ (d.ceWild x = false → t.dev.mem.read (ceOutAddr x) (2 * ceDim x * ceDim x)
                = g16Bytes (ceDim x) (fun p q => rne64 (fpMul (qValue (35 - pl.m) (root.x.at p q)) (phi pl.e (2 ^ cePCode x))))))

/-! ## Collectives and shadows (11 R353-R367, 12 R380-R388) -/

/-- The five collective commands. A collective whose tree is unused or does not list the device, that clashes with one in flight, breaks the
epoch rule or breaks a rule of its opcode ends with `INVALID_FIELD`; one whose operands lie outside the near stacks and the tile store ends
with `ADDRESS_RANGE`; poisoned control data end it with `POISONED`. A collective that passes, alone in its tree and with nothing else under way,
ends with `OK`; a broadcast of rank 0 in a larger tree leaves as one segment to rank 1 and goes on. -/
def Obligations.CollectivesCheckSendAndEnd : Prop :=
  ∀ (c : Instr) (ecc : List EccHit) (s : State) (e : Entry), CollStarts c s e ecc →
    let x := e.desc
    let d := s.dev.begun e ecc
    let treeOk := d.firstPoison (d.treeExt (coTree x)) = none
    let poisoned := ∃ t done, Ended c s t e done ∧ done.code = ccPoisoned
    (¬ treeOk → poisoned)
    ∧ (treeOk → d.treeInfo (coTree x) = none → Effect c s (d.endedAs s.dev e ccInvalidField))
    ∧ (∀ alg tree rank, treeOk → d.treeInfo (coTree x) = some (alg, tree, rank) →
        let k := newColl e (d.stepOf x) alg tree rank (d.countsOf x tree.length)
        let reach := (d.countsExt x tree.length).all (d.extentIn coreRegions)
        let clean := d.firstPoison (d.countsExt x tree.length) = none
        (reach = false → Effect c s (d.endedAs s.dev e ccAddressRange))
        ∧ (reach = true → ¬ clean → poisoned)
        ∧ (reach = true → clean → d.collClash x = true ∨ d.collInvalid k = true → Effect c s (d.endedAs s.dev e ccInvalidField))
        ∧ (reach = true → clean → d.collClash x = false → d.collInvalid k = false →
            (d.collExts k).all (d.extentIn coreRegions) = false → Effect c s (d.endedAs s.dev e ccAddressRange)))
    ∧ (∀ k, d.CollPasses e k → s.dev.eng.early = [] → (∀ f ∈ s.dev.eng.flights, f.id ≠ e.id) →
        (k.tree.length = 1 → d.mem.poison = [] → (∀ g ∈ s.dev.eng.segments, g.owner ≠ some e.id) →
          (∀ g ∈ s.dev.eng.backlog, g.owner ≠ some e.id) →
          ∃ t done, Ended c s t e done ∧ done.code = 0 ∧ t.dev.eng.flights = s.dev.eng.flights ∧ t.dev.eng.segments = s.dev.eng.segments
            ∧ (hdOpcode x = 0x41 → ∀ i < k.count 0 * k.sendSize,
                t.dev.mem.byte (slAddr (coRecv x) + i) = s.dev.mem.byte (slAddr (coSend x) + i))
            ∧ (hdOpcode x = 0x43 → t.dev.epochOf (coTensor x) = coEpoch x))
        ∧ (hdOpcode x = 0x42 → k.rank = 0 → 2 ≤ k.tree.length → 0 < k.count 0 * k.sendSize → s.dev.eng.nextSegment < 2 ^ 24 →
          s.dev.eng.exhausted = false →
          ∃ t dest chunks, Answers c s t ∧ t.dev.entry e.id = some (s.dev.startedEntry e) ∧ some dest = k.tree[1]?
            ∧ t.dev.segs = s.dev.segs ++ [(some e.id, dest, s.dev.eng.nextSegment, chunks, 0)]
            ∧ chunks.flatMap (fun q => q.data) = s.dev.rd (slAddr (coSend x)) (k.count 0 * k.sendSize)))

/-- The commands that take the oldest chunk of their kind out of the inbox, once the flits that the device sent to itself have been delivered (here: with
none of them). With none there nothing changes; the commands on which the engine computes or reads memory find the errors that stand, and do
nothing after a device-fatal event. A DATA or FINGERPRINT chunk: a duplicate is counted and changes no memory; a stale one is dropped and counted; one
of a collective not in flight is held early, until `EARLY_HOLD` from now, or dropped and counted where the store is full; an accepted one is noted as
accepted. A SEG_ACK releases its segment. A CHUNK_NAK has its chunk sent again, or ends the collective with `COLL_INTEGRITY` after the `COLL_RESENDS`
re-sends in force as the segment started. A REFETCH_REQ has the own part of its all-gather sent again; one that names no all-gather of the step is
ignored. The engine's timers: a stream silent for 20 μs ends, and its chunk counts as failed; a segment whose acknowledgement is overdue is sent again
whole and counted, or ends its collective with `COLL_INTEGRITY`; early chunks held too long are dropped and counted. Before its time each timer
changes nothing. -/
def Obligations.EngineActsOnChunksAndTimers : Prop :=
  ((∀ (c : Instr) (kind : Nat) (s : State),
      (c = .collDataChunkReceived ∧ kind = 0) ∨ (c = .fingerprintChunkReceived ∧ kind = 1) ∨ (c = .segAckReceived ∧ kind = 2)
        ∨ (c = .chunkNakReceived ∧ kind = 3) ∨ (c = .refetchReqReceived ∧ kind = 4) ∨ (c = .shadowDataReceived ∧ kind = 5)
        ∨ (c = .shadowCommitReceived ∧ kind = 6) →
      let reads := kind = 0 ∨ kind = 1 ∨ kind = 2 ∨ kind = 4
      (reads → s.dev.disp.fatal = true → Effect c s s.dev)
      ∧ (s.dev.eng.loop = [] → s.dev.eng.inbox.find? (fun k => chKind k.header == kind) = none → (reads → s.dev.disp.fatal = false) →
          Effect c s (if reads then s.dev.readFlaws else s.dev)))
    ∧ ∀ (s : State) (k : Chunk), s.dev.eng.loop = [] →
        s.dev.eng.inbox.find? (fun k' => chKind k'.header == chKind k.header) = some k →
      let b := s.dev.readFlaws
      let d := b.withoutChunk k
      let coll := d.eng.flights.find? (fun c => coCollId c.desc == chCollId k.header)
      let old := serialNewer 16 (d.epochOf (chTensor k.header)) k.epoch
      (s.dev.disp.fatal = false → ∀ c, (c = Instr.collDataChunkReceived ∧ chKind k.header = 0)
          ∨ (c = Instr.fingerprintChunkReceived ∧ chKind k.header = 1) →
        (k.key ∈ d.eng.accepted → ∃ t, Answers c s t ∧ t.dev.get 0x3510 2 = (s.dev.get 0x3510 2 + 1) % 2 ^ 64 ∧ t.dev.mem = b.mem
          ∧ t.dev.disp = s.dev.disp ∧ t.dev.eng.flights = s.dev.eng.flights ∧ t.dev.eng.inbox = d.eng.inbox)
        ∧ (k.key ∉ d.eng.accepted → old = true → coll = none → Effect c s (d.addWrap 0x3510 1 1))
        ∧ (k.key ∉ d.eng.accepted → old = false → coll = none →
            (d.eng.earlyBytes + k.data.length ≤ 8 * 2 ^ 20 →
              Effect c s { d with eng := { d.eng with early := d.eng.early ++ [(k, d.now + d.get 0x3500 3 * 1000)] } })
            ∧ (8 * 2 ^ 20 < d.eng.earlyBytes + k.data.length → Effect c s (d.addSat 0x3510 4 32 1)))
        ∧ (∀ f i, k.key ∉ d.eng.accepted → old = false → coll = some f → coEpoch f.desc = k.epoch → f.needFor k = some i →
            i < f.need.length → ∃ t, Answers c s t ∧ k.key ∈ t.dev.eng.accepted ∧ t.dev.eng.inbox = d.eng.inbox))
      ∧ (s.dev.disp.fatal = false → chKind k.header = 2 →
        (d.segmentOf k = none → Effect .segAckReceived s d)
        ∧ ∀ g, d.segmentOf k = some g → ∃ t, Answers .segAckReceived s t
            ∧ t.dev.segs = (s.dev.eng.segments.filter (fun y => y != g)).map Segment.fixed
            ∧ (∀ id f, g.owner = some id → (d.dropSegment g).coll id = some f → (d.dropSegment g).collOver f = false →
                t.dev = d.dropSegment g))
      ∧ (chKind k.header = 3 →
        let d := s.dev.withoutChunk k
        (d.segmentOf k = none → Effect .chunkNakReceived s d)
        ∧ ∀ g q, d.segmentOf k = some g → (g.chunks.take g.sent).find? (fun q => chChunk q.header == chChunk k.header) = some q →
            (q.resends < g.limit → ∃ t, Answers .chunkNakReceived s t
                ∧ t.dev.eng.segments = s.dev.eng.segments.map (fun y =>
                    if y = g then g.bump (fun x => x.key == q.key) s.dev.now (s.dev.get 0x3500 1) else y)
                ∧ t.dev.disp = s.dev.disp ∧ t.dev.mem = s.dev.mem)
            ∧ (∀ id f e, g.limit ≤ q.resends → g.owner = some id → d.coll id = some f → f.code = 0 → d.entry id = some e → f.id = id →
                ∃ t, Answers .chunkNakReceived s t ∧ f.step ∈ t.dev.disp.fatalSteps
                  ∧ ∃ done, t.dev.entry id = some { e with done := some done } ∧ done.code = ccCollIntegrity))
      ∧ (s.dev.disp.fatal = false → chKind k.header = 4 →
        let it := (d.eng.flights ++ d.eng.past).find? (fun c => c.op == 0x41 && coCollId c.desc == chCollId k.header)
        (it = none → Effect .refetchReqReceived s d)
        ∧ ∀ f, it = some f → k.src ∈ f.tree → 0 < f.count f.rank * f.sendSize → s.dev.eng.nextSegment < 2 ^ 24 → s.dev.eng.exhausted = false →
            ∃ t chunks, Answers .refetchReqReceived s t
              ∧ t.dev.segs = s.dev.segs ++ [(some f.id, k.src, s.dev.eng.nextSegment, chunks, 0)]
              ∧ t.dev.mem = b.mem ∧ t.dev.disp = s.dev.disp))
  ∧
    (∀ (source : BitVec 14) (collId : BitVec 16) (detour : Bool) (s : State),
      let c : Instr := .chunkStreamTimeout source collId detour
      let it := s.dev.eng.streams.find? (fun x => x.src == source.toNat && x.collId == collId.toNat && x.detour == detour)
      (it = none → Effect c s s.dev)
      ∧ ∀ x, it = some x → (s.dev.now < x.lastAt + 20000 → Effect c s s.dev)
        ∧ (x.lastAt + 20000 ≤ s.dev.now → ∃ t, Answers c s t ∧ t.dev.get 0x3510 3 = min (s.dev.get 0x3510 3 + 1) 0xFFFFFFFF
            ∧ t.dev.eng.streams = s.dev.eng.streams.filter (fun y => !(y.src == source.toNat && y.collId == collId.toNat && y.detour == detour))
            ∧ t.dev.mem = s.dev.mem ∧ t.dev.disp = s.dev.disp))
    ∧ (∀ (n : Nat) (s : State),
      let late (g : Segment) := decide (g.chunks.length ≤ g.sent) && decide (g.lastSend + g.wait * 1000 ≤ s.dev.now)
      let it := s.dev.eng.segments.find? (fun g => g.number == n && late g)
      let spent (g : Segment) := g.limit ≤ g.resends ∨ ∃ q ∈ g.chunks, g.limit ≤ q.resends
      (it = none → Effect (.collAckTimeout n) s s.dev)
      ∧ ∀ g, it = some g →
        (¬ spent g → ∃ t, Answers (.collAckTimeout n) s t
          ∧ t.dev.eng.segments = s.dev.eng.segments.map (fun y => if y = g then
              { g.bump (fun _ => true) s.dev.now (s.dev.get 0x3500 1) with resends := g.resends + 1 } else y)
          ∧ t.dev.mem = s.dev.mem ∧ t.dev.disp = s.dev.disp)
        ∧ (∀ id f e, spent g → g.owner = some id → s.dev.coll id = some f → f.code = 0 → s.dev.entry id = some e → f.id = id →
            ∃ t, Answers (.collAckTimeout n) s t ∧ f.step ∈ t.dev.disp.fatalSteps
              ∧ ∃ done, t.dev.entry id = some { e with done := some done } ∧ done.code = ccCollIntegrity))
    ∧ ∀ s : State,
      let late (q : Chunk × Nat) := q.2 ≤ s.dev.now
      ∃ t, Answers .earlyHoldExpired s t ∧ t.dev.eng = { s.dev.eng with early := s.dev.eng.early.filter (fun q => !decide (late q)) }
        ∧ t.dev.get 0x3510 4 = min (s.dev.get 0x3510 4 + (s.dev.eng.early.filter (fun q => decide (late q))).length) 0xFFFFFFFF
        ∧ { t.dev with eng := s.dev.eng, od := s.dev.od } = s.dev

/-- Shadow traffic at the holder: data of a source without a hold slot are dropped and store nothing; data that a slot accepts are stored in the half
of the slot that the step's parity names; a commit whose total is reached commits its step, and a held commit is dropped at the instant fixed as
it was held, `COLL_ACK_TIMEOUT` later. The owner sends its commit once every data segment is acknowledged. (With no flit that the device sent to itself under
way.) -/
def Obligations.ShadowsStoreAndCommit : Prop :=
  (∀ (s : State) (k : Chunk), s.dev.eng.loop = [] → s.dev.eng.inbox.find? (fun k' => chKind k'.header == chKind k.header) = some k →
    let d := s.dev.withoutChunk k
    let v := k.header
    (chKind v = 5 →
      (d.holdOf k.src = none → ∃ t, Answers .shadowDataReceived s t ∧ t.dev.mem = s.dev.mem ∧ t.dev.shadow = s.dev.shadow ∧ t.dev.eng = d.eng)
      ∧ ∀ h, d.holdOf k.src = some h → d.holdStepOk h (chTensor v) = true → chOffset v + k.data.length ≤ d.get (0x7210 + h) 3 →
          (d.hold h).step = some (chTensor v) → (d.hold h).attempt = chStage v → (chSegment v, chChunk v) ∉ (d.hold h).keys →
          (d.hold h).commit = none →
          let a := d.get (0x7210 + h) 2 + chTensor v % 2 * d.get (0x7210 + h) 3 + chOffset v
          ∃ t, Answers .shadowDataReceived s t ∧ (∀ i (hi : i < k.data.length), t.dev.mem.byte (a + i) = k.data[i])
            ∧ (∀ b, b < a ∨ a + k.data.length ≤ b → t.dev.mem.byte b = s.dev.mem.byte b)
            ∧ (t.dev.hold h).bytes = (d.hold h).bytes + k.data.length ∧ t.dev.eng.inbox = d.eng.inbox
            ∧ t.dev.get (0x7210 + h) 5 = (if d.get (0x7210 + h) 5 = 0 then 0 else 2))
    ∧ (chKind v = 6 →
      let step := ofBytes (k.data.take 8)
      let total := ofBytes ((k.data.drop 8).take 8)
      (d.holdOf k.src = none → Effect .shadowCommitReceived s d)
      ∧ ∀ h, d.holdOf k.src = some h → (d.get (0x7210 + h) 5 = 0 ∨ d.get (0x7210 + h) 4 ≠ step) → d.holdStepOk h (step % 65536) = true →
          (d.hold h).step = some (step % 65536) → (d.hold h).attempt = chStage v → (d.hold h).bytes = total →
          ∃ t, Answers .shadowCommitReceived s t ∧ t.dev.get (0x7210 + h) 4 = step ∧ t.dev.get (0x7210 + h) 5 = 1
            ∧ t.dev.hold h = Hold.init ∧ t.dev.mem = s.dev.mem))
  ∧ (∀ (slot : Fin 4) (s : State), let x := s.dev.hold slot
      (∀ step total at_ header way, x.commit = some (step, total, at_, header, way) →
        (at_ ≤ s.dev.now → Effect (.shadowCommitHoldTimeout slot) s (s.dev.setHold slot { x with commit := none }))
        ∧ (s.dev.now < at_ → Effect (.shadowCommitHoldTimeout slot) s s.dev))
      ∧ (x.commit = none → Effect (.shadowCommitHoldTimeout slot) s s.dev))
  ∧ (∀ s : State, s.dev.shadow.current = none → Effect .shadowCommitSend s s.dev)
  ∧ (∀ (s : State) (p : Nat), s.dev.shadow.current = some p →
      let due := s.dev.shadow.boundary = true ∧ s.dev.shadow.commitSent = false ∧ s.dev.shadow.failed = false
        ∧ ∀ g ∈ s.dev.eng.segments, g.shadowOf 5 p = false
      (¬ due → Effect .shadowCommitSend s s.dev)
      ∧ (due → ∃ t q, Answers .shadowCommitSend s t ∧ t.dev.shadow = { s.dev.shadow with commitSent := true }
          ∧ t.dev.segs = s.dev.segs ++ [(none, bits (s.dev.get 0x7200 2) 0 14, 0, [q], 0)]
          ∧ chKind q.header = 6 ∧ q.data = toBytes 8 p ++ toBytes 8 s.dev.shadow.total ∧ t.dev.mem = s.dev.mem))

/-! ## The update sweep and memory service (05 R159-R161, 08 R228-R256, 09 R262-R281) -/

/-- SWEEP_NORM_CHECK, SWEEP_SHARDS and SWEEP_VERIFY: poisoned control data end them with `POISONED`, a table or operand that breaks a rule with the
code of the check, and nothing else changes. A norm check without poisoned gradients ends with `OK` and has written the sum of squares and the count of
values that are not finite; one with a poisoned gradient ends with `POISONED` and makes its step fatal. A verification whose stored records are
stale, or match, ends with `OK`. A sweep outside version rings whose shards are all eligible, not to be verified and free of poison updates all of
them and ends with `OK`; one whose version slot is still referred to waits for its claim, which is counted; one of a step after a shadowed step
that is not committed does not start. -/
def Obligations.SweepDescriptorsEnd : Prop :=
  (∀ (c : Instr) (op : Nat) (ecc : List EccHit) (l : List ShadowRec) (s : State) (e : Entry),
    (c = .sweepNormCheck e.id ecc ∧ op = 0x60) ∨ (c = .sweepShards e.id l ecc ∧ op = 0x61 ∧ s.dev.awaitsCommit e.id = false)
      ∨ (c = .sweepVerify e.id l ecc ∧ op = 0x62) →
    s.dev.entry e.id = some e → hdOpcode e.desc = op → s.dev.mayStart e = true →
    let x := e.desc
    let d := s.dev.begun e ecc
    let table := d.shardTable x
    (d.firstPoison (Dev.sweepControl x d) ≠ none → ∃ t done, Ended c s t e done ∧ done.code = ccPoisoned)
    ∧ (d.firstPoison (Dev.sweepControl x d) = none → d.tableCheck x table ≠ 0 → Effect c s (d.endedAs s.dev e (d.tableCheck x table)))
    ∧ (d.firstPoison (Dev.sweepControl x d) = none → d.tableCheck x table = 0 →
        let sum := d.normSum table
        (op = 0x60 → sum.2.2 = none → ∃ t done, Ended c s t e done ∧ done.code = 0 ∧ done.result = table.length * 2 ^ 32
          ∧ t.dev.num (swNormAddr x) 8 = fmtW64.enc sum.1.1 % 2 ^ 64 ∧ t.dev.num (swNormAddr x + 8) 8 = fmtW64.enc (fpNat sum.1.2) % 2 ^ 64
          ∧ (∀ a, a < swNormAddr x ∨ swNormAddr x + 16 ≤ a → t.dev.mem.byte a = s.dev.mem.byte a))
        ∧ (op = 0x60 → sum.2.2 ≠ none → ∃ t done, Ended c s t e done ∧ done.code = ccPoisoned ∧ s.dev.stepOf x ∈ t.dev.disp.fatalSteps
          ∧ ∀ a, t.dev.mem.byte a = s.dev.mem.byte a)
        ∧ (op = 0x62 → (∀ i v, table[i]? = some v →
              let a := swFprintAddr x + 32 * i
              let r := d.num a 32
              fpValid r = false ∨ fpVersion r ≠ swNewVersion x ∨ fpEpoch r ≠ shEpoch v ∨ fpShard r ≠ shId v
                ∨ d.shardGood (swOptKind x) v (shBank v (swNewVersion x)) r a = true) →
            ∃ t done, Ended c s t e done ∧ done.code = 0 ∧ done.result = table.length * 2 ^ 32 ∧ ∀ a, t.dev.mem.byte a = s.dev.mem.byte a)
        ∧ (op = 0x61 → swVring x = 0xFFF → d.mem.poison = [] → d.get 0x50A0 2 = 0 → s.dev.stepOf x ∉ s.dev.disp.fatalSteps →
            (∀ v ∈ table, shResident v = false) →
            ∃ t done, Ended c s t e done ∧ done.code = 0 ∧ done.result = table.length * 2 ^ 32 ∧ t.dev.cmp.sweep = none)
        ∧ (op = 0x61 → swVring x ≠ 0xFFF → claimReady (d.vring (swVring x)) (swNewVersion x) = false →
            swNormAddr x + 45 ≤ d.vringAddr (swVring x) ∨ d.vringAddr (swVring x) + 64 ≤ swNormAddr x →
            ∃ t r, Answers c s t ∧ t.dev.entry e.id = some (s.dev.startedEntry e) ∧ t.dev.cmp.sweep = some r ∧ r.id = e.id ∧ r.claiming = true
              ∧ t.dev.get 0x5090 2 = min (s.dev.get 0x5090 2 + 1) 0xFFFFFFFF)))
  ∧ ∀ (id : Nat) (l : List ShadowRec) (ecc : List EccHit) (s : State), s.dev.awaitsCommit id = true →
      (∀ t0, s.dev.shadow.waitFrom = some (id, t0) → Effect (.sweepShards id l ecc) s s.dev)
      ∧ ((∀ t0, s.dev.shadow.waitFrom ≠ some (id, t0)) →
          Effect (.sweepShards id l ecc) s { s.dev with shadow := { s.dev.shadow with waitFrom := some (id, s.dev.now) } })

/-- A sweep under way. VRING_CLAIM lets a sweep go on whose slot is free, and ends one whose step was abandoned with `STEP_ABANDONED`;
VRING_CLAIM_WAIT raises 0x0532 once, after `WAIT_WATCH`; SWEEP_SHARD_ELIGIBLE takes up a waiting sweep when an entry has become eligible;
SWEEP_RESIDENCY_WAIT raises 0x0545 once for an entry that waits longer than `WAIT_WATCH`. Otherwise none of them changes anything; nor do
VRING_CLAIM and SWEEP_SHARD_ELIGIBLE after a device-fatal event (00 R10). -/
def Obligations.SweepsUnderWayGoOn : Prop :=
  ∀ (l : List ShadowRec) (ecc : List EccHit) (n : Nat) (s : State),
    (s.dev.sweeping = none → ∀ c, c = .vringClaim l ecc ∨ c = .vringClaimWait ∨ c = .sweepShardEligible l ecc ∨ c = .sweepResidencyWait n →
      Effect c s s.dev)
    ∧ ∀ r e, s.dev.sweeping = some (r, e) →
      let v := s.dev.vring (swVring e.desc)
      let fatal := e.step ∈ s.dev.disp.fatalSteps
      let free := claimReady v (swNewVersion e.desc) = true
      let dead := s.dev.disp.fatal = true
      (r.claiming = false ∨ dead ∨ (¬ fatal ∧ ¬ free) → Effect (.vringClaim l ecc) s s.dev)
      ∧ (r.claiming = true → ¬ dead → ¬ fatal → free → ∃ t, Answers (.vringClaim l ecc) s t ∧ ∀ q, t.dev.cmp.sweep = some q → q.claiming = false)
      ∧ (r.claiming = true → ¬ dead → fatal → r.left ≠ [] → r.done.code = 0 → ∃ t done, Answers (.vringClaim l ecc) s t ∧ t.dev.cmp.sweep = none
          ∧ t.dev.entry r.id = some { e with done := some done } ∧ done.code = ccAbandoned)
      ∧ (let due := r.claiming = true ∧ r.raised = false ∧ r.watch ≠ 0 ∧ r.watch * 1000000 < s.dev.now - r.since
         (¬ due → Effect .vringClaimWait s s.dev)
         ∧ (due → ∃ t q, Answers .vringClaimWait s t ∧ t.dev.cmp.sweep = some q ∧ q.raised = true ∧ q.left = r.left ∧ q.claiming = true
              ∧ t.dev = (s.dev.raise 0x0532 (swVring e.desc) (vrSlot v (swNewVersion e.desc))).setSweep (some q)
              ∧ t.dev.mem = s.dev.mem ∧ t.dev.disp = s.dev.disp ∧ t.dev.get 0x1300 3 = (s.dev.get 0x1300 3 + 1) % 2 ^ 32))
      ∧ (r.idleFrom = none ∨ dead ∨ (¬ fatal ∧ ∀ i ∈ r.left, s.dev.eligible r i = false) → Effect (.sweepShardEligible l ecc) s s.dev)
      ∧ (∀ from_ i, r.idleFrom = some from_ → i ∈ r.left → s.dev.eligible r i = true → ¬ fatal → ¬ dead →
          ∃ t, Answers (.sweepShardEligible l ecc) s t ∧ ∀ q, t.dev.cmp.sweep = some q → q.left.length < r.left.length
            ∧ q.idle = r.idle + (s.dev.now - from_))
      ∧ (∀ w, r.seen.find? (fun w => w.entry == n) = some w →
          let due := n ∈ r.left ∧ w.raised = false ∧ w.watch ≠ 0 ∧ s.dev.eligible r n = false ∧ w.watch * 1000000 < s.dev.now - w.since
          (¬ due → Effect (.sweepResidencyWait n) s s.dev)
          ∧ (due → ∃ t q, Answers (.sweepResidencyWait n) s t ∧ t.dev.cmp.sweep = some q ∧ q.left = r.left ∧ t.dev.mem = s.dev.mem
              ∧ t.dev = (s.dev.raise 0x0545 (shId ((r.table[n]?).getD 0)) 0).setSweep (some q)
              ∧ (∀ y ∈ q.seen, y.entry = n → y.raised = true) ∧ t.dev.get 0x1300 3 = (s.dev.get 0x1300 3 + 1) % 2 ^ 32))

/-- PATROL_SCRUB counts and logs what it finds and poisons an uncorrectable unit, without changing a byte; errors that arise meanwhile stand until
a read finds them (log entry 194). MEM_DEVICE_FAILED in READY and RUN, and
KENNEL_CLOCK_STOP_TIMEOUT for a domain stopped more than 1 ms there, are device-fatal: compute stops and every port becomes DISABLED. Otherwise they
change nothing. -/
def Obligations.MemoryIsScrubbedAndFails : Prop :=
  let dead (t : State) := t.dev.disp.fatal = true ∧ (∀ p < 6, (t.dev.port p).state = .disabled) ∧ t.dev.waiting = []
  (∀ (addr : Nat) (found : ScrubFind) (s : State),
    let c : Instr := .patrolScrub addr found
    let on := s.dev.memoryOn = true ∧ s.dev.scrubPeriod addr ≠ 0
    let md := s.dev.memdev (addr / 64 * 64)
    let fl := s.dev.flaws ++ found.later
    (¬ on ∨ found.error = none → Effect c s { s.dev with flaws := fl })
    ∧ (∀ unc, on → found.error = some unc → (unc = true → s.dev.mem.poisoned addr = false) →
        ∃ t, Answers c s t ∧ (∀ a, t.dev.mem.byte a = s.dev.mem.byte a) ∧ t.dev.mem.poisoned addr = (if unc then true else s.dev.mem.poisoned addr)
          ∧ t.dev.get (if unc then 0x4031 else 0x4030) (errSub md)
              = min (s.dev.get (if unc then 0x4031 else 0x4030) (errSub md) + 1) 0xFFFFFFFF
          ∧ t.dev.get 0x4033 1 = errRecord s.dev.ht (if unc then 1 else 0) md (addr / 64 * 64) ∧ t.dev.disp = s.dev.disp ∧ t.dev.flaws = fl))
  ∧ (∀ (device : Fin 32) (s : State),
    let on := s.dev.memoryOn = true ∧ s.dev.deviceFitted device = true
    (¬ on → Effect (.memDeviceFailed device) s s.dev)
    ∧ (on → ∃ t, Answers (.memDeviceFailed device) s t ∧ dead t ∧ t.dev.get 0x4033 1 = errRecord s.dev.ht 3 device 0 ∧ t.dev.mem = s.dev.mem))
  ∧ ∀ (half : Fin 2) (s : State),
    let k := 8 + half.val
    let due := ∃ from_, (s.dev.domain k).stoppedAt = some from_ ∧ from_ + 1000000 < s.dev.now ∧ s.dev.memoryOn = true ∧ s.dev.power.trained ≠ 0
    (¬ due → Effect (.kennelClockStopTimeout half) s s.dev)
    ∧ (due → ∃ t, Answers (.kennelClockStopTimeout half) s t ∧ dead t ∧ (t.dev.domain k).stoppedAt = none ∧ t.dev.mem = s.dev.mem)

/-! ## The host port (14 R417-R432) -/

/-- BAR2_READ and BAR2_WRITE. A read, whose errors are found and recorded, answers the stored bytes, with the EP bit when one is poisoned, and 0xFF in holes; a write stores every byte
that is in no hole. An access that touches a hole counts once. Device memory outside the access stays, and a read changes no memory. An
access outside BAR2 has no effect. -/
def Obligations.Bar2ReadsAndWrites : Prop :=
  ∀ (offset length : Nat) (bytes : List Byte) (ecc : List EccHit) (s : State),
    let d := s.dev.eccRead [] ecc
    let hit (n : Nat) := (upFrom offset n).any s.dev.inHole
    (s.dev.inBar2 offset length = false → Effect (.bar2Read offset ⟨length, ecc⟩) s s.dev)
    ∧ (s.dev.inBar2 offset bytes.length = false → Effect (.bar2Write offset bytes) s s.dev)
    ∧ (s.dev.inBar2 offset length = true →
        (hit length = false → Effect (.bar2Read offset ⟨length, ecc⟩) s
          (d.emit (.readCompletion (s.dev.rd offset length) ((upFrom offset length).any d.mem.poisoned))))
        ∧ (hit length = true → ∃ t, Answers (.bar2Read offset ⟨length, ecc⟩) s t ∧ t.dev.mem = d.mem
            ∧ t.dev.get 0x1300 1 = min (s.dev.get 0x1300 1 + 1) 0xFFFFFFFF
            ∧ ∃ l, t.dev.out.head? = some (.readCompletion l ((upFrom offset length).any (fun a => !s.dev.inHole a && d.mem.poisoned a)))
              ∧ l.length = length ∧ ∀ i (hi : i < l.length), l[i] = if s.dev.inHole (offset + i) then 0xFF#8 else s.dev.mem.byte (offset + i)))
    ∧ (s.dev.inBar2 offset bytes.length = true →
        ∃ t, Answers (.bar2Write offset bytes) s t
          ∧ (∀ i (hi : i < bytes.length), t.dev.mem.byte (offset + i) = if s.dev.inHole (offset + i) then s.dev.mem.byte (offset + i) else bytes[i])
          ∧ (∀ a, a < offset ∨ offset + bytes.length ≤ a → t.dev.mem.byte a = s.dev.mem.byte a)
          ∧ t.dev.get 0x1300 1 = (if hit bytes.length then min (s.dev.get 0x1300 1 + 1) 0xFFFFFFFF else s.dev.get 0x1300 1)
          ∧ t.dev.disp = s.dev.disp ∧ t.dev.power = s.dev.power)

/-- The function: a configuration request is answered with Request Retry Status until the function is ready, and then with the identification values, the bases
and type bits of its BARs, no interrupt pin, or another register; the link goes down with 0x2B05, and comes up unless reset holds it or its clock is
stopped; MSIX_UNMASK writes half an entry of the MSI-X table, whose mask bit may come or go, and sends a message that was held back and is no more. -/
def Obligations.PciExpressFunctionAnswers : Prop :=
  (∀ (write : Bool) (offset : Nat) (value : Word) (s : State),
    let c : Instr := .pcieConfigRequest write offset value
    (s.dev.hostUp = false → Effect c s s.dev)
    ∧ (s.dev.hostUp = true → s.dev.now < s.dev.host.readyAt → Effect c s (s.dev.emit (.configAnswer 0 true)))
    ∧ (s.dev.hostUp = true → s.dev.host.readyAt ≤ s.dev.now →
        (write = false → offset = 0 → Effect c s (s.dev.emit (.configAnswer 0x0D011F3C false)))
        ∧ (write = false → offset = 8 → Effect c s (s.dev.emit (.configAnswer 0x120000A1 false)))
        ∧ (write = false → offset = 0x2C →
            Effect c s (s.dev.emit (.configAnswer ((0x0D10 + bits (s.dev.get 0x3000 1) 14 2) * 0x10000 + 0x1F3C) false)))
        ∧ (write = false → offset = 0x10 → Effect c s (s.dev.emit (.configAnswer (s.dev.configWritten 0x10 / 2 ^ 26 * 2 ^ 26 + 4) false)))
        ∧ (write = false → offset = 0x18 →
            Effect c s (s.dev.emit (.configAnswer (s.dev.configWritten 0x18 / 2 ^ min s.dev.host.bar2Log2 32 * 2 ^ min s.dev.host.bar2Log2 32 + 0xC) false)))
        ∧ (write = false → offset = 0x20 ∨ offset = 0x24 → Effect c s (s.dev.emit (.configAnswer 0 false)))
        ∧ (write = false → offset = 0x3C → ∃ v < 256, Effect c s (s.dev.emit (.configAnswer v false)))
        ∧ (write = false → s.dev.configKnown offset = none → ∃ v, Effect c s (s.dev.emit (.configAnswer v false)))
        ∧ (write = true → (s.dev.configKnown offset).isSome → Effect c s (s.dev.emit (.configAnswer 0 false)))
        ∧ (write = true → s.dev.configKnown offset = none → offset ≠ Config.msixControl → offset ≠ Config.pmControl →
            offset ≠ Config.rebarControl → offset ≠ Config.doeControl → ∃ h, Effect c s (({ s.dev with host := h } : Dev).emit (.configAnswer 0 false))
              ∧ sget (fun _ => 0) h.config offset = value.toNat ∧ { h with config := s.dev.host.config } = s.dev.host)))
  ∧ (∀ s : State,
    (s.dev.host.linkUp = false → Effect .pcieLinkDown s s.dev)
    ∧ (s.dev.host.linkUp = true → ∃ t, Answers .pcieLinkDown s t ∧ t.dev.host.linkUp = false ∧ t.dev.get 0x1300 3 = (s.dev.get 0x1300 3 + 1) % 2 ^ 32
        ∧ t.dev = ({ s.dev with host := { s.dev.host with linkUp := false } } : Dev).raise 0x2B05 0 0
        ∧ t.dev.SameButNotices { s.dev with host := { s.dev.host with linkUp := false } })
    ∧ (s.dev.host.held = true ∨ (s.dev.domain 1).stopped = true → Effect .pcieLinkUp s s.dev)
    ∧ (s.dev.host.held = false → (s.dev.domain 1).stopped = false →
        Effect .pcieLinkUp s { s.dev with host := { s.dev.host with linkUp := true } }))
  ∧ ∀ (v : Fin 2048) (upper : Bool) (part : Part) (value : DWord) (s : State),
    let c : Instr := .msixUnmask ⟨v, upper, part, value⟩
    let k := 4 * v.val + (if upper then 2 else 0)
    let w := mergePart (s.dev.msixWord k + s.dev.msixWord (k + 1) * 2 ^ 32) part value.toNat
    let waits := sget (fun _ => false) s.dev.host.msixPending v.val
    (s.dev.barOpen = false → Effect c s s.dev)
    ∧ (s.dev.barOpen = true → ∃ t, Answers c s t ∧ t.dev.msixWord k = bits w 0 32 ∧ t.dev.msixWord (k + 1) = bits w 32 (if upper then 1 else 32)
        ∧ (∀ j, j ≠ k → j ≠ k + 1 → t.dev.msixWord j = s.dev.msixWord j)
        ∧ (let goes := waits = true ∧ s.dev.host.msixEnable = true ∧ s.dev.host.functionMask = false ∧ bit (t.dev.msixWord (4 * v.val + 3)) 0 = false
          (goes → t.dev.out = .msix v (t.dev.msixWord (4 * v.val) + t.dev.msixWord (4 * v.val + 1) * 2 ^ 32) (t.dev.msixWord (4 * v.val + 2)) :: s.dev.out
            ∧ sget (fun _ => false) t.dev.host.msixPending v = false)
          ∧ (¬ goes → t.dev.out = s.dev.out ∧ t.dev.host.msixPending = s.dev.host.msixPending))
        ∧ t.dev.mem = s.dev.mem ∧ t.dev.disp = s.dev.disp)

/-- Writes of the event queue's registers: `EVQ_BASE` only while the queue is disabled and aligned; `EVQ_CFG` not at all with a field out of range, and only
its `ENABLE` while the queue is enabled; `EVQ_HEAD` frees records and re-arms the message. -/
def Obligations.EventQueueRegisterWrites : Prop :=
  ∀ (s : State), s.dev.barOpen = true →
    let h := s.dev.host
    let host (h' : HostPort) : Dev := { s.dev with host := h' }
    (∀ (part : Part) (v : DWord), let w := mergePart h.evqBase part v.toNat
      let c : Instr := .evqConfigWrite .evqBase part v
      (bit h.evqCfg 31 = true ∨ w % 64 ≠ 0 → Effect c s s.dev)
      ∧ (bit h.evqCfg 31 = false → w % 64 = 0 → Effect c s (host { h with evqBase := w })))
    ∧ (∀ v : DWord, let w := bits v.toNat 0 32
      let c : Instr := .evqConfigWrite .evqCfg .low v
      let bad := bits w 5 5 < 6 ∨ 16 < bits w 5 5 ∨ 4 < bits w 0 3
      (bad → Effect c s s.dev)
      ∧ (¬ bad → bit h.evqCfg 31 = true → Effect c s (host { h with evqCfg := setBits h.evqCfg 31 1 (bits w 31 1) }))
      ∧ (¬ bad → bit h.evqCfg 31 = false → Effect c s (host { h with evqCfg := setBits (setBits w 3 2 0) 21 10 0 })))
    ∧ (∀ v : Word, Effect (.evqHeadWrite v) s (host { h with evqHead := v.toNat, evqArmed := true }))
    ∧ (∀ v : DWord, Effect (.evqConfigWrite .evqCfg .high v) s (host { h with evqHead := bits v.toNat 0 32, evqArmed := true }))
    ∧ (∀ v : DWord, ∃ t u, Answers (.evqConfigWrite .evqCfg .low v) s t ∧ Answers (.evqConfigWrite .evqCfg .high (v >>> 32)) t u
        ∧ Answers (.evqConfigWrite .evqCfg .whole v) s u)

/-! ## The dictionary (14 R433-R448, R590; 15 R453-R463) -/

/-- A management request is counted as it arrives, and answered `BUSY` while the dictionary is not served or 64 wait (14 R440, 19 R554). The checks of a
dictionary write come in their order: `NOT_SECURE`, `NO_ENTRY`, `NOT_WRITABLE`, `LEASH_NOT_HELD`, `NOT_QUIESCENT`, then the rules on
the value. A write that one of them refuses changes nothing, but for a lease that has ended; and it burns no fuse. -/
def Obligations.DictionaryWritesAreCheckedInOrder : Prop :=
  ∀ (who : Requester) (sel : BitVec 24) (data : BitVec 256) (s : State), s.dev.requesterOpen who = true → (s.dev.domain 0xB).hold = false →
    let i := bits sel.toNat 8 16
    let k := bits sel.toNat 0 8
    let o := ownerOf who
    let c : Instr := .odEntryWrite who sel data
    let a := s.dev.asked who
    let d := a.settleLeash (leashGroup i)
    let ends (d : Dev) (st n : Nat) := Effect c s (d.emit (.odAnswer st n 0))
    let secure := o = .pcie ∨ s.dev.requesterSecure who = true ∨ s.dev.get 0x1200 8 ≠ 1
    let busy := who ≠ .pcie ∧ s.dev.mgmtBusy = true
    (busy → ends (if s.dev.mgmt.servedAt ≤ s.dev.now then a.addSat 0x1210 3 32 1 else a) 9 0)
    ∧ (¬ busy → i = 0x9100 → k = 3 → s.dev.updBusy = true → ends a 9 (entrySize i k))
    ∧ (¬ busy → ¬ (i = 0x9100 ∧ k = 3 ∧ s.dev.updBusy = true) → ¬ secure → ends a 8 (entrySize i k))
    ∧ (¬ busy → ¬ (i = 0x9100 ∧ k = 3 ∧ s.dev.updBusy = true) → ¬ (i = 0x1100 ∧ k = 1) → secure →
        (d.entryExists i k = false → ends d 1 0)
        ∧ (d.entryExists i k = true → odRow i k = none → ends d 2 (entrySize i k))
        ∧ ∀ r, d.entryExists i k = true → odRow i k = some r →
            (r.access = .const ∨ r.access = .ro → ends d 2 (entrySize i k))
            ∧ (r.access ≠ .const → r.access ≠ .ro →
                (d.leashOwner (leashGroup i) ≠ o → ends d 5 (entrySize i k))
                ∧ (d.leashOwner (leashGroup i) = o → r.access = .rwq → d.quiescent = false → ends d 3 (entrySize i k))))

/-- A dictionary write that passes the checks stores its value, without the reserved bits, in an entry that has no effect of its own, or is refused with
`VALUE_REFUSED` where a rule on the value says so; nothing else changes but the count of management requests. -/
def Obligations.StoredEntriesTakeTheirValues : Prop :=
  ∀ (who : Requester) (sel : BitVec 24) (data : BitVec 256) (s : State),
    let i := bits sel.toNat 8 16
    let k := bits sel.toNat 0 8
    s.dev.Grants who i k → storesOnly i k →
    let v := data.toNat % 2 ^ (8 * entrySize i k)
    s.dev.actingEntry s.fuse true i k v = none →
    let m := maskEntry i k v
    (s.dev.valueOk i k m = false → Declined (.odEntryWrite who sel data) who s i k)
    ∧ (s.dev.valueOk i k m = true → Accepted (.odEntryWrite who sel data) s i k ((s.dev.asked who).put i k m))

/-- The window of the PCI Express port: OD_READ puts status, length and value into `OD_STATUS`, `OD_LEN` and `OD_DATA`, needs no Leash, and leaves `OD_DATA` where
there is no such entry; OD_WRITE of an entry that stores its value does so and puts the status there. A closed or busy window ignores
both. TRAIL_ENTRY_READ answers the entry of the index, and moves the index on. -/
def Obligations.WindowAnswersRequests : Prop :=
  (∀ (sel : BitVec 24) (data : BitVec 256) (s : State),
    let i := bits sel.toNat 8 16
    let k := bits sel.toNat 0 8
    let v := data.toNat % 2 ^ (8 * entrySize i k)
    let m := maskEntry i k v
    (s.dev.windowOpen = false ∨ bit s.dev.host.odStatus 31 = true → Effect (.odRead sel) s s.dev ∧ Effect (.odWrite sel data) s s.dev)
    ∧ (s.dev.windowOpen = true → bit s.dev.host.odStatus 31 = false → (s.dev.domain 0xB).hold = true →
        Effect (.odRead sel) s { s.dev with
          host := { s.dev.host with odSel := sel.toNat, odStatus := 2 ^ 31 }
          requests := s.dev.requests ++ [.window false sel.toNat s.dev.host.odData] })
    ∧ (s.dev.windowOpen = true → bit s.dev.host.odStatus 31 = false → (s.dev.domain 0xB).hold = false →
        (s.dev.entryExists i k = false →
          Effect (.odRead sel) s { s.dev with host := { s.dev.host with odSel := sel.toNat, odStatus := 1, odLen := 0 } })
        ∧ (s.dev.entryExists i k = true → ¬ (i = 0x7110 ∧ k = 2) → ¬ (i = 0x3200 ∧ k = 1) →
          Effect (.odRead sel) s { s.dev with host := { s.dev.host with
            odSel := sel.toNat, odStatus := 0, odLen := entrySize i k, odData := s.dev.entryValue s.fuse i k } })
        ∧ (s.dev.Grants .pcie i k → storesOnly i k → s.dev.actingEntry s.fuse true i k v = none → s.dev.valueOk i k m = true →
          Effect (.odWrite sel data) s { s.dev.put i k m with host := { s.dev.host with
            odSel := sel.toNat, odData := data.toNat, odStatus := 0, odLen := entrySize i k } })))
  ∧ ∀ (who : Requester) (s : State), s.dev.requesterOpen who = true → (s.dev.domain 0xB).hold = false →
      (who ≠ .pcie → s.dev.mgmtBusy = false) →
      s.dev.notSecure (ownerOf who) (s.dev.requesterSecure who) = false → s.dev.sec.recovery = false →
      Effect (.trailEntryRead who) s (((s.dev.asked who).put 0x7110 1 (s.dev.get 0x7110 1 + 1)).emit
        (.odAnswer 0 32 ((s.dev.trail.entries[s.dev.get 0x7110 1]?).getD 0)))

/-! ## Commands that are dictionary writes (10 R322; 12 R374-R393; 16 R480-R500; 17 R510-R523; 18 R540-R545) -/

/-- FORCE_DOWN, REARM, RETRAIN and REDISCOVER are writes of `PORT_CTRL`, of which the highest-ranked command that applies is executed: FORCE_DOWN from DETECT
to RETRAIN, REARM from DOWN, RETRAIN and REDISCOVER from ACTIVE and QUARANTINE. Where none applies the write is refused. No other port changes its
state. -/
def Obligations.PortCommandsMovePorts : Prop :=
  ∀ (who : Requester) (p : Fin 6) (also : BitVec 4) (c : Instr) (v : Nat) (s : State),
    (c = .forceDown who p also ∧ v = (also.toNat ||| 8)) ∨ (c = .rearm who p also ∧ v = (also.toNat ||| 4))
      ∨ (c = .retrain who p also ∧ v = (also.toNat ||| 2)) ∨ (c = .rediscover who p also ∧ v = (also.toNat ||| 1)) →
    s.dev.Grants who 0x3011 (p.val + 1) →
    let x := s.dev.port p
    let up := x.state = .active ∨ x.state = .quarantine
    let others (t : State) := ∀ q : Nat, q ≠ p → (t.dev.port q).state = (s.dev.port q).state
    let down := bit v 3 = true ∧ x.state ≠ .disabled ∧ x.state ≠ .down
    let rearm := bit v 2 = true ∧ x.state = .down
    (down → ∃ t, Does c s t 0x3011 (p.val + 1) ∧ (t.dev.port p).state = .down ∧ (t.dev.port p).txBuf = [] ∧ (t.dev.port p).retraining = none ∧ others t)
    ∧ (¬ down → rearm → ∃ t, Does c s t 0x3011 (p.val + 1) ∧ t.dev.port p = { x with state := .detect, since := s.dev.now } ∧ others t
        ∧ t.dev.SameButNotices ((s.dev.asked who).moved p .detect))
    ∧ (¬ down → ¬ rearm → bit v 1 = true → up → ∃ t, Does c s t 0x3011 (p.val + 1) ∧ (t.dev.port p).state = .retrain
        ∧ (t.dev.port p).retraining = some s.dev.now ∧ t.dev.get (0x3020 + p) 5 = min (s.dev.get (0x3020 + p) 5 + 1) 0xFFFFFFFF ∧ others t)
    ∧ (¬ down → ¬ rearm → bit v 1 = false → bit v 0 = true → up → ∃ t, Does c s t 0x3011 (p.val + 1) ∧ (t.dev.port p).state = .discover
        ∧ (t.dev.port p).round1 = false ∧ (t.dev.port p).retraining = x.retraining ∧ others t)
    ∧ (¬ down → ¬ rearm → ¬ up ∨ bit v 1 = false ∧ bit v 0 = false → Declined c who s 0x3011 (p.val + 1))

/-- PSTATE_CMD: a command for another state is taken up unless one is under way or, towards STANDBY and HOLD from READY and RUN, a descriptor is in flight; one
for the present state is accepted and changes nothing; from PROTECT only STANDBY, once the cause has cleared. DOMAIN_SOURCE_WRITE: only a source of the
domain's chain that is ready; the domain runs from it at once where its old source is ready or it is in HOLD_CLOCK, and waits for the switch otherwise.
LOOP_CONFIG_WRITE: an accepted value relocks the loop. -/
def Obligations.PowerAndClockCommands : Prop :=
  (∀ (who : Requester) (c : Instr) (n : Nat) (p : PState) (s : State),
    (c = .pstateCmdStandby who ∧ n = 0 ∧ p = .standby) ∨ (c = .pstateCmdHold who ∧ n = 1 ∧ p = .hold)
      ∨ (c = .pstateCmdReady who ∧ n = 2 ∧ p = .ready) ∨ (c = .pstateCmdRun who ∧ n = 3 ∧ p = .run) →
    s.dev.Grants who 0x2000 1 →
    let now := s.dev.power.pstate
    let busy := n ≤ 1 ∧ (now = .ready ∨ now = .run) ∧ s.dev.inFlight ≠ 0
    (now ≠ .protect → s.dev.power.target = none → now = p → Accepted c s 0x2000 1 (s.dev.asked who))
    ∧ (now ≠ .protect → s.dev.power.target = none → now ≠ p → busy → Declined c who s 0x2000 1)
    ∧ (now ≠ .protect → s.dev.power.target = none → now ≠ p → ¬ busy → Accepted c s 0x2000 1
        { (s.dev.asked who).put 0x2000 1 n with power := { s.dev.power with target := some p } })
    ∧ (now ≠ .protect → s.dev.power.target ≠ none → Declined c who s 0x2000 1)
    ∧ (now = .protect → n ≠ 0 ∨ s.dev.causeCleared = false → Declined c who s 0x2000 1)
    ∧ (now = .protect → n = 0 → s.dev.causeCleared = true → ∃ t, Does c s t 0x2000 1 ∧ t.dev.power.pstate = .standby ∧ t.dev.disp = Disp.init))
  ∧ (∀ (who : Requester) (domain : Fin 14) (source : Byte) (s : State),
    let k := domain.val + 1
    let v := source.toNat
    let c : Instr := .domainSourceWrite who domain source
    s.dev.Grants who 0x2100 k →
    let x := s.dev.domain k
    let known := isSource v = true ∧ v ∈ domainChain k
    let same := x.stopped = false ∧ x.source = v ∧ x.switchTo = none
    (¬ known ∨ (¬ same ∧ s.dev.sourceReady v = false) → Declined c who s 0x2100 k)
    ∧ (known → same → Accepted c s 0x2100 k (((s.dev.asked who).put 0x2100 k v).setDomain k { x with forced := false }))
    ∧ (known → ¬ same → s.dev.sourceReady v = true → x.hold = true ∨ s.dev.sourceReady x.source = true →
        ∃ t, Does c s t 0x2100 k ∧ t.dev.get 0x2100 k = v ∧ (t.dev.domain k).source = v ∧ (t.dev.domain k).hold = false
          ∧ (t.dev.domain k).parked = false ∧ (t.dev.domain k).forced = false ∧ (t.dev.domain k).fallback = false
          ∧ ∀ j, j ≠ k → t.dev.domain j = s.dev.domain j)
    ∧ (known → ¬ same → s.dev.sourceReady v = true → x.hold = false → s.dev.sourceReady x.source = false → Accepted c s 0x2100 k
        (((s.dev.asked who).put 0x2100 k v).setDomain k { x with forced := false, fallback := false, switchTo := some v, switchAt := s.dev.now })))
  ∧ ∀ (who : Requester) (reg : LoopReg) (loop : Fin 12) (value : Word) (s : State),
    let i := if reg = .ref then 0x2130 else 0x2131
    let k := loop.val + 1
    let v := value.toNat % 2 ^ (8 * entrySize i k)
    let c : Instr := .loopConfigWrite who reg loop value
    let ok := if reg = .ref then loopRefOk loop v else loopFreqOk loop v
    s.dev.Grants who i k →
    (ok = false → Declined c who s i k)
    ∧ (ok = true → ∃ t, Does c s t i k ∧ t.dev.get i k = v ∧ (t.dev.source (16 + loop)).ready = false
        ∧ (t.dev.source (16 + loop)).startAt = s.dev.now ∧ ∀ n : Nat, n ≠ 16 + loop → t.dev.source n = s.dev.source n)

/-- ROLLBACK_COMMIT burns fuse steps up to the running image's `SVN`, 96 at most, and is refused on trial, in recovery, while debug access is unlocked, and for a value
other than 1. DEBUG_TOKEN_DATA_WRITE fills the token buffer. DEBUG_TOKEN_SUBMIT unlocks debug access when every condition holds, and clears the buffer and
renews the nonce in any case; DEBUG_LOCK locks it. Unlocking and locking end every session. -/
def Obligations.SecurityCommands : Prop :=
  (∀ (who : Requester) (value : Byte) (s : State), s.dev.Grants who 0x8000 3 →
    let c : Instr := .rollbackCommit who value
    let ok := value = 1 ∧ s.dev.sec.trial = false ∧ s.dev.sec.unlocked = false ∧ s.dev.sec.recovery = false
    (¬ ok → Declined c who s 0x8000 3)
    ∧ (ok → ∃ t, exec c s = .next t ∧ t.pending = s.pending ∧ t.fuse = max s.fuse (min 96 s.dev.sec.runSvn)
        ∧ t.dev.out.head? = some (.odAnswer 0 (entrySize 0x8000 3) 0) ∧ t.dev.SameButNotices (s.dev.asked who)
        ∧ (s.fuse < t.fuse → t.dev.get 0x1300 3 = (s.dev.get 0x1300 3 + 1) % 2 ^ 32)))
  ∧ (∀ (who : Requester) (data : BitVec 256) (s : State), s.dev.Grants who 0x8020 4 →
    let c : Instr := .debugTokenDataWrite who data
    let off := s.dev.get 0x8020 3
    let b (t : State) (i : Nat) := sget (fun _ => 0#8) t.dev.sec.token i
    (1024 < off + 32 → Declined c who s 0x8020 4)
    ∧ (off + 32 ≤ 1024 → ∃ t, Does c s t 0x8020 4 ∧ t.dev.get 0x8020 3 = off + 32
        ∧ (∀ i < 32, b t (off + i) = BitVec.ofNat 8 (data.toNat / 256 ^ i)) ∧ (∀ i, i < off ∨ off + 32 ≤ i → b t i = b s i)
        ∧ t.dev.sec = { s.dev.sec with token := t.dev.sec.token } ∧ t.dev.mem = s.dev.mem))
  ∧ ∀ (who : Requester) (s : State), s.dev.Grants who 0x8020 5 →
    (∃ t, Does (.debugTokenSubmit who) s t 0x8020 5 ∧ t.dev.sec.token = [] ∧ t.dev.get 0x8020 3 = 0 ∧ t.dev.sec.nonce = (Config.draw s.dev.draws).toNat
      ∧ (s.dev.tokenFailure = 0 → t.dev.sec.unlocked = true ∧ t.dev.sec.sessions = [])
      ∧ (s.dev.tokenFailure ≠ 0 → t.dev.sec.unlocked = s.dev.sec.unlocked ∧ t.dev.sec.sessions = s.dev.sec.sessions)
      ∧ t.dev.get 0x1300 3 = (s.dev.get 0x1300 3 + 1) % 2 ^ 32)
    ∧ (∃ t, Does (.debugLock who) s t 0x8020 5 ∧ t.dev.sec = { s.dev.sec with unlocked := false, sessions := [] } ∧ t.dev.mem = s.dev.mem
        ∧ t.dev.disp = s.dev.disp)

/-- The update of firmware: BEGIN erases the idle slot, data fill it, VERIFY starts the checks, whose end sets the result and the state, ACTIVATE of a verified image writes
the marker, CANCEL ends it; a command out of its order is refused. FIRMWARE_CONFIRM ends a trial. The flash operations end what they are. -/
def Obligations.FirmwareUpdate : Prop :=
  (∀ (who : Requester) (s : State), s.dev.Grants who 0x9100 1 →
    let st := s.dev.updState
    let z := s.dev.idleSlot
    (st ≠ 1 ∧ s.dev.sec.trial = false → ∃ t, Does (.fwUpdBegin who) s t 0x9100 1 ∧ t.dev.updState = 1 ∧ t.dev.get 0x9100 2 = 0 ∧ t.dev.get 0x9100 5 = 0
        ∧ t.dev.image z = [] ∧ t.dev.trailer z = Trailer.blank ∧ t.dev.sec.erasing = true ∧ t.dev.sec.runSlot = s.dev.sec.runSlot)
    ∧ (¬ (st ≠ 1 ∧ s.dev.sec.trial = false) → Declined (.fwUpdBegin who) who s 0x9100 1)
    ∧ (st = 1 ∧ 4096 ≤ s.dev.get 0x9100 2 → Accepted (.fwUpdVerify who) s 0x9100 1 { s.dev.asked who with sec := { s.dev.sec with verifying := true } })
    ∧ (¬ (st = 1 ∧ 4096 ≤ s.dev.get 0x9100 2) → Declined (.fwUpdVerify who) who s 0x9100 1)
    ∧ (st = 1 ∨ st = 2 → ∃ t, Does (.fwUpdCancel who) s t 0x9100 1 ∧ t.dev.updState = 3 ∧ t.dev.get 0x9100 5 = 10 ∧ t.dev.trailer z = Trailer.blank
        ∧ t.dev.sec.verifying = false)
    ∧ (st ≠ 1 ∧ st ≠ 2 → Declined (.fwUpdCancel who) who s 0x9100 1)
    ∧ (st ≠ 2 → Declined (.fwUpdActivate who) who s 0x9100 1)
    ∧ (st = 2 → imSvn (imHeader (s.dev.image z)) < s.fuse →
        Accepted (.fwUpdActivate who) s 0x9100 1 (((s.dev.asked who).put 0x9100 5 8).put 0x9100 4 3))
    ∧ (st = 2 → s.fuse ≤ imSvn (imHeader (s.dev.image z)) → ∃ t, Does (.fwUpdActivate who) s t 0x9100 1 ∧ t.dev.updState = 0
        ∧ t.dev.trailer z = ⟨true, false, 0⟩ ∧ t.dev.image z = s.dev.image z))
  ∧ (∀ (who : Requester) (data : BitVec 256) (s : State), s.dev.Grants who 0x9100 3 →
    let c : Instr := .fwUpdDataWrite who data
    let off := s.dev.get 0x9100 2
    let z := s.dev.idleSlot
    let h := imHeader (s.dev.image z)
    let bad := s.dev.updState ≠ 1 ∨ 25165824 < off + 32 ∨ 4096 + imBodyLen h < off + 32
    (s.dev.updBusy = true → Effect c s ((s.dev.asked who).emit (.odAnswer 9 (entrySize 0x9100 3) 0)))
    ∧ (s.dev.updBusy = false → bad → Declined c who s 0x9100 3)
    ∧ (s.dev.updBusy = false → ¬ bad → ∃ t, Does c s t 0x9100 3 ∧ flashRead (t.dev.image z) off 32 = toBytes 32 data.toNat
        ∧ (∀ a, a < off ∨ off + 32 ≤ a → sget (fun _ => 0xFF#8) (t.dev.image z) a = sget (fun _ => 0xFF#8) (s.dev.image z) a)
        ∧ t.dev.get 0x9100 2 = off + 32 ∧ t.dev.sec.staged = s.dev.sec.staged + 32))
  ∧ ∀ s : State,
    let due := s.dev.sec.verifying = true ∧ s.dev.updState = 1
    let r := imageResult (s.dev.image s.dev.idleSlot) s.fuse
    (¬ due → ∀ ok, Effect (.fwVerifyComplete ok) s s.dev)
    ∧ (due → ∃ t, Answers (.fwVerifyComplete true) s t ∧ t.dev.get 0x9100 5 = r ∧ t.dev.updState = (if r = 1 then 2 else 3) ∧ t.dev.sec.verifying = false)
    ∧ (due → ∃ t, Answers (.fwVerifyComplete false) s t ∧ t.dev.get 0x9100 5 = 9 ∧ t.dev.updState = 3 ∧ t.dev.sec.verifying = false)
    ∧ Effect (.fwUpdFlashDone .erase) s { s.dev with sec := { s.dev.sec with erasing := false } }
    ∧ Effect (.fwUpdFlashDone .staging) s { s.dev with sec := { s.dev.sec with staged := 0 } }
    ∧ (s.dev.sec.trial = false ∨ s.dev.sec.recovery = true → Effect .firmwareConfirm s s.dev)
    ∧ (s.dev.sec.trial = true → s.dev.sec.recovery = false → ∃ t, Answers .firmwareConfirm s t ∧ t.dev.sec.trial = false
        ∧ t.dev.trailer s.dev.sec.runSlot = { s.dev.trailer s.dev.sec.runSlot with confirmed := true }
        ∧ t.dev.get 0x8000 2 = setBits (s.dev.get 0x8000 2) 5 1 0 % 256)

/-! ## The Trail (12 R390-R393; 19 R566, R567) -/

/-- The Trail's commands. FREEZE and the end of the post count freeze it with its entries as they are, name the trigger, and dump it to the lowest free slot where
`TRAIL_AUTODUMP` is 1; RESUME lets it record again; DUMP copies a frozen Trail, or counts what finds no slot; a mark is recorded where its kind is unmasked and the Trail
records, and only counted where it is frozen; a release empties its slot, and shows the next dump where it was the one shown. -/
def Obligations.TrailCommands : Prop :=
  (∀ (who : Requester) (s : State), s.dev.Grants who 0x7100 1 →
    let st := s.dev.get 0x7100 2
    let x := s.dev.trail
    (st = 2 → Accepted (.trailFreeze who) s 0x7100 1 (s.dev.asked who))
    ∧ (st ≠ 2 → ∃ t, Does (.trailFreeze who) s t 0x7100 1 ∧ t.dev.get 0x7100 2 = 2 ∧ t.dev.trail.entries = x.entries ∧ t.dev.trail.trigger = 0xFF
        ∧ t.dev.trail.postLeft = 0 ∧ t.dev.trail.frozenHt = s.dev.ht
        ∧ (s.dev.get 0x7100 6 ≠ 1 → t.dev.store.dumps = s.dev.store.dumps)
        ∧ (s.dev.get 0x7100 6 = 1 → ∀ n, s.dev.freeDump = some n →
            (∃ y, t.dev.dumpAt n = some y ∧ y.entries = x.entries ∧ y.trigger = 0xFF) ∧ ∀ m, m ≠ n → t.dev.dumpAt m = s.dev.dumpAt m)
        ∧ t.dev.disp = s.dev.disp ∧ t.dev.ports = s.dev.ports ∧ t.dev.mem = s.dev.mem)
    ∧ (st ≠ 2 → Accepted (.trailResume who) s 0x7100 1 (s.dev.asked who))
    ∧ (st = 2 → Accepted (.trailResume who) s 0x7100 1 { (s.dev.asked who).put 0x7100 2 0 with
        trail := { x with entries := if x.dumpable then x.entries else [], postLeft := 0, loaded := none, dumpable := false } })
    ∧ (∀ ok, st ≠ 2 → Accepted (.trailDump who ok) s 0x7100 1 (s.dev.asked who))
    ∧ (st = 2 → x.dumpable = false → Accepted (.trailDump who true) s 0x7100 1 (s.dev.asked who))
    ∧ (st = 2 → x.dumpable = true → s.dev.freeDump = none → ∃ t, Does (.trailDump who true) s t 0x7100 1
        ∧ t.dev.get 0x7100 8 = min (s.dev.get 0x7100 8 + 1) 0xFFFFFFFF ∧ t.dev.store.dumps = s.dev.store.dumps)
    ∧ (st = 2 → x.dumpable = true → ∀ n, s.dev.freeDump = some n → ∃ t y, Does (.trailDump who true) s t 0x7100 1
        ∧ t.dev.dumpAt n = some y ∧ y.entries = x.entries ∧ y.trigger = x.trigger ∧ y.ht = x.frozenHt ∧ ∀ m, m ≠ n → t.dev.dumpAt m = s.dev.dumpAt m)
    ∧ (st = 2 → ∃ t, Does (.trailDump who false) s t 0x7100 1 ∧ t.dev.SameButNotices (s.dev.asked who) ∧ t.dev.get 0x1300 3 = (s.dev.get 0x1300 3 + 1) % 2 ^ 32))
  ∧ (∀ s : State,
    (s.dev.get 0x7100 2 = 1 → s.dev.trail.postLeft = 0 → ∃ t, Answers .trailPostFreeze s t ∧ t.dev.get 0x7100 2 = 2
      ∧ t.dev.trail.entries = s.dev.trail.entries ∧ t.dev.trail.trigger = s.dev.trail.trigger ∧ t.dev.trail.frozenHt = s.dev.ht)
    ∧ (¬ (s.dev.get 0x7100 2 = 1 ∧ s.dev.trail.postLeft = 0) → Effect .trailPostFreeze s s.dev))
  ∧ (∀ (who : Requester) (v : DWord) (s : State), s.dev.Grants who 0x7100 9 →
    let st := s.dev.get 0x7100 2
    let frozen := st = 2 ∨ st = 1 ∧ s.dev.trail.postLeft = 0
    (bit (s.dev.get 0x7100 5) 9 = false → Accepted (.trailMarkWrite who v) s 0x7100 9 (s.dev.asked who))
    ∧ (bit (s.dev.get 0x7100 5) 9 = true → ∃ t, Does (.trailMarkWrite who v) s t 0x7100 9 ∧ t.dev.SameButNotices (s.dev.asked who)
        ∧ t.dev.get 0x7100 7 = (s.dev.get 0x7100 7 + 1) % 2 ^ 32
        ∧ (frozen → t.dev.trail = s.dev.trail)
        ∧ (¬ frozen → t.dev.trail = { s.dev.trail with
            entries := (trailValue s.dev.ht (s.dev.get 0x7100 7) 9 0 s.dev.step v.toNat :: s.dev.trail.entries).take 4096
            postLeft := if st = 1 then s.dev.trail.postLeft - 1 else s.dev.trail.postLeft })))
  ∧ ∀ (who : Requester) (n : Byte) (s : State), s.dev.Grants who 0x9020 3 →
    let c : Instr := .trailDumpRelease who n
    let dumps := sset (fun _ => none) s.dev.store.dumps n.toNat none
    (3 < n.toNat ∨ s.dev.dumpAt n.toNat = none → Declined c who s 0x9020 3)
    ∧ (n.toNat ≤ 3 → s.dev.dumpAt n.toNat ≠ none → s.dev.trail.loaded ≠ some n.toNat →
        Accepted c s 0x9020 3 { s.dev.asked who with store := { s.dev.store with dumps := dumps } })
    ∧ (n.toNat ≤ 3 → s.dev.dumpAt n.toNat ≠ none → s.dev.trail.loaded = some n.toNat → ∃ t, Does c s t 0x9020 3
        ∧ t.dev.store.dumps = dumps ∧ t.dev.get 0x7100 2 = 2 ∧ t.dev.trail.dumpable = false
        ∧ (t.dev.trail.loaded = none → t.dev.trail.entries = [] ∧ ∀ m < 4, t.dev.dumpAt m = none)
        ∧ (∀ m, t.dev.trail.loaded = some m → ∃ y, t.dev.dumpAt m = some y ∧ t.dev.trail.entries = y.entries
            ∧ ∀ k < 4, ∀ z, t.dev.dumpAt k = some z → z.order ≤ y.order))

/-! ## The Sniffer (13) -/

/-- The Sniffer's commands. A close of an idle unit forms the record of its value and bytes and loads the unit anew; of a busy one it waits for the end of the run; a
reset loads an idle unit and is refused on a busy one; `SN_VALUE` and `SN_BYTES` are written on an idle unit only, which marks the context; a group of a run folds its bytes
in order. -/
def Obligations.SnifferCommands : Prop :=
  (∀ (who : Requester) (u : Fin 8) (s : State), s.dev.Grants who (0x7400 + u) 1 →
    let i := 0x7400 + u.val
    let x := s.dev.unit u
    let set := s.dev.snSet u
    (x.run = none → ∃ t, Does (.snClose who u) s t i 1
        ∧ t.dev.get i 0xA = snRecord (crcOut set (s.dev.get i 6)) (s.dev.get i 7) x.ctxWritten x.poisonSeen s.dev.ht s.dev.step ((s.dev.get i 9 + 1) % 65536)
        ∧ t.dev.get i 9 = (s.dev.get i 9 + 1) % 65536 ∧ t.dev.get i 6 = set.init % 2 ^ 64 ∧ t.dev.get i 7 = 0
        ∧ t.dev.unit u = ⟨false, false, false, none, x.queue.head?, x.queue.tail⟩
        ∧ (∀ v : Nat, v ≠ u → t.dev.unit v = s.dev.unit v) ∧ t.dev.mem = s.dev.mem ∧ t.dev.disp = s.dev.disp)
    ∧ (x.run ≠ none → Accepted (.snClose who u) s i 1
        ((s.dev.asked who).setUnit u { x with closePending := true, autoStep := if x.closePending then x.autoStep else none }))
    ∧ (x.run = none → x.closePending = false → Accepted (.snReset who u) s i 1
        ((((s.dev.asked who).put i 6 set.init).put i 7 0).setUnit u { x with poisonSeen := false, ctxWritten := false }))
    ∧ (x.run = none → x.closePending = true → ∃ t, Does (.snReset who u) s t i 1 ∧ t.dev.get i 6 = set.init % 2 ^ 64 ∧ t.dev.get i 7 = 0
        ∧ t.dev.get i 9 = (s.dev.get i 9 + 1) % 65536 ∧ t.dev.unit u = ⟨false, false, false, none, x.queue.head?, x.queue.tail⟩
        ∧ (∀ v : Nat, v ≠ u → t.dev.unit v = s.dev.unit v) ∧ t.dev.mem = s.dev.mem)
    ∧ (x.run ≠ none → Declined (.snReset who u) who s i 1))
  ∧ (∀ (who : Requester) (u : Fin 8) (f : SnCtx) (v : DWord) (s : State),
    let i := 0x7400 + u.val
    let k := if f = .value then 6 else 7
    let c : Instr := .snContextWrite who u f v
    let ok := (s.dev.unit u).run = none ∧ (f = .value → v.toNat < 2 ^ (s.dev.snSet u).width)
    s.dev.Grants who i k →
    (¬ ok → Declined c who s i k)
    ∧ (ok → Accepted c s i k (((s.dev.asked who).put i k v.toNat).setUnit u { s.dev.unit u with ctxWritten := true })))
  ∧ (∀ (u : Fin 8) (s : State),
    let x := s.dev.unit u
    let i := 0x7400 + u.val
    let due := x.closePending = true ∧ x.run = none
    (¬ due → Effect (.snDeferredClose u) s s.dev)
    ∧ (due → ∃ t, Answers (.snDeferredClose u) s t ∧ t.dev.unit u = ⟨false, false, false, none, x.queue.head?, x.queue.tail⟩
        ∧ t.dev.get i 0xA = snRecord (crcOut (s.dev.snSet u) (s.dev.get i 6)) (s.dev.get i 7) x.ctxWritten x.poisonSeen s.dev.ht (x.autoStep.getD s.dev.step)
            ((s.dev.get i 9 + 1) % 65536)
        ∧ (∀ v : Nat, v ≠ u → t.dev.unit v = s.dev.unit v) ∧ t.dev.mem = s.dev.mem))
  ∧ ∀ (id groups : Nat) (s : State),
    ((∀ u < 8, ∀ r, (s.dev.unit u).run = some r → r.id ≠ id) → Effect (.snifferRun id groups) s s.dev)
    ∧ (s.dev.snClocked = false → Effect (.snifferRun id groups) s s.dev)
    ∧ ∀ u < 8, ∀ r, s.dev.snClocked = true → (s.dev.unit u).run = some r → r.id = id → (∀ v < u, ∀ q, (s.dev.unit v).run = some q → q.id ≠ id) →
        let now := r.left.take (128 * groups)
        let later := r.left.drop (128 * groups)
        ∃ t, Answers (.snifferRun id groups) s t
          ∧ t.dev.get (0x7400 + u) 6 = crcFold (s.dev.snSet u) (s.dev.get (0x7400 + u) 6) (now.map (fun q => q.1)) % 2 ^ 64
          ∧ t.dev.get (0x7400 + u) 7 = (s.dev.get (0x7400 + u) 7 + now.length) % 2 ^ 64
          ∧ (t.dev.unit u).poisonSeen = ((s.dev.unit u).poisonSeen || now.any (fun q => q.2))
          ∧ (t.dev.unit u).run = (if later.isEmpty = false then some { r with left := later }
              else if (s.dev.unit u).closePending = true then none else (s.dev.unit u).queue.head?)
          ∧ (∀ v : Nat, v ≠ u → t.dev.unit v = s.dev.unit v) ∧ t.dev.mem = s.dev.mem ∧ t.dev.disp = s.dev.disp

/-! ## Slot tables (11 R338-R347, R364) -/

/-- The commands of the slot tables. ARM starts the load, or is refused with the code of check 1 or 2 (`SWAP_STATE` 3 and `SWAP_REFUSE` take it although the write answers
`VALUE_REFUSED`: the model's choice, log entry 40); DISARM returns to IDLE; the load ends ARMED with the bank it has copied, or REFUSED with the first check that fails; the
swap makes the loaded bank active at `SWAP_HT`, or is missed with 0x2904; each slot moves its port on by one, counts a dead slot on a port that is not ACTIVE, and counts a
slip exactly where flits of its stream are there but not ready in number. EPOCH_VALUE_WRITE sets the epoch of the tensor that `EPOCH_TENSOR` names. -/
def Obligations.SlotTableCommands : Prop :=
  (∀ (who : Requester) (s : State), s.dev.Grants who 0x3300 2 →
    let st := s.dev.get 0x3300 3
    let early := s.dev.get 0x3300 1 < s.dev.ht + 100000
    let lost := s.dev.get 0x3200 3 = 0
    let refused (code : Nat) := Effect (.swapArm who) s ((((s.dev.asked who).put 0x3300 3 0).put 0x3300 4 code).emit (.odAnswer 4 1 0))
    (st = 1 ∨ st = 2 → Declined (.swapArm who) who s 0x3300 2)
    ∧ (st ≠ 1 → st ≠ 2 → early → refused 1) ∧ (st ≠ 1 → st ≠ 2 → ¬ early → lost → refused 2)
    ∧ (st ≠ 1 → st ≠ 2 → ¬ early → ¬ lost → Accepted (.swapArm who) s 0x3300 2 (((s.dev.asked who).put 0x3300 3 1).put 0x3300 4 0))
    ∧ Accepted (.swapDisarm who) s 0x3300 2 { (s.dev.asked who).put 0x3300 3 0 with slots := { s.dev.slots with shadow := none } })
  ∧ (∀ (ecc : List EccHit) (s : State),
    let d := s.dev.eccRead [] ecc
    let c : Instr := .swapLoadComplete ecc
    let passed := s.dev.get 0x3300 1 ≤ s.dev.ht
    (s.dev.get 0x3300 3 ≠ 1 → Effect c s s.dev)
    ∧ (s.dev.get 0x3300 3 = 1 → passed → ∃ t, Answers c s t ∧ Missed s t)
    ∧ (s.dev.get 0x3300 3 = 1 → ¬ passed → d.loadCheck ≠ 0 → Effect c s ((d.put 0x3300 3 3).put 0x3300 4 d.loadCheck))
    ∧ (s.dev.get 0x3300 3 = 1 → ¬ passed → d.loadCheck = 0 → ∃ b, Effect c s { d.put 0x3300 3 2 with slots := { d.slots with shadow := some b } }
        ∧ b.start = d.get 0x3300 1 ∧ b.tree = d.get 0x3310 8
        ∧ (∀ a < 16384, sget (fun _ => 0) b.routes a = d.num (d.get 0x3310 7 + 2 * a) 2)
        ∧ ∀ p < 6, 0 < d.cycleOf p ∧ d.cycleOf p ≤ 65536 ∧ ∀ i < d.cycleOf p, b.entry p i = d.slotEntry p i ∧ slotFlits (b.entry p i) ≤ 64
            ∧ (slotKind (b.entry p i) = 2 → slotInPort (b.entry p i) < 6 ∧ slotInPort (b.entry p i) ≠ p)))
  ∧ (∀ s : State,
    let st := s.dev.get 0x3300 3
    let due := s.dev.get 0x3300 1 ≤ s.dev.ht
    (¬ due ∨ (st ≠ 1 ∧ st ≠ 2) → Effect .slotSwap s s.dev)
    ∧ (due → st = 2 → ∃ t, Answers .slotSwap s t ∧ t.dev.slots = ⟨s.dev.slots.shadow, none, false, [], s.dev.slots.midway⟩ ∧ t.dev.get 0x3300 3 = 0
        ∧ t.dev.get 0x3300 5 = (if s.dev.get 0x3300 5 = 0 then 1 else 0) ∧ t.dev.get 0x3300 6 = min (s.dev.get 0x3300 6 + 1) 0xFFFFFFFF)
    ∧ (due → st = 1 → ∃ t, Answers .slotSwap s t ∧ Missed s t))
  ∧ (∀ (c : Instr) (p : Fin 6) (lead : Nat) (s : State), (c = .slotStart p ∧ lead = 8 ∨ c = .forwardSlot p ∧ lead = 0) →
    let mine (e : Nat) := if c = .slotStart p then slotKind e ≠ 2 ∨ s.dev.slots.allFree = true else slotKind e = 2 ∧ s.dev.slots.allFree = false
    let free (e : Nat) := c = .slotStart p ∧ (slotKind e ≠ 1 ∨ s.dev.slots.allFree = true)
    (s.dev.dueSlot p = none → Effect c s s.dev)
    ∧ ∀ i e, s.dev.dueSlot p = some (i, e) →
        let all := s.dev.streamFlits p e
        let ready := (all.filter (fun w => decide (w.at_ + lead ≤ s.dev.slotInstant i))).take (slotFlits e)
        let late := ready.length < slotFlits e ∧ (ready.length < all.length ∨ s.dev.expects p e = true)
        (¬ mine e → Effect c s s.dev)
        ∧ (mine e → free e → Effect c s (s.dev.nextSlotOf p i).pumpAll)
        ∧ (mine e → ¬ free e → (s.dev.port p).state ≠ .active → Effect c s ((s.dev.nextSlotOf p i).addWrap 0x3323 (p + 1) 1))
        ∧ (mine e → ¬ free e → (s.dev.port p).state = .active → s.dev.dataOn = false → Effect c s (s.dev.nextSlotOf p i))
        ∧ (mine e → ¬ free e → (s.dev.port p).state = .active → s.dev.dataOn = true → ∃ t, Answers c s t ∧ t.dev.slots = (s.dev.nextSlotOf p i).slots
            ∧ t.dev.get 0x3323 (p + 1) = s.dev.get 0x3323 (p + 1)
            ∧ (late → t.dev.get 0x3320 (p + 1) = (s.dev.get 0x3320 (p + 1) + 1) % 2 ^ 64)
            ∧ (¬ late → t.dev.get 0x3320 (p + 1) = s.dev.get 0x3320 (p + 1))))
  ∧ ∀ (who : Requester) (v : BitVec 16) (s : State), s.dev.Grants who 0x3520 2 →
      Accepted (.epochValueWrite who v) s 0x3520 2
        { s.dev.asked who with eng := { s.dev.eng with epochs := sset (fun _ => 0) s.dev.eng.epochs (s.dev.get 0x3520 1) v.toNat } }

/-! ## Leashes (14 R443-R448) -/

/-- ACQUIRE of a free Leash waits for the arbiter; the owner's ACQUIRE and RENEW start the lease again; another's Leash answers `LEASH_BUSY` to ACQUIRE and
`LEASH_NOT_HELD` to RENEW and RELEASE; RELEASE frees the owner's and leaves a free one free. The arbiter decides 1 μs after the first ACQUIRE of a free Leash: among the ACQUIREs of one port the first wins; when both ports tied, the port whose turn it
is, and the turn changes. A lease that has ended frees its Leash with 0x0B01. No other Leash changes. -/
def Obligations.LeashesAreGrantedAndExpire : Prop :=
  (∀ (who : Requester) (n : Fin 32) (s : State), s.dev.Grants who 0x1100 1 →
      let o := ownerOf who
      let owner := s.dev.leashOwner n
      let d := (s.dev.asked who).settleLeash n
      let x := d.leash n
      let again := (s.dev.asked who).setLeash n { s.dev.leash n with owner := o, until_ := s.dev.now + s.dev.get 0x1100 2 * 1000000 }
      let ends (c : Instr) (st : Nat) := Effect c s ((s.dev.asked who).emit (.odAnswer st 4 0))
      (owner = .free → Effect (.leashAcquire who n) s (d.setLeash n { x with claims := x.claims ++ [⟨o, s.dev.now, .plain⟩] }))
      ∧ (owner = o → Accepted (.leashAcquire who n) s 0x1100 1 again)
      ∧ (owner ≠ .free → owner ≠ o → ends (.leashAcquire who n) 6)
      ∧ (owner = o → Accepted (.leashRenew who n) s 0x1100 1 again)
      ∧ (owner = .free → Effect (.leashRenew who n) s (d.emit (.odAnswer 5 4 0)))
      ∧ (owner ≠ .free → owner ≠ o → ends (.leashRenew who n) 5)
      ∧ (owner = .free → Accepted (.leashRelease who n) s 0x1100 1 d)
      ∧ (owner = o → Accepted (.leashRelease who n) s 0x1100 1 ((s.dev.asked who).setLeash n { s.dev.leash n with owner := .free, until_ := 0 }))
      ∧ (owner ≠ .free → owner ≠ o → ends (.leashRelease who n) 5))
  ∧
    ∀ (n : Fin 32) (s : State),
      let x := s.dev.leash n
      let others (t : State) := ∀ m : Nat, m ≠ n → t.dev.leash m = s.dev.leash m
      (x.claims = [] → Effect (.leashArbitration n) s s.dev)
      ∧ (∀ c rest, x.claims = c :: rest →
          let tied := x.claims.filter (fun e => decide (e.at_ ≤ c.at_ + 1000))
          let wins (t : State) (o : Owner) (turn : Bool) := t.dev.leash n = ⟨o, s.dev.now + s.dev.get 0x1100 2 * 1000000, turn, []⟩
          (s.dev.now < c.at_ + 1000 → Effect (.leashArbitration n) s s.dev)
          ∧ (c.at_ + 1000 ≤ s.dev.now → ∃ t, Answers (.leashArbitration n) s t ∧ others t
              ∧ ((∀ e ∈ tied, e.owner = .pcie) → wins t .pcie x.nextTie)
              ∧ ((∀ e ∈ tied, e.owner ≠ .pcie) → wins t c.owner x.nextTie)
              ∧ ((∃ e ∈ tied, e.owner = .pcie) → (∃ e ∈ tied, e.owner ≠ .pcie) →
                  (x.nextTie = false → wins t .pcie true) ∧ (x.nextTie = true → ∃ e ∈ tied, e.owner ≠ .pcie ∧ wins t e.owner false))))
      ∧ (x.owner = .free ∨ s.dev.now < x.until_ → Effect (.leashExpired n) s s.dev)
      ∧ (x.owner ≠ .free → x.until_ ≤ s.dev.now → ∃ t, Answers (.leashExpired n) s t ∧ t.dev.leash n = { x with owner := .free, until_ := 0 } ∧ others t
          ∧ t.dev.get 0x1300 3 = (s.dev.get 0x1300 3 + 1) % 2 ^ 32
          ∧ t.dev = (s.dev.setLeash n { x with owner := .free, until_ := 0 }).raise 0x0B01 n x.owner.code
          ∧ t.dev.SameButNotices (s.dev.setLeash n { x with owner := .free, until_ := 0 }))

/-! ## The management port (14 R436-R442) -/

/-- Requests of the management port: a frame with another VLAN tag, to another address or UDP port, or while the link is down, has no effect; one of a wrong `MAGIC` is
counted in `MGMT_BAD_FRAMES` and not answered; every other is counted in `MGMT_REQUESTS`; until the firmware serves the dictionary the answer is `BUSY`; a repeat within a
second is answered again with the kept response; with 64 waiting the answer is `BUSY`, which is counted; update data while the slot is busy is answered `BUSY`, and a
malformed request `BAD_REQUEST`; READ answers the value, WRITE stores it; SUBSCRIBE takes, changes or gives up one of the four places (a class above 4 other
than 0xFF answers `VALUE_REFUSED`: the model's choice, log entry 51). -/
def Obligations.ManagementRequests : Prop :=
  ∀ (f : MgmtFrame) (b : SpdmBody) (c : Instr) (s : State),
    let d := s.dev.addWrap 0x1210 1 1
    let i := f.index
    let k := f.sub
    let me : Requester := .mgmt f.addr f.udp f.secure
    let any := c = .mgmtRead f ∨ c = .mgmtWrite f ∨ c = .mgmtSubscribe f ∨ c = .mgmtEventAck f ∨ c = .mgmtSpdm f b ∨ c = .mgmtBadMagicFrame f
    let op (n : Nat) := c = .mgmtRead f ∧ n = 1 ∨ c = .mgmtWrite f ∧ n = 2 ∨ c = .mgmtSubscribe f ∧ n = 3
    let busyData := f.op = 2 ∧ i = 0x9100 ∧ k = 3 ∧ s.dev.updBusy = true
    let turned (x : Dev) := ∃ h, bits h 96 8 = 9 ∧ bits h 128 32 = f.reqId ∧ Effect c s (x.emit (.mgmtFrame f.addr f.udp ⟨s.dev.vlanTag, f.dst, f.dport, h⟩ []))
    let secure := d.notSecure (.mgmt f.addr f.udp) (d.inSession f.addr f.udp f.secure) = false
    (any → s.dev.frameTaken f = false → Effect c s s.dev)
    ∧ (any → s.dev.frameTaken f = true → f.magicOk = false → Effect c s (s.dev.addSat 0x1210 2 32 1))
    ∧ (f.magicOk = true → Effect (.mgmtBadMagicFrame f) s s.dev)
    ∧ (∀ n, op n → s.dev.frameTaken f = true → f.magicOk = true → s.dev.sec.recovery = false → f.op = n →
        (s.dev.dictServed = false → turned d)
        ∧ (∀ r, s.dev.dictServed = true → s.dev.keptResponse f.addr f.udp f.reqId = some r → Effect c s (d.emit r.out))
        ∧ (s.dev.dictServed = true → s.dev.keptResponse f.addr f.udp f.reqId = none → 64 ≤ s.dev.mgmtWaiting → turned (d.addSat 0x1210 3 32 1))
        ∧ (s.dev.dictServed = true → s.dev.keptResponse f.addr f.udp f.reqId = none → s.dev.mgmtWaiting < 64 → (s.dev.domain 0xB).hold = true →
            Effect c s { d with requests := s.dev.requests ++ [.frame f none] }))
    ∧ (∀ n, op n → s.dev.executes f n →
        (busyData → turned d)
        ∧ (¬ busyData → f.malformed = true → Effect c s (d.responded f none 7 []))
        ∧ (¬ busyData → f.malformed = false → ¬ secure → Effect c s (d.responded f none 8 [])))
    ∧ (s.dev.executes f 1 → f.malformed = false → secure →
        (d.entryExists i k = false → Effect (.mgmtRead f) s (d.responded f none 1 []))
        ∧ (d.entryExists i k = true → ¬ (i = 0x7110 ∧ k = 2) → ¬ (i = 0x3200 ∧ k = 1) →
            Effect (.mgmtRead f) s (d.responded f none 0 (toBytes (entrySize i k) (d.entryValue s.fuse i k)))))
    ∧ (s.dev.executes f 2 → f.malformed = false → d.Grants me i k → storesOnly i k →
        let v := ofBytes f.data % 2 ^ (8 * entrySize i k)
        let m := maskEntry i k v
        d.actingEntry s.fuse true i k v = none →
        (d.valueOk i k m = true → Effect (.mgmtWrite f) s ((d.put i k m).responded f none 0 []))
        ∧ (d.valueOk i k m = false → Effect (.mgmtWrite f) s (d.responded f none 4 [])))
    ∧ (s.dev.executes f 3 → f.malformed = false → secure →
        let cls := ofBytes f.data
        let ends (x : Dev) (st : Nat) := Effect (.mgmtSubscribe f) s (x.responded f none st [])
        (4 < cls → cls ≠ 0xFF → ends d 4)
        ∧ (d.subscriberSlot f.addr f.udp = none → cls = 0xFF → ends d 0)
        ∧ (∀ n, d.subscriberSlot f.addr f.udp = some n → cls = 0xFF → ends (d.setSubscriber n none) 0)
        ∧ (∀ n x, d.subscriberSlot f.addr f.udp = some n → d.mgmt.subscribers[n]? = some (some x) → cls ≤ 4 →
            ends (d.setSubscriber n (some { x with cls := cls })) 0)
        ∧ (d.subscriberSlot f.addr f.udp = none → cls ≤ 4 →
            let place := (below 4).find? (fun n => (d.mgmt.subscribers[n]?).getD none == none)
            (∀ n, place = some n → ends (d.setSubscriber n (some ⟨f.addr, f.udp, cls, [], []⟩)) 0) ∧ (place = none → ends d 4)))

/-- Events and the link of the management port: an acknowledgement takes the event off the subscriber's list and lets queued ones out; an event unacknowledged for 20 ms is
sent again, and dropped and counted after its sixth sending; the link forms at the rate that `MGMT_SPEED` and the alternation give; its changes raise 0x0B04. -/
def Obligations.ManagementEventsAndLink : Prop :=
  (∀ (f : MgmtFrame) (s : State), s.dev.frameTaken f = true → f.magicOk = true → s.dev.sec.recovery = false → f.op = 5 →
    let c : Instr := .mgmtEventAck f
    let served := s.dev.dictServed = true
    let secure := s.dev.notSecure (.mgmt f.addr f.udp) (s.dev.inSession f.addr f.udp f.secure) = false
    let good := f.headBad = false ∧ f.data = []
    let eseq := bits f.head 160 32
    (¬ served → Effect c s s.dev)
    ∧ (served → ¬ good → Effect c s (s.dev.responded f none 7 []))
    ∧ (served → good → ¬ secure ∨ s.dev.subscriberSlot f.addr f.udp = none → Effect c s s.dev)
    ∧ (served → good → secure → ∀ n x, s.dev.subscriberSlot f.addr f.udp = some n → s.dev.mgmt.subscribers[n]? = some (some x) →
        ∃ t, Answers c s t ∧ { t.dev with mgmt := { t.dev.mgmt with subscribers := s.dev.mgmt.subscribers }, out := s.dev.out } = s.dev
          ∧ (x.queue = [] → t.dev = s.dev.setSubscriber n (some { x with unacked := x.unacked.filter (fun e => e.1 != eseq) }))))
  ∧ (∀ (n : Fin 4) (e : Word) (s : State),
    let c : Instr := .mgmtEventResend n e
    ((∀ x, s.dev.mgmt.subscribers[n.val]? = some (some x) → x.unacked.find? (fun y => y.1 == e.toNat) = none) → Effect c s s.dev)
    ∧ ∀ x eseq record sends at_, s.dev.mgmt.subscribers[n.val]? = some (some x) →
        x.unacked.find? (fun y => y.1 == e.toNat) = some (eseq, record, sends, at_) →
        (s.dev.now < at_ + 20000000 → Effect c s s.dev)
        ∧ (at_ + 20000000 ≤ s.dev.now → sends < 6 → ∃ t x', Answers c s t ∧ t.dev.mgmt.subscribers[n.val]? = some (some x')
            ∧ x'.unacked = x.unacked.map (fun y => if y.1 = e.toNat then (e.toNat, record, sends + 1, s.dev.now) else y) ∧ x'.queue = x.queue
            ∧ (s.dev.get 0x1200 9 ≠ 0 → ∃ h, bits h 160 32 = eseq % 2 ^ 32 ∧ t.dev.out = .mgmtFrame x.addr x.udp (s.dev.ownEnvelope h) (toBytes 64 record) :: s.dev.out))
        ∧ (at_ + 20000000 ≤ s.dev.now → 6 ≤ sends → ∃ t, Answers c s t ∧ t.dev.get 0x1210 4 = min (s.dev.get 0x1210 4 + 1) 0xFFFFFFFF
            ∧ (x.queue = [] → t.dev.mgmt.subscribers[n.val]? = some (some { x with unacked := x.unacked.filter (fun y => y.1 != e.toNat) }))))
  ∧ (∀ s : State,
    let due := s.dev.get 0x1200 1 = 0 ∧ s.dev.get 0x1200 9 = 0 ∧ s.dev.mgmt.trySince + 2000000000 ≤ s.dev.now
    (¬ due → Effect .mgmtSpeedAlternate s s.dev)
    ∧ (due → Effect .mgmtSpeedAlternate s
        { s.dev with mgmt := { s.dev.mgmt with alternate := !s.dev.mgmt.alternate, trySince := s.dev.now } }))
  ∧ ∀ s : State,
    let mode := s.dev.get 0x1200 1
    let rate := if mode = 2 ∨ (mode = 0 ∧ s.dev.mgmt.alternate = true) then 10 else 25
    let stopped := (s.dev.domain 0xC).stopped
    (stopped = true ∨ s.dev.get 0x1200 9 = rate → Effect (.mgmtLinkChange true) s s.dev)
    ∧ (stopped = false → s.dev.get 0x1200 9 ≠ rate → ∃ t, Answers (.mgmtLinkChange true) s t ∧ t.dev.get 0x1200 9 = rate
        ∧ t.dev = ((s.dev.put 0x1200 9 rate).raise 0x0B04 rate 0).emit (.mgmtLine rate (if rate = 10 ∧ s.dev.get 0x1200 2 = 0 then 2 else s.dev.get 0x1200 2))
        ∧ t.dev.get 0x1300 3 = (s.dev.get 0x1300 3 + 1) % 2 ^ 32 ∧ t.dev.SameButNotices (s.dev.put 0x1200 9 rate))
    ∧ (s.dev.get 0x1200 9 = 0 → Effect (.mgmtLinkChange false) s s.dev)
    ∧ (s.dev.get 0x1200 9 ≠ 0 → ∃ t, Answers (.mgmtLinkChange false) s t ∧ t.dev.get 0x1200 9 = 0
        ∧ t.dev.mgmt.trySince = s.dev.now ∧ t.dev.mgmt.alternate = false ∧ t.dev.get 0x1300 3 = (s.dev.get 0x1300 3 + 1) % 2 ^ 32
        ∧ t.dev.SameButNotices ({ s.dev with mgmt := { s.dev.mgmt with alternate := false, trySince := s.dev.now } }.put 0x1200 9 0))

/-! ## SPDM (18 R534-R539; 14 R427) -/

/-- The responder's answers: to a port that is closed, and in recovery, none; while Shepherd's clock stands still the message waits; else the answer of the request, or
ResponseNotReady with a token under which the answer is kept, where it is late. A session is opened by KEY_EXCHANGE, four at most, finished by FINISH and ended by
END_SESSION, each on the port it was opened on. SET_CERTIFICATE and every request that is not supported answer UnsupportedRequest. What carries SPDM: an SPDM frame of the management port counts as a request, and its message is answered and kept as a response; an object-access frame inside a session
is answered inside it; the DOE mailbox answers discovery with the type of the index and the next index, sets its error for an object above its limit and then takes
nothing (log entry 181), discards another vendor's, and passes a message on. -/
def Obligations.SpdmAnswers : Prop :=
  (∀ (c : Instr) (port : SpdmPort) (r : SpdmReq) (late : Bool) (s : State), spdmOf c = some (port, r, late) →
      let d := if port = .doe then s.dev else s.dev.counted
      let idle := port = .doe ∨ s.dev.mgmtBusy = false
      let env (reply : SpdmReply) : Option Envelope := if port = .doe then none else some (d.spdmEnvelope none reply)
      let chain := if d.sec.chainOk then Config.identityChain else []
      let ends (reply : SpdmReply) (x : Dev) :=
        (late = false → Effect c s (x.emit (.spdm port reply (env reply))))
        ∧ (late = true → Effect c s (({ x with sec := { x.sec with
            deferred := d.sec.deferred ++ [(port, d.sec.nextToken, reply)], nextToken := d.sec.nextToken + 1 } } : Dev).emit
              (.spdm port (.responseNotReady 14 d.sec.nextToken) (env (.responseNotReady 14 d.sec.nextToken)))))
      let mine (n : Nat) := ∃ x ∈ d.sec.sessions, x.number = n ∧ x.port = port
      let sessions (l : List Session) : Dev := { d with sec := { d.sec with sessions := l } }
      (s.dev.spdmOpen port = false → Effect c s s.dev)
      ∧ (∀ addr udp, port = .mgmt addr udp → s.dev.spdmOpen port = true → s.dev.mgmtBusy = true → ∃ h, bits h 96 8 = 9
          ∧ Effect c s ((if s.dev.dictServed = true then d.addSat 0x1210 3 32 1 else d).emit (.mgmtFrame addr udp (d.ownEnvelope h) [])))
      ∧ (d.spdmOpen port = true → idle → (d.domain 0xB).hold = true → Effect c s { d with requests := d.requests ++ [.spdm port r late none] })
      ∧ (d.spdmOpen port = true → idle → (d.domain 0xB).hold = false →
          (r = .getVersion → ends .version d) ∧ (r = .getCapabilities → ends .capabilities d)
          ∧ (∀ all, r = .negotiateAlgorithms all → ends (if all then .algorithms else .invalidRequest) d)
          ∧ (r = .getDigests → ends (.digests (if chain = [] then [] else [Config.sha384 chain])) d)
          ∧ (∀ slot off len, r = .getCertificate slot off len →
              (slot ≠ 0 ∨ chain = [] → ends .invalidRequest d)
              ∧ (slot = 0 → chain ≠ [] → ends (.certificate 0 ((chain.drop off).take len) (chain.length - (off + ((chain.drop off).take len).length))) d))
          ∧ (∀ slot nonce, r = .challenge slot nonce →
              (slot ≠ 0 ∨ chain = [] → ends .invalidRequest d)
              ∧ (slot = 0 → chain ≠ [] → ∃ own sig, sig = Config.identitySign (digestBytes (Config.sha384
                    (toBytes 32 nonce.toNat ++ toBytes 32 own.toNat ++ digestBytes (d.measurementSummary s.fuse))))
                  ∧ ends (.challengeAuth own (d.measurementSummary s.fuse) sig) { d with draws := d.draws + 4 }))
          ∧ (∀ n, r = .getMeasurements n →
              (n = 0 → ends (.measurements 6 []) d) ∧ (1 ≤ n → n ≤ 6 → ends (.measurements 6 [(n, d.measurement s.fuse n)]) d)
              ∧ (n = 255 → ends (.measurements 6 (d.allMeasurements s.fuse)) d) ∧ (6 < n → n ≠ 255 → ends .invalidRequest d))
          ∧ (∀ slot, r = .keyExchange slot →
              (slot ≠ 0 ∨ chain = [] → ends .invalidRequest d)
              ∧ (slot = 0 → chain ≠ [] → 4 ≤ d.sec.sessions.length → ends .sessionLimitExceeded d)
              ∧ (slot = 0 → chain ≠ [] → d.sec.sessions.length < 4 → ends (.keyExchanged d.sec.nextSession)
                  { d with sec := { d.sec with sessions := d.sec.sessions ++ [⟨d.sec.nextSession, port, false⟩], nextSession := d.sec.nextSession + 1 } }))
          ∧ (∀ n, r = .finish n ∨ r = .heartbeat n ∨ r = .keyUpdate n ∨ r = .endSession n → ¬ mine n → ends .invalidRequest d)
          ∧ (∀ n, mine n →
              (r = .finish n → ends (.finished n) (sessions (d.sec.sessions.map (fun x => if x.number = n then { x with finished := true } else x))))
              ∧ (r = .heartbeat n → ends (.heartbeatAck n) d) ∧ (r = .keyUpdate n → ends (.keyUpdated n) d)
              ∧ (r = .endSession n → ends (.sessionEnded n) (sessions (d.sec.sessions.filter (fun x => x.number != n)))))
          ∧ (∀ token, r = .respondIfReady token →
              let kept (x : SpdmPort × Nat × SpdmReply) := x.1 == port && x.2.1 == token
              (d.sec.deferred.find? kept = none → ends .unexpectedRequest d)
              ∧ ∀ x, d.sec.deferred.find? kept = some x →
                  ends x.2.2 { d with sec := { d.sec with deferred := d.sec.deferred.filter (fun y => !kept y) } })
          ∧ (∀ slot, r = .setCertificate slot → ends (.unsupportedRequest 0xEE) d) ∧ (∀ code, r = .other code → ends (.unsupportedRequest code) d)))
  ∧
    (∀ (f : MgmtFrame) (r : SpdmReq) (s : State), s.dev.executes f 6 →
      let d := s.dev.addWrap 0x1210 1 1
      let port : SpdmPort := .mgmt f.addr f.udp
      let x := d.spdmReply s.fuse port r
      let out : Out := .spdm port x.1 (some (d.spdmEnvelope (some f) x.1))
      let c : Instr := .mgmtSpdm f (.message r)
      (f.headBad = true → Effect c s (d.responded f none 7 []))
      ∧ (f.headBad = false → Effect c s ((x.2.keepResponse ⟨f.addr, f.udp, f.reqId, out, s.dev.now⟩).emit out)))
    ∧ (∀ (f g : MgmtFrame) (n : Nat) (s : State), s.dev.frameTaken f = true → f.magicOk = true → s.dev.sec.recovery = false → f.op = 6 →
      let d := s.dev.addWrap 0x1210 1 1
      let h := { g with addr := f.addr, udp := f.udp, dst := f.dst, dport := f.dport }
      let c : Instr := .mgmtSpdm f (.secured n g)
      (f.headBad = false → g.magicOk = false → Effect c s (s.dev.addSat 0x1210 2 32 1))
      ∧ (f.headBad = false → g.magicOk = true → g.op = 1 → s.dev.dictServed = true → s.dev.keptResponse f.addr f.udp g.reqId = none → s.dev.mgmtWaiting < 64 → (s.dev.domain 0xB).hold = false →
          g.malformed = false → s.dev.hasSession (.mgmt f.addr f.udp) n = true →
          d.entryExists g.index g.sub = true → ¬ (g.index = 0x7110 ∧ g.sub = 2) → ¬ (g.index = 0x3200 ∧ g.sub = 1) →
          Effect c s (d.responded h (some n) 0 (toBytes (entrySize g.index g.sub) (d.entryValue s.fuse g.index g.sub)))))
    ∧ ∀ (x : DoeObject) (s : State),
      let c : Instr := .doeRequest x
      let open_ := s.dev.spdmOpen .doe = true ∧ s.dev.host.doeError = false
      let small := x.dwords ≤ 4096
      (¬ open_ → Effect c s s.dev)
      ∧ (open_ → ¬ small → Effect c s { s.dev with host := { s.dev.host with doeError := true } })
      ∧ (open_ → small → x.vendor ≠ 1 → Effect c s s.dev)
      ∧ (open_ → small → x.vendor = 1 → x.kind = 0 →
          Effect c s (s.dev.emit (if x.index ≤ 2 then .doeDiscovery 1 x.index ((x.index + 1) % 3) else .doeDiscovery 0xFFFF 0 0)))
      ∧ (open_ → small → x.vendor = 1 → ∀ r, x.body = .message r →
          (x.kind ≠ 0 → x.kind ≠ 1 → Effect c s s.dev)
          ∧ (x.kind = 1 → (s.dev.domain 0xB).hold = false →
              Effect c s ((s.dev.spdmReply s.fuse .doe r).2.emit (.spdm .doe (s.dev.spdmReply s.fuse .doe r).1 none)))
          ∧ (x.kind = 1 → (s.dev.domain 0xB).hold = true → Effect c s { s.dev with requests := s.dev.requests ++ [.spdm .doe r false none] }))
      ∧ (open_ → small → x.vendor = 1 → x.kind ≠ 0 → x.kind ≠ 2 → ∀ n f, x.body = .secured n f → Effect c s s.dev)

/-! ## Ports (10 R295-R320; 12 R372) -/

/-- The states of a port: DETECT to TRAIN on a signal, TRAIN and RETRAIN to ALIGN, ALIGN to DISCOVER, back to DETECT when a training state outlasts its limit; in DISCOVER a
record per microsecond until the neighbour's is in, whose fields are kept and checked and whose first copy is compared with the previous exchange, and round 2 decides between QUARANTINE, with the reason, and ACTIVE; the
FEC's findings are counted while the lanes are locked; loss of signal, more uncorrectable codewords of one lane within 1 ms than `PORT_CFG` allows and a lost neighbour put an ACTIVE port into RETRAIN, and 2 ms of RETRAIN bring it DOWN. A command whose port is in another state, or
whose time has not come, has no effect; and no command changes the state of another port. -/
def Obligations.PortStates : Prop :=
  ∀ (p : Fin 6) (s : State),
    let x := s.dev.port p
    let d := s.dev
    let st := x.state
    let others (t : State) := ∀ q : Nat, q ≠ p → (t.dev.port q).state = (d.port q).state
    let moves (c : Instr) (to_ : LinkState) := ∃ t, Answers c s t ∧ t.dev.port p = { x with state := to_, since := d.now } ∧ others t
      ∧ t.dev.SameButNotices (d.moved p to_)
    let retrains (t : State) := (t.dev.port p).state = .retrain ∧ (t.dev.port p).retraining = some d.now
      ∧ t.dev.get (0x3020 + p) 5 = min (d.get (0x3020 + p) 5 + 1) 0xFFFFFFFF ∧ others t
    let up := st = .active ∨ st = .quarantine
    let reach := bits (d.get 0x3010 (p + 1)) 1 2
    let preset := bits (d.get 0x3010 (p + 1)) 4 4
    (st = .detect → ∃ t, Answers (.laneSignalDetected p) s t ∧ t.dev.port p = { x with state := .train, since := d.now, reach := reach, preset := preset }
        ∧ others t ∧ t.dev.SameButNotices ((d.setPort p { x with reach := reach, preset := preset }).moved p .train)) ∧ (st ≠ .detect → Effect (.laneSignalDetected p) s d)
    ∧ (st = .train ∨ st = .retrain → moves (.trainingComplete p) .align) ∧ (st ≠ .train → st ≠ .retrain → Effect (.trainingComplete p) s d)
    ∧ (∀ rev, (st ≠ .align → Effect (.alignComplete p rev) s d)
        ∧ (st = .align → ∃ t, Answers (.alignComplete p rev) s t ∧ others t ∧ t.dev.port p =
            { x with state := .discover, since := d.now, reversed := rev, round1 := false, verdict := 0, discSent := none
                     wasActive := x.wasActive && x.retraining.isSome }))
    ∧ (let limit := if st = .train then (if x.reach = 3 then 50000000 else 500000000) else 100000
       let due := (st = .train ∨ st = .align ∨ st = .discover) ∧ x.since + limit ≤ d.now
       (¬ due → Effect (.trainTimeout p) s d)
       ∧ (due → ∃ t, Answers (.trainTimeout p) s t ∧ t.dev.port p = { x with state := .detect, since := d.now } ∧ others t
            ∧ t.dev.get (0x3020 + p) 6 = min (d.get (0x3020 + p) 6 + 1) 0xFFFFFFFF))
    ∧ (let due := st = .discover ∧ x.round1 = false ∧ ∀ u, x.discSent = some u → u + 1000 ≤ d.now
       (¬ due → Effect (.discoverySend p) s d)
       ∧ (due → ∃ t f, Answers (.discoverySend p) s t ∧ t.dev.out = .flit p f :: d.out ∧ f.payload.take 64 = toBytes 64 (d.discoveryValue p false)
            ∧ t.dev.port p = { x with discSent := some d.now } ∧ t.dev.get (0x3020 + p) 1 = (d.get (0x3020 + p) 1 + 1) % 2 ^ 64 ∧ others t))
    ∧ (∀ (round2 : Bool) (record : BitVec 512) (ack : Option (BitVec 12)),
        let c : Instr := .discoveryReceived p round2 ⟨record, ack⟩
        let k := match ack with
          | some a => (a.toNat + 1 + 4096 - x.txBase) % 4096
          | none => 0
        let acks := 0 < k ∧ k ≤ x.txBuf.length
        let r := record.toNat
        (st ≠ .discover → ¬ up → Effect c s d)
        ∧ (round2 = true → st = .discover → x.round1 = false → Effect c s (d.addWrap (0x3020 + p) 2 1))
        ∧ (up → ∃ t, Answers c s t ∧ others t ∧ (t.dev.port p).state = st ∧ t.dev.get (0x3020 + p) 2 = (d.get (0x3020 + p) 2 + 1) % 2 ^ 64
            ∧ (t.dev.port p).txBase = (if acks then (x.txBase + k) % 4096 else x.txBase)
            ∧ (d.waiting = [] → (t.dev.port p).txBuf = (if acks then x.txBuf.drop k else x.txBuf)
                ∧ t.dev.get (0x3020 + p) 1 = (d.get (0x3020 + p) 1 + (if round2 = true then 0 else 2)) % 2 ^ 64))
        ∧ (round2 = false → st = .discover → ∃ t, Answers c s t ∧ others t ∧ (t.dev.port p).state = .discover ∧ (t.dev.port p).round1 = true
            ∧ (t.dev.port p).verdict = d.discoveryCheck p r ∧ (t.dev.port p).nbLoc = bits r 40 16 ∧ (t.dev.port p).nbLogical = bits r 26 14
            ∧ t.dev.get 0x3013 (p + 1) = bits r 192 64 ∧ t.dev.get 0x3014 (p + 1) = bits r 128 32
            ∧ (t.dev.port p).back = (if x.round1 = true then x.back else if x.known = false then 0 else if bits r 192 64 ≠ x.nbSerial then 3 else if bits r 160 32 ≠ x.nbIncarnation then 2 else 1))
        ∧ (round2 = true → st = .discover → x.round1 = true →
            (x.verdict ≠ 0 ∨ bit r 19 = true → ∃ t, Answers c s t ∧ others t ∧ (t.dev.port p).state = .quarantine
              ∧ (t.dev.port p).quarReason = (if x.verdict ≠ 0 then x.verdict else 10) ∧ (t.dev.port p).txBase = 0 ∧ (t.dev.port p).rxNext = 0
              ∧ (d.waiting = [] → x.txBuf = [] → (t.dev.port p).txBuf = []))
            ∧ (x.verdict = 0 → bit r 19 = false → ∃ t, Answers c s t ∧ others t ∧ (t.dev.port p).state = .active ∧ (t.dev.port p).quarReason = 0
              ∧ (t.dev.port p).retraining = none)))
    ∧ (∀ cause : LinkFault,
        let c : Instr := .linkFaultDetected p cause
        let limit := bits (d.get 0x3010 (p + 1)) 8 8
        let locked := st = .align ∨ st = .discover ∨ up
        (¬ up → cause = .lossOfSignal → Effect c s d)
        ∧ (up → cause = .lossOfSignal → ∃ t, Answers c s t ∧ retrains t)
        ∧ (∀ lane bad fixed, cause = .fec lane bad fixed →
            let recent := x.uncorr.filter (fun u => decide (d.now < u.2.1 + 1000000))
            let n := bad + ((recent.filter (fun u => u.1 == lane.val)).map (fun u => u.2.2)).sum
            (¬ locked → Effect c s d)
            ∧ (locked → ∃ t, Answers c s t ∧ t.dev.get (0x3020 + p) 7 = min (d.get (0x3020 + p) 7 + bad) 0xFFFFFFFF
                ∧ t.dev.get (0x3020 + p) 9 = (d.get (0x3020 + p) 9 + fixed) % 2 ^ 64
                ∧ (up → limit < n → retrains t)
                ∧ (¬ up ∨ n ≤ limit → t.dev.port p = { x with uncorr := (lane, d.now, bad) :: recent } ∧ others t))))
    ∧ (let due := ∃ u, x.retraining = some u ∧ u + 2000000 ≤ d.now
       (¬ due → Effect (.retrainTimeout p) s d)
       ∧ (due → ∃ t, Answers (.retrainTimeout p) s t ∧ (t.dev.port p).state = .down ∧ (t.dev.port p).retraining = none ∧ (t.dev.port p).txBuf = [] ∧ others t
            ∧ t.dev.get 0x1300 3 = (d.get 0x1300 3 + 1) % 2 ^ 32))
    ∧ (let due := st = .active ∧ (d.pax p).lastBark + 30000 ≤ d.now
       (¬ due → Effect (.neighbourLost p) s d)
       ∧ (due → ∃ t, Answers (.neighbourLost p) s t ∧ retrains t ∧ t.dev.get 0x7320 (p + 1) = min (d.get 0x7320 (p + 1) + 1) 0xFFFFFFFF))

/-! ## Flits, Barks, Howls (10 R299-R310; 11 R349; 12 R371-R379) -/

/-- Received DATA flits: a flit in order advances the sequence and is delivered; one that fails, or is out of order, is not delivered and, when it is of type DATA, sets off a NAK unless one is pending; a port in
QUARANTINE drops what is not a neighbour's own traffic; a delivered flit of class 1, or one in transit without a valid route, is dropped and counted; an accepted Howl is logged and
counted, and a STEP_FATAL one of this step or a later makes its step fatal here. LINK_CTRL flits return credits, up to 256 of a class, and ask for replays; a pending NAK goes
out again after 2 μs, and an unacknowledged window is replayed after 4 μs, eight times in a row at most before the port retrains. -/
def Obligations.FlitsAreSequencedAndReplayed : Prop :=
  ∀ (p : Fin 6) (s : State),
    let x := s.dev.port p
    let d := s.dev
    let up := x.state = .active ∨ x.state = .quarantine
    let counted (t : State) := t.dev.get (0x3020 + p) 2 = (d.get (0x3020 + p) 2 + 1) % 2 ^ 64
    (∀ (f : Flit) (c : Instr),
      let arrives := c = .dataFlitReceived p f ∧ (f.ftype = 1 ∨ 6 ≤ f.ftype) ∨ c = .howlReceived p f ∧ f.ftype = 1 ∧ f.tc = 6
      let taken := up ∧ arrives
      let good := flitFails f = false ∧ f.lseq = x.rxNext
      let own := f.tc = 0 ∧ f.dest = d.self
      let delivered := taken ∧ good ∧ (x.state = .active ∨ own) ∧ d.fenceDrops p f = false
      ((c = .dataFlitReceived p f ∨ c = .howlReceived p f) → ¬ taken → ¬ (x.state = .discover ∧ arrives) → Effect c s d)
      ∧ (x.state = .discover → arrives → ∃ t, Answers c s t ∧ counted t ∧ t.dev.port p = x ∧ t.dev.eng = d.eng
          ∧ t.dev.get (0x3020 + p) 3 = (if flitFails f = true then min (d.get (0x3020 + p) 3 + 1) 0xFFFFFFFF else d.get (0x3020 + p) 3))
      ∧ (taken → ¬ good → ∃ t, Answers c s t ∧ counted t ∧ (t.dev.port p).rxNext = x.rxNext
          ∧ (t.dev.port p).nakAt = (if f.ftype = 1 ∧ x.nakAt = none then some d.now else x.nakAt) ∧ (d.waiting = [] → t.dev.waiting = []) ∧ t.dev.eng = d.eng
          ∧ (flitFails f = true → t.dev.get (0x3020 + p) 3 = min (d.get (0x3020 + p) 3 + 1) 0xFFFFFFFF))
      ∧ (taken → good → ∃ t, Answers c s t ∧ counted t ∧ (t.dev.port p).rxNext = (x.rxNext + 1) % 4096 ∧ (t.dev.port p).nakAt = none
          ∧ (x.state = .quarantine → ¬ own → t.dev.get (0x3020 + p) 8 = min (d.get (0x3020 + p) 8 + 1) 0xFFFFFFFF ∧ t.dev.eng = d.eng
              ∧ (d.waiting = [] → t.dev.waiting = []))
          ∧ (delivered → f.tc = 1 ∨ (f.tc ≠ 6 ∧ f.dest ≠ d.self ∧ (d.inSlice f.dest = false ∨ bit (d.route f.dest) 15 = false)) →
              t.dev.get 0x3410 1 = min (d.get 0x3410 1 + 1) 0xFFFFFFFF ∧ t.dev.eng = d.eng ∧ (d.waiting = [] → t.dev.waiting = []))
          ∧ (let v := ofBytes (f.payload.take 32)
             let origin := bits v 114 14
             let seq := bits v 128 16
             let last := sget (fun _ => 0) d.howls origin
             delivered → f.tc = 6 → d.inSlice origin = true → last = 0 ∨ serialNewer 16 seq (last - 1) = true → f.hops ≠ 0 → 1 ≤ bits v 96 4 →
               bits v 96 4 ≤ 5 →
               t.dev.get 0x7300 5 = min (d.get 0x7300 5 + 1) 0xFFFFFFFF ∧ t.dev.get 0x7310 1 = v / 2 ^ 76 * 2 ^ 76
               ∧ (origin ≠ d.self → sget (fun _ => 0) t.dev.howls origin = seq + 1)
               ∧ (bits v 96 4 = 3 → d.step ≤ bits v 144 48 → bits v 144 48 ∈ t.dev.disp.fatalSteps))))
    ∧ (∀ f : Flit,
      let c : Instr := .linkCtrlReceived p f
      let w := ofBytes (f.payload.take 2)
      let k := (f.ack + 1 + 4096 - x.txBase) % 4096
      let acks := f.ackValid = true ∧ 0 < k ∧ k ≤ x.txBuf.length
      (¬ up → x.state ≠ .discover → Effect c s d)
      ∧ (x.state = .discover → ∃ t, Answers c s t ∧ counted t ∧ t.dev.port p = x
          ∧ t.dev.get (0x3020 + p) 3 = (if flitFails f = true then min (d.get (0x3020 + p) 3 + 1) 0xFFFFFFFF else d.get (0x3020 + p) 3))
      ∧ (up → ∃ t, Answers c s t ∧ counted t
          ∧ (flitFails f = true → t.dev.get (0x3020 + p) 3 = min (d.get (0x3020 + p) 3 + 1) 0xFFFFFFFF ∧ t.dev.port p = x)
          ∧ (flitFails f = false → (t.dev.port p).txBase = (if acks then (x.txBase + k) % 4096 else x.txBase))
          ∧ (flitFails f = false → f.ftype = 2 → d.waiting = [] → ∀ q < 16, sget (fun _ => 256) (t.dev.port p).credits q
              = min 256 (sget (fun _ => 256) x.credits q + ((f.payload[2 + q]?).getD 0#8).toNat))
          ∧ (flitFails f = false → f.ftype = 2 → ¬ acks → bit w 15 = true → (bits w 0 12 + 4096 - x.txBase) % 4096 < x.txBuf.length →
              (d.dataOn = true → t.dev.get (0x3020 + p) 4 = min (d.get (0x3020 + p) 4 + 1) 0xFFFFFFFF)
              ∧ (d.dataOn = false → t.dev.get (0x3020 + p) 4 = d.get (0x3020 + p) 4 ∧ (t.dev.port p).replayFrom ≠ none))))
    ∧ (let due := up ∧ ∃ u, x.nakAt = some u ∧ u + 2000 ≤ d.now
       (¬ due → Effect (.nakResendTimeout p) s d)
       ∧ (due → ∃ t f, Answers (.nakResendTimeout p) s t ∧ t.dev.port p = { x with nakAt := some d.now } ∧ t.dev.out = .flit p f :: d.out
            ∧ f.payload.take 2 = toBytes 2 (0x8000 + x.rxNext % 4096)))
    ∧ (let due := up ∧ d.dataOn = true ∧ x.txBuf ≠ [] ∧ x.lastAck + 4000 ≤ d.now
       (¬ due → Effect (.replayTimeout p) s d)
       ∧ (due → ∃ t, Answers (.replayTimeout p) s t ∧ t.dev.get (0x3020 + p) 4 = min (d.get (0x3020 + p) 4 + 1) 0xFFFFFFFF
            ∧ (t.dev.port p).txBuf = x.txBuf ∧ (t.dev.port p).lastAck = d.now
            ∧ (t.dev.port p).state = (if 8 ≤ x.replaysInRow + 1 then .retrain else x.state)))

/-- Barks and originated Howls: a Bark leaves an ACTIVE port at each multiple of 10 μs of hall time; a received one renews the neighbour's interval and its health, and the hundredth in a
row that is not healthy raises 0x0A07. HOWL_SEND takes the next sequence number and sends on every ACTIVE port that is not fenced and may send; STEP_ABANDON of the present step
makes it fatal, and of another is refused. -/
def Obligations.BarksAndHowls : Prop :=
  (∀ (p : Fin 6) (s : State),
    let x := s.dev.pax p
    let due := (s.dev.port p).state = .active ∧ s.dev.fabricOn = true ∧ s.dev.tb.running = true ∧ x.barkPeriod < s.dev.ht / 10000
    (¬ due → Effect (.barkSend p) s s.dev)
    ∧ (due → ∃ t f, Answers (.barkSend p) s t ∧ t.dev.out = .flit p f :: s.dev.out ∧ f.payload.take 32 = toBytes 32 (s.dev.barkValue p)
        ∧ t.dev.pax p = { x with barkPeriod := s.dev.ht / 10000, barkSeq := (x.barkSeq + 1) % 2 ^ 32 }
        ∧ t.dev.get (0x3020 + p) 1 = (s.dev.get (0x3020 + p) 1 + 1) % 2 ^ 64 ∧ t.dev.ports = s.dev.ports))
  ∧ (∀ (p : Fin 6) (bark : BitVec 256) (ack : Option (BitVec 12)) (s : State),
    let c : Instr := .barkReceived p ⟨bark, ack⟩
    let calm := ack = none ∧ s.dev.waiting = []
    let st := (s.dev.port p).state
    let health := bits bark.toNat 142 1 + 2 * bits bark.toNat 141 1
    let n := if health = 3 then 0 else (s.dev.pax p).unhealthy + 1
    (st ≠ .active → st ≠ .quarantine → Effect c s s.dev)
    ∧ (st = .quarantine → ∃ t, Answers c s t ∧ t.dev.get (0x3020 + p) 8 = min (s.dev.get (0x3020 + p) 8 + 1) 0xFFFFFFFF
        ∧ (t.dev.pax p).lastBark = (s.dev.pax p).lastBark ∧ (calm → t.dev.aux = s.dev.aux ∧ t.dev.ports = s.dev.ports))
    ∧ (st = .active → ∃ t, Answers c s t ∧ t.dev.get 0x7321 (p + 1) = health ∧ t.dev.get (0x3020 + p) 2 = (s.dev.get (0x3020 + p) 2 + 1) % 2 ^ 64
        ∧ (t.dev.pax p).lastBark = s.dev.now ∧ (t.dev.pax p).unhealthy = n
        ∧ (calm → t.dev.pax p = { s.dev.pax p with lastBark := s.dev.now, unhealthy := n } ∧ t.dev.ports = s.dev.ports)
        ∧ (n = 100 → ∃ d : Dev, t.dev = d.raise 0x0A07 p 0)
        ∧ t.dev.get 0x1300 3 = (if n = 100 then (s.dev.get 0x1300 3 + 1) % 2 ^ 32 else s.dev.get 0x1300 3)))
  ∧ (∀ (who : Requester) (v : BitVec 16) (s : State), s.dev.Grants who 0x7300 2 →
    let c : Instr := .howlSendWrite who v
    let runs := s.dev.power.pstate = .ready ∨ s.dev.power.pstate = .run
    (¬ runs → Accepted c s 0x7300 2 (s.dev.asked who))
    ∧ (runs → ∃ t, Does c s t 0x7300 2 ∧ t.dev.get 0x7300 3 = (s.dev.get 0x7300 3 + 1) % 65536
        ∧ t.dev.get 0x7300 4 = min (s.dev.get 0x7300 4 + 1) 0xFFFFFFFF
        ∧ sget (fun _ => 0) t.dev.howls s.dev.self = (s.dev.get 0x7300 3 + 1) % 65536 + 1
        ∧ (∀ q < 6, (s.dev.port q).state = .active → s.dev.fenced q = false → s.dev.quiet q = false → (s.dev.port q).txBuf.length < 4095 →
            0 < sget (fun _ => 256) (s.dev.port q).credits 6 → (t.dev.port q).txBuf.length = (s.dev.port q).txBuf.length + 1)
        ∧ (∀ q, (s.dev.port q).state ≠ .active → t.dev.port q = s.dev.port q) ∧ t.dev.disp = s.dev.disp ∧ t.dev.mem = s.dev.mem))
  ∧ ∀ (who : Requester) (v : DWord) (s : State), s.dev.Grants who 0x7300 6 →
    let c : Instr := .stepAbandonWrite who v
    (v.toNat ≠ s.dev.step → Declined c who s 0x7300 6)
    ∧ (v.toNat = s.dev.step → ∃ t, Does c s t 0x7300 6 ∧ s.dev.step ∈ t.dev.disp.fatalSteps ∧ t.dev.get 0x7200 5 = (s.dev.get 0x7200 5 + 1) % 256
        ∧ t.dev.get 0x1300 3 = (s.dev.get 0x1300 3 + 1) % 2 ^ 32 ∧ t.dev.mem = s.dev.mem ∧ t.dev.power = s.dev.power)

/-! ## Hall time (11 R328-R337; 17 R519; 20 R577, R579) -/

/-- Time marks leave a port at each multiple of 1,024 ns of hall time; a received one is echoed and its sender's state kept, and a follower takes parent, depth and offset from the
marks of its active parent that answer one of its own of the last 8 μs; the ACK of its flit counts as any. A follower without a parent, a lost PPS and a lost 10 MHz
input enter HOLDOVER, and hall time runs at the rate it has learnt, a free value within 50 ppm (log entry 175); a PPS edge 1 s after the
last is a whole second, and any other a glitch; PTP gives the offset of a delay request and its response. -/
def Obligations.HallTimeFollowsItsReference : Prop :=
  (∀ (p : Fin 6) (s : State),
    let x := s.dev.pax p
    let due := s.dev.listens p = true ∧ s.dev.tb.running = true ∧ x.markPeriod < s.dev.ht / 1024
    (¬ due → Effect (.timeMarkSend p) s s.dev)
    ∧ (due → ∃ t f, Answers (.timeMarkSend p) s t ∧ t.dev.out = .flit p f :: s.dev.out ∧ f.payload.take 48 = toBytes 48 (s.dev.markValue p)
        ∧ t.dev.pax p = { x with markPeriod := s.dev.ht / 1024, markSeq := (x.markSeq + 1) % 65536, marksSent := ((x.markSeq, s.dev.now) :: x.marksSent).take 8 }
        ∧ t.dev.ports = s.dev.ports ∧ t.dev.tb = s.dev.tb))
  ∧ (∀ (p : Fin 6) (mark : BitVec 384) (frac : BitVec 16) (ack : Option (BitVec 12)) (s : State),
    let c : Instr := .timeMarkReceived p ⟨mark, ack⟩ frac
    let m := mark.toNat
    let t4 := s.dev.tb.htf / 65536 * 65536 + frac.toNat
    let base := ((s.dev.addWrap (0x3020 + p) 2 1).takeAck p (ack.map BitVec.toNat)).pumpAll
    let d1 := base.setPax p { base.pax p with echo := some (bits m 304 80, t4, bits m 128 16), nbTState := bits m 108 4 }
    let run := if p.val = s.dev.get 0x3210 2 then (if d1.qualifies p = true then s.dev.tb.parentRun + 1 else 0) else s.dev.tb.parentRun
    let d := { d1 with tb := { s.dev.tb with parentRun := run } }
    let theta2 : Int := ((bits m 144 80 - bits m 224 80 : Int) - ((t4 : Int) - bits m 304 80)) * 1000 - s.dev.getInt 0x3211 (p + 1) 16 * 65536
    let takes := d.activeParent = p.val ∧ (s.dev.port p).state = .active ∧ ∃ e ∈ (s.dev.pax p).marksSent, e.1 = bits m 112 16 ∧ s.dev.now ≤ e.2 + 8000
    (s.dev.listens p = false → Effect c s s.dev)
    ∧ (s.dev.listens p = true → s.dev.get 0x3210 1 ≠ 0 → Effect c s d)
    ∧ (s.dev.listens p = true → s.dev.get 0x3210 1 = 0 → ¬ takes → Effect c s (d.put 0x3200 6 d.activeParent))
    ∧ (s.dev.listens p = true → s.dev.get 0x3210 1 = 0 → takes → ∃ t, Answers c s t ∧ d.Corrected t.dev theta2
        ∧ t.dev.get 0x3200 6 = p ∧ t.dev.get 0x3200 4 = bits m 104 4 + 1 ∧ t.dev.tb.rootAddr = bits m 89 14 ∧ t.dev.tb.rootHoldover = bit m 103
        ∧ t.dev.aux = d.aux ∧ t.dev.ports = d.ports))
  ∧ (∀ s : State,
    let ts := s.dev.get 0x3200 3
    let role := s.dev.get 0x3210 1
    let due := role = 0 ∧ (ts = 1 ∨ ts = 2) ∧ s.dev.tb.lastRef + 8000 ≤ s.dev.now
    let holds (t : State) := t.dev.get 0x3200 3 = 3 ∧ t.dev.get 0x1300 3 = (if ts = 3 then s.dev.get 0x1300 3 else (s.dev.get 0x1300 3 + 1) % 2 ^ 32)
      ∧ t.dev.tb.htf = s.dev.tb.htf
    (¬ due → Effect .timeHoldover s s.dev)
    ∧ (due → ∃ t, Answers .timeHoldover s t ∧ holds t)
    ∧ (let lost := role = 1 ∧ ∃ u, s.dev.tb.lastPps = some u ∧ u + 1500000000 ≤ s.dev.now
       (¬ lost → Effect .trefPpsLoss s s.dev)
       ∧ (lost → ∃ t, Answers .trefPpsLoss s t ∧ holds t ∧ t.dev.tb.lastPps = none ∧ t.dev.tb.pairStart = none))
    ∧ (let lost := role = 1 ∧ s.dev.tb.tref10m = true
       (¬ lost → Effect .tref10mLoss s s.dev) ∧ (lost → ∃ t, Answers .tref10mLoss s t ∧ holds t ∧ t.dev.tb.tref10m = false))
    ∧ (role ≠ 1 → Effect .tref10mRestored s s.dev)
    ∧ (role = 1 → Effect .tref10mRestored s { s.dev with
        draws := s.dev.draws + 1, tb := { s.dev.tb with tref10m := true, rate := max (-214748) (min 214748 (Config.learntRate s.dev.draws)) } })
    ∧ ∀ high : Nat,
        let c : Instr := .trefPpsEdge high
        let aSecond (u : Nat) := u + 999900000 ≤ s.dev.now ∧ s.dev.now ≤ u + 1000100000
        let sec := if s.dev.tb.secondsWritten = true then s.dev.get 0x3210 5 else (s.dev.ht + 500000000) / 1000000000
        let accept := match s.dev.tb.lastPps, s.dev.tb.pairStart with
          | some u, _ => aSecond u
          | none, some u => aSecond u
          | none, none => False
        let begins := s.dev.tb.lastPps = none ∧ s.dev.tb.pairStart = none
        (role ≠ 1 → Effect c s s.dev)
        ∧ (role = 1 → 100 ≤ high → begins → Effect c s { s.dev with tb := { s.dev.tb with pairStart := some s.dev.now } })
        ∧ (role = 1 → 100 ≤ high → accept → ∃ t, Answers c s t ∧ t.dev.get 0x3210 5 = (if s.dev.tb.secondsWritten = true then (sec + 1) % 2 ^ 64 else s.dev.get 0x3210 5) ∧ t.dev.tb.lastPps = some s.dev.now
            ∧ s.dev.Corrected t.dev (2 * (((sec * 1000000000 * 65536 : Nat) - (s.dev.tb.htf : Int)) * 1000 + s.dev.getInt 0x3210 7 32 * 65536)))
        ∧ (role = 1 → high < 100 ∨ (¬ accept ∧ ¬ begins) → ∃ t, Answers c s t ∧ t.dev.get 0x3220 1 = min (s.dev.get 0x3220 1 + 1) 0xFFFFFFFF
            ∧ t.dev.tb = (if 100 ≤ high ∧ s.dev.tb.lastPps = none then { s.dev.tb with pairStart := some s.dev.now } else s.dev.tb)))
  ∧ ∀ (msg : PtpMsg) (s : State),
    let c : Instr := .ptpMessageReceived msg
    let dom := s.dev.get 0x3210 6
    let slave := s.dev.get 0x3210 1 = 2
    let asks (t1 t2 : Int) := Effect c s
      (({ s.dev with tb := { s.dev.tb with ptpSync := some (t1, t2), ptpReq := some (s.dev.ht : Int) } } : Dev).emit .ptpDelayReq)
    (¬ slave → Effect c s s.dev)
    ∧ (∀ g two t1, slave → msg = .sync g two t1 → (g ≠ dom → Effect c s s.dev) ∧ (g = dom → two = false → asks t1 s.dev.ht)
        ∧ (g = dom → two = true → Effect c s { s.dev with tb := { s.dev.tb with ptpSync := some (0, (s.dev.ht : Int)), ptpReq := none } }))
    ∧ (∀ g t1, slave → msg = .followUp g t1 → (g ≠ dom ∨ s.dev.tb.ptpSync = none → Effect c s s.dev)
        ∧ (∀ q, g = dom → s.dev.tb.ptpSync = some q → asks t1 q.2))
    ∧ ∀ g t3 t4, slave → msg = .delayResp g t3 t4 →
        (g ≠ dom ∨ s.dev.tb.ptpSync = none ∨ s.dev.tb.ptpReq = none → Effect c s s.dev)
        ∧ (∀ q u, g = dom → s.dev.tb.ptpSync = some q → s.dev.tb.ptpReq = some u → ∃ t, Answers c s t ∧ t.dev.tb.ptpSync = none ∧ t.dev.tb.ptpReq = none
            ∧ s.dev.Corrected t.dev (((t4 - u) - (q.2 - q.1)) * 1000 * 65536))

/-! ## Power (16 R480-R500; 20 R581) -/

/-- A step of the chain reaches the next state towards the target, zeroes memory at an entry to READY from STANDBY and keeps it at another, ends the fatal steps on leaving
RUN and parks the ports on leaving HOLD. A period of the Heel loop measures, and in RUN moves the core voltage and the throttle by their rules. A fault of the AVSBus
holds the voltage until a retry succeeds. A conversion is recorded, or fails its sensor; two trips in a row, a die without sensors, a rail outside its window and
VR_FAULT_N halt the device; the fault latch clears 100 ms after the pin. -/
def Obligations.PowerFollowsItsEvents : Prop :=
  (∀ (env : StepEnv) (s : State),
    let c : Instr := .pstateStepComplete env
    let old := s.dev.power.pstate
    (old = .protect ∨ s.dev.power.target = none → Effect c s s.dev)
    ∧ (∀ goal, old ≠ .protect → s.dev.power.target = some goal → ∃ t, Answers c s t
        ∧ t.dev.power.pstate.code = (if old.code < min 3 goal.code then old.code + 1 else if goal.code < old.code then old.code - 1 else old.code)
        ∧ t.dev.power.target = (if t.dev.power.pstate = goal then none else some goal)
        ∧ (old = .hold → t.dev.power.pstate = .ready → s.dev.power.wasReady = true → t.dev.mem = s.dev.mem)
        ∧ (old = .hold → t.dev.power.pstate = .ready → s.dev.power.wasReady = false → t.dev.mem = ⟨[], []⟩)
        ∧ (old = .ready → t.dev.power.pstate = .run → t.dev.get 0x2010 5 = 0 ∧ t.dev.power.throttle = 0)
        ∧ (old = .run → t.dev.power.pstate = .ready → t.dev.disp.fatalSteps = [] ∧ t.dev.power.v = 550)
        ∧ (old = .hold → t.dev.power.pstate = .standby → ∀ p < 6, (t.dev.port p).state = .disabled)))
  ∧ (∀ (pace power : Nat) (rails : List (Nat × Nat)) (s : State),
    let c : Instr := .heelPeriod pace power rails
    let x := s.dev.power
    let aim := s.dev.get 0x2010 1
    let limit := s.dev.get 0x2010 2
    let cap := s.dev.get 0x2010 3
    let capped := cap < power ∨ x.warn = true
    let want := if capped then x.v - 10 else if pace < aim then (if x.v + 5 ≤ limit then x.v + 5 else x.v) else if aim * 101 ≤ pace * 100 then x.v - 5 else x.v
    let v := if x.avsHeld = true then x.v else max 550 (min want limit)
    let thr := if (x.v ≤ 550 ∨ x.avsHeld = true) ∧ cap < power then min 15 (x.throttle + 1)
      else if (∃ u, x.coolSince = some u ∧ u + 1000000 ≤ s.dev.now) ∧ power * 100 < cap * 95 ∧ 0 < x.throttle then x.throttle - 1 else x.throttle
    (s.dev.now < x.lastPeriod + 100000 → Effect c s s.dev)
    ∧ (x.lastPeriod + 100000 ≤ s.dev.now → ∃ t, Answers c s t ∧ t.dev.get 0x2010 7 = power % 65536 ∧ t.dev.power.lastPeriod = s.dev.now
        ∧ (x.pstate = .ready ∨ x.pstate = .run → t.dev.get 0x2010 4 = pace % 65536)
        ∧ (x.pstate ≠ .run → t.dev.power = { x with lastPeriod := s.dev.now })
        ∧ (x.pstate = .run → t.dev.power.v = v ∧ t.dev.power.throttle = thr
            ∧ t.dev.get 0x2010 5 = (if 0 < thr ∨ (pace < aim ∧ (capped ∨ limit < x.v + 5)) then 1 else 0))))
  ∧ (∀ (rail : Fin 4) (command : BitVec 8) (answered : Bool) (s : State),
    let x := s.dev.power
    let told := sget (fun _ => false) x.avsRaised rail
    let due := x.avsHeld = true ∧ x.avsRetryAt ≤ s.dev.now
    (∃ t, Answers (.avsbusFault rail command) s t
        ∧ t.dev.power = { x with avsHeld := true, avsRetryAt := s.dev.now + 1000000, avsRaised := sset (fun _ => false) x.avsRaised rail true }
        ∧ t.dev.get 0x1300 3 = (if told = true then s.dev.get 0x1300 3 else (s.dev.get 0x1300 3 + 1) % 2 ^ 32))
    ∧ (¬ due → Effect (.avsbusRetry rail answered) s s.dev)
    ∧ (due → Effect (.avsbusRetry rail answered) s { s.dev with power := if answered then
        { x with avsHeld := coreRails.any (sget (fun _ => false) (sset (fun _ => false) x.avsRaised rail false))
                 avsRaised := sset (fun _ => false) x.avsRaised rail false } else { x with avsRetryAt := s.dev.now + 1000000 } }))
  ∧ (∀ (n : Fin 128) (v : Int) (c : Instr) (s : State),
    let x := s.dev.sensor n
    let dies := ∀ k < 128, dieOf k = dieOf n → k ≠ n → (s.dev.sensor k).failed = true
    let fails := x.failed = false ∧ (c = .sensorConversion n v ∧ (v < -400 ∨ 1500 < v) ∨ c = .sensorFailed n ∧ max x.last s.dev.power.sensorsAt + 1000000 ≤ s.dev.now)
    let reads := x.failed = false ∧ c = .sensorConversion n v ∧ ¬ (v < -400 ∨ 1500 < v)
    let hits := if 1150 ≤ v then x.hits + 1 else 0
    ((c = .sensorConversion n v ∨ c = .sensorFailed n) → ¬ fails → ¬ reads → Effect c s s.dev)
    ∧ (fails → ∃ t, Answers c s t ∧ (t.dev.sensor n).failed = true ∧ t.dev.get 0x2030 (n + 1) = 32767 ∧ (dies → s.dev.Halted t.dev 1)
        ∧ (¬ dies → t.dev.power.pstate = s.dev.power.pstate))
    ∧ (reads → ∃ t, Answers c s t ∧ t.dev.sensor n = { x with hits := hits, last := s.dev.now } ∧ t.dev.getInt 0x2030 (n + 1) 16 = v
        ∧ t.dev.getInt 0x2020 3 16 = max (s.dev.getInt 0x2020 3 16) v
        ∧ (s.dev.power.warn = false → (t.dev.power.warn = true ↔ ((s.dev.get 0x2020 2 : Nat) : Int) * 10 ≤ v))
        ∧ (2 ≤ hits → s.dev.Halted t.dev 1) ∧ (hits < 2 → t.dev.power.pstate = s.dev.power.pstate)))
  ∧ (∀ (rail : Fin 16) (s : State),
    (s.dev.railChecked rail = false → Effect (.railOutOfWindow rail) s s.dev)
    ∧ (s.dev.railChecked rail = true → ∃ t, Answers (.railOutOfWindow rail) s t ∧ s.dev.Halted t.dev 2))
  ∧ ∀ s : State,
    let due := s.dev.power.pstate = .protect ∧ s.dev.pins.vrDeassertAt + 100000000 ≤ s.dev.now ∧ s.dev.power.protectAt + 100000000 ≤ s.dev.now
    (∃ t, Answers .vrFaultAsserted s t ∧ s.dev.Halted t.dev 2
      ∧ t.dev.pins = { s.dev.pins with vrFault := true, vrAsserted := true, vrDeassertAt := s.dev.now })
    ∧ (¬ due → Effect .vrFaultLatchClear s s.dev)
    ∧ (due → Effect .vrFaultLatchClear s { s.dev with pins := { s.dev.pins with vrFault := false, vrAsserted := false } })

/-! ## Clocks (17 R504-R523) -/

/-- A trip of a monitored, powered source that has not failed counts it, and every domain that runs from it runs from the next member of its chain that has not
failed where that is ready, and enters HOLD_CLOCK to await it otherwise; a trip of XTB also puts every working port into RETRAIN and drops the management
link. A source that becomes ready runs every domain that awaits it or is parked on it. An oscillator that passes its start-up limit fails, and what awaits it awaits the next
member. A loop that does not lock tries again. A switch that waits for 64 SIO cycles is forced. A measurement of FIO moves the trim by one step at most, or is not
available. While no dictionary request waits, nothing else follows; requests that wait on a stopped Shepherd go on waiting. -/
def Obligations.ClocksFollowTheirSources : Prop :=
  (∀ (n : Fin 32) (kind : TripKind) (s : State), s.dev.requests = [] →
    let c : Instr := .clkMonitorTrip n kind
    let d := s.dev
    let x := d.source n
    let live := (n : Nat) ≠ 0 ∧ isSource n = true ∧ d.sourcePowered n = true ∧ x.failed = false
    (¬ live → Effect c s d)
    ∧ (live → ∃ t, Answers c s t ∧ (t.dev.source n).ready = false ∧ (t.dev.source n).failed = false
        ∧ ((n : Nat) = 3 → t.dev.get 0x1200 9 = 0 ∧ ∀ p < 6, (d.port p).state = .active ∨ (d.port p).state = .quarantine → (t.dev.port p).state = .retrain)
        ∧ ((∀ k < 12, d.loopRef k = n → d.sourceReady (16 + k) = false) →
            t.dev.get 0x2140 3 = min (d.get 0x2140 3 + 1) 0xFFFFFFFF
            ∧ ∀ k, 1 ≤ k → k ≤ 14 → (d.domain k).source = n → (d.domain k).hold = false → (d.domain k).parked = false → (d.domain k).switchTo = none →
                let f := d.nextMember k n n
                (f ≠ n → d.sourceReady f = true → (t.dev.domain k).source = f ∧ (t.dev.domain k).hold = false ∧ (t.dev.domain k).fallback = true
                  ∧ (t.dev.domain k).forced = ((d.domain k).forced || kind == .stopped))
                ∧ (f = n ∨ d.sourceReady f = false → (t.dev.domain k).hold = true ∧ (t.dev.domain k).awaited = f ∧ (t.dev.domain k).source = n))))
  ∧ (∀ (n : Fin 32) (s : State), s.dev.requests = [] →
    let c : Instr := .clkSourceReady n
    let d := s.dev
    let x := d.source n
    let live := isSource n = true ∧ d.sourcePowered n = true ∧ x.failed = false ∧ x.ready = false ∧ x.startAt + steadyTime n ≤ d.now
      ∧ (16 ≤ (n : Nat) → d.sourceReady (d.loopRef (n - 16)) = true)
    (¬ live → Effect c s d)
    ∧ (live → ∃ t, Answers c s t ∧ t.dev.sourceReady n = true ∧ ∀ k, 1 ≤ k → k ≤ 14 →
        let y := d.domain k
        (y.hold = true → y.awaited = n → (t.dev.domain k).source = n ∧ (t.dev.domain k).hold = false ∧ (t.dev.domain k).parked = false)
        ∧ (y.hold = false → y.parked = true → y.source = n → t.dev.domain k = { y with parked := false, stoppedAt := none })
        ∧ (y.hold = true → y.awaited ≠ n → t.dev.domain k = y) ∧ (y.hold = false → y.parked = false → t.dev.domain k = y)))
  ∧ (∀ (n : Fin 32) (s : State), s.dev.requests = [] →
    let c : Instr := .oscillatorStartFailed n
    let d := s.dev
    let x := d.source n
    let limit := if (n : Nat) = 1 then 20000 else 10000000
    let due := 1 ≤ (n : Nat) ∧ (n : Nat) ≤ 3 ∧ x.ready = false ∧ x.failed = false ∧ x.startAt + limit ≤ d.now
    (¬ due → Effect c s d)
    ∧ (due → ∃ t, Answers c s t ∧ (t.dev.source n).failed = true ∧ ∀ k, 1 ≤ k → k ≤ 14 → (d.domain k).hold = true → (d.domain k).awaited = n →
        let f := d.nextMember k n (d.domain k).prior
        (d.sourceReady f = true → (t.dev.domain k).source = f ∧ (t.dev.domain k).hold = false)
        ∧ (d.sourceReady f = false → t.dev.domain k = { d.domain k with awaited := f })))
  ∧ (∀ (k : Fin 12) (locked : Bool) (s : State), s.dev.requests = [] →
    let c : Instr := .loopRelockAttempt k locked
    let d := s.dev
    let x := d.source (16 + k)
    let due := x.ready = false ∧ d.sourcePowered (16 + k) = true ∧ d.sourceReady (d.loopRef k) = true ∧ x.startAt + 1000000 ≤ d.now
    (¬ due → Effect c s d)
    ∧ (due → locked = false → Effect c s (d.setSource (16 + k) { x with startAt := d.now }))
    ∧ (due → locked = true → ∃ t, Answers c s t ∧ t.dev.sourceReady (16 + k) = true))
  ∧ (∀ (domain : Fin 14) (s : State),
    let c : Instr := .clkForcedSwitch domain
    let k := domain.val + 1
    let x := s.dev.domain k
    (x.switchTo = none ∨ s.dev.now < x.switchAt + 51200 → Effect c s s.dev)
    ∧ (∀ v, x.switchTo = some v → x.switchAt + 51200 ≤ s.dev.now → ∃ t, Answers c s t ∧ (t.dev.domain k).source = v ∧ (t.dev.domain k).hold = false
        ∧ (t.dev.domain k).parked = false ∧ (t.dev.domain k).switchTo = none ∧ (t.dev.domain k).forced = true
        ∧ t.dev.get 0x2140 4 = min (s.dev.get 0x2140 4 + 1) 0xFFFFFFFF ∧ ∀ j, j ≠ k → t.dev.domain j = s.dev.domain j))
  ∧ (∀ (err : Int) (s : State),
    let c : Instr := .fioTrim err
    let d := s.dev
    let x := d.clocks
    let due := x.lastTrim + 50000000 ≤ d.now
    (¬ due → Effect c s d)
    ∧ (due → d.trimUsable = true → Effect c s (({ d with clocks := { x with lastTrim := d.now, trimUnusable := false
                                                                            trim := x.trim + (if 100000 < err then -1 else if err < -100000 then 1 else 0) } } : Dev).putInt
        0x2140 2 32 (max (-2147483648) (min 2147483647 err))))
    ∧ (due → d.trimUsable = false → d.get 0x2140 1 = 0 → Effect c s { d with clocks := { x with lastTrim := d.now, trimUnusable := false } })
    ∧ (due → d.trimUsable = false → d.get 0x2140 1 ≠ 0 → ∃ t, Answers c s t ∧ t.dev.clocks = { x with lastTrim := d.now, trimUnusable := true }
        ∧ t.dev.get 0x2140 2 = d.get 0x2140 2
        ∧ t.dev.get 0x1300 3 = (if x.trimUnusable = true then d.get 0x1300 3 else (d.get 0x1300 3 + 1) % 2 ^ 32)))
  ∧ ∀ (n : Fin 32) (kind : TripKind) (k : Fin 12) (locked : Bool) (c : Instr) (s : State),
      (c = .clkMonitorTrip n kind ∨ c = .clkSourceReady n ∨ c = .oscillatorStartFailed n ∨ c = .loopRelockAttempt k locked) →
      ∃ t, exec c s = .next t ∧ t.pending = s.pending ∧ s.fuse ≤ t.fuse

/-! ## Resets (14 R424, R425; 16 R500; 18 R530; 19 R555-R557, R562, R568; 20 R580, R583) -/

/-- What resets do. Every reset clears compute, fabric and device memory, locks debug access and ends every session. A warm reset (WARM_RESET, FUNCTION_LEVEL_RESET) keeps the
straps and the PCI Express link; a full one (FULL_RESET, PERST#, a hot reset) takes the straps from the pins, drops the link and lets the ROM choose again; both keep hall
time and count themselves, and a device in PROTECT stays there. The resets of the PCI Express side release its Leashes. A power-on reset also starts hall time from the
calendar; a loss of standby supply loses what the ledger buffer held, and nothing that is in flash. -/
def Obligations.ResetsClearAndKeep : Prop :=
  let kept (s t : State) := s.dev.Cleared t.dev ∧ t.dev.tb.htf = s.dev.tb.htf ∧ t.dev.tb.running = true
    ∧ t.dev.get 0xA010 4 = min (s.dev.get 0xA010 4 + 1) 0xFFFFFFFF
    ∧ t.dev.power.pstate = (if s.dev.power.pstate = .protect then .protect else .standby)
  let warm (s t : State) := kept s t ∧ t.dev.get 0x3000 1 = s.dev.get 0x3000 1 ∧ t.dev.host.linkUp = s.dev.host.linkUp
    ∧ t.dev.sec.runSlot = s.dev.sec.runSlot ∧ t.dev.sec.runVersion = s.dev.sec.runVersion ∧ t.dev.sec.trial = s.dev.sec.trial
  let full (s t : State) (pins : Nat) := kept s t ∧ t.dev.get 0x3000 1 = pins ∧ t.dev.host.linkUp = false ∧ s.dev.Chose t.dev s.fuse
  let freed (t : State) := ∀ n, (t.dev.leash n).owner ≠ .pcie
  (∀ (who : Requester) (pins : BitVec 16) (s : State), s.dev.Grants who 0x9000 1 →
    (∃ t, Answers (.warmReset who) s t ∧ warm s t ∧ Out.odAnswer 0 1 0 ∈ t.dev.out)
    ∧ (∃ t, Answers (.fullReset who pins) s t ∧ full s t pins.toNat ∧ t.dev.host.held = s.dev.pins.perst ∧ Out.odAnswer 0 1 0 ∈ t.dev.out))
  ∧ (∀ (pins : BitVec 16) (s : State),
    (∃ t, Answers (.perstAsserted pins) s t ∧ full s t pins.toNat ∧ freed t ∧ t.dev.host.held = true ∧ t.dev.pins.perst = true)
    ∧ (s.dev.hostUp = true → (∃ t, Answers (.hotReset pins) s t ∧ full s t pins.toNat ∧ freed t)
        ∧ ∃ t, Answers .functionLevelReset s t ∧ warm s t ∧ freed t)
    ∧ (s.dev.hostUp = false → Effect (.hotReset pins) s s.dev ∧ Effect .functionLevelReset s s.dev)
    ∧ (s.dev.pins.perst = false → Effect .perstDeasserted s s.dev)
    ∧ (s.dev.pins.perst = true → Effect .perstDeasserted s
        { s.dev with pins := { s.dev.pins with perst := false }, host := { s.dev.host with held := false, readyAt := s.dev.now + 100000000 } }))
  ∧ ∀ (pins : BitVec 16) (found : FlashFound) (s : State),
    let l := (s.dev.store.livesAt found).head?.getD ⟨0, [], [], 0, []⟩
    (∃ t, Answers (.powerOnReset pins found) s t ∧ s.dev.Cleared t.dev ∧ (s.dev.mount found).Chose t.dev s.fuse ∧ t.dev.power.pstate = .standby
      ∧ t.dev.get 0x3000 1 = pins.toNat ∧ t.dev.get 0xA000 1 = l.calendar % 2 ^ 64 ∧ t.dev.tb.running = true
      ∧ t.dev.tb.htf = l.calendar % 2 ^ 64 * 1000000000 * 65536 ∧ t.dev.protectN = true ∧ t.dev.host.held = true ∧ t.dev.host.linkUp = false
      ∧ t.dev.get 0xA010 3 = min (((l.counters[2]?).getD 0) % 2 ^ 32 + 1) 0xFFFFFFFF
      ∧ t.dev.sec.chainOk = found.chain ∧ t.dev.store.segs = (s.dev.store.mount found).segs ∧ t.dev.store.dumps = s.dev.store.dumps ∧ t.dev.leashes = [])
    ∧ ∃ t, Answers .standbySupplyLoss s t ∧ s.dev.Cleared t.dev ∧ t.dev.store.buffer = [] ∧ t.dev.store.segs = s.dev.store.segs
        ∧ t.dev.store.dumps = s.dev.store.dumps ∧ t.dev.store.life = s.dev.store.life ∧ t.dev.store.retired = s.dev.store.retired
        ∧ t.dev.sec.trailerA = s.dev.sec.trailerA ∧ t.dev.sec.trailerB = s.dev.sec.trailerB ∧ t.dev.host.held = true ∧ t.dev.host.linkUp = false
        ∧ t.dev.tb.running = false ∧ t.dev.power.pstate = .standby ∧ t.dev.protectN = false ∧ t.dev.leashes = []

/-! ## Pins, ledger, lifetime records, the test port (18 R543; 19 R551, R552, R560-R570; 20 R577, R578, R588) -/

/-- Every 100 ms the straps are compared with the pins, and a difference that begins is reported. A change of STOP_N is accepted at once, and then not for 1 ms, after which the
level the pin then has is accepted. The oldest buffered record is programmed, or dropped and counted where it has no room; a segment that fails is retired. An acknowledgement
newer than the newest record is refused; another is recorded, and takes effect where it is newer than the last. A compaction from 768 segments on is reported. Lifetime records
follow each other every 15 minutes and after each accepted write of the calendar, which is refused while hall time is LOCKED. The test port scans the pins in STANDBY with
STOP_N only; its private instructions do nothing while debug access is locked, and stop while it is unlocked, since the manual does not give their effect. -/
def Obligations.StoreAndPinsFollowTheirEvents : Prop :=
  (∀ (pins : BitVec 16) (s : State),
    let c : Instr := .strapsCheck pins
    let differ := pins.toNat ≠ s.dev.get 0x3000 1
    (s.dev.now < s.dev.store.lastStraps + 100000000 → Effect c s s.dev)
    ∧ (s.dev.store.lastStraps + 100000000 ≤ s.dev.now → ∃ t, Answers c s t ∧ t.dev.pins = { s.dev.pins with loc := pins.toNat }
        ∧ (t.dev.store.pinsDiffer = true ↔ differ) ∧ t.dev.store.lastStraps = s.dev.now ∧ t.dev.get 0x3000 1 = s.dev.get 0x3000 1
        ∧ t.dev.get 0x1300 3 = (if differ ∧ s.dev.store.pinsDiffer = false then (s.dev.get 0x1300 3 + 1) % 2 ^ 32 else s.dev.get 0x1300 3)))
  ∧ (∀ (level : Bool) (s : State),
    let x := s.dev.pins
    let locked := ∃ u, x.stopLockout = some u ∧ s.dev.now < u
    let takes (c : Instr) (v : Bool) := ∃ t, Answers c s t
      ∧ t.dev.pins = { x with stopFiltered := v, stopN := v, stopLockout := some (s.dev.now + 1000000) } ∧ t.dev.disp = s.dev.disp ∧ t.dev.mem = s.dev.mem
    (locked ∨ x.stopN = level → Effect (.stopNChange level) s { s.dev with pins := { x with stopFiltered := level } })
    ∧ (¬ locked → x.stopN ≠ level → takes (.stopNChange level) level)
    ∧ (x.stopLockout = none ∨ locked → Effect .stopLockoutEnd s s.dev)
    ∧ (x.stopLockout ≠ none → ¬ locked → x.stopFiltered = x.stopN → Effect .stopLockoutEnd s { s.dev with pins := { x with stopLockout := none } })
    ∧ (x.stopLockout ≠ none → ¬ locked → x.stopFiltered ≠ x.stopN → takes .stopLockoutEnd x.stopFiltered))
  ∧ (∀ s : State,
    (s.dev.store.buffer = [] → ∀ ok, Effect (.ledgerCommit ok) s s.dev)
    ∧ (∀ r rest, s.dev.store.buffer = r :: rest →
        (∃ t k, Answers (.ledgerCommit false) s t ∧ t.dev.store.retired = s.dev.store.retired ++ [k] ∧ t.dev.store.segs = s.dev.store.segs
          ∧ t.dev.get 0x1300 3 = (s.dev.get 0x1300 3 + 1) % 2 ^ 32)
        ∧ (∃ t, Answers (.ledgerCommit true) s t ∧ t.dev.store.buffer = rest
            ∧ (s.dev.hasRoom r = true → (s.dev.program r).isSome = true → t.dev.records = s.dev.records ∧ t.dev.SameButNotices { s.dev with store := t.dev.store })
            ∧ (s.dev.hasRoom r = false → t.dev.store.segs = s.dev.store.segs ∧ t.dev.get 0x9010 0xF = min (s.dev.get 0x9010 0xF + 1) 0xFFFFFFFF))))
  ∧ (∀ (who : Requester) (v : Word) (s : State), s.dev.Grants who 0x9010 0xD →
    let c : Instr := .ledgerAck who v
    let x := s.dev.store
    let ahead := serialNewer 32 v.toNat ((x.nextSeq + 2 ^ 32 - 1) % 2 ^ 32) = true
    (ahead → Declined c who s 0x9010 0xD)
    ∧ (¬ ahead → ∃ t, Does c s t 0x9010 0xD
        ∧ (x.buffer.length < 256 → t.dev.store.buffer = x.buffer ++ [⟨s.dev.ht, x.nextSeq, 2, toBytes 4 v.toNat⟩] ∧ t.dev.store.nextSeq = (x.nextSeq + 1) % 2 ^ 32)
        ∧ (x.buffer.length < 256 → (∀ a, x.ackSeq = some a → serialNewer 32 v.toNat a = true) → t.dev.store.ackSeq = some v.toNat)
        ∧ (256 ≤ x.buffer.length ∨ (∃ a, x.ackSeq = some a ∧ serialNewer 32 v.toNat a = false) → t.dev.store.ackSeq = x.ackSeq)))
  ∧ (∀ s : State,
    (s.dev.store.segs.length < 768 → Effect .ledgerCompaction s s.dev)
    ∧ (768 ≤ s.dev.store.segs.length → ∃ t, Answers .ledgerCompaction s t ∧ t.dev.get 0x1300 3 = (s.dev.get 0x1300 3 + 1) % 2 ^ 32
        ∧ t.dev.mem = s.dev.mem ∧ t.dev.disp = s.dev.disp ∧ t.dev.ports = s.dev.ports))
  ∧ (∀ (ok : Bool) (who : Requester) (v : DWord) (s : State),
    let seq := match s.dev.store.life with
      | some l => (l.seq + 1) % 2 ^ 32
      | none => 0
    let written (t : State) := ∃ r, t.dev.store.life = some r ∧ r.seq = seq ∧ r.counters = t.dev.lifeCounters ∧ r.calendar = t.dev.get 0xA000 1
      ∧ t.dev.store.lastLife = s.dev.now
    (s.dev.now < s.dev.store.lastLife + 900000000000 → Effect (.lifetimeRecordWrite ok) s s.dev)
    ∧ (s.dev.store.lastLife + 900000000000 ≤ s.dev.now → ∃ t, Answers (.lifetimeRecordWrite ok) s t ∧ written t ∧ t.dev.get 0xA000 1 = s.dev.get 0xA000 1)
    ∧ (s.dev.Grants who 0xA000 1 → s.dev.timeState = 2 → Declined (.calendarWrite who v) who s 0xA000 1)
    ∧ (s.dev.Grants who 0xA000 1 → s.dev.timeState ≠ 2 → ∃ t, Does (.calendarWrite who v) s t 0xA000 1 ∧ t.dev.get 0xA000 1 = v.toNat
        ∧ t.dev.get 0xA000 2 = 1 ∧ written t ∧ t.dev.tb = s.dev.tb))
  ∧ ∀ (code : Nat) (i : TestInstr) (s : State),
    let scans := s.dev.power.pstate = .standby ∧ s.dev.pins.stopN = true
    Effect (.testPortAccess .mandatory) s (s.dev.emit (.testPort 0))
    ∧ (i = .extest ∨ i = .clamp → scans → Effect (.testPortAccess i) s (s.dev.emit (.testPort 0)))
    ∧ (i = .extest ∨ i = .clamp → ¬ scans → Effect (.testPortAccess i) s (s.dev.emit (.testPort (Config.scanEffect s.dev.draws))).draw)
    ∧ (i = .shepherdDebug ∨ i = .privateTest code → s.dev.sec.unlocked = false → Effect (.testPortAccess i) s s.dev)
    ∧ (i = .shepherdDebug ∨ i = .privateTest code → s.dev.sec.unlocked = true →
        exec (.testPortAccess i) s = .refused (.privateTestInstruction (if i = .shepherdDebug then 0 else code)))
end

