-- ==== Sys2Proof/Laws/Maps.lean ====
section
/-! SUPPORT. Laws of the canonical sparse map: a read after a write, and that a write keeps the canonical form. -/

namespace Sys2Proof.Machine

variable {α : Type}

theorem sget_serase_same (d : Nat → α) (k : Nat) (m : SMap α) : sget d (serase k m) k = d k := by
  induction m with
  | nil => rfl
  | cons a t ih => obtain ⟨k', v⟩ := a; by_cases h : k' = k <;> simp [serase, sget, h, ih]

theorem sget_serase_ne (d : Nat → α) (k j : Nat) (m : SMap α) (h : j ≠ k) : sget d (serase k m) j = sget d m j := by
  induction m with
  | nil => rfl
  | cons a t ih =>
    obtain ⟨k', v⟩ := a
    by_cases hk : k' = k
    · have : ¬ k' = j := fun e => h (by omega)
      simp only [serase, if_pos hk, sget, if_neg this, ih]
    · by_cases hj : k' = j
      · simp [serase, sget, hk, if_pos hj]
      · simp [serase, sget, hk, hj, ih]

theorem sget_sinsert_ne (d : Nat → α) (k j : Nat) (v : α) (m : SMap α) (h : j ≠ k) :
    sget d (sinsert k v m) j = sget d m j := by
  induction m with
  | nil => have : ¬ k = j := fun e => h e.symm; simp [sinsert, sget, this]
  | cons a t ih =>
    obtain ⟨k', v'⟩ := a
    have hn : ¬ k = j := fun e => h e.symm
    by_cases hk : k < k'
    · simp [sinsert, sget, hk, hn]
    · by_cases hj : k' = j
      · simp only [sinsert, hk, if_false, sget, if_pos hj]
      · simp [sinsert, sget, hk, hj, ih]

theorem sget_sinsert_serase (d : Nat → α) (k : Nat) (v : α) (m : SMap α) :
    sget d (sinsert k v (serase k m)) k = v := by
  induction m with
  | nil => simp [serase, sinsert, sget]
  | cons a t ih =>
    obtain ⟨k', v'⟩ := a
    by_cases hk : k' = k
    · simpa [serase, hk] using ih
    · by_cases hl : k < k' <;> simp [serase, sinsert, sget, hk, hl, ih]

/-- Every key of a map is above a bound. -/
def above (b : Nat) (m : SMap α) : Prop := ∀ p ∈ m, b < p.1

theorem above_serase (b k : Nat) (m : SMap α) (h : above b m) : above b (serase k m) := by
  induction m with
  | nil => simpa [serase] using h
  | cons a t ih =>
    obtain ⟨k', v⟩ := a
    have ht : above b t := fun p hp => h p (by simp [hp])
    by_cases hk : k' = k
    · simpa [serase, hk] using ih ht
    · intro p hp
      simp only [serase, hk, if_false, List.mem_cons] at hp
      rcases hp with rfl | hp
      · exact h _ (by simp)
      · exact ih ht p hp

theorem above_sinsert (b k : Nat) (v : α) (m : SMap α) (h : above b m) (hk : b < k) : above b (sinsert k v m) := by
  induction m with
  | nil => intro p hp; simp [sinsert] at hp; subst hp; exact hk
  | cons a t ih =>
    obtain ⟨k', v'⟩ := a
    have ht : above b t := fun p hp => h p (by simp [hp])
    intro p hp
    by_cases hl : k < k'
    · simp only [sinsert, hl, if_true, List.mem_cons] at hp
      rcases hp with rfl | hp | hp
      · exact hk
      · subst hp; exact h _ (by simp)
      · exact ht p hp
    · simp only [sinsert, hl, if_false, List.mem_cons] at hp
      rcases hp with rfl | hp
      · exact h _ (by simp)
      · exact ih ht p hp

theorem serase_keys (k : Nat) (m : SMap α) : ∀ p ∈ serase k m, p.1 ≠ k := by
  induction m with
  | nil => simp [serase]
  | cons a t ih =>
    obtain ⟨k', v⟩ := a
    by_cases hk : k' = k
    · simpa [serase, hk] using ih
    · intro p hp
      simp only [serase, hk, if_false, List.mem_cons] at hp
      rcases hp with rfl | hp
      · exact hk
      · exact ih p hp

variable [DecidableEq α]

/-- A read of the key just written. -/
@[simp] theorem sget_sset_same (d : Nat → α) (m : SMap α) (k : Nat) (v : α) : sget d (sset d m k v) k = v := by
  unfold sset
  split
  · next h => rw [sget_serase_same, h]
  · exact sget_sinsert_serase d k v m

/-- A read of another key. -/
theorem sget_sset_ne (d : Nat → α) (m : SMap α) (k j : Nat) (v : α) (h : j ≠ k) : sget d (sset d m k v) j = sget d m j := by
  unfold sset
  split
  · exact sget_serase_ne d k j m h
  · rw [sget_sinsert_ne d k j v _ h, sget_serase_ne d k j m h]

/-- A read of any key after a write. -/
theorem sget_sset (d : Nat → α) (m : SMap α) (k j : Nat) (v : α) :
    sget d (sset d m k v) j = if j = k then v else sget d m j := by
  by_cases h : j = k
  · subst h; simp
  · simp [h, sget_sset_ne d m k j v h]

theorem swf_cons (d : Nat → α) (k : Nat) (v : α) (t : SMap α) :
    swf d ((k, v) :: t) = true ↔ v ≠ d k ∧ above k t ∧ swf d t = true := by
  induction t generalizing k v with
  | nil => simp [swf, above]
  | cons a t ih =>
    obtain ⟨k', v'⟩ := a
    constructor
    · intro h
      simp only [swf, Bool.and_eq_true, Bool.not_eq_true', decide_eq_false_iff_not, decide_eq_true_eq] at h
      refine ⟨h.1.1, ?_, h.2⟩
      have := (ih k' v').1 h.2
      intro p hp
      rcases List.mem_cons.1 hp with rfl | hp
      · exact h.1.2
      · exact Nat.lt_trans h.1.2 (this.2.1 p hp)
    · rintro ⟨hv, ha, hw⟩
      simp only [swf, Bool.and_eq_true, Bool.not_eq_true', decide_eq_false_iff_not, decide_eq_true_eq]
      exact ⟨⟨hv, ha (k', v') (by simp)⟩, hw⟩

theorem swf_serase (d : Nat → α) (k : Nat) (m : SMap α) (h : swf d m = true) : swf d (serase k m) = true := by
  induction m with
  | nil => rfl
  | cons a t ih =>
    obtain ⟨k', v⟩ := a
    obtain ⟨hv, ha, ht⟩ := (swf_cons d k' v t).1 h
    by_cases hk : k' = k
    · simpa [serase, hk] using ih ht
    · simp only [serase, hk, if_false]
      exact (swf_cons d k' v _).2 ⟨hv, above_serase k' k t ha, ih ht⟩

theorem swf_sinsert (d : Nat → α) (k : Nat) (v : α) (m : SMap α) (h : swf d m = true) (hv : v ≠ d k)
    (hk : ∀ p ∈ m, p.1 ≠ k) : swf d (sinsert k v m) = true := by
  induction m with
  | nil => simp [sinsert, swf, hv]
  | cons a t ih =>
    obtain ⟨k', v'⟩ := a
    obtain ⟨hv', ha, ht⟩ := (swf_cons d k' v' t).1 h
    have hne : k' ≠ k := hk (k', v') (by simp)
    by_cases hl : k < k'
    · simp only [sinsert, hl, if_true]
      refine (swf_cons d k v _).2 ⟨hv, ?_, h⟩
      intro p hp
      rcases List.mem_cons.1 hp with rfl | hp
      · exact hl
      · exact Nat.lt_trans hl (ha p hp)
    · simp only [sinsert, hl, if_false]
      exact (swf_cons d k' v' _).2 ⟨hv', above_sinsert k' k v t ha (by omega), ih ht (fun p hp => hk p (by simp [hp]))⟩

/-- A write keeps the canonical form. -/
theorem swf_sset (d : Nat → α) (m : SMap α) (k : Nat) (v : α) (h : swf d m = true) : swf d (sset d m k v) = true := by
  unfold sset
  split
  · exact swf_serase d k m h
  · next hv => exact swf_sinsert d k v _ (swf_serase d k m h) hv (serase_keys k m)

end Sys2Proof.Machine
end

