-- ==== Sys2Proof/Laws/State.lean ====
section
/-! SUPPORT. What each small update of the device leaves alone, field by field, and what reading one thing after writing another
gives. -/

namespace Sys2Proof.Machine

variable (d : Dev)


/-! `put` -/

@[simp] theorem Dev.put_now (i j v : Nat) : (d.put i j v).now = d.now := rfl
@[simp] theorem Dev.put_draws (i j v : Nat) : (d.put i j v).draws = d.draws := rfl
@[simp] theorem Dev.put_out (i j v : Nat) : (d.put i j v).out = d.out := rfl
@[simp] theorem Dev.put_limits (i j v : Nat) : (d.put i j v).limits = d.limits := rfl
@[simp] theorem Dev.put_mem (i j v : Nat) : (d.put i j v).mem = d.mem := rfl
@[simp] theorem Dev.put_disp (i j v : Nat) : (d.put i j v).disp = d.disp := rfl
@[simp] theorem Dev.put_cmp (i j v : Nat) : (d.put i j v).cmp = d.cmp := rfl
@[simp] theorem Dev.put_ports (i j v : Nat) : (d.put i j v).ports = d.ports := rfl
@[simp] theorem Dev.put_aux (i j v : Nat) : (d.put i j v).aux = d.aux := rfl
@[simp] theorem Dev.put_waiting (i j v : Nat) : (d.put i j v).waiting = d.waiting := rfl
@[simp] theorem Dev.put_tb (i j v : Nat) : (d.put i j v).tb = d.tb := rfl
@[simp] theorem Dev.put_slots (i j v : Nat) : (d.put i j v).slots = d.slots := rfl
@[simp] theorem Dev.put_eng (i j v : Nat) : (d.put i j v).eng = d.eng := rfl
@[simp] theorem Dev.put_trail (i j v : Nat) : (d.put i j v).trail = d.trail := rfl
@[simp] theorem Dev.put_howls (i j v : Nat) : (d.put i j v).howls = d.howls := rfl
@[simp] theorem Dev.put_shadow (i j v : Nat) : (d.put i j v).shadow = d.shadow := rfl
@[simp] theorem Dev.put_flaws (i j v : Nat) : (d.put i j v).flaws = d.flaws := rfl
@[simp] theorem Dev.put_sniff (i j v : Nat) : (d.put i j v).sniff = d.sniff := rfl
@[simp] theorem Dev.put_host (i j v : Nat) : (d.put i j v).host = d.host := rfl
@[simp] theorem Dev.put_requests (i j v : Nat) : (d.put i j v).requests = d.requests := rfl
@[simp] theorem Dev.put_leashes (i j v : Nat) : (d.put i j v).leashes = d.leashes := rfl
@[simp] theorem Dev.put_mgmt (i j v : Nat) : (d.put i j v).mgmt = d.mgmt := rfl
@[simp] theorem Dev.put_power (i j v : Nat) : (d.put i j v).power = d.power := rfl
@[simp] theorem Dev.put_clocks (i j v : Nat) : (d.put i j v).clocks = d.clocks := rfl
@[simp] theorem Dev.put_sec (i j v : Nat) : (d.put i j v).sec = d.sec := rfl
@[simp] theorem Dev.put_store (i j v : Nat) : (d.put i j v).store = d.store := rfl
@[simp] theorem Dev.put_pins (i j v : Nat) : (d.put i j v).pins = d.pins := rfl

/-! `addSat` -/

@[simp] theorem Dev.addSat_now (i j w n : Nat) : (d.addSat i j w n).now = d.now := rfl
@[simp] theorem Dev.addSat_draws (i j w n : Nat) : (d.addSat i j w n).draws = d.draws := rfl
@[simp] theorem Dev.addSat_out (i j w n : Nat) : (d.addSat i j w n).out = d.out := rfl
@[simp] theorem Dev.addSat_limits (i j w n : Nat) : (d.addSat i j w n).limits = d.limits := rfl
@[simp] theorem Dev.addSat_mem (i j w n : Nat) : (d.addSat i j w n).mem = d.mem := rfl
@[simp] theorem Dev.addSat_disp (i j w n : Nat) : (d.addSat i j w n).disp = d.disp := rfl
@[simp] theorem Dev.addSat_cmp (i j w n : Nat) : (d.addSat i j w n).cmp = d.cmp := rfl
@[simp] theorem Dev.addSat_ports (i j w n : Nat) : (d.addSat i j w n).ports = d.ports := rfl
@[simp] theorem Dev.addSat_aux (i j w n : Nat) : (d.addSat i j w n).aux = d.aux := rfl
@[simp] theorem Dev.addSat_waiting (i j w n : Nat) : (d.addSat i j w n).waiting = d.waiting := rfl
@[simp] theorem Dev.addSat_tb (i j w n : Nat) : (d.addSat i j w n).tb = d.tb := rfl
@[simp] theorem Dev.addSat_slots (i j w n : Nat) : (d.addSat i j w n).slots = d.slots := rfl
@[simp] theorem Dev.addSat_eng (i j w n : Nat) : (d.addSat i j w n).eng = d.eng := rfl
@[simp] theorem Dev.addSat_trail (i j w n : Nat) : (d.addSat i j w n).trail = d.trail := rfl
@[simp] theorem Dev.addSat_howls (i j w n : Nat) : (d.addSat i j w n).howls = d.howls := rfl
@[simp] theorem Dev.addSat_shadow (i j w n : Nat) : (d.addSat i j w n).shadow = d.shadow := rfl
@[simp] theorem Dev.addSat_flaws (i j w n : Nat) : (d.addSat i j w n).flaws = d.flaws := rfl
@[simp] theorem Dev.addSat_sniff (i j w n : Nat) : (d.addSat i j w n).sniff = d.sniff := rfl
@[simp] theorem Dev.addSat_host (i j w n : Nat) : (d.addSat i j w n).host = d.host := rfl
@[simp] theorem Dev.addSat_requests (i j w n : Nat) : (d.addSat i j w n).requests = d.requests := rfl
@[simp] theorem Dev.addSat_leashes (i j w n : Nat) : (d.addSat i j w n).leashes = d.leashes := rfl
@[simp] theorem Dev.addSat_mgmt (i j w n : Nat) : (d.addSat i j w n).mgmt = d.mgmt := rfl
@[simp] theorem Dev.addSat_power (i j w n : Nat) : (d.addSat i j w n).power = d.power := rfl
@[simp] theorem Dev.addSat_clocks (i j w n : Nat) : (d.addSat i j w n).clocks = d.clocks := rfl
@[simp] theorem Dev.addSat_sec (i j w n : Nat) : (d.addSat i j w n).sec = d.sec := rfl
@[simp] theorem Dev.addSat_store (i j w n : Nat) : (d.addSat i j w n).store = d.store := rfl
@[simp] theorem Dev.addSat_pins (i j w n : Nat) : (d.addSat i j w n).pins = d.pins := rfl

/-! `addWrap` -/

@[simp] theorem Dev.addWrap_now (i j n : Nat) : (d.addWrap i j n).now = d.now := rfl
@[simp] theorem Dev.addWrap_draws (i j n : Nat) : (d.addWrap i j n).draws = d.draws := rfl
@[simp] theorem Dev.addWrap_out (i j n : Nat) : (d.addWrap i j n).out = d.out := rfl
@[simp] theorem Dev.addWrap_limits (i j n : Nat) : (d.addWrap i j n).limits = d.limits := rfl
@[simp] theorem Dev.addWrap_mem (i j n : Nat) : (d.addWrap i j n).mem = d.mem := rfl
@[simp] theorem Dev.addWrap_disp (i j n : Nat) : (d.addWrap i j n).disp = d.disp := rfl
@[simp] theorem Dev.addWrap_cmp (i j n : Nat) : (d.addWrap i j n).cmp = d.cmp := rfl
@[simp] theorem Dev.addWrap_ports (i j n : Nat) : (d.addWrap i j n).ports = d.ports := rfl
@[simp] theorem Dev.addWrap_aux (i j n : Nat) : (d.addWrap i j n).aux = d.aux := rfl
@[simp] theorem Dev.addWrap_waiting (i j n : Nat) : (d.addWrap i j n).waiting = d.waiting := rfl
@[simp] theorem Dev.addWrap_tb (i j n : Nat) : (d.addWrap i j n).tb = d.tb := rfl
@[simp] theorem Dev.addWrap_slots (i j n : Nat) : (d.addWrap i j n).slots = d.slots := rfl
@[simp] theorem Dev.addWrap_eng (i j n : Nat) : (d.addWrap i j n).eng = d.eng := rfl
@[simp] theorem Dev.addWrap_trail (i j n : Nat) : (d.addWrap i j n).trail = d.trail := rfl
@[simp] theorem Dev.addWrap_howls (i j n : Nat) : (d.addWrap i j n).howls = d.howls := rfl
@[simp] theorem Dev.addWrap_shadow (i j n : Nat) : (d.addWrap i j n).shadow = d.shadow := rfl
@[simp] theorem Dev.addWrap_flaws (i j n : Nat) : (d.addWrap i j n).flaws = d.flaws := rfl
@[simp] theorem Dev.addWrap_sniff (i j n : Nat) : (d.addWrap i j n).sniff = d.sniff := rfl
@[simp] theorem Dev.addWrap_host (i j n : Nat) : (d.addWrap i j n).host = d.host := rfl
@[simp] theorem Dev.addWrap_requests (i j n : Nat) : (d.addWrap i j n).requests = d.requests := rfl
@[simp] theorem Dev.addWrap_leashes (i j n : Nat) : (d.addWrap i j n).leashes = d.leashes := rfl
@[simp] theorem Dev.addWrap_mgmt (i j n : Nat) : (d.addWrap i j n).mgmt = d.mgmt := rfl
@[simp] theorem Dev.addWrap_power (i j n : Nat) : (d.addWrap i j n).power = d.power := rfl
@[simp] theorem Dev.addWrap_clocks (i j n : Nat) : (d.addWrap i j n).clocks = d.clocks := rfl
@[simp] theorem Dev.addWrap_sec (i j n : Nat) : (d.addWrap i j n).sec = d.sec := rfl
@[simp] theorem Dev.addWrap_store (i j n : Nat) : (d.addWrap i j n).store = d.store := rfl
@[simp] theorem Dev.addWrap_pins (i j n : Nat) : (d.addWrap i j n).pins = d.pins := rfl

/-! `putInt` -/

@[simp] theorem Dev.putInt_now (i j w : Nat) (v : Int) : (d.putInt i j w v).now = d.now := rfl
@[simp] theorem Dev.putInt_draws (i j w : Nat) (v : Int) : (d.putInt i j w v).draws = d.draws := rfl
@[simp] theorem Dev.putInt_out (i j w : Nat) (v : Int) : (d.putInt i j w v).out = d.out := rfl
@[simp] theorem Dev.putInt_limits (i j w : Nat) (v : Int) : (d.putInt i j w v).limits = d.limits := rfl
@[simp] theorem Dev.putInt_mem (i j w : Nat) (v : Int) : (d.putInt i j w v).mem = d.mem := rfl
@[simp] theorem Dev.putInt_disp (i j w : Nat) (v : Int) : (d.putInt i j w v).disp = d.disp := rfl
@[simp] theorem Dev.putInt_cmp (i j w : Nat) (v : Int) : (d.putInt i j w v).cmp = d.cmp := rfl
@[simp] theorem Dev.putInt_ports (i j w : Nat) (v : Int) : (d.putInt i j w v).ports = d.ports := rfl
@[simp] theorem Dev.putInt_aux (i j w : Nat) (v : Int) : (d.putInt i j w v).aux = d.aux := rfl
@[simp] theorem Dev.putInt_waiting (i j w : Nat) (v : Int) : (d.putInt i j w v).waiting = d.waiting := rfl
@[simp] theorem Dev.putInt_tb (i j w : Nat) (v : Int) : (d.putInt i j w v).tb = d.tb := rfl
@[simp] theorem Dev.putInt_slots (i j w : Nat) (v : Int) : (d.putInt i j w v).slots = d.slots := rfl
@[simp] theorem Dev.putInt_eng (i j w : Nat) (v : Int) : (d.putInt i j w v).eng = d.eng := rfl
@[simp] theorem Dev.putInt_trail (i j w : Nat) (v : Int) : (d.putInt i j w v).trail = d.trail := rfl
@[simp] theorem Dev.putInt_howls (i j w : Nat) (v : Int) : (d.putInt i j w v).howls = d.howls := rfl
@[simp] theorem Dev.putInt_shadow (i j w : Nat) (v : Int) : (d.putInt i j w v).shadow = d.shadow := rfl
@[simp] theorem Dev.putInt_flaws (i j w : Nat) (v : Int) : (d.putInt i j w v).flaws = d.flaws := rfl
@[simp] theorem Dev.putInt_sniff (i j w : Nat) (v : Int) : (d.putInt i j w v).sniff = d.sniff := rfl
@[simp] theorem Dev.putInt_host (i j w : Nat) (v : Int) : (d.putInt i j w v).host = d.host := rfl
@[simp] theorem Dev.putInt_requests (i j w : Nat) (v : Int) : (d.putInt i j w v).requests = d.requests := rfl
@[simp] theorem Dev.putInt_leashes (i j w : Nat) (v : Int) : (d.putInt i j w v).leashes = d.leashes := rfl
@[simp] theorem Dev.putInt_mgmt (i j w : Nat) (v : Int) : (d.putInt i j w v).mgmt = d.mgmt := rfl
@[simp] theorem Dev.putInt_power (i j w : Nat) (v : Int) : (d.putInt i j w v).power = d.power := rfl
@[simp] theorem Dev.putInt_clocks (i j w : Nat) (v : Int) : (d.putInt i j w v).clocks = d.clocks := rfl
@[simp] theorem Dev.putInt_sec (i j w : Nat) (v : Int) : (d.putInt i j w v).sec = d.sec := rfl
@[simp] theorem Dev.putInt_store (i j w : Nat) (v : Int) : (d.putInt i j w v).store = d.store := rfl
@[simp] theorem Dev.putInt_pins (i j w : Nat) (v : Int) : (d.putInt i j w v).pins = d.pins := rfl

/-! `emit` -/

@[simp] theorem Dev.emit_now (o : Out) : (d.emit o).now = d.now := rfl
@[simp] theorem Dev.emit_draws (o : Out) : (d.emit o).draws = d.draws := rfl
@[simp] theorem Dev.emit_limits (o : Out) : (d.emit o).limits = d.limits := rfl
@[simp] theorem Dev.emit_od (o : Out) : (d.emit o).od = d.od := rfl
@[simp] theorem Dev.emit_mem (o : Out) : (d.emit o).mem = d.mem := rfl
@[simp] theorem Dev.emit_disp (o : Out) : (d.emit o).disp = d.disp := rfl
@[simp] theorem Dev.emit_cmp (o : Out) : (d.emit o).cmp = d.cmp := rfl
@[simp] theorem Dev.emit_ports (o : Out) : (d.emit o).ports = d.ports := rfl
@[simp] theorem Dev.emit_aux (o : Out) : (d.emit o).aux = d.aux := rfl
@[simp] theorem Dev.emit_waiting (o : Out) : (d.emit o).waiting = d.waiting := rfl
@[simp] theorem Dev.emit_tb (o : Out) : (d.emit o).tb = d.tb := rfl
@[simp] theorem Dev.emit_slots (o : Out) : (d.emit o).slots = d.slots := rfl
@[simp] theorem Dev.emit_eng (o : Out) : (d.emit o).eng = d.eng := rfl
@[simp] theorem Dev.emit_trail (o : Out) : (d.emit o).trail = d.trail := rfl
@[simp] theorem Dev.emit_howls (o : Out) : (d.emit o).howls = d.howls := rfl
@[simp] theorem Dev.emit_shadow (o : Out) : (d.emit o).shadow = d.shadow := rfl
@[simp] theorem Dev.emit_flaws (o : Out) : (d.emit o).flaws = d.flaws := rfl
@[simp] theorem Dev.emit_sniff (o : Out) : (d.emit o).sniff = d.sniff := rfl
@[simp] theorem Dev.emit_host (o : Out) : (d.emit o).host = d.host := rfl
@[simp] theorem Dev.emit_requests (o : Out) : (d.emit o).requests = d.requests := rfl
@[simp] theorem Dev.emit_leashes (o : Out) : (d.emit o).leashes = d.leashes := rfl
@[simp] theorem Dev.emit_mgmt (o : Out) : (d.emit o).mgmt = d.mgmt := rfl
@[simp] theorem Dev.emit_power (o : Out) : (d.emit o).power = d.power := rfl
@[simp] theorem Dev.emit_clocks (o : Out) : (d.emit o).clocks = d.clocks := rfl
@[simp] theorem Dev.emit_sec (o : Out) : (d.emit o).sec = d.sec := rfl
@[simp] theorem Dev.emit_store (o : Out) : (d.emit o).store = d.store := rfl
@[simp] theorem Dev.emit_pins (o : Out) : (d.emit o).pins = d.pins := rfl
@[simp] theorem Dev.emit_get (o : Out) (i' j' : Nat) : (d.emit o).get i' j' = d.get i' j' := rfl
@[simp] theorem Dev.emit_out (o : Out) : (d.emit o).out = o :: d.out := rfl

/-! `draw` -/

@[simp] theorem Dev.draw_now : (d.draw).now = d.now := rfl
@[simp] theorem Dev.draw_out : (d.draw).out = d.out := rfl
@[simp] theorem Dev.draw_limits : (d.draw).limits = d.limits := rfl
@[simp] theorem Dev.draw_od : (d.draw).od = d.od := rfl
@[simp] theorem Dev.draw_mem : (d.draw).mem = d.mem := rfl
@[simp] theorem Dev.draw_disp : (d.draw).disp = d.disp := rfl
@[simp] theorem Dev.draw_cmp : (d.draw).cmp = d.cmp := rfl
@[simp] theorem Dev.draw_ports : (d.draw).ports = d.ports := rfl
@[simp] theorem Dev.draw_aux : (d.draw).aux = d.aux := rfl
@[simp] theorem Dev.draw_waiting : (d.draw).waiting = d.waiting := rfl
@[simp] theorem Dev.draw_tb : (d.draw).tb = d.tb := rfl
@[simp] theorem Dev.draw_slots : (d.draw).slots = d.slots := rfl
@[simp] theorem Dev.draw_eng : (d.draw).eng = d.eng := rfl
@[simp] theorem Dev.draw_trail : (d.draw).trail = d.trail := rfl
@[simp] theorem Dev.draw_howls : (d.draw).howls = d.howls := rfl
@[simp] theorem Dev.draw_shadow : (d.draw).shadow = d.shadow := rfl
@[simp] theorem Dev.draw_flaws : (d.draw).flaws = d.flaws := rfl
@[simp] theorem Dev.draw_sniff : (d.draw).sniff = d.sniff := rfl
@[simp] theorem Dev.draw_host : (d.draw).host = d.host := rfl
@[simp] theorem Dev.draw_requests : (d.draw).requests = d.requests := rfl
@[simp] theorem Dev.draw_leashes : (d.draw).leashes = d.leashes := rfl
@[simp] theorem Dev.draw_mgmt : (d.draw).mgmt = d.mgmt := rfl
@[simp] theorem Dev.draw_power : (d.draw).power = d.power := rfl
@[simp] theorem Dev.draw_clocks : (d.draw).clocks = d.clocks := rfl
@[simp] theorem Dev.draw_sec : (d.draw).sec = d.sec := rfl
@[simp] theorem Dev.draw_store : (d.draw).store = d.store := rfl
@[simp] theorem Dev.draw_pins : (d.draw).pins = d.pins := rfl
@[simp] theorem Dev.draw_get (i' j' : Nat) : (d.draw).get i' j' = d.get i' j' := rfl

/-! `setRing` -/

@[simp] theorem Dev.setRing_now (n : Nat) (r : Ring) : (d.setRing n r).now = d.now := rfl
@[simp] theorem Dev.setRing_draws (n : Nat) (r : Ring) : (d.setRing n r).draws = d.draws := rfl
@[simp] theorem Dev.setRing_out (n : Nat) (r : Ring) : (d.setRing n r).out = d.out := rfl
@[simp] theorem Dev.setRing_limits (n : Nat) (r : Ring) : (d.setRing n r).limits = d.limits := rfl
@[simp] theorem Dev.setRing_od (n : Nat) (r : Ring) : (d.setRing n r).od = d.od := rfl
@[simp] theorem Dev.setRing_mem (n : Nat) (r : Ring) : (d.setRing n r).mem = d.mem := rfl
@[simp] theorem Dev.setRing_cmp (n : Nat) (r : Ring) : (d.setRing n r).cmp = d.cmp := rfl
@[simp] theorem Dev.setRing_ports (n : Nat) (r : Ring) : (d.setRing n r).ports = d.ports := rfl
@[simp] theorem Dev.setRing_aux (n : Nat) (r : Ring) : (d.setRing n r).aux = d.aux := rfl
@[simp] theorem Dev.setRing_waiting (n : Nat) (r : Ring) : (d.setRing n r).waiting = d.waiting := rfl
@[simp] theorem Dev.setRing_tb (n : Nat) (r : Ring) : (d.setRing n r).tb = d.tb := rfl
@[simp] theorem Dev.setRing_slots (n : Nat) (r : Ring) : (d.setRing n r).slots = d.slots := rfl
@[simp] theorem Dev.setRing_eng (n : Nat) (r : Ring) : (d.setRing n r).eng = d.eng := rfl
@[simp] theorem Dev.setRing_trail (n : Nat) (r : Ring) : (d.setRing n r).trail = d.trail := rfl
@[simp] theorem Dev.setRing_howls (n : Nat) (r : Ring) : (d.setRing n r).howls = d.howls := rfl
@[simp] theorem Dev.setRing_shadow (n : Nat) (r : Ring) : (d.setRing n r).shadow = d.shadow := rfl
@[simp] theorem Dev.setRing_flaws (n : Nat) (r : Ring) : (d.setRing n r).flaws = d.flaws := rfl
@[simp] theorem Dev.setRing_sniff (n : Nat) (r : Ring) : (d.setRing n r).sniff = d.sniff := rfl
@[simp] theorem Dev.setRing_host (n : Nat) (r : Ring) : (d.setRing n r).host = d.host := rfl
@[simp] theorem Dev.setRing_requests (n : Nat) (r : Ring) : (d.setRing n r).requests = d.requests := rfl
@[simp] theorem Dev.setRing_leashes (n : Nat) (r : Ring) : (d.setRing n r).leashes = d.leashes := rfl
@[simp] theorem Dev.setRing_mgmt (n : Nat) (r : Ring) : (d.setRing n r).mgmt = d.mgmt := rfl
@[simp] theorem Dev.setRing_power (n : Nat) (r : Ring) : (d.setRing n r).power = d.power := rfl
@[simp] theorem Dev.setRing_clocks (n : Nat) (r : Ring) : (d.setRing n r).clocks = d.clocks := rfl
@[simp] theorem Dev.setRing_sec (n : Nat) (r : Ring) : (d.setRing n r).sec = d.sec := rfl
@[simp] theorem Dev.setRing_store (n : Nat) (r : Ring) : (d.setRing n r).store = d.store := rfl
@[simp] theorem Dev.setRing_pins (n : Nat) (r : Ring) : (d.setRing n r).pins = d.pins := rfl
@[simp] theorem Dev.setRing_disp_cpls (n : Nat) (r : Ring) : (d.setRing n r).disp.cpls = d.disp.cpls := rfl
@[simp] theorem Dev.setRing_disp_counters (n : Nat) (r : Ring) : (d.setRing n r).disp.counters = d.disp.counters := rfl
@[simp] theorem Dev.setRing_disp_board (n : Nat) (r : Ring) : (d.setRing n r).disp.board = d.disp.board := rfl
@[simp] theorem Dev.setRing_disp_nextId (n : Nat) (r : Ring) : (d.setRing n r).disp.nextId = d.disp.nextId := rfl
@[simp] theorem Dev.setRing_disp_lastServed (n : Nat) (r : Ring) : (d.setRing n r).disp.lastServed = d.disp.lastServed := rfl
@[simp] theorem Dev.setRing_disp_takeLeft (n : Nat) (r : Ring) : (d.setRing n r).disp.takeLeft = d.disp.takeLeft := rfl
@[simp] theorem Dev.setRing_disp_fatalSteps (n : Nat) (r : Ring) : (d.setRing n r).disp.fatalSteps = d.disp.fatalSteps := rfl
@[simp] theorem Dev.setRing_disp_fatal (n : Nat) (r : Ring) : (d.setRing n r).disp.fatal = d.disp.fatal := rfl
@[simp] theorem Dev.setRing_disp_lastAction (n : Nat) (r : Ring) : (d.setRing n r).disp.lastAction = d.disp.lastAction := rfl
@[simp] theorem Dev.setRing_get (n : Nat) (r : Ring) (i' j' : Nat) : (d.setRing n r).get i' j' = d.get i' j' := rfl

/-! `setCpl` -/

@[simp] theorem Dev.setCpl_now (n : Nat) (c : CplRing) : (d.setCpl n c).now = d.now := rfl
@[simp] theorem Dev.setCpl_draws (n : Nat) (c : CplRing) : (d.setCpl n c).draws = d.draws := rfl
@[simp] theorem Dev.setCpl_out (n : Nat) (c : CplRing) : (d.setCpl n c).out = d.out := rfl
@[simp] theorem Dev.setCpl_limits (n : Nat) (c : CplRing) : (d.setCpl n c).limits = d.limits := rfl
@[simp] theorem Dev.setCpl_od (n : Nat) (c : CplRing) : (d.setCpl n c).od = d.od := rfl
@[simp] theorem Dev.setCpl_mem (n : Nat) (c : CplRing) : (d.setCpl n c).mem = d.mem := rfl
@[simp] theorem Dev.setCpl_cmp (n : Nat) (c : CplRing) : (d.setCpl n c).cmp = d.cmp := rfl
@[simp] theorem Dev.setCpl_ports (n : Nat) (c : CplRing) : (d.setCpl n c).ports = d.ports := rfl
@[simp] theorem Dev.setCpl_aux (n : Nat) (c : CplRing) : (d.setCpl n c).aux = d.aux := rfl
@[simp] theorem Dev.setCpl_waiting (n : Nat) (c : CplRing) : (d.setCpl n c).waiting = d.waiting := rfl
@[simp] theorem Dev.setCpl_tb (n : Nat) (c : CplRing) : (d.setCpl n c).tb = d.tb := rfl
@[simp] theorem Dev.setCpl_slots (n : Nat) (c : CplRing) : (d.setCpl n c).slots = d.slots := rfl
@[simp] theorem Dev.setCpl_eng (n : Nat) (c : CplRing) : (d.setCpl n c).eng = d.eng := rfl
@[simp] theorem Dev.setCpl_trail (n : Nat) (c : CplRing) : (d.setCpl n c).trail = d.trail := rfl
@[simp] theorem Dev.setCpl_howls (n : Nat) (c : CplRing) : (d.setCpl n c).howls = d.howls := rfl
@[simp] theorem Dev.setCpl_shadow (n : Nat) (c : CplRing) : (d.setCpl n c).shadow = d.shadow := rfl
@[simp] theorem Dev.setCpl_flaws (n : Nat) (c : CplRing) : (d.setCpl n c).flaws = d.flaws := rfl
@[simp] theorem Dev.setCpl_sniff (n : Nat) (c : CplRing) : (d.setCpl n c).sniff = d.sniff := rfl
@[simp] theorem Dev.setCpl_host (n : Nat) (c : CplRing) : (d.setCpl n c).host = d.host := rfl
@[simp] theorem Dev.setCpl_requests (n : Nat) (c : CplRing) : (d.setCpl n c).requests = d.requests := rfl
@[simp] theorem Dev.setCpl_leashes (n : Nat) (c : CplRing) : (d.setCpl n c).leashes = d.leashes := rfl
@[simp] theorem Dev.setCpl_mgmt (n : Nat) (c : CplRing) : (d.setCpl n c).mgmt = d.mgmt := rfl
@[simp] theorem Dev.setCpl_power (n : Nat) (c : CplRing) : (d.setCpl n c).power = d.power := rfl
@[simp] theorem Dev.setCpl_clocks (n : Nat) (c : CplRing) : (d.setCpl n c).clocks = d.clocks := rfl
@[simp] theorem Dev.setCpl_sec (n : Nat) (c : CplRing) : (d.setCpl n c).sec = d.sec := rfl
@[simp] theorem Dev.setCpl_store (n : Nat) (c : CplRing) : (d.setCpl n c).store = d.store := rfl
@[simp] theorem Dev.setCpl_pins (n : Nat) (c : CplRing) : (d.setCpl n c).pins = d.pins := rfl
@[simp] theorem Dev.setCpl_disp_rings (n : Nat) (c : CplRing) : (d.setCpl n c).disp.rings = d.disp.rings := rfl
@[simp] theorem Dev.setCpl_disp_counters (n : Nat) (c : CplRing) : (d.setCpl n c).disp.counters = d.disp.counters := rfl
@[simp] theorem Dev.setCpl_disp_board (n : Nat) (c : CplRing) : (d.setCpl n c).disp.board = d.disp.board := rfl
@[simp] theorem Dev.setCpl_disp_nextId (n : Nat) (c : CplRing) : (d.setCpl n c).disp.nextId = d.disp.nextId := rfl
@[simp] theorem Dev.setCpl_disp_lastServed (n : Nat) (c : CplRing) : (d.setCpl n c).disp.lastServed = d.disp.lastServed := rfl
@[simp] theorem Dev.setCpl_disp_takeLeft (n : Nat) (c : CplRing) : (d.setCpl n c).disp.takeLeft = d.disp.takeLeft := rfl
@[simp] theorem Dev.setCpl_disp_fatalSteps (n : Nat) (c : CplRing) : (d.setCpl n c).disp.fatalSteps = d.disp.fatalSteps := rfl
@[simp] theorem Dev.setCpl_disp_fatal (n : Nat) (c : CplRing) : (d.setCpl n c).disp.fatal = d.disp.fatal := rfl
@[simp] theorem Dev.setCpl_disp_lastAction (n : Nat) (c : CplRing) : (d.setCpl n c).disp.lastAction = d.disp.lastAction := rfl
@[simp] theorem Dev.setCpl_get (n : Nat) (c : CplRing) (i' j' : Nat) : (d.setCpl n c).get i' j' = d.get i' j' := rfl

/-! `setCounter` -/

@[simp] theorem Dev.setCounter_now (c v : Nat) : (d.setCounter c v).now = d.now := rfl
@[simp] theorem Dev.setCounter_draws (c v : Nat) : (d.setCounter c v).draws = d.draws := rfl
@[simp] theorem Dev.setCounter_out (c v : Nat) : (d.setCounter c v).out = d.out := rfl
@[simp] theorem Dev.setCounter_limits (c v : Nat) : (d.setCounter c v).limits = d.limits := rfl
@[simp] theorem Dev.setCounter_od (c v : Nat) : (d.setCounter c v).od = d.od := rfl
@[simp] theorem Dev.setCounter_mem (c v : Nat) : (d.setCounter c v).mem = d.mem := rfl
@[simp] theorem Dev.setCounter_cmp (c v : Nat) : (d.setCounter c v).cmp = d.cmp := rfl
@[simp] theorem Dev.setCounter_ports (c v : Nat) : (d.setCounter c v).ports = d.ports := rfl
@[simp] theorem Dev.setCounter_aux (c v : Nat) : (d.setCounter c v).aux = d.aux := rfl
@[simp] theorem Dev.setCounter_waiting (c v : Nat) : (d.setCounter c v).waiting = d.waiting := rfl
@[simp] theorem Dev.setCounter_tb (c v : Nat) : (d.setCounter c v).tb = d.tb := rfl
@[simp] theorem Dev.setCounter_slots (c v : Nat) : (d.setCounter c v).slots = d.slots := rfl
@[simp] theorem Dev.setCounter_eng (c v : Nat) : (d.setCounter c v).eng = d.eng := rfl
@[simp] theorem Dev.setCounter_trail (c v : Nat) : (d.setCounter c v).trail = d.trail := rfl
@[simp] theorem Dev.setCounter_howls (c v : Nat) : (d.setCounter c v).howls = d.howls := rfl
@[simp] theorem Dev.setCounter_shadow (c v : Nat) : (d.setCounter c v).shadow = d.shadow := rfl
@[simp] theorem Dev.setCounter_flaws (c v : Nat) : (d.setCounter c v).flaws = d.flaws := rfl
@[simp] theorem Dev.setCounter_sniff (c v : Nat) : (d.setCounter c v).sniff = d.sniff := rfl
@[simp] theorem Dev.setCounter_host (c v : Nat) : (d.setCounter c v).host = d.host := rfl
@[simp] theorem Dev.setCounter_requests (c v : Nat) : (d.setCounter c v).requests = d.requests := rfl
@[simp] theorem Dev.setCounter_leashes (c v : Nat) : (d.setCounter c v).leashes = d.leashes := rfl
@[simp] theorem Dev.setCounter_mgmt (c v : Nat) : (d.setCounter c v).mgmt = d.mgmt := rfl
@[simp] theorem Dev.setCounter_power (c v : Nat) : (d.setCounter c v).power = d.power := rfl
@[simp] theorem Dev.setCounter_clocks (c v : Nat) : (d.setCounter c v).clocks = d.clocks := rfl
@[simp] theorem Dev.setCounter_sec (c v : Nat) : (d.setCounter c v).sec = d.sec := rfl
@[simp] theorem Dev.setCounter_store (c v : Nat) : (d.setCounter c v).store = d.store := rfl
@[simp] theorem Dev.setCounter_pins (c v : Nat) : (d.setCounter c v).pins = d.pins := rfl
@[simp] theorem Dev.setCounter_disp_rings (c v : Nat) : (d.setCounter c v).disp.rings = d.disp.rings := rfl
@[simp] theorem Dev.setCounter_disp_cpls (c v : Nat) : (d.setCounter c v).disp.cpls = d.disp.cpls := rfl
@[simp] theorem Dev.setCounter_disp_board (c v : Nat) : (d.setCounter c v).disp.board = d.disp.board := rfl
@[simp] theorem Dev.setCounter_disp_nextId (c v : Nat) : (d.setCounter c v).disp.nextId = d.disp.nextId := rfl
@[simp] theorem Dev.setCounter_disp_lastServed (c v : Nat) : (d.setCounter c v).disp.lastServed = d.disp.lastServed := rfl
@[simp] theorem Dev.setCounter_disp_takeLeft (c v : Nat) : (d.setCounter c v).disp.takeLeft = d.disp.takeLeft := rfl
@[simp] theorem Dev.setCounter_disp_fatalSteps (c v : Nat) : (d.setCounter c v).disp.fatalSteps = d.disp.fatalSteps := rfl
@[simp] theorem Dev.setCounter_disp_fatal (c v : Nat) : (d.setCounter c v).disp.fatal = d.disp.fatal := rfl
@[simp] theorem Dev.setCounter_disp_lastAction (c v : Nat) : (d.setCounter c v).disp.lastAction = d.disp.lastAction := rfl
@[simp] theorem Dev.setCounter_get (c v : Nat) (i' j' : Nat) : (d.setCounter c v).get i' j' = d.get i' j' := rfl

/-! `setPort` -/

@[simp] theorem Dev.setPort_now (p : Nat) (x : Port) : (d.setPort p x).now = d.now := rfl
@[simp] theorem Dev.setPort_draws (p : Nat) (x : Port) : (d.setPort p x).draws = d.draws := rfl
@[simp] theorem Dev.setPort_out (p : Nat) (x : Port) : (d.setPort p x).out = d.out := rfl
@[simp] theorem Dev.setPort_limits (p : Nat) (x : Port) : (d.setPort p x).limits = d.limits := rfl
@[simp] theorem Dev.setPort_od (p : Nat) (x : Port) : (d.setPort p x).od = d.od := rfl
@[simp] theorem Dev.setPort_mem (p : Nat) (x : Port) : (d.setPort p x).mem = d.mem := rfl
@[simp] theorem Dev.setPort_disp (p : Nat) (x : Port) : (d.setPort p x).disp = d.disp := rfl
@[simp] theorem Dev.setPort_cmp (p : Nat) (x : Port) : (d.setPort p x).cmp = d.cmp := rfl
@[simp] theorem Dev.setPort_aux (p : Nat) (x : Port) : (d.setPort p x).aux = d.aux := rfl
@[simp] theorem Dev.setPort_waiting (p : Nat) (x : Port) : (d.setPort p x).waiting = d.waiting := rfl
@[simp] theorem Dev.setPort_tb (p : Nat) (x : Port) : (d.setPort p x).tb = d.tb := rfl
@[simp] theorem Dev.setPort_slots (p : Nat) (x : Port) : (d.setPort p x).slots = d.slots := rfl
@[simp] theorem Dev.setPort_eng (p : Nat) (x : Port) : (d.setPort p x).eng = d.eng := rfl
@[simp] theorem Dev.setPort_trail (p : Nat) (x : Port) : (d.setPort p x).trail = d.trail := rfl
@[simp] theorem Dev.setPort_howls (p : Nat) (x : Port) : (d.setPort p x).howls = d.howls := rfl
@[simp] theorem Dev.setPort_shadow (p : Nat) (x : Port) : (d.setPort p x).shadow = d.shadow := rfl
@[simp] theorem Dev.setPort_flaws (p : Nat) (x : Port) : (d.setPort p x).flaws = d.flaws := rfl
@[simp] theorem Dev.setPort_sniff (p : Nat) (x : Port) : (d.setPort p x).sniff = d.sniff := rfl
@[simp] theorem Dev.setPort_host (p : Nat) (x : Port) : (d.setPort p x).host = d.host := rfl
@[simp] theorem Dev.setPort_requests (p : Nat) (x : Port) : (d.setPort p x).requests = d.requests := rfl
@[simp] theorem Dev.setPort_leashes (p : Nat) (x : Port) : (d.setPort p x).leashes = d.leashes := rfl
@[simp] theorem Dev.setPort_mgmt (p : Nat) (x : Port) : (d.setPort p x).mgmt = d.mgmt := rfl
@[simp] theorem Dev.setPort_power (p : Nat) (x : Port) : (d.setPort p x).power = d.power := rfl
@[simp] theorem Dev.setPort_clocks (p : Nat) (x : Port) : (d.setPort p x).clocks = d.clocks := rfl
@[simp] theorem Dev.setPort_sec (p : Nat) (x : Port) : (d.setPort p x).sec = d.sec := rfl
@[simp] theorem Dev.setPort_store (p : Nat) (x : Port) : (d.setPort p x).store = d.store := rfl
@[simp] theorem Dev.setPort_pins (p : Nat) (x : Port) : (d.setPort p x).pins = d.pins := rfl
@[simp] theorem Dev.setPort_get (p : Nat) (x : Port) (i' j' : Nat) : (d.setPort p x).get i' j' = d.get i' j' := rfl

/-! `setPax` -/

@[simp] theorem Dev.setPax_now (p : Nat) (x : PortAux) : (d.setPax p x).now = d.now := rfl
@[simp] theorem Dev.setPax_draws (p : Nat) (x : PortAux) : (d.setPax p x).draws = d.draws := rfl
@[simp] theorem Dev.setPax_out (p : Nat) (x : PortAux) : (d.setPax p x).out = d.out := rfl
@[simp] theorem Dev.setPax_limits (p : Nat) (x : PortAux) : (d.setPax p x).limits = d.limits := rfl
@[simp] theorem Dev.setPax_od (p : Nat) (x : PortAux) : (d.setPax p x).od = d.od := rfl
@[simp] theorem Dev.setPax_mem (p : Nat) (x : PortAux) : (d.setPax p x).mem = d.mem := rfl
@[simp] theorem Dev.setPax_disp (p : Nat) (x : PortAux) : (d.setPax p x).disp = d.disp := rfl
@[simp] theorem Dev.setPax_cmp (p : Nat) (x : PortAux) : (d.setPax p x).cmp = d.cmp := rfl
@[simp] theorem Dev.setPax_ports (p : Nat) (x : PortAux) : (d.setPax p x).ports = d.ports := rfl
@[simp] theorem Dev.setPax_waiting (p : Nat) (x : PortAux) : (d.setPax p x).waiting = d.waiting := rfl
@[simp] theorem Dev.setPax_tb (p : Nat) (x : PortAux) : (d.setPax p x).tb = d.tb := rfl
@[simp] theorem Dev.setPax_slots (p : Nat) (x : PortAux) : (d.setPax p x).slots = d.slots := rfl
@[simp] theorem Dev.setPax_eng (p : Nat) (x : PortAux) : (d.setPax p x).eng = d.eng := rfl
@[simp] theorem Dev.setPax_trail (p : Nat) (x : PortAux) : (d.setPax p x).trail = d.trail := rfl
@[simp] theorem Dev.setPax_howls (p : Nat) (x : PortAux) : (d.setPax p x).howls = d.howls := rfl
@[simp] theorem Dev.setPax_shadow (p : Nat) (x : PortAux) : (d.setPax p x).shadow = d.shadow := rfl
@[simp] theorem Dev.setPax_flaws (p : Nat) (x : PortAux) : (d.setPax p x).flaws = d.flaws := rfl
@[simp] theorem Dev.setPax_sniff (p : Nat) (x : PortAux) : (d.setPax p x).sniff = d.sniff := rfl
@[simp] theorem Dev.setPax_host (p : Nat) (x : PortAux) : (d.setPax p x).host = d.host := rfl
@[simp] theorem Dev.setPax_requests (p : Nat) (x : PortAux) : (d.setPax p x).requests = d.requests := rfl
@[simp] theorem Dev.setPax_leashes (p : Nat) (x : PortAux) : (d.setPax p x).leashes = d.leashes := rfl
@[simp] theorem Dev.setPax_mgmt (p : Nat) (x : PortAux) : (d.setPax p x).mgmt = d.mgmt := rfl
@[simp] theorem Dev.setPax_power (p : Nat) (x : PortAux) : (d.setPax p x).power = d.power := rfl
@[simp] theorem Dev.setPax_clocks (p : Nat) (x : PortAux) : (d.setPax p x).clocks = d.clocks := rfl
@[simp] theorem Dev.setPax_sec (p : Nat) (x : PortAux) : (d.setPax p x).sec = d.sec := rfl
@[simp] theorem Dev.setPax_store (p : Nat) (x : PortAux) : (d.setPax p x).store = d.store := rfl
@[simp] theorem Dev.setPax_pins (p : Nat) (x : PortAux) : (d.setPax p x).pins = d.pins := rfl
@[simp] theorem Dev.setPax_get (p : Nat) (x : PortAux) (i' j' : Nat) : (d.setPax p x).get i' j' = d.get i' j' := rfl

/-! `setTile` -/

@[simp] theorem Dev.setTile_now (t : Nat) (x : Tile) : (d.setTile t x).now = d.now := rfl
@[simp] theorem Dev.setTile_draws (t : Nat) (x : Tile) : (d.setTile t x).draws = d.draws := rfl
@[simp] theorem Dev.setTile_out (t : Nat) (x : Tile) : (d.setTile t x).out = d.out := rfl
@[simp] theorem Dev.setTile_limits (t : Nat) (x : Tile) : (d.setTile t x).limits = d.limits := rfl
@[simp] theorem Dev.setTile_od (t : Nat) (x : Tile) : (d.setTile t x).od = d.od := rfl
@[simp] theorem Dev.setTile_mem (t : Nat) (x : Tile) : (d.setTile t x).mem = d.mem := rfl
@[simp] theorem Dev.setTile_disp (t : Nat) (x : Tile) : (d.setTile t x).disp = d.disp := rfl
@[simp] theorem Dev.setTile_ports (t : Nat) (x : Tile) : (d.setTile t x).ports = d.ports := rfl
@[simp] theorem Dev.setTile_aux (t : Nat) (x : Tile) : (d.setTile t x).aux = d.aux := rfl
@[simp] theorem Dev.setTile_waiting (t : Nat) (x : Tile) : (d.setTile t x).waiting = d.waiting := rfl
@[simp] theorem Dev.setTile_tb (t : Nat) (x : Tile) : (d.setTile t x).tb = d.tb := rfl
@[simp] theorem Dev.setTile_slots (t : Nat) (x : Tile) : (d.setTile t x).slots = d.slots := rfl
@[simp] theorem Dev.setTile_eng (t : Nat) (x : Tile) : (d.setTile t x).eng = d.eng := rfl
@[simp] theorem Dev.setTile_trail (t : Nat) (x : Tile) : (d.setTile t x).trail = d.trail := rfl
@[simp] theorem Dev.setTile_howls (t : Nat) (x : Tile) : (d.setTile t x).howls = d.howls := rfl
@[simp] theorem Dev.setTile_shadow (t : Nat) (x : Tile) : (d.setTile t x).shadow = d.shadow := rfl
@[simp] theorem Dev.setTile_flaws (t : Nat) (x : Tile) : (d.setTile t x).flaws = d.flaws := rfl
@[simp] theorem Dev.setTile_sniff (t : Nat) (x : Tile) : (d.setTile t x).sniff = d.sniff := rfl
@[simp] theorem Dev.setTile_host (t : Nat) (x : Tile) : (d.setTile t x).host = d.host := rfl
@[simp] theorem Dev.setTile_requests (t : Nat) (x : Tile) : (d.setTile t x).requests = d.requests := rfl
@[simp] theorem Dev.setTile_leashes (t : Nat) (x : Tile) : (d.setTile t x).leashes = d.leashes := rfl
@[simp] theorem Dev.setTile_mgmt (t : Nat) (x : Tile) : (d.setTile t x).mgmt = d.mgmt := rfl
@[simp] theorem Dev.setTile_power (t : Nat) (x : Tile) : (d.setTile t x).power = d.power := rfl
@[simp] theorem Dev.setTile_clocks (t : Nat) (x : Tile) : (d.setTile t x).clocks = d.clocks := rfl
@[simp] theorem Dev.setTile_sec (t : Nat) (x : Tile) : (d.setTile t x).sec = d.sec := rfl
@[simp] theorem Dev.setTile_store (t : Nat) (x : Tile) : (d.setTile t x).store = d.store := rfl
@[simp] theorem Dev.setTile_pins (t : Nat) (x : Tile) : (d.setTile t x).pins = d.pins := rfl
@[simp] theorem Dev.setTile_cmp_acc (t : Nat) (x : Tile) : (d.setTile t x).cmp.acc = d.cmp.acc := rfl
@[simp] theorem Dev.setTile_cmp_fresh (t : Nat) (x : Tile) : (d.setTile t x).cmp.fresh = d.cmp.fresh := rfl
@[simp] theorem Dev.setTile_cmp_lossL (t : Nat) (x : Tile) : (d.setTile t x).cmp.lossL = d.cmp.lossL := rfl
@[simp] theorem Dev.setTile_cmp_lossWritten (t : Nat) (x : Tile) : (d.setTile t x).cmp.lossWritten = d.cmp.lossWritten := rfl
@[simp] theorem Dev.setTile_cmp_taps (t : Nat) (x : Tile) : (d.setTile t x).cmp.taps = d.cmp.taps := rfl
@[simp] theorem Dev.setTile_cmp_sweep (t : Nat) (x : Tile) : (d.setTile t x).cmp.sweep = d.cmp.sweep := rfl
@[simp] theorem Dev.setTile_cmp_skips (t : Nat) (x : Tile) : (d.setTile t x).cmp.skips = d.cmp.skips := rfl
@[simp] theorem Dev.setTile_get (t : Nat) (x : Tile) (i' j' : Nat) : (d.setTile t x).get i' j' = d.get i' j' := rfl

/-! `setLeash` -/

@[simp] theorem Dev.setLeash_now (n : Nat) (x : Leash) : (d.setLeash n x).now = d.now := rfl
@[simp] theorem Dev.setLeash_draws (n : Nat) (x : Leash) : (d.setLeash n x).draws = d.draws := rfl
@[simp] theorem Dev.setLeash_out (n : Nat) (x : Leash) : (d.setLeash n x).out = d.out := rfl
@[simp] theorem Dev.setLeash_limits (n : Nat) (x : Leash) : (d.setLeash n x).limits = d.limits := rfl
@[simp] theorem Dev.setLeash_od (n : Nat) (x : Leash) : (d.setLeash n x).od = d.od := rfl
@[simp] theorem Dev.setLeash_mem (n : Nat) (x : Leash) : (d.setLeash n x).mem = d.mem := rfl
@[simp] theorem Dev.setLeash_disp (n : Nat) (x : Leash) : (d.setLeash n x).disp = d.disp := rfl
@[simp] theorem Dev.setLeash_cmp (n : Nat) (x : Leash) : (d.setLeash n x).cmp = d.cmp := rfl
@[simp] theorem Dev.setLeash_ports (n : Nat) (x : Leash) : (d.setLeash n x).ports = d.ports := rfl
@[simp] theorem Dev.setLeash_aux (n : Nat) (x : Leash) : (d.setLeash n x).aux = d.aux := rfl
@[simp] theorem Dev.setLeash_waiting (n : Nat) (x : Leash) : (d.setLeash n x).waiting = d.waiting := rfl
@[simp] theorem Dev.setLeash_tb (n : Nat) (x : Leash) : (d.setLeash n x).tb = d.tb := rfl
@[simp] theorem Dev.setLeash_slots (n : Nat) (x : Leash) : (d.setLeash n x).slots = d.slots := rfl
@[simp] theorem Dev.setLeash_eng (n : Nat) (x : Leash) : (d.setLeash n x).eng = d.eng := rfl
@[simp] theorem Dev.setLeash_trail (n : Nat) (x : Leash) : (d.setLeash n x).trail = d.trail := rfl
@[simp] theorem Dev.setLeash_howls (n : Nat) (x : Leash) : (d.setLeash n x).howls = d.howls := rfl
@[simp] theorem Dev.setLeash_shadow (n : Nat) (x : Leash) : (d.setLeash n x).shadow = d.shadow := rfl
@[simp] theorem Dev.setLeash_flaws (n : Nat) (x : Leash) : (d.setLeash n x).flaws = d.flaws := rfl
@[simp] theorem Dev.setLeash_sniff (n : Nat) (x : Leash) : (d.setLeash n x).sniff = d.sniff := rfl
@[simp] theorem Dev.setLeash_host (n : Nat) (x : Leash) : (d.setLeash n x).host = d.host := rfl
@[simp] theorem Dev.setLeash_requests (n : Nat) (x : Leash) : (d.setLeash n x).requests = d.requests := rfl
@[simp] theorem Dev.setLeash_mgmt (n : Nat) (x : Leash) : (d.setLeash n x).mgmt = d.mgmt := rfl
@[simp] theorem Dev.setLeash_power (n : Nat) (x : Leash) : (d.setLeash n x).power = d.power := rfl
@[simp] theorem Dev.setLeash_clocks (n : Nat) (x : Leash) : (d.setLeash n x).clocks = d.clocks := rfl
@[simp] theorem Dev.setLeash_sec (n : Nat) (x : Leash) : (d.setLeash n x).sec = d.sec := rfl
@[simp] theorem Dev.setLeash_store (n : Nat) (x : Leash) : (d.setLeash n x).store = d.store := rfl
@[simp] theorem Dev.setLeash_pins (n : Nat) (x : Leash) : (d.setLeash n x).pins = d.pins := rfl
@[simp] theorem Dev.setLeash_get (n : Nat) (x : Leash) (i' j' : Nat) : (d.setLeash n x).get i' j' = d.get i' j' := rfl

/-! `setUnit` -/

@[simp] theorem Dev.setUnit_now (u : Nat) (x : SnUnit) : (d.setUnit u x).now = d.now := rfl
@[simp] theorem Dev.setUnit_draws (u : Nat) (x : SnUnit) : (d.setUnit u x).draws = d.draws := rfl
@[simp] theorem Dev.setUnit_out (u : Nat) (x : SnUnit) : (d.setUnit u x).out = d.out := rfl
@[simp] theorem Dev.setUnit_limits (u : Nat) (x : SnUnit) : (d.setUnit u x).limits = d.limits := rfl
@[simp] theorem Dev.setUnit_od (u : Nat) (x : SnUnit) : (d.setUnit u x).od = d.od := rfl
@[simp] theorem Dev.setUnit_mem (u : Nat) (x : SnUnit) : (d.setUnit u x).mem = d.mem := rfl
@[simp] theorem Dev.setUnit_disp (u : Nat) (x : SnUnit) : (d.setUnit u x).disp = d.disp := rfl
@[simp] theorem Dev.setUnit_cmp (u : Nat) (x : SnUnit) : (d.setUnit u x).cmp = d.cmp := rfl
@[simp] theorem Dev.setUnit_ports (u : Nat) (x : SnUnit) : (d.setUnit u x).ports = d.ports := rfl
@[simp] theorem Dev.setUnit_aux (u : Nat) (x : SnUnit) : (d.setUnit u x).aux = d.aux := rfl
@[simp] theorem Dev.setUnit_waiting (u : Nat) (x : SnUnit) : (d.setUnit u x).waiting = d.waiting := rfl
@[simp] theorem Dev.setUnit_tb (u : Nat) (x : SnUnit) : (d.setUnit u x).tb = d.tb := rfl
@[simp] theorem Dev.setUnit_slots (u : Nat) (x : SnUnit) : (d.setUnit u x).slots = d.slots := rfl
@[simp] theorem Dev.setUnit_eng (u : Nat) (x : SnUnit) : (d.setUnit u x).eng = d.eng := rfl
@[simp] theorem Dev.setUnit_trail (u : Nat) (x : SnUnit) : (d.setUnit u x).trail = d.trail := rfl
@[simp] theorem Dev.setUnit_flaws (u : Nat) (x : SnUnit) : (d.setUnit u x).flaws = d.flaws := rfl
@[simp] theorem Dev.setUnit_howls (u : Nat) (x : SnUnit) : (d.setUnit u x).howls = d.howls := rfl
@[simp] theorem Dev.setUnit_shadow (u : Nat) (x : SnUnit) : (d.setUnit u x).shadow = d.shadow := rfl
@[simp] theorem Dev.setUnit_host (u : Nat) (x : SnUnit) : (d.setUnit u x).host = d.host := rfl
@[simp] theorem Dev.setUnit_requests (u : Nat) (x : SnUnit) : (d.setUnit u x).requests = d.requests := rfl
@[simp] theorem Dev.setUnit_leashes (u : Nat) (x : SnUnit) : (d.setUnit u x).leashes = d.leashes := rfl
@[simp] theorem Dev.setUnit_mgmt (u : Nat) (x : SnUnit) : (d.setUnit u x).mgmt = d.mgmt := rfl
@[simp] theorem Dev.setUnit_power (u : Nat) (x : SnUnit) : (d.setUnit u x).power = d.power := rfl
@[simp] theorem Dev.setUnit_clocks (u : Nat) (x : SnUnit) : (d.setUnit u x).clocks = d.clocks := rfl
@[simp] theorem Dev.setUnit_sec (u : Nat) (x : SnUnit) : (d.setUnit u x).sec = d.sec := rfl
@[simp] theorem Dev.setUnit_store (u : Nat) (x : SnUnit) : (d.setUnit u x).store = d.store := rfl
@[simp] theorem Dev.setUnit_pins (u : Nat) (x : SnUnit) : (d.setUnit u x).pins = d.pins := rfl
@[simp] theorem Dev.setUnit_get (u : Nat) (x : SnUnit) (i' j' : Nat) : (d.setUnit u x).get i' j' = d.get i' j' := rfl

/-! `setDomain` -/

@[simp] theorem Dev.setDomain_now (k : Nat) (x : Domain) : (d.setDomain k x).now = d.now := rfl
@[simp] theorem Dev.setDomain_draws (k : Nat) (x : Domain) : (d.setDomain k x).draws = d.draws := rfl
@[simp] theorem Dev.setDomain_out (k : Nat) (x : Domain) : (d.setDomain k x).out = d.out := rfl
@[simp] theorem Dev.setDomain_limits (k : Nat) (x : Domain) : (d.setDomain k x).limits = d.limits := rfl
@[simp] theorem Dev.setDomain_od (k : Nat) (x : Domain) : (d.setDomain k x).od = d.od := rfl
@[simp] theorem Dev.setDomain_mem (k : Nat) (x : Domain) : (d.setDomain k x).mem = d.mem := rfl
@[simp] theorem Dev.setDomain_disp (k : Nat) (x : Domain) : (d.setDomain k x).disp = d.disp := rfl
@[simp] theorem Dev.setDomain_cmp (k : Nat) (x : Domain) : (d.setDomain k x).cmp = d.cmp := rfl
@[simp] theorem Dev.setDomain_ports (k : Nat) (x : Domain) : (d.setDomain k x).ports = d.ports := rfl
@[simp] theorem Dev.setDomain_aux (k : Nat) (x : Domain) : (d.setDomain k x).aux = d.aux := rfl
@[simp] theorem Dev.setDomain_waiting (k : Nat) (x : Domain) : (d.setDomain k x).waiting = d.waiting := rfl
@[simp] theorem Dev.setDomain_tb (k : Nat) (x : Domain) : (d.setDomain k x).tb = d.tb := rfl
@[simp] theorem Dev.setDomain_slots (k : Nat) (x : Domain) : (d.setDomain k x).slots = d.slots := rfl
@[simp] theorem Dev.setDomain_eng (k : Nat) (x : Domain) : (d.setDomain k x).eng = d.eng := rfl
@[simp] theorem Dev.setDomain_trail (k : Nat) (x : Domain) : (d.setDomain k x).trail = d.trail := rfl
@[simp] theorem Dev.setDomain_howls (k : Nat) (x : Domain) : (d.setDomain k x).howls = d.howls := rfl
@[simp] theorem Dev.setDomain_shadow (k : Nat) (x : Domain) : (d.setDomain k x).shadow = d.shadow := rfl
@[simp] theorem Dev.setDomain_flaws (k : Nat) (x : Domain) : (d.setDomain k x).flaws = d.flaws := rfl
@[simp] theorem Dev.setDomain_sniff (k : Nat) (x : Domain) : (d.setDomain k x).sniff = d.sniff := rfl
@[simp] theorem Dev.setDomain_host (k : Nat) (x : Domain) : (d.setDomain k x).host = d.host := rfl
@[simp] theorem Dev.setDomain_requests (k : Nat) (x : Domain) : (d.setDomain k x).requests = d.requests := rfl
@[simp] theorem Dev.setDomain_leashes (k : Nat) (x : Domain) : (d.setDomain k x).leashes = d.leashes := rfl
@[simp] theorem Dev.setDomain_mgmt (k : Nat) (x : Domain) : (d.setDomain k x).mgmt = d.mgmt := rfl
@[simp] theorem Dev.setDomain_power (k : Nat) (x : Domain) : (d.setDomain k x).power = d.power := rfl
@[simp] theorem Dev.setDomain_sec (k : Nat) (x : Domain) : (d.setDomain k x).sec = d.sec := rfl
@[simp] theorem Dev.setDomain_store (k : Nat) (x : Domain) : (d.setDomain k x).store = d.store := rfl
@[simp] theorem Dev.setDomain_pins (k : Nat) (x : Domain) : (d.setDomain k x).pins = d.pins := rfl
@[simp] theorem Dev.setDomain_clocks_sources (k : Nat) (x : Domain) : (d.setDomain k x).clocks.sources = d.clocks.sources := rfl
@[simp] theorem Dev.setDomain_clocks_trim (k : Nat) (x : Domain) : (d.setDomain k x).clocks.trim = d.clocks.trim := rfl
@[simp] theorem Dev.setDomain_clocks_trimUnusable (k : Nat) (x : Domain) : (d.setDomain k x).clocks.trimUnusable = d.clocks.trimUnusable := rfl
@[simp] theorem Dev.setDomain_clocks_lastTrim (k : Nat) (x : Domain) : (d.setDomain k x).clocks.lastTrim = d.clocks.lastTrim := rfl
@[simp] theorem Dev.setDomain_get (k : Nat) (x : Domain) (i' j' : Nat) : (d.setDomain k x).get i' j' = d.get i' j' := rfl

/-! `setSource` -/

@[simp] theorem Dev.setSource_now (k : Nat) (x : Source) : (d.setSource k x).now = d.now := rfl
@[simp] theorem Dev.setSource_draws (k : Nat) (x : Source) : (d.setSource k x).draws = d.draws := rfl
@[simp] theorem Dev.setSource_out (k : Nat) (x : Source) : (d.setSource k x).out = d.out := rfl
@[simp] theorem Dev.setSource_limits (k : Nat) (x : Source) : (d.setSource k x).limits = d.limits := rfl
@[simp] theorem Dev.setSource_od (k : Nat) (x : Source) : (d.setSource k x).od = d.od := rfl
@[simp] theorem Dev.setSource_mem (k : Nat) (x : Source) : (d.setSource k x).mem = d.mem := rfl
@[simp] theorem Dev.setSource_disp (k : Nat) (x : Source) : (d.setSource k x).disp = d.disp := rfl
@[simp] theorem Dev.setSource_cmp (k : Nat) (x : Source) : (d.setSource k x).cmp = d.cmp := rfl
@[simp] theorem Dev.setSource_ports (k : Nat) (x : Source) : (d.setSource k x).ports = d.ports := rfl
@[simp] theorem Dev.setSource_aux (k : Nat) (x : Source) : (d.setSource k x).aux = d.aux := rfl
@[simp] theorem Dev.setSource_waiting (k : Nat) (x : Source) : (d.setSource k x).waiting = d.waiting := rfl
@[simp] theorem Dev.setSource_tb (k : Nat) (x : Source) : (d.setSource k x).tb = d.tb := rfl
@[simp] theorem Dev.setSource_slots (k : Nat) (x : Source) : (d.setSource k x).slots = d.slots := rfl
@[simp] theorem Dev.setSource_eng (k : Nat) (x : Source) : (d.setSource k x).eng = d.eng := rfl
@[simp] theorem Dev.setSource_trail (k : Nat) (x : Source) : (d.setSource k x).trail = d.trail := rfl
@[simp] theorem Dev.setSource_howls (k : Nat) (x : Source) : (d.setSource k x).howls = d.howls := rfl
@[simp] theorem Dev.setSource_shadow (k : Nat) (x : Source) : (d.setSource k x).shadow = d.shadow := rfl
@[simp] theorem Dev.setSource_flaws (k : Nat) (x : Source) : (d.setSource k x).flaws = d.flaws := rfl
@[simp] theorem Dev.setSource_sniff (k : Nat) (x : Source) : (d.setSource k x).sniff = d.sniff := rfl
@[simp] theorem Dev.setSource_host (k : Nat) (x : Source) : (d.setSource k x).host = d.host := rfl
@[simp] theorem Dev.setSource_requests (k : Nat) (x : Source) : (d.setSource k x).requests = d.requests := rfl
@[simp] theorem Dev.setSource_leashes (k : Nat) (x : Source) : (d.setSource k x).leashes = d.leashes := rfl
@[simp] theorem Dev.setSource_mgmt (k : Nat) (x : Source) : (d.setSource k x).mgmt = d.mgmt := rfl
@[simp] theorem Dev.setSource_power (k : Nat) (x : Source) : (d.setSource k x).power = d.power := rfl
@[simp] theorem Dev.setSource_sec (k : Nat) (x : Source) : (d.setSource k x).sec = d.sec := rfl
@[simp] theorem Dev.setSource_store (k : Nat) (x : Source) : (d.setSource k x).store = d.store := rfl
@[simp] theorem Dev.setSource_pins (k : Nat) (x : Source) : (d.setSource k x).pins = d.pins := rfl
@[simp] theorem Dev.setSource_clocks_domains (k : Nat) (x : Source) : (d.setSource k x).clocks.domains = d.clocks.domains := rfl
@[simp] theorem Dev.setSource_clocks_trim (k : Nat) (x : Source) : (d.setSource k x).clocks.trim = d.clocks.trim := rfl
@[simp] theorem Dev.setSource_clocks_trimUnusable (k : Nat) (x : Source) : (d.setSource k x).clocks.trimUnusable = d.clocks.trimUnusable := rfl
@[simp] theorem Dev.setSource_clocks_lastTrim (k : Nat) (x : Source) : (d.setSource k x).clocks.lastTrim = d.clocks.lastTrim := rfl
@[simp] theorem Dev.setSource_get (k : Nat) (x : Source) (i' j' : Nat) : (d.setSource k x).get i' j' = d.get i' j' := rfl

/-! `wr` -/

@[simp] theorem Dev.wr_now (a : Nat) (l : List Byte) (p : Bool) : (d.wr a l p).now = d.now := rfl
@[simp] theorem Dev.wr_draws (a : Nat) (l : List Byte) (p : Bool) : (d.wr a l p).draws = d.draws := rfl
@[simp] theorem Dev.wr_out (a : Nat) (l : List Byte) (p : Bool) : (d.wr a l p).out = d.out := rfl
@[simp] theorem Dev.wr_limits (a : Nat) (l : List Byte) (p : Bool) : (d.wr a l p).limits = d.limits := rfl
@[simp] theorem Dev.wr_od (a : Nat) (l : List Byte) (p : Bool) : (d.wr a l p).od = d.od := rfl
@[simp] theorem Dev.wr_disp (a : Nat) (l : List Byte) (p : Bool) : (d.wr a l p).disp = d.disp := rfl
@[simp] theorem Dev.wr_cmp (a : Nat) (l : List Byte) (p : Bool) : (d.wr a l p).cmp = d.cmp := rfl
@[simp] theorem Dev.wr_ports (a : Nat) (l : List Byte) (p : Bool) : (d.wr a l p).ports = d.ports := rfl
@[simp] theorem Dev.wr_aux (a : Nat) (l : List Byte) (p : Bool) : (d.wr a l p).aux = d.aux := rfl
@[simp] theorem Dev.wr_waiting (a : Nat) (l : List Byte) (p : Bool) : (d.wr a l p).waiting = d.waiting := rfl
@[simp] theorem Dev.wr_tb (a : Nat) (l : List Byte) (p : Bool) : (d.wr a l p).tb = d.tb := rfl
@[simp] theorem Dev.wr_slots (a : Nat) (l : List Byte) (p : Bool) : (d.wr a l p).slots = d.slots := rfl
@[simp] theorem Dev.wr_eng (a : Nat) (l : List Byte) (p : Bool) : (d.wr a l p).eng = d.eng := rfl
@[simp] theorem Dev.wr_trail (a : Nat) (l : List Byte) (p : Bool) : (d.wr a l p).trail = d.trail := rfl
@[simp] theorem Dev.wr_howls (a : Nat) (l : List Byte) (p : Bool) : (d.wr a l p).howls = d.howls := rfl
@[simp] theorem Dev.wr_shadow (a : Nat) (l : List Byte) (p : Bool) : (d.wr a l p).shadow = d.shadow := rfl
@[simp] theorem Dev.wr_flaws (a : Nat) (l : List Byte) (p : Bool) : (d.wr a l p).flaws = d.flaws := rfl
@[simp] theorem Dev.wr_sniff (a : Nat) (l : List Byte) (p : Bool) : (d.wr a l p).sniff = d.sniff := rfl
@[simp] theorem Dev.wr_host (a : Nat) (l : List Byte) (p : Bool) : (d.wr a l p).host = d.host := rfl
@[simp] theorem Dev.wr_requests (a : Nat) (l : List Byte) (p : Bool) : (d.wr a l p).requests = d.requests := rfl
@[simp] theorem Dev.wr_leashes (a : Nat) (l : List Byte) (p : Bool) : (d.wr a l p).leashes = d.leashes := rfl
@[simp] theorem Dev.wr_mgmt (a : Nat) (l : List Byte) (p : Bool) : (d.wr a l p).mgmt = d.mgmt := rfl
@[simp] theorem Dev.wr_power (a : Nat) (l : List Byte) (p : Bool) : (d.wr a l p).power = d.power := rfl
@[simp] theorem Dev.wr_clocks (a : Nat) (l : List Byte) (p : Bool) : (d.wr a l p).clocks = d.clocks := rfl
@[simp] theorem Dev.wr_sec (a : Nat) (l : List Byte) (p : Bool) : (d.wr a l p).sec = d.sec := rfl
@[simp] theorem Dev.wr_store (a : Nat) (l : List Byte) (p : Bool) : (d.wr a l p).store = d.store := rfl
@[simp] theorem Dev.wr_pins (a : Nat) (l : List Byte) (p : Bool) : (d.wr a l p).pins = d.pins := rfl
@[simp] theorem Dev.wr_mem (a : Nat) (l : List Byte) (p : Bool) : (d.wr a l p).mem = d.mem.store a l p := rfl
@[simp] theorem Dev.wr_get (a : Nat) (l : List Byte) (p : Bool) (i' j' : Nat) : (d.wr a l p).get i' j' = d.get i' j' := rfl

/-! Reading after writing -/

theorem Dev.setRing_ring (n m : Nat) (r : Ring) : (d.setRing n r).ring m = if m = n then r else d.ring m := sget_sset _ _ _ _ _
@[simp] theorem Dev.setRing_ring_same (n : Nat) (r : Ring) : (d.setRing n r).ring n = r := sget_sset_same _ _ _ _
theorem Dev.setCpl_cpl (n m : Nat) (c : CplRing) : (d.setCpl n c).cpl m = if m = n then c else d.cpl m := sget_sset _ _ _ _ _
@[simp] theorem Dev.setCpl_cpl_same (n : Nat) (c : CplRing) : (d.setCpl n c).cpl n = c := sget_sset_same _ _ _ _
theorem Dev.setPort_port (n m : Nat) (x : Port) : (d.setPort n x).port m = if m = n then x else d.port m := sget_sset _ _ _ _ _
@[simp] theorem Dev.setPort_port_same (n : Nat) (x : Port) : (d.setPort n x).port n = x := sget_sset_same _ _ _ _
theorem Dev.setPax_pax (n m : Nat) (x : PortAux) : (d.setPax n x).pax m = if m = n then x else d.pax m := sget_sset _ _ _ _ _
@[simp] theorem Dev.setPax_pax_same (n : Nat) (x : PortAux) : (d.setPax n x).pax n = x := sget_sset_same _ _ _ _
theorem Dev.setTile_tile (n m : Nat) (x : Tile) : (d.setTile n x).tile m = if m = n then x else d.tile m := sget_sset _ _ _ _ _
@[simp] theorem Dev.setTile_tile_same (n : Nat) (x : Tile) : (d.setTile n x).tile n = x := sget_sset_same _ _ _ _
theorem Dev.setLeash_leash (n m : Nat) (x : Leash) : (d.setLeash n x).leash m = if m = n then x else d.leash m := sget_sset _ _ _ _ _
@[simp] theorem Dev.setLeash_leash_same (n : Nat) (x : Leash) : (d.setLeash n x).leash n = x := sget_sset_same _ _ _ _
theorem Dev.setUnit_unit (n m : Nat) (x : SnUnit) : (d.setUnit n x).unit m = if m = n then x else d.unit m := sget_sset _ _ _ _ _
@[simp] theorem Dev.setUnit_unit_same (n : Nat) (x : SnUnit) : (d.setUnit n x).unit n = x := sget_sset_same _ _ _ _
theorem Dev.setDomain_domain (n m : Nat) (x : Domain) : (d.setDomain n x).domain m = if m = n then x else d.domain m := sget_sset _ _ _ _ _
@[simp] theorem Dev.setDomain_domain_same (n : Nat) (x : Domain) : (d.setDomain n x).domain n = x := sget_sset_same _ _ _ _
theorem Dev.setSource_source (n m : Nat) (x : Source) : (d.setSource n x).source m = if m = n then x else d.source m := sget_sset _ _ _ _ _
@[simp] theorem Dev.setSource_source_same (n : Nat) (x : Source) : (d.setSource n x).source n = x := sget_sset_same _ _ _ _
theorem Dev.setCounter_counter (n m v : Nat) : (d.setCounter n v).counter m = if m = n then v % 2 ^ 32 else d.counter m := sget_sset _ _ _ _ _
@[simp] theorem Dev.setCounter_counter_same (n v : Nat) : (d.setCounter n v).counter n = v % 2 ^ 32 := sget_sset_same _ _ _ _

/-- A dictionary value just stored. -/
@[simp] theorem Dev.put_get_same (i j v : Nat) : (d.put i j v).get i j = v % 2 ^ (8 * odSize (odKey i j)) := sget_sset_same _ _ _ _

/-- Another dictionary value. -/
theorem Dev.put_get_ne (i j v a b : Nat) (h : odKey a b ≠ odKey i j) : (d.put i j v).get a b = d.get a b :=
  sget_sset_ne _ _ _ _ _ h

theorem Dev.addSat_get_ne (i j w n a b : Nat) (h : odKey a b ≠ odKey i j) : (d.addSat i j w n).get a b = d.get a b :=
  sget_sset_ne _ _ _ _ _ h

theorem Dev.addWrap_get_ne (i j n a b : Nat) (h : odKey a b ≠ odKey i j) : (d.addWrap i j n).get a b = d.get a b :=
  sget_sset_ne _ _ _ _ _ h

/-! Rings, tiles and the rest seen through updates of other parts -/

@[simp] theorem Dev.put_ring_at (i j v : Nat) (m : Nat) : (d.put i j v).ring m = d.ring m := rfl
@[simp] theorem Dev.addSat_ring_at (i j w n : Nat) (m : Nat) : (d.addSat i j w n).ring m = d.ring m := rfl
@[simp] theorem Dev.addWrap_ring_at (i j n : Nat) (m : Nat) : (d.addWrap i j n).ring m = d.ring m := rfl
@[simp] theorem Dev.putInt_ring_at (i j w : Nat) (v : Int) (m : Nat) : (d.putInt i j w v).ring m = d.ring m := rfl
@[simp] theorem Dev.emit_ring_at (o : Out) (m : Nat) : (d.emit o).ring m = d.ring m := rfl
@[simp] theorem Dev.draw_ring_at (m : Nat) : (d.draw).ring m = d.ring m := rfl
@[simp] theorem Dev.setCpl_ring_at (n : Nat) (c : CplRing) (m : Nat) : (d.setCpl n c).ring m = d.ring m := rfl
@[simp] theorem Dev.setCounter_ring_at (c v : Nat) (m : Nat) : (d.setCounter c v).ring m = d.ring m := rfl
@[simp] theorem Dev.setPort_ring_at (p : Nat) (x : Port) (m : Nat) : (d.setPort p x).ring m = d.ring m := rfl
@[simp] theorem Dev.setPax_ring_at (p : Nat) (x : PortAux) (m : Nat) : (d.setPax p x).ring m = d.ring m := rfl
@[simp] theorem Dev.setTile_ring_at (t : Nat) (x : Tile) (m : Nat) : (d.setTile t x).ring m = d.ring m := rfl
@[simp] theorem Dev.setLeash_ring_at (n : Nat) (x : Leash) (m : Nat) : (d.setLeash n x).ring m = d.ring m := rfl
@[simp] theorem Dev.setUnit_ring_at (u : Nat) (x : SnUnit) (m : Nat) : (d.setUnit u x).ring m = d.ring m := rfl
@[simp] theorem Dev.setDomain_ring_at (k : Nat) (x : Domain) (m : Nat) : (d.setDomain k x).ring m = d.ring m := rfl
@[simp] theorem Dev.setSource_ring_at (k : Nat) (x : Source) (m : Nat) : (d.setSource k x).ring m = d.ring m := rfl
@[simp] theorem Dev.wr_ring_at (a : Nat) (l : List Byte) (p : Bool) (m : Nat) : (d.wr a l p).ring m = d.ring m := rfl
@[simp] theorem Dev.put_cpl_at (i j v : Nat) (m : Nat) : (d.put i j v).cpl m = d.cpl m := rfl
@[simp] theorem Dev.addSat_cpl_at (i j w n : Nat) (m : Nat) : (d.addSat i j w n).cpl m = d.cpl m := rfl
@[simp] theorem Dev.addWrap_cpl_at (i j n : Nat) (m : Nat) : (d.addWrap i j n).cpl m = d.cpl m := rfl
@[simp] theorem Dev.putInt_cpl_at (i j w : Nat) (v : Int) (m : Nat) : (d.putInt i j w v).cpl m = d.cpl m := rfl
@[simp] theorem Dev.emit_cpl_at (o : Out) (m : Nat) : (d.emit o).cpl m = d.cpl m := rfl
@[simp] theorem Dev.draw_cpl_at (m : Nat) : (d.draw).cpl m = d.cpl m := rfl
@[simp] theorem Dev.setRing_cpl_at (n : Nat) (r : Ring) (m : Nat) : (d.setRing n r).cpl m = d.cpl m := rfl
@[simp] theorem Dev.setCounter_cpl_at (c v : Nat) (m : Nat) : (d.setCounter c v).cpl m = d.cpl m := rfl
@[simp] theorem Dev.setPort_cpl_at (p : Nat) (x : Port) (m : Nat) : (d.setPort p x).cpl m = d.cpl m := rfl
@[simp] theorem Dev.setPax_cpl_at (p : Nat) (x : PortAux) (m : Nat) : (d.setPax p x).cpl m = d.cpl m := rfl
@[simp] theorem Dev.setTile_cpl_at (t : Nat) (x : Tile) (m : Nat) : (d.setTile t x).cpl m = d.cpl m := rfl
@[simp] theorem Dev.setLeash_cpl_at (n : Nat) (x : Leash) (m : Nat) : (d.setLeash n x).cpl m = d.cpl m := rfl
@[simp] theorem Dev.setUnit_cpl_at (u : Nat) (x : SnUnit) (m : Nat) : (d.setUnit u x).cpl m = d.cpl m := rfl
@[simp] theorem Dev.setDomain_cpl_at (k : Nat) (x : Domain) (m : Nat) : (d.setDomain k x).cpl m = d.cpl m := rfl
@[simp] theorem Dev.setSource_cpl_at (k : Nat) (x : Source) (m : Nat) : (d.setSource k x).cpl m = d.cpl m := rfl
@[simp] theorem Dev.wr_cpl_at (a : Nat) (l : List Byte) (p : Bool) (m : Nat) : (d.wr a l p).cpl m = d.cpl m := rfl
@[simp] theorem Dev.put_counter_at (i j v : Nat) (m : Nat) : (d.put i j v).counter m = d.counter m := rfl
@[simp] theorem Dev.addSat_counter_at (i j w n : Nat) (m : Nat) : (d.addSat i j w n).counter m = d.counter m := rfl
@[simp] theorem Dev.addWrap_counter_at (i j n : Nat) (m : Nat) : (d.addWrap i j n).counter m = d.counter m := rfl
@[simp] theorem Dev.putInt_counter_at (i j w : Nat) (v : Int) (m : Nat) : (d.putInt i j w v).counter m = d.counter m := rfl
@[simp] theorem Dev.emit_counter_at (o : Out) (m : Nat) : (d.emit o).counter m = d.counter m := rfl
@[simp] theorem Dev.draw_counter_at (m : Nat) : (d.draw).counter m = d.counter m := rfl
@[simp] theorem Dev.setRing_counter_at (n : Nat) (r : Ring) (m : Nat) : (d.setRing n r).counter m = d.counter m := rfl
@[simp] theorem Dev.setCpl_counter_at (n : Nat) (c : CplRing) (m : Nat) : (d.setCpl n c).counter m = d.counter m := rfl
@[simp] theorem Dev.setPort_counter_at (p : Nat) (x : Port) (m : Nat) : (d.setPort p x).counter m = d.counter m := rfl
@[simp] theorem Dev.setPax_counter_at (p : Nat) (x : PortAux) (m : Nat) : (d.setPax p x).counter m = d.counter m := rfl
@[simp] theorem Dev.setTile_counter_at (t : Nat) (x : Tile) (m : Nat) : (d.setTile t x).counter m = d.counter m := rfl
@[simp] theorem Dev.setLeash_counter_at (n : Nat) (x : Leash) (m : Nat) : (d.setLeash n x).counter m = d.counter m := rfl
@[simp] theorem Dev.setUnit_counter_at (u : Nat) (x : SnUnit) (m : Nat) : (d.setUnit u x).counter m = d.counter m := rfl
@[simp] theorem Dev.setDomain_counter_at (k : Nat) (x : Domain) (m : Nat) : (d.setDomain k x).counter m = d.counter m := rfl
@[simp] theorem Dev.setSource_counter_at (k : Nat) (x : Source) (m : Nat) : (d.setSource k x).counter m = d.counter m := rfl
@[simp] theorem Dev.wr_counter_at (a : Nat) (l : List Byte) (p : Bool) (m : Nat) : (d.wr a l p).counter m = d.counter m := rfl
@[simp] theorem Dev.put_port_at (i j v : Nat) (m : Nat) : (d.put i j v).port m = d.port m := rfl
@[simp] theorem Dev.addSat_port_at (i j w n : Nat) (m : Nat) : (d.addSat i j w n).port m = d.port m := rfl
@[simp] theorem Dev.addWrap_port_at (i j n : Nat) (m : Nat) : (d.addWrap i j n).port m = d.port m := rfl
@[simp] theorem Dev.putInt_port_at (i j w : Nat) (v : Int) (m : Nat) : (d.putInt i j w v).port m = d.port m := rfl
@[simp] theorem Dev.emit_port_at (o : Out) (m : Nat) : (d.emit o).port m = d.port m := rfl
@[simp] theorem Dev.draw_port_at (m : Nat) : (d.draw).port m = d.port m := rfl
@[simp] theorem Dev.setRing_port_at (n : Nat) (r : Ring) (m : Nat) : (d.setRing n r).port m = d.port m := rfl
@[simp] theorem Dev.setCpl_port_at (n : Nat) (c : CplRing) (m : Nat) : (d.setCpl n c).port m = d.port m := rfl
@[simp] theorem Dev.setCounter_port_at (c v : Nat) (m : Nat) : (d.setCounter c v).port m = d.port m := rfl
@[simp] theorem Dev.setPax_port_at (p : Nat) (x : PortAux) (m : Nat) : (d.setPax p x).port m = d.port m := rfl
@[simp] theorem Dev.setTile_port_at (t : Nat) (x : Tile) (m : Nat) : (d.setTile t x).port m = d.port m := rfl
@[simp] theorem Dev.setLeash_port_at (n : Nat) (x : Leash) (m : Nat) : (d.setLeash n x).port m = d.port m := rfl
@[simp] theorem Dev.setUnit_port_at (u : Nat) (x : SnUnit) (m : Nat) : (d.setUnit u x).port m = d.port m := rfl
@[simp] theorem Dev.setDomain_port_at (k : Nat) (x : Domain) (m : Nat) : (d.setDomain k x).port m = d.port m := rfl
@[simp] theorem Dev.setSource_port_at (k : Nat) (x : Source) (m : Nat) : (d.setSource k x).port m = d.port m := rfl
@[simp] theorem Dev.wr_port_at (a : Nat) (l : List Byte) (p : Bool) (m : Nat) : (d.wr a l p).port m = d.port m := rfl
@[simp] theorem Dev.put_pax_at (i j v : Nat) (m : Nat) : (d.put i j v).pax m = d.pax m := rfl
@[simp] theorem Dev.addSat_pax_at (i j w n : Nat) (m : Nat) : (d.addSat i j w n).pax m = d.pax m := rfl
@[simp] theorem Dev.addWrap_pax_at (i j n : Nat) (m : Nat) : (d.addWrap i j n).pax m = d.pax m := rfl
@[simp] theorem Dev.putInt_pax_at (i j w : Nat) (v : Int) (m : Nat) : (d.putInt i j w v).pax m = d.pax m := rfl
@[simp] theorem Dev.emit_pax_at (o : Out) (m : Nat) : (d.emit o).pax m = d.pax m := rfl
@[simp] theorem Dev.draw_pax_at (m : Nat) : (d.draw).pax m = d.pax m := rfl
@[simp] theorem Dev.setRing_pax_at (n : Nat) (r : Ring) (m : Nat) : (d.setRing n r).pax m = d.pax m := rfl
@[simp] theorem Dev.setCpl_pax_at (n : Nat) (c : CplRing) (m : Nat) : (d.setCpl n c).pax m = d.pax m := rfl
@[simp] theorem Dev.setCounter_pax_at (c v : Nat) (m : Nat) : (d.setCounter c v).pax m = d.pax m := rfl
@[simp] theorem Dev.setPort_pax_at (p : Nat) (x : Port) (m : Nat) : (d.setPort p x).pax m = d.pax m := rfl
@[simp] theorem Dev.setTile_pax_at (t : Nat) (x : Tile) (m : Nat) : (d.setTile t x).pax m = d.pax m := rfl
@[simp] theorem Dev.setLeash_pax_at (n : Nat) (x : Leash) (m : Nat) : (d.setLeash n x).pax m = d.pax m := rfl
@[simp] theorem Dev.setUnit_pax_at (u : Nat) (x : SnUnit) (m : Nat) : (d.setUnit u x).pax m = d.pax m := rfl
@[simp] theorem Dev.setDomain_pax_at (k : Nat) (x : Domain) (m : Nat) : (d.setDomain k x).pax m = d.pax m := rfl
@[simp] theorem Dev.setSource_pax_at (k : Nat) (x : Source) (m : Nat) : (d.setSource k x).pax m = d.pax m := rfl
@[simp] theorem Dev.wr_pax_at (a : Nat) (l : List Byte) (p : Bool) (m : Nat) : (d.wr a l p).pax m = d.pax m := rfl
@[simp] theorem Dev.put_tile_at (i j v : Nat) (m : Nat) : (d.put i j v).tile m = d.tile m := rfl
@[simp] theorem Dev.addSat_tile_at (i j w n : Nat) (m : Nat) : (d.addSat i j w n).tile m = d.tile m := rfl
@[simp] theorem Dev.addWrap_tile_at (i j n : Nat) (m : Nat) : (d.addWrap i j n).tile m = d.tile m := rfl
@[simp] theorem Dev.putInt_tile_at (i j w : Nat) (v : Int) (m : Nat) : (d.putInt i j w v).tile m = d.tile m := rfl
@[simp] theorem Dev.emit_tile_at (o : Out) (m : Nat) : (d.emit o).tile m = d.tile m := rfl
@[simp] theorem Dev.draw_tile_at (m : Nat) : (d.draw).tile m = d.tile m := rfl
@[simp] theorem Dev.setRing_tile_at (n : Nat) (r : Ring) (m : Nat) : (d.setRing n r).tile m = d.tile m := rfl
@[simp] theorem Dev.setCpl_tile_at (n : Nat) (c : CplRing) (m : Nat) : (d.setCpl n c).tile m = d.tile m := rfl
@[simp] theorem Dev.setCounter_tile_at (c v : Nat) (m : Nat) : (d.setCounter c v).tile m = d.tile m := rfl
@[simp] theorem Dev.setPort_tile_at (p : Nat) (x : Port) (m : Nat) : (d.setPort p x).tile m = d.tile m := rfl
@[simp] theorem Dev.setPax_tile_at (p : Nat) (x : PortAux) (m : Nat) : (d.setPax p x).tile m = d.tile m := rfl
@[simp] theorem Dev.setLeash_tile_at (n : Nat) (x : Leash) (m : Nat) : (d.setLeash n x).tile m = d.tile m := rfl
@[simp] theorem Dev.setUnit_tile_at (u : Nat) (x : SnUnit) (m : Nat) : (d.setUnit u x).tile m = d.tile m := rfl
@[simp] theorem Dev.setDomain_tile_at (k : Nat) (x : Domain) (m : Nat) : (d.setDomain k x).tile m = d.tile m := rfl
@[simp] theorem Dev.setSource_tile_at (k : Nat) (x : Source) (m : Nat) : (d.setSource k x).tile m = d.tile m := rfl
@[simp] theorem Dev.wr_tile_at (a : Nat) (l : List Byte) (p : Bool) (m : Nat) : (d.wr a l p).tile m = d.tile m := rfl
@[simp] theorem Dev.put_leash_at (i j v : Nat) (m : Nat) : (d.put i j v).leash m = d.leash m := rfl
@[simp] theorem Dev.addSat_leash_at (i j w n : Nat) (m : Nat) : (d.addSat i j w n).leash m = d.leash m := rfl
@[simp] theorem Dev.addWrap_leash_at (i j n : Nat) (m : Nat) : (d.addWrap i j n).leash m = d.leash m := rfl
@[simp] theorem Dev.putInt_leash_at (i j w : Nat) (v : Int) (m : Nat) : (d.putInt i j w v).leash m = d.leash m := rfl
@[simp] theorem Dev.emit_leash_at (o : Out) (m : Nat) : (d.emit o).leash m = d.leash m := rfl
@[simp] theorem Dev.draw_leash_at (m : Nat) : (d.draw).leash m = d.leash m := rfl
@[simp] theorem Dev.setRing_leash_at (n : Nat) (r : Ring) (m : Nat) : (d.setRing n r).leash m = d.leash m := rfl
@[simp] theorem Dev.setCpl_leash_at (n : Nat) (c : CplRing) (m : Nat) : (d.setCpl n c).leash m = d.leash m := rfl
@[simp] theorem Dev.setCounter_leash_at (c v : Nat) (m : Nat) : (d.setCounter c v).leash m = d.leash m := rfl
@[simp] theorem Dev.setPort_leash_at (p : Nat) (x : Port) (m : Nat) : (d.setPort p x).leash m = d.leash m := rfl
@[simp] theorem Dev.setPax_leash_at (p : Nat) (x : PortAux) (m : Nat) : (d.setPax p x).leash m = d.leash m := rfl
@[simp] theorem Dev.setTile_leash_at (t : Nat) (x : Tile) (m : Nat) : (d.setTile t x).leash m = d.leash m := rfl
@[simp] theorem Dev.setUnit_leash_at (u : Nat) (x : SnUnit) (m : Nat) : (d.setUnit u x).leash m = d.leash m := rfl
@[simp] theorem Dev.setDomain_leash_at (k : Nat) (x : Domain) (m : Nat) : (d.setDomain k x).leash m = d.leash m := rfl
@[simp] theorem Dev.setSource_leash_at (k : Nat) (x : Source) (m : Nat) : (d.setSource k x).leash m = d.leash m := rfl
@[simp] theorem Dev.wr_leash_at (a : Nat) (l : List Byte) (p : Bool) (m : Nat) : (d.wr a l p).leash m = d.leash m := rfl
@[simp] theorem Dev.put_unit_at (i j v : Nat) (m : Nat) : (d.put i j v).unit m = d.unit m := rfl
@[simp] theorem Dev.addSat_unit_at (i j w n : Nat) (m : Nat) : (d.addSat i j w n).unit m = d.unit m := rfl
@[simp] theorem Dev.addWrap_unit_at (i j n : Nat) (m : Nat) : (d.addWrap i j n).unit m = d.unit m := rfl
@[simp] theorem Dev.putInt_unit_at (i j w : Nat) (v : Int) (m : Nat) : (d.putInt i j w v).unit m = d.unit m := rfl
@[simp] theorem Dev.emit_unit_at (o : Out) (m : Nat) : (d.emit o).unit m = d.unit m := rfl
@[simp] theorem Dev.draw_unit_at (m : Nat) : (d.draw).unit m = d.unit m := rfl
@[simp] theorem Dev.setRing_unit_at (n : Nat) (r : Ring) (m : Nat) : (d.setRing n r).unit m = d.unit m := rfl
@[simp] theorem Dev.setCpl_unit_at (n : Nat) (c : CplRing) (m : Nat) : (d.setCpl n c).unit m = d.unit m := rfl
@[simp] theorem Dev.setCounter_unit_at (c v : Nat) (m : Nat) : (d.setCounter c v).unit m = d.unit m := rfl
@[simp] theorem Dev.setPort_unit_at (p : Nat) (x : Port) (m : Nat) : (d.setPort p x).unit m = d.unit m := rfl
@[simp] theorem Dev.setPax_unit_at (p : Nat) (x : PortAux) (m : Nat) : (d.setPax p x).unit m = d.unit m := rfl
@[simp] theorem Dev.setTile_unit_at (t : Nat) (x : Tile) (m : Nat) : (d.setTile t x).unit m = d.unit m := rfl
@[simp] theorem Dev.setLeash_unit_at (n : Nat) (x : Leash) (m : Nat) : (d.setLeash n x).unit m = d.unit m := rfl
@[simp] theorem Dev.setDomain_unit_at (k : Nat) (x : Domain) (m : Nat) : (d.setDomain k x).unit m = d.unit m := rfl
@[simp] theorem Dev.setSource_unit_at (k : Nat) (x : Source) (m : Nat) : (d.setSource k x).unit m = d.unit m := rfl
@[simp] theorem Dev.wr_unit_at (a : Nat) (l : List Byte) (p : Bool) (m : Nat) : (d.wr a l p).unit m = d.unit m := rfl
@[simp] theorem Dev.put_domain_at (i j v : Nat) (m : Nat) : (d.put i j v).domain m = d.domain m := rfl
@[simp] theorem Dev.addSat_domain_at (i j w n : Nat) (m : Nat) : (d.addSat i j w n).domain m = d.domain m := rfl
@[simp] theorem Dev.addWrap_domain_at (i j n : Nat) (m : Nat) : (d.addWrap i j n).domain m = d.domain m := rfl
@[simp] theorem Dev.putInt_domain_at (i j w : Nat) (v : Int) (m : Nat) : (d.putInt i j w v).domain m = d.domain m := rfl
@[simp] theorem Dev.emit_domain_at (o : Out) (m : Nat) : (d.emit o).domain m = d.domain m := rfl
@[simp] theorem Dev.draw_domain_at (m : Nat) : (d.draw).domain m = d.domain m := rfl
@[simp] theorem Dev.setRing_domain_at (n : Nat) (r : Ring) (m : Nat) : (d.setRing n r).domain m = d.domain m := rfl
@[simp] theorem Dev.setCpl_domain_at (n : Nat) (c : CplRing) (m : Nat) : (d.setCpl n c).domain m = d.domain m := rfl
@[simp] theorem Dev.setCounter_domain_at (c v : Nat) (m : Nat) : (d.setCounter c v).domain m = d.domain m := rfl
@[simp] theorem Dev.setPort_domain_at (p : Nat) (x : Port) (m : Nat) : (d.setPort p x).domain m = d.domain m := rfl
@[simp] theorem Dev.setPax_domain_at (p : Nat) (x : PortAux) (m : Nat) : (d.setPax p x).domain m = d.domain m := rfl
@[simp] theorem Dev.setTile_domain_at (t : Nat) (x : Tile) (m : Nat) : (d.setTile t x).domain m = d.domain m := rfl
@[simp] theorem Dev.setLeash_domain_at (n : Nat) (x : Leash) (m : Nat) : (d.setLeash n x).domain m = d.domain m := rfl
@[simp] theorem Dev.setUnit_domain_at (u : Nat) (x : SnUnit) (m : Nat) : (d.setUnit u x).domain m = d.domain m := rfl
@[simp] theorem Dev.setSource_domain_at (k : Nat) (x : Source) (m : Nat) : (d.setSource k x).domain m = d.domain m := rfl
@[simp] theorem Dev.wr_domain_at (a : Nat) (l : List Byte) (p : Bool) (m : Nat) : (d.wr a l p).domain m = d.domain m := rfl
@[simp] theorem Dev.put_source_at (i j v : Nat) (m : Nat) : (d.put i j v).source m = d.source m := rfl
@[simp] theorem Dev.addSat_source_at (i j w n : Nat) (m : Nat) : (d.addSat i j w n).source m = d.source m := rfl
@[simp] theorem Dev.addWrap_source_at (i j n : Nat) (m : Nat) : (d.addWrap i j n).source m = d.source m := rfl
@[simp] theorem Dev.putInt_source_at (i j w : Nat) (v : Int) (m : Nat) : (d.putInt i j w v).source m = d.source m := rfl
@[simp] theorem Dev.emit_source_at (o : Out) (m : Nat) : (d.emit o).source m = d.source m := rfl
@[simp] theorem Dev.draw_source_at (m : Nat) : (d.draw).source m = d.source m := rfl
@[simp] theorem Dev.setRing_source_at (n : Nat) (r : Ring) (m : Nat) : (d.setRing n r).source m = d.source m := rfl
@[simp] theorem Dev.setCpl_source_at (n : Nat) (c : CplRing) (m : Nat) : (d.setCpl n c).source m = d.source m := rfl
@[simp] theorem Dev.setCounter_source_at (c v : Nat) (m : Nat) : (d.setCounter c v).source m = d.source m := rfl
@[simp] theorem Dev.setPort_source_at (p : Nat) (x : Port) (m : Nat) : (d.setPort p x).source m = d.source m := rfl
@[simp] theorem Dev.setPax_source_at (p : Nat) (x : PortAux) (m : Nat) : (d.setPax p x).source m = d.source m := rfl
@[simp] theorem Dev.setTile_source_at (t : Nat) (x : Tile) (m : Nat) : (d.setTile t x).source m = d.source m := rfl
@[simp] theorem Dev.setLeash_source_at (n : Nat) (x : Leash) (m : Nat) : (d.setLeash n x).source m = d.source m := rfl
@[simp] theorem Dev.setUnit_source_at (u : Nat) (x : SnUnit) (m : Nat) : (d.setUnit u x).source m = d.source m := rfl
@[simp] theorem Dev.setDomain_source_at (k : Nat) (x : Domain) (m : Nat) : (d.setDomain k x).source m = d.source m := rfl
@[simp] theorem Dev.wr_source_at (a : Nat) (l : List Byte) (p : Bool) (m : Nat) : (d.wr a l p).source m = d.source m := rfl

/-- The meaning of a command by `run` keeps the queue and the fuses. -/
theorem run_next (s : State) (f : Nat → Dev → Dev) :
    run s f = .next ⟨s.pending, s.fuse, f s.fuse s.dev⟩ := rfl

end Sys2Proof.Machine
end

