-- ==== Sys2Proof/Laws/Notice.lean ====
section
/-! SUPPORT. What an event and the other notices can change (`mute` blanks all of it), and what they leave alone. -/

namespace Sys2Proof.Machine

variable (d : Dev)

@[simp] theorem Dev.put_mute (i j v : Nat) : (d.put i j v).mute = d.mute := rfl
@[simp] theorem Dev.addSat_mute (i j w n : Nat) : (d.addSat i j w n).mute = d.mute := rfl
@[simp] theorem Dev.addWrap_mute (i j n : Nat) : (d.addWrap i j n).mute = d.mute := rfl
@[simp] theorem Dev.emit_mute (o : Out) : (d.emit o).mute = d.mute := rfl

@[simp] theorem Dev.note_mute (k c a : Nat) : (d.note k c a).mute = d.mute := by
  unfold Dev.note; split <;> [rfl; (dsimp only; split <;> rfl)]

@[simp] theorem Dev.trigger_mute (b : Nat) : (d.trigger b).mute = d.mute := by
  unfold Dev.trigger; split <;> rfl

@[simp] theorem Dev.ledger_mute (k : Nat) (l : List Byte) : (d.ledger k l).mute = d.mute := by
  unfold Dev.ledger; dsimp only; split <;> rfl

@[simp] theorem Dev.post_mute (a : Nat) (l : List Byte) : (d.post a l).mute = d.mute := by
  unfold Dev.post; split <;> rfl

@[simp] theorem Dev.message_mute (v : Nat) : (d.message v).mute = d.mute := by
  unfold Dev.message; split <;> [rfl; (split <;> rfl)]

@[simp] theorem Dev.frame_mute (a : BitVec 128) (u : BitVec 16) (h : Envelope) (l : List Byte) : (d.frame a u h l).mute = d.mute := by
  unfold Dev.frame; split <;> rfl

@[simp] theorem Dev.notifyOne_mute (c e r i : Nat) : (d.notifyOne c e r i).mute = d.mute := by
  unfold Dev.notifyOne
  split
  · split
    · rfl
    · split
      · exact Dev.frame_mute d _ _ _ _
      · split <;> rfl
  · rfl

@[simp] theorem Dev.notify_mute (c e r : Nat) : (d.notify c e r).mute = d.mute := by
  unfold Dev.notify
  generalize below 4 = l
  induction l generalizing d with
  | nil => rfl
  | cons i t ih => simp [ih]

@[simp] theorem Dev.evqPut_mute (c a b e : Nat) : (d.evqPut c a b e).mute = d.mute := by
  unfold Dev.evqPut
  dsimp only
  split
  · rfl
  · split
    · rfl
    · split
      · rw [Dev.message_mute]; exact Dev.post_mute d _ _
      · exact Dev.post_mute d _ _

@[simp] theorem Dev.report_mute (c a b : Nat) (l : Bool) : (d.report c a b l).mute = d.mute := by
  unfold Dev.report
  dsimp only
  split <;> simp

@[simp] theorem Dev.raise_mute (c a b : Nat) : (d.raise c a b).mute = d.mute := Dev.report_mute d c a b true
@[simp] theorem Dev.raiseRec_mute (c r : Nat) : (d.raiseRec c r).mute = d.mute := Dev.raise_mute d _ _ _

/-! Field by field -/

theorem Dev.of_mute_now {a b : Dev} (h : a.mute = b.mute) : a.now = b.now := by
  have h' := congrArg Dev.now h; exact h'
theorem Dev.of_mute_draws {a b : Dev} (h : a.mute = b.mute) : a.draws = b.draws := by
  have h' := congrArg Dev.draws h; exact h'
theorem Dev.of_mute_limits {a b : Dev} (h : a.mute = b.mute) : a.limits = b.limits := by
  have h' := congrArg Dev.limits h; exact h'
theorem Dev.of_mute_mem {a b : Dev} (h : a.mute = b.mute) : a.mem = b.mem := by
  have h' := congrArg Dev.mem h; exact h'
theorem Dev.of_mute_disp {a b : Dev} (h : a.mute = b.mute) : a.disp = b.disp := by
  have h' := congrArg Dev.disp h; exact h'
theorem Dev.of_mute_cmp {a b : Dev} (h : a.mute = b.mute) : a.cmp = b.cmp := by
  have h' := congrArg Dev.cmp h; exact h'
theorem Dev.of_mute_ports {a b : Dev} (h : a.mute = b.mute) : a.ports = b.ports := by
  have h' := congrArg Dev.ports h; exact h'
theorem Dev.of_mute_aux {a b : Dev} (h : a.mute = b.mute) : a.aux = b.aux := by
  have h' := congrArg Dev.aux h; exact h'
theorem Dev.of_mute_waiting {a b : Dev} (h : a.mute = b.mute) : a.waiting = b.waiting := by
  have h' := congrArg Dev.waiting h; exact h'
theorem Dev.of_mute_tb {a b : Dev} (h : a.mute = b.mute) : a.tb = b.tb := by
  have h' := congrArg Dev.tb h; exact h'
theorem Dev.of_mute_slots {a b : Dev} (h : a.mute = b.mute) : a.slots = b.slots := by
  have h' := congrArg Dev.slots h; exact h'
theorem Dev.of_mute_eng {a b : Dev} (h : a.mute = b.mute) : a.eng = b.eng := by
  have h' := congrArg Dev.eng h; exact h'
theorem Dev.of_mute_howls {a b : Dev} (h : a.mute = b.mute) : a.howls = b.howls := by
  have h' := congrArg Dev.howls h; exact h'
theorem Dev.of_mute_shadow {a b : Dev} (h : a.mute = b.mute) : a.shadow = b.shadow := by
  have h' := congrArg Dev.shadow h; exact h'
theorem Dev.of_mute_flaws {a b : Dev} (h : a.mute = b.mute) : a.flaws = b.flaws := by
  have h' := congrArg Dev.flaws h; exact h'
theorem Dev.of_mute_sniff {a b : Dev} (h : a.mute = b.mute) : a.sniff = b.sniff := by
  have h' := congrArg Dev.sniff h; exact h'
theorem Dev.of_mute_requests {a b : Dev} (h : a.mute = b.mute) : a.requests = b.requests := by
  have h' := congrArg Dev.requests h; exact h'
theorem Dev.of_mute_leashes {a b : Dev} (h : a.mute = b.mute) : a.leashes = b.leashes := by
  have h' := congrArg Dev.leashes h; exact h'
theorem Dev.of_mute_power {a b : Dev} (h : a.mute = b.mute) : a.power = b.power := by
  have h' := congrArg Dev.power h; exact h'
theorem Dev.of_mute_clocks {a b : Dev} (h : a.mute = b.mute) : a.clocks = b.clocks := by
  have h' := congrArg Dev.clocks h; exact h'
theorem Dev.of_mute_sec {a b : Dev} (h : a.mute = b.mute) : a.sec = b.sec := by
  have h' := congrArg Dev.sec h; exact h'
theorem Dev.of_mute_pins {a b : Dev} (h : a.mute = b.mute) : a.pins = b.pins := by
  have h' := congrArg Dev.pins h; exact h'
theorem Dev.of_mute_ring_at {a b : Dev} (h : a.mute = b.mute) (m : Nat) : a.ring m = b.ring m := by
  have h' := congrArg (fun x : Dev => x.ring m) h; exact h'
theorem Dev.of_mute_cpl_at {a b : Dev} (h : a.mute = b.mute) (m : Nat) : a.cpl m = b.cpl m := by
  have h' := congrArg (fun x : Dev => x.cpl m) h; exact h'
theorem Dev.of_mute_counter_at {a b : Dev} (h : a.mute = b.mute) (m : Nat) : a.counter m = b.counter m := by
  have h' := congrArg (fun x : Dev => x.counter m) h; exact h'
theorem Dev.of_mute_port_at {a b : Dev} (h : a.mute = b.mute) (m : Nat) : a.port m = b.port m := by
  have h' := congrArg (fun x : Dev => x.port m) h; exact h'
theorem Dev.of_mute_pax_at {a b : Dev} (h : a.mute = b.mute) (m : Nat) : a.pax m = b.pax m := by
  have h' := congrArg (fun x : Dev => x.pax m) h; exact h'
theorem Dev.of_mute_tile_at {a b : Dev} (h : a.mute = b.mute) (m : Nat) : a.tile m = b.tile m := by
  have h' := congrArg (fun x : Dev => x.tile m) h; exact h'
theorem Dev.of_mute_leash_at {a b : Dev} (h : a.mute = b.mute) (m : Nat) : a.leash m = b.leash m := by
  have h' := congrArg (fun x : Dev => x.leash m) h; exact h'
theorem Dev.of_mute_unit_at {a b : Dev} (h : a.mute = b.mute) (m : Nat) : a.unit m = b.unit m := by
  have h' := congrArg (fun x : Dev => x.unit m) h; exact h'
theorem Dev.of_mute_domain_at {a b : Dev} (h : a.mute = b.mute) (m : Nat) : a.domain m = b.domain m := by
  have h' := congrArg (fun x : Dev => x.domain m) h; exact h'
theorem Dev.of_mute_source_at {a b : Dev} (h : a.mute = b.mute) (m : Nat) : a.source m = b.source m := by
  have h' := congrArg (fun x : Dev => x.source m) h; exact h'

@[simp] theorem Dev.note_now (k c a : Nat) : (d.note k c a).now = d.now := Dev.of_mute_now (Dev.note_mute d k c a)
@[simp] theorem Dev.note_draws (k c a : Nat) : (d.note k c a).draws = d.draws := Dev.of_mute_draws (Dev.note_mute d k c a)
@[simp] theorem Dev.note_limits (k c a : Nat) : (d.note k c a).limits = d.limits := Dev.of_mute_limits (Dev.note_mute d k c a)
@[simp] theorem Dev.note_mem (k c a : Nat) : (d.note k c a).mem = d.mem := Dev.of_mute_mem (Dev.note_mute d k c a)
@[simp] theorem Dev.note_disp (k c a : Nat) : (d.note k c a).disp = d.disp := Dev.of_mute_disp (Dev.note_mute d k c a)
@[simp] theorem Dev.note_cmp (k c a : Nat) : (d.note k c a).cmp = d.cmp := Dev.of_mute_cmp (Dev.note_mute d k c a)
@[simp] theorem Dev.note_ports (k c a : Nat) : (d.note k c a).ports = d.ports := Dev.of_mute_ports (Dev.note_mute d k c a)
@[simp] theorem Dev.note_aux (k c a : Nat) : (d.note k c a).aux = d.aux := Dev.of_mute_aux (Dev.note_mute d k c a)
@[simp] theorem Dev.note_waiting (k c a : Nat) : (d.note k c a).waiting = d.waiting := Dev.of_mute_waiting (Dev.note_mute d k c a)
@[simp] theorem Dev.note_tb (k c a : Nat) : (d.note k c a).tb = d.tb := Dev.of_mute_tb (Dev.note_mute d k c a)
@[simp] theorem Dev.note_slots (k c a : Nat) : (d.note k c a).slots = d.slots := Dev.of_mute_slots (Dev.note_mute d k c a)
@[simp] theorem Dev.note_eng (k c a : Nat) : (d.note k c a).eng = d.eng := Dev.of_mute_eng (Dev.note_mute d k c a)
@[simp] theorem Dev.note_howls (k c a : Nat) : (d.note k c a).howls = d.howls := Dev.of_mute_howls (Dev.note_mute d k c a)
@[simp] theorem Dev.note_shadow (k c a : Nat) : (d.note k c a).shadow = d.shadow := Dev.of_mute_shadow (Dev.note_mute d k c a)
@[simp] theorem Dev.note_flaws (k c a : Nat) : (d.note k c a).flaws = d.flaws := Dev.of_mute_flaws (Dev.note_mute d k c a)
@[simp] theorem Dev.note_sniff (k c a : Nat) : (d.note k c a).sniff = d.sniff := Dev.of_mute_sniff (Dev.note_mute d k c a)
@[simp] theorem Dev.note_requests (k c a : Nat) : (d.note k c a).requests = d.requests := Dev.of_mute_requests (Dev.note_mute d k c a)
@[simp] theorem Dev.note_leashes (k c a : Nat) : (d.note k c a).leashes = d.leashes := Dev.of_mute_leashes (Dev.note_mute d k c a)
@[simp] theorem Dev.note_power (k c a : Nat) : (d.note k c a).power = d.power := Dev.of_mute_power (Dev.note_mute d k c a)
@[simp] theorem Dev.note_clocks (k c a : Nat) : (d.note k c a).clocks = d.clocks := Dev.of_mute_clocks (Dev.note_mute d k c a)
@[simp] theorem Dev.note_sec (k c a : Nat) : (d.note k c a).sec = d.sec := Dev.of_mute_sec (Dev.note_mute d k c a)
@[simp] theorem Dev.note_pins (k c a : Nat) : (d.note k c a).pins = d.pins := Dev.of_mute_pins (Dev.note_mute d k c a)
@[simp] theorem Dev.trigger_now (b : Nat) : (d.trigger b).now = d.now := Dev.of_mute_now (Dev.trigger_mute d b)
@[simp] theorem Dev.trigger_draws (b : Nat) : (d.trigger b).draws = d.draws := Dev.of_mute_draws (Dev.trigger_mute d b)
@[simp] theorem Dev.trigger_limits (b : Nat) : (d.trigger b).limits = d.limits := Dev.of_mute_limits (Dev.trigger_mute d b)
@[simp] theorem Dev.trigger_mem (b : Nat) : (d.trigger b).mem = d.mem := Dev.of_mute_mem (Dev.trigger_mute d b)
@[simp] theorem Dev.trigger_disp (b : Nat) : (d.trigger b).disp = d.disp := Dev.of_mute_disp (Dev.trigger_mute d b)
@[simp] theorem Dev.trigger_cmp (b : Nat) : (d.trigger b).cmp = d.cmp := Dev.of_mute_cmp (Dev.trigger_mute d b)
@[simp] theorem Dev.trigger_ports (b : Nat) : (d.trigger b).ports = d.ports := Dev.of_mute_ports (Dev.trigger_mute d b)
@[simp] theorem Dev.trigger_aux (b : Nat) : (d.trigger b).aux = d.aux := Dev.of_mute_aux (Dev.trigger_mute d b)
@[simp] theorem Dev.trigger_waiting (b : Nat) : (d.trigger b).waiting = d.waiting := Dev.of_mute_waiting (Dev.trigger_mute d b)
@[simp] theorem Dev.trigger_tb (b : Nat) : (d.trigger b).tb = d.tb := Dev.of_mute_tb (Dev.trigger_mute d b)
@[simp] theorem Dev.trigger_slots (b : Nat) : (d.trigger b).slots = d.slots := Dev.of_mute_slots (Dev.trigger_mute d b)
@[simp] theorem Dev.trigger_eng (b : Nat) : (d.trigger b).eng = d.eng := Dev.of_mute_eng (Dev.trigger_mute d b)
@[simp] theorem Dev.trigger_howls (b : Nat) : (d.trigger b).howls = d.howls := Dev.of_mute_howls (Dev.trigger_mute d b)
@[simp] theorem Dev.trigger_shadow (b : Nat) : (d.trigger b).shadow = d.shadow := Dev.of_mute_shadow (Dev.trigger_mute d b)
@[simp] theorem Dev.trigger_flaws (b : Nat) : (d.trigger b).flaws = d.flaws := Dev.of_mute_flaws (Dev.trigger_mute d b)
@[simp] theorem Dev.trigger_sniff (b : Nat) : (d.trigger b).sniff = d.sniff := Dev.of_mute_sniff (Dev.trigger_mute d b)
@[simp] theorem Dev.trigger_requests (b : Nat) : (d.trigger b).requests = d.requests := Dev.of_mute_requests (Dev.trigger_mute d b)
@[simp] theorem Dev.trigger_leashes (b : Nat) : (d.trigger b).leashes = d.leashes := Dev.of_mute_leashes (Dev.trigger_mute d b)
@[simp] theorem Dev.trigger_power (b : Nat) : (d.trigger b).power = d.power := Dev.of_mute_power (Dev.trigger_mute d b)
@[simp] theorem Dev.trigger_clocks (b : Nat) : (d.trigger b).clocks = d.clocks := Dev.of_mute_clocks (Dev.trigger_mute d b)
@[simp] theorem Dev.trigger_sec (b : Nat) : (d.trigger b).sec = d.sec := Dev.of_mute_sec (Dev.trigger_mute d b)
@[simp] theorem Dev.trigger_pins (b : Nat) : (d.trigger b).pins = d.pins := Dev.of_mute_pins (Dev.trigger_mute d b)
@[simp] theorem Dev.ledger_now (k : Nat) (l : List Byte) : (d.ledger k l).now = d.now := Dev.of_mute_now (Dev.ledger_mute d k l)
@[simp] theorem Dev.ledger_draws (k : Nat) (l : List Byte) : (d.ledger k l).draws = d.draws := Dev.of_mute_draws (Dev.ledger_mute d k l)
@[simp] theorem Dev.ledger_limits (k : Nat) (l : List Byte) : (d.ledger k l).limits = d.limits := Dev.of_mute_limits (Dev.ledger_mute d k l)
@[simp] theorem Dev.ledger_mem (k : Nat) (l : List Byte) : (d.ledger k l).mem = d.mem := Dev.of_mute_mem (Dev.ledger_mute d k l)
@[simp] theorem Dev.ledger_disp (k : Nat) (l : List Byte) : (d.ledger k l).disp = d.disp := Dev.of_mute_disp (Dev.ledger_mute d k l)
@[simp] theorem Dev.ledger_cmp (k : Nat) (l : List Byte) : (d.ledger k l).cmp = d.cmp := Dev.of_mute_cmp (Dev.ledger_mute d k l)
@[simp] theorem Dev.ledger_ports (k : Nat) (l : List Byte) : (d.ledger k l).ports = d.ports := Dev.of_mute_ports (Dev.ledger_mute d k l)
@[simp] theorem Dev.ledger_aux (k : Nat) (l : List Byte) : (d.ledger k l).aux = d.aux := Dev.of_mute_aux (Dev.ledger_mute d k l)
@[simp] theorem Dev.ledger_waiting (k : Nat) (l : List Byte) : (d.ledger k l).waiting = d.waiting := Dev.of_mute_waiting (Dev.ledger_mute d k l)
@[simp] theorem Dev.ledger_tb (k : Nat) (l : List Byte) : (d.ledger k l).tb = d.tb := Dev.of_mute_tb (Dev.ledger_mute d k l)
@[simp] theorem Dev.ledger_slots (k : Nat) (l : List Byte) : (d.ledger k l).slots = d.slots := Dev.of_mute_slots (Dev.ledger_mute d k l)
@[simp] theorem Dev.ledger_eng (k : Nat) (l : List Byte) : (d.ledger k l).eng = d.eng := Dev.of_mute_eng (Dev.ledger_mute d k l)
@[simp] theorem Dev.ledger_howls (k : Nat) (l : List Byte) : (d.ledger k l).howls = d.howls := Dev.of_mute_howls (Dev.ledger_mute d k l)
@[simp] theorem Dev.ledger_shadow (k : Nat) (l : List Byte) : (d.ledger k l).shadow = d.shadow := Dev.of_mute_shadow (Dev.ledger_mute d k l)
@[simp] theorem Dev.ledger_flaws (k : Nat) (l : List Byte) : (d.ledger k l).flaws = d.flaws := Dev.of_mute_flaws (Dev.ledger_mute d k l)
@[simp] theorem Dev.ledger_sniff (k : Nat) (l : List Byte) : (d.ledger k l).sniff = d.sniff := Dev.of_mute_sniff (Dev.ledger_mute d k l)
@[simp] theorem Dev.ledger_requests (k : Nat) (l : List Byte) : (d.ledger k l).requests = d.requests := Dev.of_mute_requests (Dev.ledger_mute d k l)
@[simp] theorem Dev.ledger_leashes (k : Nat) (l : List Byte) : (d.ledger k l).leashes = d.leashes := Dev.of_mute_leashes (Dev.ledger_mute d k l)
@[simp] theorem Dev.ledger_power (k : Nat) (l : List Byte) : (d.ledger k l).power = d.power := Dev.of_mute_power (Dev.ledger_mute d k l)
@[simp] theorem Dev.ledger_clocks (k : Nat) (l : List Byte) : (d.ledger k l).clocks = d.clocks := Dev.of_mute_clocks (Dev.ledger_mute d k l)
@[simp] theorem Dev.ledger_sec (k : Nat) (l : List Byte) : (d.ledger k l).sec = d.sec := Dev.of_mute_sec (Dev.ledger_mute d k l)
@[simp] theorem Dev.ledger_pins (k : Nat) (l : List Byte) : (d.ledger k l).pins = d.pins := Dev.of_mute_pins (Dev.ledger_mute d k l)
@[simp] theorem Dev.post_now (a : Nat) (l : List Byte) : (d.post a l).now = d.now := Dev.of_mute_now (Dev.post_mute d a l)
@[simp] theorem Dev.post_draws (a : Nat) (l : List Byte) : (d.post a l).draws = d.draws := Dev.of_mute_draws (Dev.post_mute d a l)
@[simp] theorem Dev.post_limits (a : Nat) (l : List Byte) : (d.post a l).limits = d.limits := Dev.of_mute_limits (Dev.post_mute d a l)
@[simp] theorem Dev.post_mem (a : Nat) (l : List Byte) : (d.post a l).mem = d.mem := Dev.of_mute_mem (Dev.post_mute d a l)
@[simp] theorem Dev.post_disp (a : Nat) (l : List Byte) : (d.post a l).disp = d.disp := Dev.of_mute_disp (Dev.post_mute d a l)
@[simp] theorem Dev.post_cmp (a : Nat) (l : List Byte) : (d.post a l).cmp = d.cmp := Dev.of_mute_cmp (Dev.post_mute d a l)
@[simp] theorem Dev.post_ports (a : Nat) (l : List Byte) : (d.post a l).ports = d.ports := Dev.of_mute_ports (Dev.post_mute d a l)
@[simp] theorem Dev.post_aux (a : Nat) (l : List Byte) : (d.post a l).aux = d.aux := Dev.of_mute_aux (Dev.post_mute d a l)
@[simp] theorem Dev.post_waiting (a : Nat) (l : List Byte) : (d.post a l).waiting = d.waiting := Dev.of_mute_waiting (Dev.post_mute d a l)
@[simp] theorem Dev.post_tb (a : Nat) (l : List Byte) : (d.post a l).tb = d.tb := Dev.of_mute_tb (Dev.post_mute d a l)
@[simp] theorem Dev.post_slots (a : Nat) (l : List Byte) : (d.post a l).slots = d.slots := Dev.of_mute_slots (Dev.post_mute d a l)
@[simp] theorem Dev.post_eng (a : Nat) (l : List Byte) : (d.post a l).eng = d.eng := Dev.of_mute_eng (Dev.post_mute d a l)
@[simp] theorem Dev.post_howls (a : Nat) (l : List Byte) : (d.post a l).howls = d.howls := Dev.of_mute_howls (Dev.post_mute d a l)
@[simp] theorem Dev.post_shadow (a : Nat) (l : List Byte) : (d.post a l).shadow = d.shadow := Dev.of_mute_shadow (Dev.post_mute d a l)
@[simp] theorem Dev.post_flaws (a : Nat) (l : List Byte) : (d.post a l).flaws = d.flaws := Dev.of_mute_flaws (Dev.post_mute d a l)
@[simp] theorem Dev.post_sniff (a : Nat) (l : List Byte) : (d.post a l).sniff = d.sniff := Dev.of_mute_sniff (Dev.post_mute d a l)
@[simp] theorem Dev.post_requests (a : Nat) (l : List Byte) : (d.post a l).requests = d.requests := Dev.of_mute_requests (Dev.post_mute d a l)
@[simp] theorem Dev.post_leashes (a : Nat) (l : List Byte) : (d.post a l).leashes = d.leashes := Dev.of_mute_leashes (Dev.post_mute d a l)
@[simp] theorem Dev.post_power (a : Nat) (l : List Byte) : (d.post a l).power = d.power := Dev.of_mute_power (Dev.post_mute d a l)
@[simp] theorem Dev.post_clocks (a : Nat) (l : List Byte) : (d.post a l).clocks = d.clocks := Dev.of_mute_clocks (Dev.post_mute d a l)
@[simp] theorem Dev.post_sec (a : Nat) (l : List Byte) : (d.post a l).sec = d.sec := Dev.of_mute_sec (Dev.post_mute d a l)
@[simp] theorem Dev.post_pins (a : Nat) (l : List Byte) : (d.post a l).pins = d.pins := Dev.of_mute_pins (Dev.post_mute d a l)
@[simp] theorem Dev.message_now (v : Nat) : (d.message v).now = d.now := Dev.of_mute_now (Dev.message_mute d v)
@[simp] theorem Dev.message_draws (v : Nat) : (d.message v).draws = d.draws := Dev.of_mute_draws (Dev.message_mute d v)
@[simp] theorem Dev.message_limits (v : Nat) : (d.message v).limits = d.limits := Dev.of_mute_limits (Dev.message_mute d v)
@[simp] theorem Dev.message_mem (v : Nat) : (d.message v).mem = d.mem := Dev.of_mute_mem (Dev.message_mute d v)
@[simp] theorem Dev.message_disp (v : Nat) : (d.message v).disp = d.disp := Dev.of_mute_disp (Dev.message_mute d v)
@[simp] theorem Dev.message_cmp (v : Nat) : (d.message v).cmp = d.cmp := Dev.of_mute_cmp (Dev.message_mute d v)
@[simp] theorem Dev.message_ports (v : Nat) : (d.message v).ports = d.ports := Dev.of_mute_ports (Dev.message_mute d v)
@[simp] theorem Dev.message_aux (v : Nat) : (d.message v).aux = d.aux := Dev.of_mute_aux (Dev.message_mute d v)
@[simp] theorem Dev.message_waiting (v : Nat) : (d.message v).waiting = d.waiting := Dev.of_mute_waiting (Dev.message_mute d v)
@[simp] theorem Dev.message_tb (v : Nat) : (d.message v).tb = d.tb := Dev.of_mute_tb (Dev.message_mute d v)
@[simp] theorem Dev.message_slots (v : Nat) : (d.message v).slots = d.slots := Dev.of_mute_slots (Dev.message_mute d v)
@[simp] theorem Dev.message_eng (v : Nat) : (d.message v).eng = d.eng := Dev.of_mute_eng (Dev.message_mute d v)
@[simp] theorem Dev.message_howls (v : Nat) : (d.message v).howls = d.howls := Dev.of_mute_howls (Dev.message_mute d v)
@[simp] theorem Dev.message_shadow (v : Nat) : (d.message v).shadow = d.shadow := Dev.of_mute_shadow (Dev.message_mute d v)
@[simp] theorem Dev.message_flaws (v : Nat) : (d.message v).flaws = d.flaws := Dev.of_mute_flaws (Dev.message_mute d v)
@[simp] theorem Dev.message_sniff (v : Nat) : (d.message v).sniff = d.sniff := Dev.of_mute_sniff (Dev.message_mute d v)
@[simp] theorem Dev.message_requests (v : Nat) : (d.message v).requests = d.requests := Dev.of_mute_requests (Dev.message_mute d v)
@[simp] theorem Dev.message_leashes (v : Nat) : (d.message v).leashes = d.leashes := Dev.of_mute_leashes (Dev.message_mute d v)
@[simp] theorem Dev.message_power (v : Nat) : (d.message v).power = d.power := Dev.of_mute_power (Dev.message_mute d v)
@[simp] theorem Dev.message_clocks (v : Nat) : (d.message v).clocks = d.clocks := Dev.of_mute_clocks (Dev.message_mute d v)
@[simp] theorem Dev.message_sec (v : Nat) : (d.message v).sec = d.sec := Dev.of_mute_sec (Dev.message_mute d v)
@[simp] theorem Dev.message_pins (v : Nat) : (d.message v).pins = d.pins := Dev.of_mute_pins (Dev.message_mute d v)
@[simp] theorem Dev.frame_now (a : BitVec 128) (u : BitVec 16) (h : Envelope) (l : List Byte) : (d.frame a u h l).now = d.now := Dev.of_mute_now (Dev.frame_mute d a u h l)
@[simp] theorem Dev.frame_draws (a : BitVec 128) (u : BitVec 16) (h : Envelope) (l : List Byte) : (d.frame a u h l).draws = d.draws := Dev.of_mute_draws (Dev.frame_mute d a u h l)
@[simp] theorem Dev.frame_limits (a : BitVec 128) (u : BitVec 16) (h : Envelope) (l : List Byte) : (d.frame a u h l).limits = d.limits := Dev.of_mute_limits (Dev.frame_mute d a u h l)
@[simp] theorem Dev.frame_mem (a : BitVec 128) (u : BitVec 16) (h : Envelope) (l : List Byte) : (d.frame a u h l).mem = d.mem := Dev.of_mute_mem (Dev.frame_mute d a u h l)
@[simp] theorem Dev.frame_disp (a : BitVec 128) (u : BitVec 16) (h : Envelope) (l : List Byte) : (d.frame a u h l).disp = d.disp := Dev.of_mute_disp (Dev.frame_mute d a u h l)
@[simp] theorem Dev.frame_cmp (a : BitVec 128) (u : BitVec 16) (h : Envelope) (l : List Byte) : (d.frame a u h l).cmp = d.cmp := Dev.of_mute_cmp (Dev.frame_mute d a u h l)
@[simp] theorem Dev.frame_ports (a : BitVec 128) (u : BitVec 16) (h : Envelope) (l : List Byte) : (d.frame a u h l).ports = d.ports := Dev.of_mute_ports (Dev.frame_mute d a u h l)
@[simp] theorem Dev.frame_aux (a : BitVec 128) (u : BitVec 16) (h : Envelope) (l : List Byte) : (d.frame a u h l).aux = d.aux := Dev.of_mute_aux (Dev.frame_mute d a u h l)
@[simp] theorem Dev.frame_waiting (a : BitVec 128) (u : BitVec 16) (h : Envelope) (l : List Byte) : (d.frame a u h l).waiting = d.waiting := Dev.of_mute_waiting (Dev.frame_mute d a u h l)
@[simp] theorem Dev.frame_tb (a : BitVec 128) (u : BitVec 16) (h : Envelope) (l : List Byte) : (d.frame a u h l).tb = d.tb := Dev.of_mute_tb (Dev.frame_mute d a u h l)
@[simp] theorem Dev.frame_slots (a : BitVec 128) (u : BitVec 16) (h : Envelope) (l : List Byte) : (d.frame a u h l).slots = d.slots := Dev.of_mute_slots (Dev.frame_mute d a u h l)
@[simp] theorem Dev.frame_eng (a : BitVec 128) (u : BitVec 16) (h : Envelope) (l : List Byte) : (d.frame a u h l).eng = d.eng := Dev.of_mute_eng (Dev.frame_mute d a u h l)
@[simp] theorem Dev.frame_howls (a : BitVec 128) (u : BitVec 16) (h : Envelope) (l : List Byte) : (d.frame a u h l).howls = d.howls := Dev.of_mute_howls (Dev.frame_mute d a u h l)
@[simp] theorem Dev.frame_shadow (a : BitVec 128) (u : BitVec 16) (h : Envelope) (l : List Byte) : (d.frame a u h l).shadow = d.shadow := Dev.of_mute_shadow (Dev.frame_mute d a u h l)
@[simp] theorem Dev.frame_flaws (a : BitVec 128) (u : BitVec 16) (h : Envelope) (l : List Byte) : (d.frame a u h l).flaws = d.flaws := Dev.of_mute_flaws (Dev.frame_mute d a u h l)
@[simp] theorem Dev.frame_sniff (a : BitVec 128) (u : BitVec 16) (h : Envelope) (l : List Byte) : (d.frame a u h l).sniff = d.sniff := Dev.of_mute_sniff (Dev.frame_mute d a u h l)
@[simp] theorem Dev.frame_requests (a : BitVec 128) (u : BitVec 16) (h : Envelope) (l : List Byte) : (d.frame a u h l).requests = d.requests := Dev.of_mute_requests (Dev.frame_mute d a u h l)
@[simp] theorem Dev.frame_leashes (a : BitVec 128) (u : BitVec 16) (h : Envelope) (l : List Byte) : (d.frame a u h l).leashes = d.leashes := Dev.of_mute_leashes (Dev.frame_mute d a u h l)
@[simp] theorem Dev.frame_power (a : BitVec 128) (u : BitVec 16) (h : Envelope) (l : List Byte) : (d.frame a u h l).power = d.power := Dev.of_mute_power (Dev.frame_mute d a u h l)
@[simp] theorem Dev.frame_clocks (a : BitVec 128) (u : BitVec 16) (h : Envelope) (l : List Byte) : (d.frame a u h l).clocks = d.clocks := Dev.of_mute_clocks (Dev.frame_mute d a u h l)
@[simp] theorem Dev.frame_sec (a : BitVec 128) (u : BitVec 16) (h : Envelope) (l : List Byte) : (d.frame a u h l).sec = d.sec := Dev.of_mute_sec (Dev.frame_mute d a u h l)
@[simp] theorem Dev.frame_pins (a : BitVec 128) (u : BitVec 16) (h : Envelope) (l : List Byte) : (d.frame a u h l).pins = d.pins := Dev.of_mute_pins (Dev.frame_mute d a u h l)
@[simp] theorem Dev.notifyOne_now (c e r i : Nat) : (d.notifyOne c e r i).now = d.now := Dev.of_mute_now (Dev.notifyOne_mute d c e r i)
@[simp] theorem Dev.notifyOne_draws (c e r i : Nat) : (d.notifyOne c e r i).draws = d.draws := Dev.of_mute_draws (Dev.notifyOne_mute d c e r i)
@[simp] theorem Dev.notifyOne_limits (c e r i : Nat) : (d.notifyOne c e r i).limits = d.limits := Dev.of_mute_limits (Dev.notifyOne_mute d c e r i)
@[simp] theorem Dev.notifyOne_mem (c e r i : Nat) : (d.notifyOne c e r i).mem = d.mem := Dev.of_mute_mem (Dev.notifyOne_mute d c e r i)
@[simp] theorem Dev.notifyOne_disp (c e r i : Nat) : (d.notifyOne c e r i).disp = d.disp := Dev.of_mute_disp (Dev.notifyOne_mute d c e r i)
@[simp] theorem Dev.notifyOne_cmp (c e r i : Nat) : (d.notifyOne c e r i).cmp = d.cmp := Dev.of_mute_cmp (Dev.notifyOne_mute d c e r i)
@[simp] theorem Dev.notifyOne_ports (c e r i : Nat) : (d.notifyOne c e r i).ports = d.ports := Dev.of_mute_ports (Dev.notifyOne_mute d c e r i)
@[simp] theorem Dev.notifyOne_aux (c e r i : Nat) : (d.notifyOne c e r i).aux = d.aux := Dev.of_mute_aux (Dev.notifyOne_mute d c e r i)
@[simp] theorem Dev.notifyOne_waiting (c e r i : Nat) : (d.notifyOne c e r i).waiting = d.waiting := Dev.of_mute_waiting (Dev.notifyOne_mute d c e r i)
@[simp] theorem Dev.notifyOne_tb (c e r i : Nat) : (d.notifyOne c e r i).tb = d.tb := Dev.of_mute_tb (Dev.notifyOne_mute d c e r i)
@[simp] theorem Dev.notifyOne_slots (c e r i : Nat) : (d.notifyOne c e r i).slots = d.slots := Dev.of_mute_slots (Dev.notifyOne_mute d c e r i)
@[simp] theorem Dev.notifyOne_eng (c e r i : Nat) : (d.notifyOne c e r i).eng = d.eng := Dev.of_mute_eng (Dev.notifyOne_mute d c e r i)
@[simp] theorem Dev.notifyOne_howls (c e r i : Nat) : (d.notifyOne c e r i).howls = d.howls := Dev.of_mute_howls (Dev.notifyOne_mute d c e r i)
@[simp] theorem Dev.notifyOne_shadow (c e r i : Nat) : (d.notifyOne c e r i).shadow = d.shadow := Dev.of_mute_shadow (Dev.notifyOne_mute d c e r i)
@[simp] theorem Dev.notifyOne_flaws (c e r i : Nat) : (d.notifyOne c e r i).flaws = d.flaws := Dev.of_mute_flaws (Dev.notifyOne_mute d c e r i)
@[simp] theorem Dev.notifyOne_sniff (c e r i : Nat) : (d.notifyOne c e r i).sniff = d.sniff := Dev.of_mute_sniff (Dev.notifyOne_mute d c e r i)
@[simp] theorem Dev.notifyOne_requests (c e r i : Nat) : (d.notifyOne c e r i).requests = d.requests := Dev.of_mute_requests (Dev.notifyOne_mute d c e r i)
@[simp] theorem Dev.notifyOne_leashes (c e r i : Nat) : (d.notifyOne c e r i).leashes = d.leashes := Dev.of_mute_leashes (Dev.notifyOne_mute d c e r i)
@[simp] theorem Dev.notifyOne_power (c e r i : Nat) : (d.notifyOne c e r i).power = d.power := Dev.of_mute_power (Dev.notifyOne_mute d c e r i)
@[simp] theorem Dev.notifyOne_clocks (c e r i : Nat) : (d.notifyOne c e r i).clocks = d.clocks := Dev.of_mute_clocks (Dev.notifyOne_mute d c e r i)
@[simp] theorem Dev.notifyOne_sec (c e r i : Nat) : (d.notifyOne c e r i).sec = d.sec := Dev.of_mute_sec (Dev.notifyOne_mute d c e r i)
@[simp] theorem Dev.notifyOne_pins (c e r i : Nat) : (d.notifyOne c e r i).pins = d.pins := Dev.of_mute_pins (Dev.notifyOne_mute d c e r i)
@[simp] theorem Dev.notify_now (c e r : Nat) : (d.notify c e r).now = d.now := Dev.of_mute_now (Dev.notify_mute d c e r)
@[simp] theorem Dev.notify_draws (c e r : Nat) : (d.notify c e r).draws = d.draws := Dev.of_mute_draws (Dev.notify_mute d c e r)
@[simp] theorem Dev.notify_limits (c e r : Nat) : (d.notify c e r).limits = d.limits := Dev.of_mute_limits (Dev.notify_mute d c e r)
@[simp] theorem Dev.notify_mem (c e r : Nat) : (d.notify c e r).mem = d.mem := Dev.of_mute_mem (Dev.notify_mute d c e r)
@[simp] theorem Dev.notify_disp (c e r : Nat) : (d.notify c e r).disp = d.disp := Dev.of_mute_disp (Dev.notify_mute d c e r)
@[simp] theorem Dev.notify_cmp (c e r : Nat) : (d.notify c e r).cmp = d.cmp := Dev.of_mute_cmp (Dev.notify_mute d c e r)
@[simp] theorem Dev.notify_ports (c e r : Nat) : (d.notify c e r).ports = d.ports := Dev.of_mute_ports (Dev.notify_mute d c e r)
@[simp] theorem Dev.notify_aux (c e r : Nat) : (d.notify c e r).aux = d.aux := Dev.of_mute_aux (Dev.notify_mute d c e r)
@[simp] theorem Dev.notify_waiting (c e r : Nat) : (d.notify c e r).waiting = d.waiting := Dev.of_mute_waiting (Dev.notify_mute d c e r)
@[simp] theorem Dev.notify_tb (c e r : Nat) : (d.notify c e r).tb = d.tb := Dev.of_mute_tb (Dev.notify_mute d c e r)
@[simp] theorem Dev.notify_slots (c e r : Nat) : (d.notify c e r).slots = d.slots := Dev.of_mute_slots (Dev.notify_mute d c e r)
@[simp] theorem Dev.notify_eng (c e r : Nat) : (d.notify c e r).eng = d.eng := Dev.of_mute_eng (Dev.notify_mute d c e r)
@[simp] theorem Dev.notify_howls (c e r : Nat) : (d.notify c e r).howls = d.howls := Dev.of_mute_howls (Dev.notify_mute d c e r)
@[simp] theorem Dev.notify_shadow (c e r : Nat) : (d.notify c e r).shadow = d.shadow := Dev.of_mute_shadow (Dev.notify_mute d c e r)
@[simp] theorem Dev.notify_flaws (c e r : Nat) : (d.notify c e r).flaws = d.flaws := Dev.of_mute_flaws (Dev.notify_mute d c e r)
@[simp] theorem Dev.notify_sniff (c e r : Nat) : (d.notify c e r).sniff = d.sniff := Dev.of_mute_sniff (Dev.notify_mute d c e r)
@[simp] theorem Dev.notify_requests (c e r : Nat) : (d.notify c e r).requests = d.requests := Dev.of_mute_requests (Dev.notify_mute d c e r)
@[simp] theorem Dev.notify_leashes (c e r : Nat) : (d.notify c e r).leashes = d.leashes := Dev.of_mute_leashes (Dev.notify_mute d c e r)
@[simp] theorem Dev.notify_power (c e r : Nat) : (d.notify c e r).power = d.power := Dev.of_mute_power (Dev.notify_mute d c e r)
@[simp] theorem Dev.notify_clocks (c e r : Nat) : (d.notify c e r).clocks = d.clocks := Dev.of_mute_clocks (Dev.notify_mute d c e r)
@[simp] theorem Dev.notify_sec (c e r : Nat) : (d.notify c e r).sec = d.sec := Dev.of_mute_sec (Dev.notify_mute d c e r)
@[simp] theorem Dev.notify_pins (c e r : Nat) : (d.notify c e r).pins = d.pins := Dev.of_mute_pins (Dev.notify_mute d c e r)
@[simp] theorem Dev.evqPut_now (c a b e : Nat) : (d.evqPut c a b e).now = d.now := Dev.of_mute_now (Dev.evqPut_mute d c a b e)
@[simp] theorem Dev.evqPut_draws (c a b e : Nat) : (d.evqPut c a b e).draws = d.draws := Dev.of_mute_draws (Dev.evqPut_mute d c a b e)
@[simp] theorem Dev.evqPut_limits (c a b e : Nat) : (d.evqPut c a b e).limits = d.limits := Dev.of_mute_limits (Dev.evqPut_mute d c a b e)
@[simp] theorem Dev.evqPut_mem (c a b e : Nat) : (d.evqPut c a b e).mem = d.mem := Dev.of_mute_mem (Dev.evqPut_mute d c a b e)
@[simp] theorem Dev.evqPut_disp (c a b e : Nat) : (d.evqPut c a b e).disp = d.disp := Dev.of_mute_disp (Dev.evqPut_mute d c a b e)
@[simp] theorem Dev.evqPut_cmp (c a b e : Nat) : (d.evqPut c a b e).cmp = d.cmp := Dev.of_mute_cmp (Dev.evqPut_mute d c a b e)
@[simp] theorem Dev.evqPut_ports (c a b e : Nat) : (d.evqPut c a b e).ports = d.ports := Dev.of_mute_ports (Dev.evqPut_mute d c a b e)
@[simp] theorem Dev.evqPut_aux (c a b e : Nat) : (d.evqPut c a b e).aux = d.aux := Dev.of_mute_aux (Dev.evqPut_mute d c a b e)
@[simp] theorem Dev.evqPut_waiting (c a b e : Nat) : (d.evqPut c a b e).waiting = d.waiting := Dev.of_mute_waiting (Dev.evqPut_mute d c a b e)
@[simp] theorem Dev.evqPut_tb (c a b e : Nat) : (d.evqPut c a b e).tb = d.tb := Dev.of_mute_tb (Dev.evqPut_mute d c a b e)
@[simp] theorem Dev.evqPut_slots (c a b e : Nat) : (d.evqPut c a b e).slots = d.slots := Dev.of_mute_slots (Dev.evqPut_mute d c a b e)
@[simp] theorem Dev.evqPut_eng (c a b e : Nat) : (d.evqPut c a b e).eng = d.eng := Dev.of_mute_eng (Dev.evqPut_mute d c a b e)
@[simp] theorem Dev.evqPut_howls (c a b e : Nat) : (d.evqPut c a b e).howls = d.howls := Dev.of_mute_howls (Dev.evqPut_mute d c a b e)
@[simp] theorem Dev.evqPut_shadow (c a b e : Nat) : (d.evqPut c a b e).shadow = d.shadow := Dev.of_mute_shadow (Dev.evqPut_mute d c a b e)
@[simp] theorem Dev.evqPut_flaws (c a b e : Nat) : (d.evqPut c a b e).flaws = d.flaws := Dev.of_mute_flaws (Dev.evqPut_mute d c a b e)
@[simp] theorem Dev.evqPut_sniff (c a b e : Nat) : (d.evqPut c a b e).sniff = d.sniff := Dev.of_mute_sniff (Dev.evqPut_mute d c a b e)
@[simp] theorem Dev.evqPut_requests (c a b e : Nat) : (d.evqPut c a b e).requests = d.requests := Dev.of_mute_requests (Dev.evqPut_mute d c a b e)
@[simp] theorem Dev.evqPut_leashes (c a b e : Nat) : (d.evqPut c a b e).leashes = d.leashes := Dev.of_mute_leashes (Dev.evqPut_mute d c a b e)
@[simp] theorem Dev.evqPut_power (c a b e : Nat) : (d.evqPut c a b e).power = d.power := Dev.of_mute_power (Dev.evqPut_mute d c a b e)
@[simp] theorem Dev.evqPut_clocks (c a b e : Nat) : (d.evqPut c a b e).clocks = d.clocks := Dev.of_mute_clocks (Dev.evqPut_mute d c a b e)
@[simp] theorem Dev.evqPut_sec (c a b e : Nat) : (d.evqPut c a b e).sec = d.sec := Dev.of_mute_sec (Dev.evqPut_mute d c a b e)
@[simp] theorem Dev.evqPut_pins (c a b e : Nat) : (d.evqPut c a b e).pins = d.pins := Dev.of_mute_pins (Dev.evqPut_mute d c a b e)
@[simp] theorem Dev.report_now (c a b : Nat) (l : Bool) : (d.report c a b l).now = d.now := Dev.of_mute_now (Dev.report_mute d c a b l)
@[simp] theorem Dev.report_draws (c a b : Nat) (l : Bool) : (d.report c a b l).draws = d.draws := Dev.of_mute_draws (Dev.report_mute d c a b l)
@[simp] theorem Dev.report_limits (c a b : Nat) (l : Bool) : (d.report c a b l).limits = d.limits := Dev.of_mute_limits (Dev.report_mute d c a b l)
@[simp] theorem Dev.report_mem (c a b : Nat) (l : Bool) : (d.report c a b l).mem = d.mem := Dev.of_mute_mem (Dev.report_mute d c a b l)
@[simp] theorem Dev.report_disp (c a b : Nat) (l : Bool) : (d.report c a b l).disp = d.disp := Dev.of_mute_disp (Dev.report_mute d c a b l)
@[simp] theorem Dev.report_cmp (c a b : Nat) (l : Bool) : (d.report c a b l).cmp = d.cmp := Dev.of_mute_cmp (Dev.report_mute d c a b l)
@[simp] theorem Dev.report_ports (c a b : Nat) (l : Bool) : (d.report c a b l).ports = d.ports := Dev.of_mute_ports (Dev.report_mute d c a b l)
@[simp] theorem Dev.report_aux (c a b : Nat) (l : Bool) : (d.report c a b l).aux = d.aux := Dev.of_mute_aux (Dev.report_mute d c a b l)
@[simp] theorem Dev.report_waiting (c a b : Nat) (l : Bool) : (d.report c a b l).waiting = d.waiting := Dev.of_mute_waiting (Dev.report_mute d c a b l)
@[simp] theorem Dev.report_tb (c a b : Nat) (l : Bool) : (d.report c a b l).tb = d.tb := Dev.of_mute_tb (Dev.report_mute d c a b l)
@[simp] theorem Dev.report_slots (c a b : Nat) (l : Bool) : (d.report c a b l).slots = d.slots := Dev.of_mute_slots (Dev.report_mute d c a b l)
@[simp] theorem Dev.report_eng (c a b : Nat) (l : Bool) : (d.report c a b l).eng = d.eng := Dev.of_mute_eng (Dev.report_mute d c a b l)
@[simp] theorem Dev.report_howls (c a b : Nat) (l : Bool) : (d.report c a b l).howls = d.howls := Dev.of_mute_howls (Dev.report_mute d c a b l)
@[simp] theorem Dev.report_shadow (c a b : Nat) (l : Bool) : (d.report c a b l).shadow = d.shadow := Dev.of_mute_shadow (Dev.report_mute d c a b l)
@[simp] theorem Dev.report_flaws (c a b : Nat) (l : Bool) : (d.report c a b l).flaws = d.flaws := Dev.of_mute_flaws (Dev.report_mute d c a b l)
@[simp] theorem Dev.report_sniff (c a b : Nat) (l : Bool) : (d.report c a b l).sniff = d.sniff := Dev.of_mute_sniff (Dev.report_mute d c a b l)
@[simp] theorem Dev.report_requests (c a b : Nat) (l : Bool) : (d.report c a b l).requests = d.requests := Dev.of_mute_requests (Dev.report_mute d c a b l)
@[simp] theorem Dev.report_leashes (c a b : Nat) (l : Bool) : (d.report c a b l).leashes = d.leashes := Dev.of_mute_leashes (Dev.report_mute d c a b l)
@[simp] theorem Dev.report_power (c a b : Nat) (l : Bool) : (d.report c a b l).power = d.power := Dev.of_mute_power (Dev.report_mute d c a b l)
@[simp] theorem Dev.report_clocks (c a b : Nat) (l : Bool) : (d.report c a b l).clocks = d.clocks := Dev.of_mute_clocks (Dev.report_mute d c a b l)
@[simp] theorem Dev.report_sec (c a b : Nat) (l : Bool) : (d.report c a b l).sec = d.sec := Dev.of_mute_sec (Dev.report_mute d c a b l)
@[simp] theorem Dev.report_pins (c a b : Nat) (l : Bool) : (d.report c a b l).pins = d.pins := Dev.of_mute_pins (Dev.report_mute d c a b l)
@[simp] theorem Dev.raise_now (c a b : Nat) : (d.raise c a b).now = d.now := Dev.of_mute_now (Dev.raise_mute d c a b)
@[simp] theorem Dev.raise_draws (c a b : Nat) : (d.raise c a b).draws = d.draws := Dev.of_mute_draws (Dev.raise_mute d c a b)
@[simp] theorem Dev.raise_limits (c a b : Nat) : (d.raise c a b).limits = d.limits := Dev.of_mute_limits (Dev.raise_mute d c a b)
@[simp] theorem Dev.raise_mem (c a b : Nat) : (d.raise c a b).mem = d.mem := Dev.of_mute_mem (Dev.raise_mute d c a b)
@[simp] theorem Dev.raise_disp (c a b : Nat) : (d.raise c a b).disp = d.disp := Dev.of_mute_disp (Dev.raise_mute d c a b)
@[simp] theorem Dev.raise_cmp (c a b : Nat) : (d.raise c a b).cmp = d.cmp := Dev.of_mute_cmp (Dev.raise_mute d c a b)
@[simp] theorem Dev.raise_ports (c a b : Nat) : (d.raise c a b).ports = d.ports := Dev.of_mute_ports (Dev.raise_mute d c a b)
@[simp] theorem Dev.raise_aux (c a b : Nat) : (d.raise c a b).aux = d.aux := Dev.of_mute_aux (Dev.raise_mute d c a b)
@[simp] theorem Dev.raise_waiting (c a b : Nat) : (d.raise c a b).waiting = d.waiting := Dev.of_mute_waiting (Dev.raise_mute d c a b)
@[simp] theorem Dev.raise_tb (c a b : Nat) : (d.raise c a b).tb = d.tb := Dev.of_mute_tb (Dev.raise_mute d c a b)
@[simp] theorem Dev.raise_slots (c a b : Nat) : (d.raise c a b).slots = d.slots := Dev.of_mute_slots (Dev.raise_mute d c a b)
@[simp] theorem Dev.raise_eng (c a b : Nat) : (d.raise c a b).eng = d.eng := Dev.of_mute_eng (Dev.raise_mute d c a b)
@[simp] theorem Dev.raise_howls (c a b : Nat) : (d.raise c a b).howls = d.howls := Dev.of_mute_howls (Dev.raise_mute d c a b)
@[simp] theorem Dev.raise_shadow (c a b : Nat) : (d.raise c a b).shadow = d.shadow := Dev.of_mute_shadow (Dev.raise_mute d c a b)
@[simp] theorem Dev.raise_flaws (c a b : Nat) : (d.raise c a b).flaws = d.flaws := Dev.of_mute_flaws (Dev.raise_mute d c a b)
@[simp] theorem Dev.raise_sniff (c a b : Nat) : (d.raise c a b).sniff = d.sniff := Dev.of_mute_sniff (Dev.raise_mute d c a b)
@[simp] theorem Dev.raise_requests (c a b : Nat) : (d.raise c a b).requests = d.requests := Dev.of_mute_requests (Dev.raise_mute d c a b)
@[simp] theorem Dev.raise_leashes (c a b : Nat) : (d.raise c a b).leashes = d.leashes := Dev.of_mute_leashes (Dev.raise_mute d c a b)
@[simp] theorem Dev.raise_power (c a b : Nat) : (d.raise c a b).power = d.power := Dev.of_mute_power (Dev.raise_mute d c a b)
@[simp] theorem Dev.raise_clocks (c a b : Nat) : (d.raise c a b).clocks = d.clocks := Dev.of_mute_clocks (Dev.raise_mute d c a b)
@[simp] theorem Dev.raise_sec (c a b : Nat) : (d.raise c a b).sec = d.sec := Dev.of_mute_sec (Dev.raise_mute d c a b)
@[simp] theorem Dev.raise_pins (c a b : Nat) : (d.raise c a b).pins = d.pins := Dev.of_mute_pins (Dev.raise_mute d c a b)
@[simp] theorem Dev.raiseRec_now (c r : Nat) : (d.raiseRec c r).now = d.now := Dev.of_mute_now (Dev.raiseRec_mute d c r)
@[simp] theorem Dev.raiseRec_draws (c r : Nat) : (d.raiseRec c r).draws = d.draws := Dev.of_mute_draws (Dev.raiseRec_mute d c r)
@[simp] theorem Dev.raiseRec_limits (c r : Nat) : (d.raiseRec c r).limits = d.limits := Dev.of_mute_limits (Dev.raiseRec_mute d c r)
@[simp] theorem Dev.raiseRec_mem (c r : Nat) : (d.raiseRec c r).mem = d.mem := Dev.of_mute_mem (Dev.raiseRec_mute d c r)
@[simp] theorem Dev.raiseRec_disp (c r : Nat) : (d.raiseRec c r).disp = d.disp := Dev.of_mute_disp (Dev.raiseRec_mute d c r)
@[simp] theorem Dev.raiseRec_cmp (c r : Nat) : (d.raiseRec c r).cmp = d.cmp := Dev.of_mute_cmp (Dev.raiseRec_mute d c r)
@[simp] theorem Dev.raiseRec_ports (c r : Nat) : (d.raiseRec c r).ports = d.ports := Dev.of_mute_ports (Dev.raiseRec_mute d c r)
@[simp] theorem Dev.raiseRec_aux (c r : Nat) : (d.raiseRec c r).aux = d.aux := Dev.of_mute_aux (Dev.raiseRec_mute d c r)
@[simp] theorem Dev.raiseRec_waiting (c r : Nat) : (d.raiseRec c r).waiting = d.waiting := Dev.of_mute_waiting (Dev.raiseRec_mute d c r)
@[simp] theorem Dev.raiseRec_tb (c r : Nat) : (d.raiseRec c r).tb = d.tb := Dev.of_mute_tb (Dev.raiseRec_mute d c r)
@[simp] theorem Dev.raiseRec_slots (c r : Nat) : (d.raiseRec c r).slots = d.slots := Dev.of_mute_slots (Dev.raiseRec_mute d c r)
@[simp] theorem Dev.raiseRec_eng (c r : Nat) : (d.raiseRec c r).eng = d.eng := Dev.of_mute_eng (Dev.raiseRec_mute d c r)
@[simp] theorem Dev.raiseRec_howls (c r : Nat) : (d.raiseRec c r).howls = d.howls := Dev.of_mute_howls (Dev.raiseRec_mute d c r)
@[simp] theorem Dev.raiseRec_shadow (c r : Nat) : (d.raiseRec c r).shadow = d.shadow := Dev.of_mute_shadow (Dev.raiseRec_mute d c r)
@[simp] theorem Dev.raiseRec_flaws (c r : Nat) : (d.raiseRec c r).flaws = d.flaws := Dev.of_mute_flaws (Dev.raiseRec_mute d c r)
@[simp] theorem Dev.raiseRec_sniff (c r : Nat) : (d.raiseRec c r).sniff = d.sniff := Dev.of_mute_sniff (Dev.raiseRec_mute d c r)
@[simp] theorem Dev.raiseRec_requests (c r : Nat) : (d.raiseRec c r).requests = d.requests := Dev.of_mute_requests (Dev.raiseRec_mute d c r)
@[simp] theorem Dev.raiseRec_leashes (c r : Nat) : (d.raiseRec c r).leashes = d.leashes := Dev.of_mute_leashes (Dev.raiseRec_mute d c r)
@[simp] theorem Dev.raiseRec_power (c r : Nat) : (d.raiseRec c r).power = d.power := Dev.of_mute_power (Dev.raiseRec_mute d c r)
@[simp] theorem Dev.raiseRec_clocks (c r : Nat) : (d.raiseRec c r).clocks = d.clocks := Dev.of_mute_clocks (Dev.raiseRec_mute d c r)
@[simp] theorem Dev.raiseRec_sec (c r : Nat) : (d.raiseRec c r).sec = d.sec := Dev.of_mute_sec (Dev.raiseRec_mute d c r)
@[simp] theorem Dev.raiseRec_pins (c r : Nat) : (d.raiseRec c r).pins = d.pins := Dev.of_mute_pins (Dev.raiseRec_mute d c r)

@[simp] theorem Dev.note_ring_at (k c a : Nat) (m : Nat) : (d.note k c a).ring m = d.ring m := Dev.of_mute_ring_at (Dev.note_mute d k c a) m
@[simp] theorem Dev.note_cpl_at (k c a : Nat) (m : Nat) : (d.note k c a).cpl m = d.cpl m := Dev.of_mute_cpl_at (Dev.note_mute d k c a) m
@[simp] theorem Dev.note_counter_at (k c a : Nat) (m : Nat) : (d.note k c a).counter m = d.counter m := Dev.of_mute_counter_at (Dev.note_mute d k c a) m
@[simp] theorem Dev.note_port_at (k c a : Nat) (m : Nat) : (d.note k c a).port m = d.port m := Dev.of_mute_port_at (Dev.note_mute d k c a) m
@[simp] theorem Dev.note_pax_at (k c a : Nat) (m : Nat) : (d.note k c a).pax m = d.pax m := Dev.of_mute_pax_at (Dev.note_mute d k c a) m
@[simp] theorem Dev.note_tile_at (k c a : Nat) (m : Nat) : (d.note k c a).tile m = d.tile m := Dev.of_mute_tile_at (Dev.note_mute d k c a) m
@[simp] theorem Dev.note_leash_at (k c a : Nat) (m : Nat) : (d.note k c a).leash m = d.leash m := Dev.of_mute_leash_at (Dev.note_mute d k c a) m
@[simp] theorem Dev.note_unit_at (k c a : Nat) (m : Nat) : (d.note k c a).unit m = d.unit m := Dev.of_mute_unit_at (Dev.note_mute d k c a) m
@[simp] theorem Dev.note_domain_at (k c a : Nat) (m : Nat) : (d.note k c a).domain m = d.domain m := Dev.of_mute_domain_at (Dev.note_mute d k c a) m
@[simp] theorem Dev.note_source_at (k c a : Nat) (m : Nat) : (d.note k c a).source m = d.source m := Dev.of_mute_source_at (Dev.note_mute d k c a) m
@[simp] theorem Dev.trigger_ring_at (b : Nat) (m : Nat) : (d.trigger b).ring m = d.ring m := Dev.of_mute_ring_at (Dev.trigger_mute d b) m
@[simp] theorem Dev.trigger_cpl_at (b : Nat) (m : Nat) : (d.trigger b).cpl m = d.cpl m := Dev.of_mute_cpl_at (Dev.trigger_mute d b) m
@[simp] theorem Dev.trigger_counter_at (b : Nat) (m : Nat) : (d.trigger b).counter m = d.counter m := Dev.of_mute_counter_at (Dev.trigger_mute d b) m
@[simp] theorem Dev.trigger_port_at (b : Nat) (m : Nat) : (d.trigger b).port m = d.port m := Dev.of_mute_port_at (Dev.trigger_mute d b) m
@[simp] theorem Dev.trigger_pax_at (b : Nat) (m : Nat) : (d.trigger b).pax m = d.pax m := Dev.of_mute_pax_at (Dev.trigger_mute d b) m
@[simp] theorem Dev.trigger_tile_at (b : Nat) (m : Nat) : (d.trigger b).tile m = d.tile m := Dev.of_mute_tile_at (Dev.trigger_mute d b) m
@[simp] theorem Dev.trigger_leash_at (b : Nat) (m : Nat) : (d.trigger b).leash m = d.leash m := Dev.of_mute_leash_at (Dev.trigger_mute d b) m
@[simp] theorem Dev.trigger_unit_at (b : Nat) (m : Nat) : (d.trigger b).unit m = d.unit m := Dev.of_mute_unit_at (Dev.trigger_mute d b) m
@[simp] theorem Dev.trigger_domain_at (b : Nat) (m : Nat) : (d.trigger b).domain m = d.domain m := Dev.of_mute_domain_at (Dev.trigger_mute d b) m
@[simp] theorem Dev.trigger_source_at (b : Nat) (m : Nat) : (d.trigger b).source m = d.source m := Dev.of_mute_source_at (Dev.trigger_mute d b) m
@[simp] theorem Dev.ledger_ring_at (k : Nat) (l : List Byte) (m : Nat) : (d.ledger k l).ring m = d.ring m := Dev.of_mute_ring_at (Dev.ledger_mute d k l) m
@[simp] theorem Dev.ledger_cpl_at (k : Nat) (l : List Byte) (m : Nat) : (d.ledger k l).cpl m = d.cpl m := Dev.of_mute_cpl_at (Dev.ledger_mute d k l) m
@[simp] theorem Dev.ledger_counter_at (k : Nat) (l : List Byte) (m : Nat) : (d.ledger k l).counter m = d.counter m := Dev.of_mute_counter_at (Dev.ledger_mute d k l) m
@[simp] theorem Dev.ledger_port_at (k : Nat) (l : List Byte) (m : Nat) : (d.ledger k l).port m = d.port m := Dev.of_mute_port_at (Dev.ledger_mute d k l) m
@[simp] theorem Dev.ledger_pax_at (k : Nat) (l : List Byte) (m : Nat) : (d.ledger k l).pax m = d.pax m := Dev.of_mute_pax_at (Dev.ledger_mute d k l) m
@[simp] theorem Dev.ledger_tile_at (k : Nat) (l : List Byte) (m : Nat) : (d.ledger k l).tile m = d.tile m := Dev.of_mute_tile_at (Dev.ledger_mute d k l) m
@[simp] theorem Dev.ledger_leash_at (k : Nat) (l : List Byte) (m : Nat) : (d.ledger k l).leash m = d.leash m := Dev.of_mute_leash_at (Dev.ledger_mute d k l) m
@[simp] theorem Dev.ledger_unit_at (k : Nat) (l : List Byte) (m : Nat) : (d.ledger k l).unit m = d.unit m := Dev.of_mute_unit_at (Dev.ledger_mute d k l) m
@[simp] theorem Dev.ledger_domain_at (k : Nat) (l : List Byte) (m : Nat) : (d.ledger k l).domain m = d.domain m := Dev.of_mute_domain_at (Dev.ledger_mute d k l) m
@[simp] theorem Dev.ledger_source_at (k : Nat) (l : List Byte) (m : Nat) : (d.ledger k l).source m = d.source m := Dev.of_mute_source_at (Dev.ledger_mute d k l) m
@[simp] theorem Dev.post_ring_at (a : Nat) (l : List Byte) (m : Nat) : (d.post a l).ring m = d.ring m := Dev.of_mute_ring_at (Dev.post_mute d a l) m
@[simp] theorem Dev.post_cpl_at (a : Nat) (l : List Byte) (m : Nat) : (d.post a l).cpl m = d.cpl m := Dev.of_mute_cpl_at (Dev.post_mute d a l) m
@[simp] theorem Dev.post_counter_at (a : Nat) (l : List Byte) (m : Nat) : (d.post a l).counter m = d.counter m := Dev.of_mute_counter_at (Dev.post_mute d a l) m
@[simp] theorem Dev.post_port_at (a : Nat) (l : List Byte) (m : Nat) : (d.post a l).port m = d.port m := Dev.of_mute_port_at (Dev.post_mute d a l) m
@[simp] theorem Dev.post_pax_at (a : Nat) (l : List Byte) (m : Nat) : (d.post a l).pax m = d.pax m := Dev.of_mute_pax_at (Dev.post_mute d a l) m
@[simp] theorem Dev.post_tile_at (a : Nat) (l : List Byte) (m : Nat) : (d.post a l).tile m = d.tile m := Dev.of_mute_tile_at (Dev.post_mute d a l) m
@[simp] theorem Dev.post_leash_at (a : Nat) (l : List Byte) (m : Nat) : (d.post a l).leash m = d.leash m := Dev.of_mute_leash_at (Dev.post_mute d a l) m
@[simp] theorem Dev.post_unit_at (a : Nat) (l : List Byte) (m : Nat) : (d.post a l).unit m = d.unit m := Dev.of_mute_unit_at (Dev.post_mute d a l) m
@[simp] theorem Dev.post_domain_at (a : Nat) (l : List Byte) (m : Nat) : (d.post a l).domain m = d.domain m := Dev.of_mute_domain_at (Dev.post_mute d a l) m
@[simp] theorem Dev.post_source_at (a : Nat) (l : List Byte) (m : Nat) : (d.post a l).source m = d.source m := Dev.of_mute_source_at (Dev.post_mute d a l) m
@[simp] theorem Dev.message_ring_at (v : Nat) (m : Nat) : (d.message v).ring m = d.ring m := Dev.of_mute_ring_at (Dev.message_mute d v) m
@[simp] theorem Dev.message_cpl_at (v : Nat) (m : Nat) : (d.message v).cpl m = d.cpl m := Dev.of_mute_cpl_at (Dev.message_mute d v) m
@[simp] theorem Dev.message_counter_at (v : Nat) (m : Nat) : (d.message v).counter m = d.counter m := Dev.of_mute_counter_at (Dev.message_mute d v) m
@[simp] theorem Dev.message_port_at (v : Nat) (m : Nat) : (d.message v).port m = d.port m := Dev.of_mute_port_at (Dev.message_mute d v) m
@[simp] theorem Dev.message_pax_at (v : Nat) (m : Nat) : (d.message v).pax m = d.pax m := Dev.of_mute_pax_at (Dev.message_mute d v) m
@[simp] theorem Dev.message_tile_at (v : Nat) (m : Nat) : (d.message v).tile m = d.tile m := Dev.of_mute_tile_at (Dev.message_mute d v) m
@[simp] theorem Dev.message_leash_at (v : Nat) (m : Nat) : (d.message v).leash m = d.leash m := Dev.of_mute_leash_at (Dev.message_mute d v) m
@[simp] theorem Dev.message_unit_at (v : Nat) (m : Nat) : (d.message v).unit m = d.unit m := Dev.of_mute_unit_at (Dev.message_mute d v) m
@[simp] theorem Dev.message_domain_at (v : Nat) (m : Nat) : (d.message v).domain m = d.domain m := Dev.of_mute_domain_at (Dev.message_mute d v) m
@[simp] theorem Dev.message_source_at (v : Nat) (m : Nat) : (d.message v).source m = d.source m := Dev.of_mute_source_at (Dev.message_mute d v) m
@[simp] theorem Dev.frame_ring_at (a : BitVec 128) (u : BitVec 16) (h : Envelope) (l : List Byte) (m : Nat) : (d.frame a u h l).ring m = d.ring m := Dev.of_mute_ring_at (Dev.frame_mute d a u h l) m
@[simp] theorem Dev.frame_cpl_at (a : BitVec 128) (u : BitVec 16) (h : Envelope) (l : List Byte) (m : Nat) : (d.frame a u h l).cpl m = d.cpl m := Dev.of_mute_cpl_at (Dev.frame_mute d a u h l) m
@[simp] theorem Dev.frame_counter_at (a : BitVec 128) (u : BitVec 16) (h : Envelope) (l : List Byte) (m : Nat) : (d.frame a u h l).counter m = d.counter m := Dev.of_mute_counter_at (Dev.frame_mute d a u h l) m
@[simp] theorem Dev.frame_port_at (a : BitVec 128) (u : BitVec 16) (h : Envelope) (l : List Byte) (m : Nat) : (d.frame a u h l).port m = d.port m := Dev.of_mute_port_at (Dev.frame_mute d a u h l) m
@[simp] theorem Dev.frame_pax_at (a : BitVec 128) (u : BitVec 16) (h : Envelope) (l : List Byte) (m : Nat) : (d.frame a u h l).pax m = d.pax m := Dev.of_mute_pax_at (Dev.frame_mute d a u h l) m
@[simp] theorem Dev.frame_tile_at (a : BitVec 128) (u : BitVec 16) (h : Envelope) (l : List Byte) (m : Nat) : (d.frame a u h l).tile m = d.tile m := Dev.of_mute_tile_at (Dev.frame_mute d a u h l) m
@[simp] theorem Dev.frame_leash_at (a : BitVec 128) (u : BitVec 16) (h : Envelope) (l : List Byte) (m : Nat) : (d.frame a u h l).leash m = d.leash m := Dev.of_mute_leash_at (Dev.frame_mute d a u h l) m
@[simp] theorem Dev.frame_unit_at (a : BitVec 128) (u : BitVec 16) (h : Envelope) (l : List Byte) (m : Nat) : (d.frame a u h l).unit m = d.unit m := Dev.of_mute_unit_at (Dev.frame_mute d a u h l) m
@[simp] theorem Dev.frame_domain_at (a : BitVec 128) (u : BitVec 16) (h : Envelope) (l : List Byte) (m : Nat) : (d.frame a u h l).domain m = d.domain m := Dev.of_mute_domain_at (Dev.frame_mute d a u h l) m
@[simp] theorem Dev.frame_source_at (a : BitVec 128) (u : BitVec 16) (h : Envelope) (l : List Byte) (m : Nat) : (d.frame a u h l).source m = d.source m := Dev.of_mute_source_at (Dev.frame_mute d a u h l) m
@[simp] theorem Dev.notifyOne_ring_at (c e r i : Nat) (m : Nat) : (d.notifyOne c e r i).ring m = d.ring m := Dev.of_mute_ring_at (Dev.notifyOne_mute d c e r i) m
@[simp] theorem Dev.notifyOne_cpl_at (c e r i : Nat) (m : Nat) : (d.notifyOne c e r i).cpl m = d.cpl m := Dev.of_mute_cpl_at (Dev.notifyOne_mute d c e r i) m
@[simp] theorem Dev.notifyOne_counter_at (c e r i : Nat) (m : Nat) : (d.notifyOne c e r i).counter m = d.counter m := Dev.of_mute_counter_at (Dev.notifyOne_mute d c e r i) m
@[simp] theorem Dev.notifyOne_port_at (c e r i : Nat) (m : Nat) : (d.notifyOne c e r i).port m = d.port m := Dev.of_mute_port_at (Dev.notifyOne_mute d c e r i) m
@[simp] theorem Dev.notifyOne_pax_at (c e r i : Nat) (m : Nat) : (d.notifyOne c e r i).pax m = d.pax m := Dev.of_mute_pax_at (Dev.notifyOne_mute d c e r i) m
@[simp] theorem Dev.notifyOne_tile_at (c e r i : Nat) (m : Nat) : (d.notifyOne c e r i).tile m = d.tile m := Dev.of_mute_tile_at (Dev.notifyOne_mute d c e r i) m
@[simp] theorem Dev.notifyOne_leash_at (c e r i : Nat) (m : Nat) : (d.notifyOne c e r i).leash m = d.leash m := Dev.of_mute_leash_at (Dev.notifyOne_mute d c e r i) m
@[simp] theorem Dev.notifyOne_unit_at (c e r i : Nat) (m : Nat) : (d.notifyOne c e r i).unit m = d.unit m := Dev.of_mute_unit_at (Dev.notifyOne_mute d c e r i) m
@[simp] theorem Dev.notifyOne_domain_at (c e r i : Nat) (m : Nat) : (d.notifyOne c e r i).domain m = d.domain m := Dev.of_mute_domain_at (Dev.notifyOne_mute d c e r i) m
@[simp] theorem Dev.notifyOne_source_at (c e r i : Nat) (m : Nat) : (d.notifyOne c e r i).source m = d.source m := Dev.of_mute_source_at (Dev.notifyOne_mute d c e r i) m
@[simp] theorem Dev.notify_ring_at (c e r : Nat) (m : Nat) : (d.notify c e r).ring m = d.ring m := Dev.of_mute_ring_at (Dev.notify_mute d c e r) m
@[simp] theorem Dev.notify_cpl_at (c e r : Nat) (m : Nat) : (d.notify c e r).cpl m = d.cpl m := Dev.of_mute_cpl_at (Dev.notify_mute d c e r) m
@[simp] theorem Dev.notify_counter_at (c e r : Nat) (m : Nat) : (d.notify c e r).counter m = d.counter m := Dev.of_mute_counter_at (Dev.notify_mute d c e r) m
@[simp] theorem Dev.notify_port_at (c e r : Nat) (m : Nat) : (d.notify c e r).port m = d.port m := Dev.of_mute_port_at (Dev.notify_mute d c e r) m
@[simp] theorem Dev.notify_pax_at (c e r : Nat) (m : Nat) : (d.notify c e r).pax m = d.pax m := Dev.of_mute_pax_at (Dev.notify_mute d c e r) m
@[simp] theorem Dev.notify_tile_at (c e r : Nat) (m : Nat) : (d.notify c e r).tile m = d.tile m := Dev.of_mute_tile_at (Dev.notify_mute d c e r) m
@[simp] theorem Dev.notify_leash_at (c e r : Nat) (m : Nat) : (d.notify c e r).leash m = d.leash m := Dev.of_mute_leash_at (Dev.notify_mute d c e r) m
@[simp] theorem Dev.notify_unit_at (c e r : Nat) (m : Nat) : (d.notify c e r).unit m = d.unit m := Dev.of_mute_unit_at (Dev.notify_mute d c e r) m
@[simp] theorem Dev.notify_domain_at (c e r : Nat) (m : Nat) : (d.notify c e r).domain m = d.domain m := Dev.of_mute_domain_at (Dev.notify_mute d c e r) m
@[simp] theorem Dev.notify_source_at (c e r : Nat) (m : Nat) : (d.notify c e r).source m = d.source m := Dev.of_mute_source_at (Dev.notify_mute d c e r) m
@[simp] theorem Dev.evqPut_ring_at (c a b e : Nat) (m : Nat) : (d.evqPut c a b e).ring m = d.ring m := Dev.of_mute_ring_at (Dev.evqPut_mute d c a b e) m
@[simp] theorem Dev.evqPut_cpl_at (c a b e : Nat) (m : Nat) : (d.evqPut c a b e).cpl m = d.cpl m := Dev.of_mute_cpl_at (Dev.evqPut_mute d c a b e) m
@[simp] theorem Dev.evqPut_counter_at (c a b e : Nat) (m : Nat) : (d.evqPut c a b e).counter m = d.counter m := Dev.of_mute_counter_at (Dev.evqPut_mute d c a b e) m
@[simp] theorem Dev.evqPut_port_at (c a b e : Nat) (m : Nat) : (d.evqPut c a b e).port m = d.port m := Dev.of_mute_port_at (Dev.evqPut_mute d c a b e) m
@[simp] theorem Dev.evqPut_pax_at (c a b e : Nat) (m : Nat) : (d.evqPut c a b e).pax m = d.pax m := Dev.of_mute_pax_at (Dev.evqPut_mute d c a b e) m
@[simp] theorem Dev.evqPut_tile_at (c a b e : Nat) (m : Nat) : (d.evqPut c a b e).tile m = d.tile m := Dev.of_mute_tile_at (Dev.evqPut_mute d c a b e) m
@[simp] theorem Dev.evqPut_leash_at (c a b e : Nat) (m : Nat) : (d.evqPut c a b e).leash m = d.leash m := Dev.of_mute_leash_at (Dev.evqPut_mute d c a b e) m
@[simp] theorem Dev.evqPut_unit_at (c a b e : Nat) (m : Nat) : (d.evqPut c a b e).unit m = d.unit m := Dev.of_mute_unit_at (Dev.evqPut_mute d c a b e) m
@[simp] theorem Dev.evqPut_domain_at (c a b e : Nat) (m : Nat) : (d.evqPut c a b e).domain m = d.domain m := Dev.of_mute_domain_at (Dev.evqPut_mute d c a b e) m
@[simp] theorem Dev.evqPut_source_at (c a b e : Nat) (m : Nat) : (d.evqPut c a b e).source m = d.source m := Dev.of_mute_source_at (Dev.evqPut_mute d c a b e) m
@[simp] theorem Dev.report_ring_at (c a b : Nat) (l : Bool) (m : Nat) : (d.report c a b l).ring m = d.ring m := Dev.of_mute_ring_at (Dev.report_mute d c a b l) m
@[simp] theorem Dev.report_cpl_at (c a b : Nat) (l : Bool) (m : Nat) : (d.report c a b l).cpl m = d.cpl m := Dev.of_mute_cpl_at (Dev.report_mute d c a b l) m
@[simp] theorem Dev.report_counter_at (c a b : Nat) (l : Bool) (m : Nat) : (d.report c a b l).counter m = d.counter m := Dev.of_mute_counter_at (Dev.report_mute d c a b l) m
@[simp] theorem Dev.report_port_at (c a b : Nat) (l : Bool) (m : Nat) : (d.report c a b l).port m = d.port m := Dev.of_mute_port_at (Dev.report_mute d c a b l) m
@[simp] theorem Dev.report_pax_at (c a b : Nat) (l : Bool) (m : Nat) : (d.report c a b l).pax m = d.pax m := Dev.of_mute_pax_at (Dev.report_mute d c a b l) m
@[simp] theorem Dev.report_tile_at (c a b : Nat) (l : Bool) (m : Nat) : (d.report c a b l).tile m = d.tile m := Dev.of_mute_tile_at (Dev.report_mute d c a b l) m
@[simp] theorem Dev.report_leash_at (c a b : Nat) (l : Bool) (m : Nat) : (d.report c a b l).leash m = d.leash m := Dev.of_mute_leash_at (Dev.report_mute d c a b l) m
@[simp] theorem Dev.report_unit_at (c a b : Nat) (l : Bool) (m : Nat) : (d.report c a b l).unit m = d.unit m := Dev.of_mute_unit_at (Dev.report_mute d c a b l) m
@[simp] theorem Dev.report_domain_at (c a b : Nat) (l : Bool) (m : Nat) : (d.report c a b l).domain m = d.domain m := Dev.of_mute_domain_at (Dev.report_mute d c a b l) m
@[simp] theorem Dev.report_source_at (c a b : Nat) (l : Bool) (m : Nat) : (d.report c a b l).source m = d.source m := Dev.of_mute_source_at (Dev.report_mute d c a b l) m
@[simp] theorem Dev.raise_ring_at (c a b : Nat) (m : Nat) : (d.raise c a b).ring m = d.ring m := Dev.of_mute_ring_at (Dev.raise_mute d c a b) m
@[simp] theorem Dev.raise_cpl_at (c a b : Nat) (m : Nat) : (d.raise c a b).cpl m = d.cpl m := Dev.of_mute_cpl_at (Dev.raise_mute d c a b) m
@[simp] theorem Dev.raise_counter_at (c a b : Nat) (m : Nat) : (d.raise c a b).counter m = d.counter m := Dev.of_mute_counter_at (Dev.raise_mute d c a b) m
@[simp] theorem Dev.raise_port_at (c a b : Nat) (m : Nat) : (d.raise c a b).port m = d.port m := Dev.of_mute_port_at (Dev.raise_mute d c a b) m
@[simp] theorem Dev.raise_pax_at (c a b : Nat) (m : Nat) : (d.raise c a b).pax m = d.pax m := Dev.of_mute_pax_at (Dev.raise_mute d c a b) m
@[simp] theorem Dev.raise_tile_at (c a b : Nat) (m : Nat) : (d.raise c a b).tile m = d.tile m := Dev.of_mute_tile_at (Dev.raise_mute d c a b) m
@[simp] theorem Dev.raise_leash_at (c a b : Nat) (m : Nat) : (d.raise c a b).leash m = d.leash m := Dev.of_mute_leash_at (Dev.raise_mute d c a b) m
@[simp] theorem Dev.raise_unit_at (c a b : Nat) (m : Nat) : (d.raise c a b).unit m = d.unit m := Dev.of_mute_unit_at (Dev.raise_mute d c a b) m
@[simp] theorem Dev.raise_domain_at (c a b : Nat) (m : Nat) : (d.raise c a b).domain m = d.domain m := Dev.of_mute_domain_at (Dev.raise_mute d c a b) m
@[simp] theorem Dev.raise_source_at (c a b : Nat) (m : Nat) : (d.raise c a b).source m = d.source m := Dev.of_mute_source_at (Dev.raise_mute d c a b) m
@[simp] theorem Dev.raiseRec_ring_at (c r : Nat) (m : Nat) : (d.raiseRec c r).ring m = d.ring m := Dev.of_mute_ring_at (Dev.raiseRec_mute d c r) m
@[simp] theorem Dev.raiseRec_cpl_at (c r : Nat) (m : Nat) : (d.raiseRec c r).cpl m = d.cpl m := Dev.of_mute_cpl_at (Dev.raiseRec_mute d c r) m
@[simp] theorem Dev.raiseRec_counter_at (c r : Nat) (m : Nat) : (d.raiseRec c r).counter m = d.counter m := Dev.of_mute_counter_at (Dev.raiseRec_mute d c r) m
@[simp] theorem Dev.raiseRec_port_at (c r : Nat) (m : Nat) : (d.raiseRec c r).port m = d.port m := Dev.of_mute_port_at (Dev.raiseRec_mute d c r) m
@[simp] theorem Dev.raiseRec_pax_at (c r : Nat) (m : Nat) : (d.raiseRec c r).pax m = d.pax m := Dev.of_mute_pax_at (Dev.raiseRec_mute d c r) m
@[simp] theorem Dev.raiseRec_tile_at (c r : Nat) (m : Nat) : (d.raiseRec c r).tile m = d.tile m := Dev.of_mute_tile_at (Dev.raiseRec_mute d c r) m
@[simp] theorem Dev.raiseRec_leash_at (c r : Nat) (m : Nat) : (d.raiseRec c r).leash m = d.leash m := Dev.of_mute_leash_at (Dev.raiseRec_mute d c r) m
@[simp] theorem Dev.raiseRec_unit_at (c r : Nat) (m : Nat) : (d.raiseRec c r).unit m = d.unit m := Dev.of_mute_unit_at (Dev.raiseRec_mute d c r) m
@[simp] theorem Dev.raiseRec_domain_at (c r : Nat) (m : Nat) : (d.raiseRec c r).domain m = d.domain m := Dev.of_mute_domain_at (Dev.raiseRec_mute d c r) m
@[simp] theorem Dev.raiseRec_source_at (c r : Nat) (m : Nat) : (d.raiseRec c r).source m = d.source m := Dev.of_mute_source_at (Dev.raiseRec_mute d c r) m

/-! What of the dictionary the notices may change -/

variable {i j : Nat} (h : odKey i j ∉ noticeKeys)
include h

theorem Dev.note_get (k c a : Nat) : (d.note k c a).get i j = d.get i j := by
  have h7 : odKey i j ≠ odKey 0x7100 7 := fun e => h (by simp [noticeKeys, e])
  unfold Dev.note; split
  · rfl
  · dsimp only; split
    · exact Dev.addWrap_get_ne d _ _ _ _ _ h7
    · exact Dev.addWrap_get_ne d _ _ _ _ _ h7

theorem Dev.trigger_get (b : Nat) : (d.trigger b).get i j = d.get i j := by
  have h2 : odKey i j ≠ odKey 0x7100 2 := fun e => h (by simp [noticeKeys, e])
  unfold Dev.trigger; split
  · exact Dev.put_get_ne d _ _ 1 _ _ h2
  · rfl

theorem Dev.ledger_get (k : Nat) (l : List Byte) : (d.ledger k l).get i j = d.get i j := by
  have h9 : odKey i j ≠ odKey 0x9010 0xF := fun e => h (by simp [noticeKeys, e])
  unfold Dev.ledger; dsimp only; split
  · rfl
  · exact Dev.addSat_get_ne d _ _ _ _ _ _ h9

theorem Dev.post_get (a : Nat) (l : List Byte) : (d.post a l).get i j = d.get i j := by
  have h2 : odKey i j ≠ odKey 0x1300 2 := fun e => h (by simp [noticeKeys, e])
  unfold Dev.post; split
  · rfl
  · exact Dev.addSat_get_ne d _ _ _ _ _ _ h2

theorem Dev.message_get (v : Nat) : (d.message v).get i j = d.get i j := by
  have h2 : odKey i j ≠ odKey 0x1300 2 := fun e => h (by simp [noticeKeys, e])
  unfold Dev.message; split
  · rfl
  · split
    · rfl
    · exact Dev.addSat_get_ne d _ _ _ _ _ _ h2

omit h in
theorem Dev.frame_get (a : BitVec 128) (u : BitVec 16) (x : Envelope) (l : List Byte) (i j : Nat) :
    (d.frame a u x l).get i j = d.get i j := by
  unfold Dev.frame; split <;> rfl

theorem Dev.notifyOne_get (c e r k : Nat) : (d.notifyOne c e r k).get i j = d.get i j := by
  have h4 : odKey i j ≠ odKey 0x1210 4 := fun e => h (by simp [noticeKeys, e])
  unfold Dev.notifyOne
  split
  · split
    · rfl
    · split
      · exact Dev.frame_get d _ _ _ _ _ _
      · split
        · rfl
        · exact Dev.addSat_get_ne d _ _ _ _ _ _ h4
  · rfl

theorem Dev.notify_get (c e r : Nat) : (d.notify c e r).get i j = d.get i j := by
  unfold Dev.notify
  generalize below 4 = l
  induction l generalizing d with
  | nil => rfl
  | cons k t ih => rw [List.foldl_cons, ih, Dev.notifyOne_get d h]

theorem Dev.evqPut_get (c a b e : Nat) : (d.evqPut c a b e).get i j = d.get i j := by
  unfold Dev.evqPut
  dsimp only
  split
  · rfl
  · split
    · rfl
    · split
      · rw [Dev.message_get _ h]; exact Dev.post_get d h _ _
      · exact Dev.post_get d h _ _

/-- An event leaves every dictionary value alone but those that count it. -/
theorem Dev.report_get (c a b : Nat) (l : Bool) : (d.report c a b l).get i j = d.get i j := by
  have h3 : odKey i j ≠ odKey 0x1300 3 := fun e => h (by simp [noticeKeys, e])
  unfold Dev.report
  dsimp only
  rw [Dev.notify_get _ h, Dev.evqPut_get _ h]
  split
  · rw [Dev.ledger_get _ h, Dev.trigger_get _ h, Dev.note_get _ h]; exact Dev.addWrap_get_ne d _ _ _ _ _ h3
  · rw [Dev.trigger_get _ h, Dev.note_get _ h]; exact Dev.addWrap_get_ne d _ _ _ _ _ h3

theorem Dev.raise_get (c a b : Nat) : (d.raise c a b).get i j = d.get i j := Dev.report_get d h c a b true
end Sys2Proof.Machine

namespace Sys2Proof.Machine

/-! ## Memory errors that a read finds -/

@[simp] theorem Dev.errLog_mute (d : Dev) (e : Nat) : (d.errLog e).mute = d.mute := by
  unfold Dev.errLog
  rw [Dev.put_mute]
  generalize below 31 = l
  induction l generalizing d with
  | nil => rfl
  | cons a t ih => rw [List.foldl_cons, ih]; rfl

@[simp] theorem Dev.errCount_mute (d : Dev) (m : Nat) (u : Bool) : (d.errCount m u).mute = d.mute := by
  unfold Dev.errCount; dsimp only
  generalize (if u = true then 0x4031 else 0x4030) = i
  split <;> rfl

/-- The device with memory, tiles and the once-per-second marks blanked besides what events may change. -/
def Dev.hush (d : Dev) : Dev := { d.mute with mem := ⟨[], []⟩, cmp := Compute.init, limits := [] }

theorem Dev.of_mute_hush {a b : Dev} (h : a.mute = b.mute) : a.hush = b.hush := by unfold Dev.hush; rw [h]

theorem Dev.hush_limits (d : Dev) (l : SMap Nat) : ({ d with limits := l } : Dev).hush = d.hush := rfl

theorem Dev.recorded_hush (d : Dev) (e m c r : Nat) (u : Bool) :
    (((d.errLog e).errCount m u).raiseRec c r).hush = d.hush :=
  Dev.of_mute_hush (by rw [Dev.raiseRec_mute, Dev.errCount_mute, Dev.errLog_mute])

/-- What finding an error leaves alone: everything but memory, tiles, the once-per-second marks and what events may change. -/
theorem Dev.eccFound_hush (d : Dev) (a : Nat) (u : Bool) : (d.eccFound a u).hush = d.hush := by
  unfold Dev.eccFound
  dsimp only
  split
  · generalize hc : (if d.memdev a = 36 then _ else _ : Bool) = c
    cases c
    · rw [if_neg (by simp), Dev.recorded_hush]; split <;> rfl
    · rw [if_pos rfl]
  · unfold Dev.oncePerSecond
    dsimp only
    split
    · exact (Dev.of_mute_hush (Dev.raiseRec_mute _ _ _)).trans ((Dev.hush_limits _ _).trans
        (Dev.of_mute_hush (by rw [Dev.errCount_mute, Dev.errLog_mute])))
    · exact Dev.of_mute_hush (by rw [Dev.errCount_mute, Dev.errLog_mute])

theorem Dev.eccAll_hush (d : Dev) (l : List EccHit) : (d.eccAll l).hush = d.hush := by
  unfold Dev.eccAll
  induction l generalizing d with
  | nil => rfl
  | cons e t ih =>
    rw [List.foldl_cons]
    split
    · rw [ih, Dev.eccFound_hush]
    · exact ih d

variable (d : Dev)
@[simp] theorem Dev.eccAll_now (l : List EccHit) : (d.eccAll l).now = d.now := by
  have h := congrArg Dev.now (Dev.eccAll_hush d l); exact h
@[simp] theorem Dev.eccAll_draws (l : List EccHit) : (d.eccAll l).draws = d.draws := by
  have h := congrArg Dev.draws (Dev.eccAll_hush d l); exact h
@[simp] theorem Dev.eccAll_disp (l : List EccHit) : (d.eccAll l).disp = d.disp := by
  have h := congrArg Dev.disp (Dev.eccAll_hush d l); exact h
@[simp] theorem Dev.eccAll_ports (l : List EccHit) : (d.eccAll l).ports = d.ports := by
  have h := congrArg Dev.ports (Dev.eccAll_hush d l); exact h
@[simp] theorem Dev.eccAll_aux (l : List EccHit) : (d.eccAll l).aux = d.aux := by
  have h := congrArg Dev.aux (Dev.eccAll_hush d l); exact h
@[simp] theorem Dev.eccAll_waiting (l : List EccHit) : (d.eccAll l).waiting = d.waiting := by
  have h := congrArg Dev.waiting (Dev.eccAll_hush d l); exact h
@[simp] theorem Dev.eccAll_tb (l : List EccHit) : (d.eccAll l).tb = d.tb := by
  have h := congrArg Dev.tb (Dev.eccAll_hush d l); exact h
@[simp] theorem Dev.eccAll_slots (l : List EccHit) : (d.eccAll l).slots = d.slots := by
  have h := congrArg Dev.slots (Dev.eccAll_hush d l); exact h
@[simp] theorem Dev.eccAll_eng (l : List EccHit) : (d.eccAll l).eng = d.eng := by
  have h := congrArg Dev.eng (Dev.eccAll_hush d l); exact h
@[simp] theorem Dev.eccAll_howls (l : List EccHit) : (d.eccAll l).howls = d.howls := by
  have h := congrArg Dev.howls (Dev.eccAll_hush d l); exact h
@[simp] theorem Dev.eccAll_shadow (l : List EccHit) : (d.eccAll l).shadow = d.shadow := by
  have h := congrArg Dev.shadow (Dev.eccAll_hush d l); exact h
@[simp] theorem Dev.eccAll_flaws (l : List EccHit) : (d.eccAll l).flaws = d.flaws := by
  have h := congrArg Dev.flaws (Dev.eccAll_hush d l); exact h
@[simp] theorem Dev.eccAll_sniff (l : List EccHit) : (d.eccAll l).sniff = d.sniff := by
  have h := congrArg Dev.sniff (Dev.eccAll_hush d l); exact h
@[simp] theorem Dev.eccAll_requests (l : List EccHit) : (d.eccAll l).requests = d.requests := by
  have h := congrArg Dev.requests (Dev.eccAll_hush d l); exact h
@[simp] theorem Dev.eccAll_leashes (l : List EccHit) : (d.eccAll l).leashes = d.leashes := by
  have h := congrArg Dev.leashes (Dev.eccAll_hush d l); exact h
@[simp] theorem Dev.eccAll_power (l : List EccHit) : (d.eccAll l).power = d.power := by
  have h := congrArg Dev.power (Dev.eccAll_hush d l); exact h
@[simp] theorem Dev.eccAll_clocks (l : List EccHit) : (d.eccAll l).clocks = d.clocks := by
  have h := congrArg Dev.clocks (Dev.eccAll_hush d l); exact h
@[simp] theorem Dev.eccAll_sec (l : List EccHit) : (d.eccAll l).sec = d.sec := by
  have h := congrArg Dev.sec (Dev.eccAll_hush d l); exact h
@[simp] theorem Dev.eccAll_pins (l : List EccHit) : (d.eccAll l).pins = d.pins := by
  have h := congrArg Dev.pins (Dev.eccAll_hush d l); exact h
@[simp] theorem Dev.eccAll_ring_at (l : List EccHit) (m : Nat) : (d.eccAll l).ring m = d.ring m := by
  have h := congrArg (fun x : Dev => x.ring m) (Dev.eccAll_hush d l); exact h
@[simp] theorem Dev.eccAll_cpl_at (l : List EccHit) (m : Nat) : (d.eccAll l).cpl m = d.cpl m := by
  have h := congrArg (fun x : Dev => x.cpl m) (Dev.eccAll_hush d l); exact h
@[simp] theorem Dev.eccAll_counter_at (l : List EccHit) (m : Nat) : (d.eccAll l).counter m = d.counter m := by
  have h := congrArg (fun x : Dev => x.counter m) (Dev.eccAll_hush d l); exact h
@[simp] theorem Dev.eccAll_port_at (l : List EccHit) (m : Nat) : (d.eccAll l).port m = d.port m := by
  have h := congrArg (fun x : Dev => x.port m) (Dev.eccAll_hush d l); exact h
@[simp] theorem Dev.eccAll_pax_at (l : List EccHit) (m : Nat) : (d.eccAll l).pax m = d.pax m := by
  have h := congrArg (fun x : Dev => x.pax m) (Dev.eccAll_hush d l); exact h
@[simp] theorem Dev.eccAll_leash_at (l : List EccHit) (m : Nat) : (d.eccAll l).leash m = d.leash m := by
  have h := congrArg (fun x : Dev => x.leash m) (Dev.eccAll_hush d l); exact h
@[simp] theorem Dev.eccAll_unit_at (l : List EccHit) (m : Nat) : (d.eccAll l).unit m = d.unit m := by
  have h := congrArg (fun x : Dev => x.unit m) (Dev.eccAll_hush d l); exact h
@[simp] theorem Dev.eccAll_domain_at (l : List EccHit) (m : Nat) : (d.eccAll l).domain m = d.domain m := by
  have h := congrArg (fun x : Dev => x.domain m) (Dev.eccAll_hush d l); exact h
@[simp] theorem Dev.eccAll_source_at (l : List EccHit) (m : Nat) : (d.eccAll l).source m = d.source m := by
  have h := congrArg (fun x : Dev => x.source m) (Dev.eccAll_hush d l); exact h

/-- All that `readFlaws` can do: what a read of the standing errors does, and none stands any more. -/
theorem Dev.readFlaws_hush : d.readFlaws.hush = { d.hush with flaws := [] } := by
  have h := Dev.eccAll_hush d (d.flaws.filter (fun h => d.region h.addr != some .window || [].contains ((h.addr - windowBase) / 0x800000)))
  exact congrArg (fun x : Dev => { x with flaws := [] }) h
@[simp] theorem Dev.readFlaws_flaws : d.readFlaws.flaws = [] := rfl
@[simp] theorem Dev.readFlaws_disp : d.readFlaws.disp = d.disp := by
  have h := congrArg Dev.disp d.readFlaws_hush; exact h
@[simp] theorem Dev.readFlaws_eng : d.readFlaws.eng = d.eng := by
  have h := congrArg Dev.eng d.readFlaws_hush; exact h
@[simp] theorem Dev.readFlaws_ports : d.readFlaws.ports = d.ports := by
  have h := congrArg Dev.ports d.readFlaws_hush; exact h
@[simp] theorem Dev.readFlaws_power : d.readFlaws.power = d.power := by
  have h := congrArg Dev.power d.readFlaws_hush; exact h
@[simp] theorem Dev.readFlaws_now : d.readFlaws.now = d.now := by
  have h := congrArg Dev.now d.readFlaws_hush; exact h

end Sys2Proof.Machine
end

