-- ==== Sys2Proof/Laws/Board.lean ====
section
/-! SUPPORT. Laws of the scoreboard: entries by number, and all that starting and ending a descriptor changes in it. -/

namespace Sys2Proof.Machine

theorem findEntry_id {b : List Entry} {id : Nat} {e : Entry} (h : b.find? (fun x => x.id == id) = some e) : e.id = id := by
  have := List.find?_some h; simpa using this

theorem findEntry_with (b : List Entry) (id : Nat) (e : Entry) (he : e.id = id)
    (h : (b.find? (fun x => x.id == id)).isSome) : (boardWith b id e).find? (fun x => x.id == id) = some e := by
  induction b with
  | nil => simp at h
  | cons a t ih =>
    by_cases ha : a.id = id
    · simp [boardWith, ha, he]
    · have ha' : (a.id == id) = false := by simp [ha]
      simp only [List.find?_cons, ha'] at h
      simp only [boardWith, List.map_cons, ha, if_false, List.find?_cons, ha']
      exact ih h

theorem findEntry_with_ne (b : List Entry) (id k : Nat) (e : Entry) (he : e.id = id) (hk : k ≠ id) :
    (boardWith b id e).find? (fun x => x.id == k) = b.find? (fun x => x.id == k) := by
  induction b with
  | nil => rfl
  | cons a t ih =>
    by_cases ha : a.id = id
    · have h1 : (e.id == k) = false := by simp; omega
      have h2 : (id == k) = false := by simp; omega
      simp only [boardWith, List.map_cons, ha, if_true, List.find?_cons, h1, h2]
      exact ih
    · simp only [boardWith, List.map_cons, ha, if_false, List.find?_cons]
      split
      · rfl
      · exact ih

variable (d : Dev)

theorem Dev.entry_id {d : Dev} {id : Nat} {e : Entry} (h : d.entry id = some e) : e.id = id := findEntry_id h

@[simp] theorem Dev.acted_board : d.acted.disp.board = d.disp.board := rfl
@[simp] theorem Dev.acted_ring (n : Nat) : d.acted.ring n = d.ring n := rfl
@[simp] theorem Dev.acted_cpl (n : Nat) : d.acted.cpl n = d.cpl n := rfl
@[simp] theorem Dev.acted_counter (c : Nat) : d.acted.counter c = d.counter c := rfl
@[simp] theorem Dev.acted_entry (k : Nat) : d.acted.entry k = d.entry k := rfl

@[simp] theorem Dev.setEntry_board (e : Entry) : (d.setEntry e).disp.board = boardWith d.disp.board e.id e := rfl

theorem Dev.setEntry_entry (e : Entry) (h : (d.entry e.id).isSome) : (d.setEntry e).entry e.id = some e :=
  findEntry_with _ _ _ rfl h

theorem Dev.setEntry_entry_ne (e : Entry) (k : Nat) (h : k ≠ e.id) : (d.setEntry e).entry k = d.entry k :=
  findEntry_with_ne _ _ _ _ rfl h

/-- All that ending the work of a descriptor changes: its own entry. -/
theorem Dev.finish_eq (id : Nat) (done : Done) (e : Entry) (h : d.entry id = some e) :
    d.finish id done = d.setEntry { e with done := some done } := by
  unfold Dev.finish; rw [h]

theorem boardWith_twice (b : List Entry) (id : Nat) (e e' : Entry) (he : e.id = id) :
    boardWith (boardWith b id e) id e' = boardWith b id e' := by
  unfold boardWith
  rw [List.map_map]
  apply List.map_congr_left
  intro x _
  by_cases hx : x.id = id <;> simp [hx, he]

/-- All that `startWith` does when the descriptor may start: the work of `f` on the device in which its entry has started, and in
the scoreboard, its own entry with the outcome, and pinned or not. -/
theorem Dev.startWith_eq (id op : Nat) (f : Dev → Entry → Job) (e : Entry) (h : d.entry id = some e)
    (ho : hdOpcode e.desc = op) (hm : d.mayStart e = true) :
    ∃ pin, d.startWith id op f =
      { (f (d.markStarted e) (d.startedEntry e)).d with
        disp := { (f (d.markStarted e) (d.startedEntry e)).d.disp with
          board := boardWith d.disp.board id
            { d.startedEntry e with pinned := pin, done := some (f (d.markStarted e) (d.startedEntry e)).done } } } := by
  have hid := Dev.entry_id h
  unfold Dev.startWith
  rw [h]
  have hc : (hdOpcode e.desc != op || !d.mayStart e) = false := by simp [ho, hm]
  simp only [hc]
  rw [if_neg (by simp)]
  show ∃ pin, ((f (d.markStarted e) (d.startedEntry e)).d.keepBoard id (d.markStarted e).disp.board).finish id
    (f (d.markStarted e) (d.startedEntry e)).done = _
  generalize f (d.markStarted e) (d.startedEntry e) = j
  have hb : (d.markStarted e).disp.board = boardWith d.disp.board id (d.startedEntry e) := by
    simp only [Dev.markStarted, Dev.acted_board, Dev.setEntry_board, Dev.startedEntry]; rw [hid]
  let pin : Bool := match j.d.entry id with
    | some x => x.pinned
    | none => false
  refine ⟨pin, ?_⟩
  have hk : (j.d.keepBoard id (d.markStarted e).disp.board).disp.board
      = boardWith d.disp.board id { d.startedEntry e with pinned := pin } := by
    show ((d.markStarted e).disp.board).map (fun x => if x.id = id then { x with pinned := pin } else x) = _
    rw [hb]; unfold boardWith; rw [List.map_map]
    apply List.map_congr_left
    intro x _
    by_cases hx : x.id = id <;> simp [hx, Dev.startedEntry, hid]
  have he : (j.d.keepBoard id (d.markStarted e).disp.board).entry id = some { d.startedEntry e with pinned := pin } := by
    unfold Dev.entry; rw [hk]
    exact findEntry_with _ _ _ hid (by unfold Dev.entry at h; rw [h]; rfl)
  rw [Dev.finish_eq _ _ _ _ he]
  unfold Dev.setEntry
  have hb2 : (j.d.keepBoard id (d.markStarted e).disp.board).disp.board.map (fun x =>
      if x.id = ({ d.startedEntry e with pinned := pin, done := some j.done } : Entry).id
      then { d.startedEntry e with pinned := pin, done := some j.done } else x)
      = boardWith d.disp.board id { d.startedEntry e with pinned := pin, done := some j.done } := by
    rw [hk]
    have : ({ d.startedEntry e with pinned := pin, done := some j.done } : Entry).id = id := hid
    rw [this]
    exact boardWith_twice _ _ _ _ hid
  rw [hb2]
  rfl

/-! ## Completion -/

@[simp] theorem Dev.dropEntry_ring (id m : Nat) : (d.dropEntry id).ring m = d.ring m := rfl

@[simp] theorem Dev.signal_board (c inc : Nat) : (d.signal c inc).disp.board = d.disp.board := by
  unfold Dev.signal; split <;> rfl
@[simp] theorem Dev.signal_ring (c inc n : Nat) : (d.signal c inc).ring n = d.ring n := by
  unfold Dev.signal; split <;> rfl
@[simp] theorem Dev.signal_fatal (c inc : Nat) : (d.signal c inc).disp.fatal = d.disp.fatal := by
  unfold Dev.signal; split <;> rfl

@[simp] theorem Dev.writeTo_disp (h : Bool) (a : Nat) (l : List Byte) : (d.writeTo h a l).disp = d.disp := by
  unfold Dev.writeTo; split
  · simp
  · split <;> rfl

@[simp] theorem Dev.writeRecord_board (n i x : Nat) (k : Done) : (d.writeRecord n i x k).disp.board = d.disp.board := by
  unfold Dev.writeRecord; dsimp only; split <;> simp
@[simp] theorem Dev.writeRecord_ring (n i x m : Nat) (k : Done) : (d.writeRecord n i x k).ring m = d.ring m := by
  unfold Dev.writeRecord; dsimp only; split <;> simp [Dev.ring, Dev.setCpl]

@[simp] theorem Dev.endDraining_board (n : Nat) : (d.endDraining n).disp.board = d.disp.board := by
  unfold Dev.endDraining; dsimp only; split <;> rfl

/-- Completing a descriptor never changes the scoreboard. -/
@[simp] theorem Dev.completeAs_board (n i x : Nat) (k : Done) : (d.completeAs n i x k).disp.board = d.disp.board := by
  unfold Dev.completeAs; dsimp only
  split
  · rfl
  · rw [Dev.acted_board, Dev.endDraining_board, Dev.setRing_disp_board]
    split <;> split <;> split <;> simp

@[simp] theorem Dev.setStuck_board (r s : Nat) (b : Bool) : (d.setStuck r s b).disp.board = d.disp.board := rfl
@[simp] theorem Dev.setStuck_ring (r s m : Nat) (b : Bool) : (d.setStuck r s b).ring m = d.ring m := rfl

/-- The end of a wait for a commit touches neither the scoreboard nor a ring. -/
@[simp] theorem Dev.waitOver_board (n : Nat) : (d.waitOver n).disp.board = d.disp.board := by
  unfold Dev.waitOver; split <;> [(split <;> rfl); rfl]
@[simp] theorem Dev.waitOver_ring (n m : Nat) : (d.waitOver n).ring m = d.ring m := by
  unfold Dev.waitOver; split <;> [(split <;> rfl); rfl]

@[simp] theorem Job.dropRefs_board (j : Job) (r s n : Nat) : (j.dropRefs r s n).d.disp.board = j.d.disp.board := by
  unfold Job.dropRefs; dsimp only
  split
  · rfl
  · split <;> simp [Job.dev, Job.raise, Job.noteEvent, Dev.setVring]
@[simp] theorem Job.dropRefs_ring (j : Job) (r s n m : Nat) : (j.dropRefs r s n).d.ring m = j.d.ring m := by
  unfold Job.dropRefs; dsimp only
  split
  · rfl
  · split <;> simp [Job.dev, Job.raise, Job.noteEvent, Dev.setVring]

@[simp] theorem Job.releaseVersion_board (j : Job) (r v x : Nat) : (j.releaseVersion r v x).d.disp.board = j.d.disp.board := by
  unfold Job.releaseVersion; dsimp only; split <;> simp
@[simp] theorem Job.releaseVersion_ring (j : Job) (r v x m : Nat) : (j.releaseVersion r v x).d.ring m = j.d.ring m := by
  unfold Job.releaseVersion; dsimp only; split <;> simp

/-- A descriptor that completes leaves the scoreboard, and no other does. -/
@[simp] theorem Dev.complete_board (e : Entry) (k : Done) :
    (d.complete e k).disp.board = d.disp.board.filter (fun x => x.id != e.id) := by
  unfold Dev.complete; dsimp only
  rw [Dev.completeAs_board]
  split <;> simp [Dev.dropEntry]

/-- What completing a descriptor does to the rings: the state of its own ring, and the code that stopped it. -/
theorem Dev.complete_ring (e : Entry) (k : Done) (m : Nat) :
    ((d.complete e k).ring m).head = (d.ring m).head ∧ ((d.complete e k).ring m).tail = (d.ring m).tail
      ∧ (m ≠ e.ring → (d.complete e k).ring m = d.ring m) := by
  unfold Dev.complete; dsimp only
  generalize hj : (if e.pinned = true then _ else _ : Job) = j
  have hr : j.d.ring m = d.ring m := by rw [← hj]; split <;> simp
  rw [← hr]
  clear hj hr
  unfold Dev.completeAs; dsimp only
  split
  · simp
  · generalize hx : (if j.done.code = 0 then _ else _ : Dev) = x
    have hxm : ∀ m, x.ring m = j.d.ring m := by
      intro m; rw [← hx]; split <;> split <;> split <;> simp
    have hs : ∀ (r : Ring), (r.afterCode e.index j.done.code).head = r.head ∧ (r.afterCode e.index j.done.code).tail = r.tail := by
      intro r; unfold Ring.afterCode; split <;> exact ⟨rfl, rfl⟩
    simp only [Dev.acted_ring]
    unfold Dev.endDraining; dsimp only
    rw [Dev.setRing_ring_same]
    split
    · by_cases hm : m = e.ring
      · subst hm; simp [hs, hxm]
      · simp [Dev.setRing_ring, hm, hxm]
    · by_cases hm : m = e.ring
      · subst hm; simp [hs, hxm]
      · simp [Dev.setRing_ring, hm, hxm]

end Sys2Proof.Machine
end

