-- ==== Sys2Proof/Laws/Memory.lean ====
section
/-! SUPPORT. Laws of device memory: every operation keeps the canonical form, a read after a write, and what a write leaves. -/

namespace Sys2Proof.Machine

variable (m : Mem)

theorem Memory.wf_iff : Memory.wf m = true ↔ swf memDefault m.cells = true ∧ swf (fun _ => false) m.poison = true := by
  simp [Memory.wf]

theorem Memory.wf_setByte (a : Nat) (b : Byte) (h : Memory.wf m = true) : Memory.wf (m.setByte a b) = true := by
  rw [Memory.wf_iff] at *; exact ⟨swf_sset _ _ _ _ h.1, h.2⟩

theorem Memory.wf_mark (a : Nat) (p : Bool) (h : Memory.wf m = true) : Memory.wf (m.mark a p) = true := by
  rw [Memory.wf_iff] at *; exact ⟨h.1, swf_sset _ _ _ _ h.2⟩

theorem Memory.wf_write (a : Nat) (l : List Byte) (h : Memory.wf m = true) : Memory.wf (m.write a l) = true := by
  induction l generalizing m a with
  | nil => exact h
  | cons b t ih => exact ih _ _ (Memory.wf_setByte m a b h)

theorem Memory.wf_remark (a n : Nat) (p : Bool) (h : Memory.wf m = true) : Memory.wf (m.remark a n p) = true := by
  unfold Mem.remark
  generalize unitsOf a n = l
  induction l generalizing m with
  | nil => exact h
  | cons u t ih =>
    rw [List.foldl_cons]
    refine ih _ ?_
    split
    · exact Memory.wf_mark m u true h
    · split
      · exact Memory.wf_mark m u false h
      · exact h

/-- A write by any agent keeps the canonical form. -/
theorem Memory.wf_store (a : Nat) (l : List Byte) (p : Bool) (h : Memory.wf m = true) : Memory.wf (m.store a l p) = true :=
  Memory.wf_remark _ _ _ _ (Memory.wf_write m a l h)

/-- Memory after reset is in canonical form. -/
theorem Memory.wf_reset : Memory.wf State.reset.dev.mem = true := by decide

/-! Reads after writes -/

@[simp] theorem Mem.setByte_poisoned (a : Nat) (b : Byte) (x : Nat) : (m.setByte a b).poisoned x = m.poisoned x := rfl
@[simp] theorem Mem.mark_byte (a : Nat) (p : Bool) (x : Nat) : (m.mark a p).byte x = m.byte x := rfl

theorem Mem.setByte_byte (a x : Nat) (b : Byte) : (m.setByte a b).byte x = if x = a then b else m.byte x := sget_sset _ _ _ _ _

/-- The byte at `x` after bytes were written from `a`. -/
theorem Mem.write_byte (a x : Nat) (l : List Byte) :
    (m.write a l).byte x = if a ≤ x ∧ x < a + l.length then l.getD (x - a) 0#8 else m.byte x := by
  induction l generalizing m a with
  | nil => simp [Mem.write]
  | cons b t ih =>
    rw [Mem.write, ih, Mem.setByte_byte]
    by_cases hx : x = a
    · subst hx; simp
    · by_cases h1 : a + 1 ≤ x ∧ x < a + 1 + t.length
      · rw [if_pos h1, if_pos (by simp only [List.length_cons]; omega)]
        have : x - a = (x - (a + 1)) + 1 := by omega
        rw [this, List.getD_cons_succ]
      · rw [if_neg h1, if_neg hx, if_neg (by simp only [List.length_cons]; omega)]

theorem Mem.remark_byte (a n x : Nat) (p : Bool) : (m.remark a n p).byte x = m.byte x := by
  unfold Mem.remark
  generalize unitsOf a n = l
  induction l generalizing m with
  | nil => rfl
  | cons u t ih => rw [List.foldl_cons, ih]; split <;> [rfl; (split <;> rfl)]

/-- The byte at `x` after a write by any agent. -/
theorem Mem.store_byte (a x : Nat) (l : List Byte) (p : Bool) :
    (m.store a l p).byte x = if a ≤ x ∧ x < a + l.length then l.getD (x - a) 0#8 else m.byte x := by
  rw [Mem.store, Mem.remark_byte, Mem.write_byte]

/-- A write leaves every byte outside it. -/
theorem Mem.store_byte_out (a x : Nat) (l : List Byte) (p : Bool) (h : x < a ∨ a + l.length ≤ x) :
    (m.store a l p).byte x = m.byte x := by
  rw [Mem.store_byte, if_neg (by omega)]

/-- The bytes just written read back. -/
theorem Mem.store_read (a : Nat) (l : List Byte) (p : Bool) : (m.store a l p).read a l.length = l := by
  suffices h : ∀ (n k : Nat), k + n = l.length → (m.store a l p).read (a + k) n = l.drop k by
    simpa using h l.length 0 (by omega)
  intro n
  induction n with
  | zero => intro k hk; rw [Mem.read, List.drop_eq_nil_of_le (by omega)]
  | succ n ih =>
    intro k hk
    have hlt : k < l.length := by omega
    rw [Mem.read, Mem.store_byte, if_pos (by omega), Nat.add_assoc, ih (k + 1) (by omega), List.drop_eq_getElem_cons hlt]
    simp [List.getD, hlt]

end Sys2Proof.Machine
end

