-- ==== Sys2Proof/Laws/Requests.lean ====
section
/-! SUPPORT. Laws of dictionary requests: what a granted write comes to, once for every command that is one. -/

namespace Sys2Proof.Machine

variable (d : Dev)

/-- The index and sub-index of a key are those it was made of. -/
theorem bits_odKey {i s : Nat} (hi : i < 65536) (hs : s < 256) : bits (odKey i s) 8 16 = i ∧ bits (odKey i s) 0 8 = s := by
  unfold bits odKey
  rw [Nat.shiftRight_eq_div_pow, Nat.shiftRight_eq_div_pow]
  omega

theorem ownerOf_ne_free (who : Requester) : ownerOf who ≠ .free := by cases who <;> simp [ownerOf]

/-- A Leash that somebody holds at this instant has not run out. -/
theorem Dev.settleLeash_held {n : Nat} {o : Owner} (ho : o ≠ .free) (h : d.leashOwner n = o) : d.settleLeash n = d := by
  have hlt : d.now < (d.leash n).until_ := by
    unfold Dev.leashOwner at h; dsimp only at h
    split at h
    · assumption
    · exact absurd h.symm ho
  unfold Dev.settleLeash; simp [hlt]

/-- An entry that an owner may write, other than `LEASH_REQ`, belongs to a group whose Leash the owner holds. -/
theorem Dev.accessStatus_held {o : Owner} {i s : Nat} (h : d.accessStatus o i s = 0) (hl : ¬ (i = 0x1100 ∧ s = 1)) :
    d.leashOwner (leashGroup i) = o := by
  unfold Dev.accessStatus at h
  split at h
  · omega
  · split at h
    · omega
    · split at h
      · omega
      · split at h
        · omega
        · rename_i _ _ _ _ _ hn
          by_contra hc
          apply hn
          have h1 : (i == 0x1100 && s == 1) = false := by
            by_cases a : i = 0x1100 <;> by_cases b : s = 1 <;> simp_all
          simp [Dev.leashHeld, h1, hc]

/-- A write of an entry that its owner may write, other than `LEASH_REQ` and a busy `FW_UPD_DATA`: the effect of `writeEntry`. -/
theorem Dev.portWrite_granted {o : Owner} {sec : Bool} {i s : Nat} (fuse : Nat) (flashOk : Bool) (route : Route) (v : Nat) (ho : o ≠ .free)
    (hb : ¬ (i = 0x9100 ∧ s = 3 ∧ d.updBusy = true)) (hn : d.notSecure o sec = false) (ha : d.accessStatus o i s = 0)
    (hl : ¬ (i = 0x1100 ∧ s = 1)) :
    d.portWrite fuse o sec flashOk route i s v =
      (let w := d.writeEntry fuse (o == .pcie || sec) flashOk i s (v % 2 ^ (8 * entrySize i s))
       ⟨some (if w.ok then 0 else 4), if w.ok && i == 0x8000 && s == 3 then d.fuseAfter fuse else fuse, w.d, w.reset⟩) := by
  have hs := d.settleLeash_held ho (d.accessStatus_held ha hl)
  unfold Dev.portWrite
  have h1 : (i == 0x9100 && s == 3 && d.updBusy) = false := by
    by_cases h : i = 0x9100 <;> by_cases h' : s = 3 <;> by_cases h'' : d.updBusy = true <;> simp_all
  simp only [h1, hn, hl, hs]
  simp [ha]

/-! What counts a request leaves alone (14 R440) -/

@[simp] theorem Dev.counted_mute : d.counted.mute = d.mute := rfl
@[simp] theorem Dev.asked_mute (who : Requester) : (d.asked who).mute = d.mute := by unfold Dev.asked; split <;> rfl

theorem Dev.counted_get_ne {i j : Nat} (h : odKey i j ≠ odKey 0x1210 1) : d.counted.get i j = d.get i j :=
  Dev.addWrap_get_ne d 0x1210 1 1 i j h

/-- A request that is counted changes no entry but `MGMT_REQUESTS`. -/
theorem Dev.asked_get_ne (who : Requester) {i j : Nat} (h : odKey i j ≠ odKey 0x1210 1) : (d.asked who).get i j = d.get i j := by
  unfold Dev.asked; split <;> [rfl; exact d.counted_get_ne h]

theorem Dev.asked_domain (who : Requester) (k : Nat) : (d.asked who).domain k = d.domain k := by unfold Dev.asked; split <;> rfl
theorem Dev.asked_leashOwner (who : Requester) (n : Nat) : (d.asked who).leashOwner n = d.leashOwner n := by
  unfold Dev.asked; split <;> rfl
theorem Dev.asked_accessStatus (who : Requester) (o : Owner) (i s : Nat) : (d.asked who).accessStatus o i s = d.accessStatus o i s := by
  unfold Dev.asked; split <;> rfl
theorem Dev.asked_requesterSecure (who w : Requester) : (d.asked who).requesterSecure w = d.requesterSecure w := by
  unfold Dev.asked; split <;> rfl
theorem Dev.asked_notSecure (who : Requester) (o : Owner) (b : Bool) : (d.asked who).notSecure o b = d.notSecure o b := by
  unfold Dev.notSecure; rw [d.asked_get_ne who (by decide)]
theorem Dev.asked_updBusy (who : Requester) : (d.asked who).updBusy = d.updBusy := by
  unfold Dev.asked; split <;> rfl

/-- A request of a requester that is not turned away executes at once while Shepherd's clock runs. -/
theorem Dev.request_served (fuse : Nat) (who : Requester) (r : OdReq) (f : Dev → Dev) (h : (d.domain 0xB).hold = false)
    (hb : who ≠ .pcie → d.mgmtBusy = false) : d.request fuse (who != .pcie) r f = (d.asked who).doRequest fuse r := by
  unfold Dev.request Dev.submit Dev.asked
  by_cases hw : who = .pcie
  · subst hw; simp [h]
  · have hc : (d.counted.domain 0xB).hold = false := h
    simp [hw, hb hw, hc]

/-- A write that a requester makes in person, granted: the effect of `writeEntry`, the answer, and the reset that may follow. -/
theorem Dev.writeIn_granted (fuse : Nat) (who : Requester) {i s : Nat} (v : Nat) (flashOk : Bool) (pins : Option (BitVec 16))
    (hi : i < 65536) (hs : s < 256) (hg : d.Grants who i s) (hl : ¬ (i = 0x1100 ∧ s = 1))
    (hb : ¬ (i = 0x9100 ∧ s = 3 ∧ d.updBusy = true)) :
    d.writeIn fuse who i s v flashOk pins =
      (let a := d.asked who
       let w := a.writeEntry fuse (ownerOf who == .pcie || d.requesterSecure who) flashOk i s (v % 2 ^ (8 * entrySize i s))
       let f := if w.ok && i == 0x8000 && s == 3 then a.fuseAfter fuse else fuse
       let x := w.d.emit (.odAnswer (if w.ok then 0 else 4) (entrySize i s) 0)
       let cause := if ownerOf who = .pcie then 4 else 5
       match w.reset with
       | none => (f, x)
       | some 1 => (f, x.warmReset f cause)
       | some _ => (f, x.fullReset f cause (match pins with
           | some p => p.toNat
           | none => x.pins.loc))) := by
  obtain ⟨h1, h2, hm, h3, h4⟩ := hg
  have hk := bits_odKey hi hs
  unfold Dev.writeIn
  rw [d.request_served fuse who _ _ h2 hm]
  simp only [h1, Dev.doRequest, hk.1, hk.2, d.asked_requesterSecure who who]
  simp only [Bool.not_true, Bool.false_eq_true, if_false, if_true]
  unfold Dev.doWrite
  rw [(d.asked who).portWrite_granted fuse flashOk .plain v (ownerOf_ne_free who) (by rw [d.asked_updBusy]; exact hb)
    (by rw [d.asked_notSecure]; exact h3) (by rw [d.asked_accessStatus]; exact h4) hl]
  generalize (d.asked who).writeEntry fuse (ownerOf who == .pcie || d.requesterSecure who) flashOk i s (v % 2 ^ (8 * entrySize i s)) = w
  have ha : ∀ (st : Nat), st = 0 ∨ st = 4 → w.d.answer .plain false st (entrySize i s) 0 = w.d.emit (.odAnswer st (entrySize i s) 0) := by
    intro st h; unfold Dev.answer; rcases h with h | h <;> simp [h]
  have hst : (if w.ok then 0 else 4) = 0 ∨ (if w.ok then 0 else 4) = 4 := by split <;> simp
  simp only [ha _ hst]
  all_goals rfl

/-- A granted write of an entry that stores, or refuses, without a reset. -/
theorem Dev.writeIn_stays (fuse : Nat) (who : Requester) {i s : Nat} (v : Nat) (flashOk : Bool) (pins : Option (BitVec 16))
    (hi : i < 65536) (hs : s < 256) (hg : d.Grants who i s) (hl : ¬ (i = 0x1100 ∧ s = 1))
    (hb : ¬ (i = 0x9100 ∧ s = 3 ∧ d.updBusy = true)) (hr : ¬ (i = 0x8000 ∧ s = 3)) {w : Written}
    (hw : (d.asked who).writeEntry fuse (ownerOf who == .pcie || d.requesterSecure who) flashOk i s (v % 2 ^ (8 * entrySize i s)) = w)
    (hn : w.reset = none) :
    d.writeIn fuse who i s v flashOk pins = (fuse, w.d.emit (.odAnswer (if w.ok then 0 else 4) (entrySize i s) 0)) := by
  rw [d.writeIn_granted fuse who v flashOk pins hi hs hg hl hb]
  simp only [hw]
  have hf : (w.ok && i == 0x8000 && s == 3) = false := by
    by_cases h : i = 0x8000 <;> by_cases h' : s = 3 <;> simp_all
  simp only [hn, hf]
  simp

end Sys2Proof.Machine
end

