-- ==== Sys2Proof/WellFormed.lean ====
section
/-! DEFINITION. Which commands the outside can send: the bounds of the buses and formats that carry them (09 R260; 10 R299;
14 R418, R421, R438; 15 R457; 18 R535). Register and port numbers are bounded by their types. -/

namespace Sys2Proof

/-- Memory errors lie at the first address of a 64-byte unit (09 R271). -/
def eccOk (l : List EccHit) : Bool := l.all (fun e => e.addr % 64 == 0 && decide (e.addr < 2 ^ 48))

/-- A completed host read brings the bytes asked for. -/
def HostReply.wf (n : Nat) : HostReply → Bool
  | .data bytes => bytes.length == n
  | .failed => true
  | .part bytes lost => bytes.length == n && !lost.isEmpty && lost.all (fun p => decide (p.1 + p.2 ≤ n) && decide (0 < p.2))

/-- The bytes that a host read brings. -/
def HostReply.size : HostReply → Nat
  | .data bytes => bytes.length
  | .failed => 0
  | .part bytes _ => bytes.length

/-- A flit carries 240 payload bytes (10 R299). -/
def Flit.wf (f : Flit) : Bool := f.payload.length == 240

/-- A management datagram fits in a UDP datagram, and its VLAN identifier in 12 bits (14 R437). -/
def MgmtFrame.wf (f : MgmtFrame) : Bool :=
  decide (f.data.length < 65536) && (match f.vlan with
    | some v => decide (v < 4096)
    | none => true)

/-- The commands that the outside can send. -/
def Instr.wf (i : Instr) : Bool :=
  match i with
  | .doorbellWrite _ _ => true
  | .eventCounterWrite _ _ => true
  | .ringConfigWrite _ _ _ _ => true
  | .ringEnable _ => true
  | .ringDisable _ => true
  | .ringReset _ _ => true
  | .ringAbort _ _ => true
  | .ringResume _ _ => true
  | .cplHeadWrite _ _ => true
  | .descriptorIssue host ecc => host.wf 128 && eccOk ecc
  | .descriptorCompletion _ => true
  | .waitWatchExpired _ => true
  | .arrayMatmul _ ecc => eccOk ecc
  | .arrayTwin _ ecc => eccOk ecc
  | .arrayDrain _ ecc => eccOk ecc
  | .tapFlush => true
  | .vecMap _ ecc => eccOk ecc
  | .vecNorm _ ecc => eccOk ecc
  | .vecSoftmax _ ecc => eccOk ecc
  | .vecLoss _ ecc => eccOk ecc
  | .vecReduce _ ecc => eccOk ecc
  | .vecConvert _ ecc => eccOk ecc
  | .moveCopy _ ecc => eccOk ecc
  | .moveFromHost _ host ecc => host.wf host.size && eccOk ecc
  | .moveToHost _ ecc => eccOk ecc
  | .moveFill _ => true
  | .retrieveFetch _ _ _ => true
  | .retrievePrefetch _ ecc => eccOk ecc
  | .retrieveOffload _ _ ecc => eccOk ecc
  | .retrieveRestore _ _ ecc => eccOk ecc
  | .remoteRetrieverRequest _ _ write addr body ecc =>
    decide (addr + body.length < 2 ^ 48) && decide (addr + body.bytes.length < 2 ^ 48) && (write || body.bytes.isEmpty)
      && decide (body.marks.length ≤ body.bytes.length) && eccOk ecc
  | .collReduceScatter _ ecc => eccOk ecc
  | .collAllGather _ ecc => eccOk ecc
  | .collBroadcast _ ecc => eccOk ecc
  | .collPermute _ ecc => eccOk ecc
  | .collExactReduce _ ecc => eccOk ecc
  | .ceRoot _ ecc => eccOk ecc
  | .ceCholInv _ ecc => eccOk ecc
  | .ceLsq _ ecc => eccOk ecc
  | .sweepNormCheck _ ecc => eccOk ecc
  | .sweepShards _ _ ecc => eccOk ecc
  | .vringClaim _ ecc => eccOk ecc
  | .vringClaimWait => true
  | .sweepShardEligible _ ecc => eccOk ecc
  | .sweepResidencyWait _ => true
  | .sweepVerify _ _ ecc => eccOk ecc
  | .syncNop _ => true
  | .syncWaitHt _ => true
  | .syncCounterSet _ => true
  | .syncStepBoundary _ => true
  | .syncMarker _ => true
  | .patrolScrub addr found => eccOk found.later && addr % 64 == 0 && decide (addr < 2 ^ 48)
  | .bar2Read offset read => eccOk read.ecc && decide (1 ≤ read.length) && decide (read.length ≤ 4096) && decide (offset + read.length ≤ 2 ^ 43)
  | .bar2Write offset bytes => decide (1 ≤ bytes.length) && decide (bytes.length ≤ 512) && decide (offset + bytes.length ≤ 2 ^ 43)
  | .pcieConfigRequest _ offset _ => offset % 4 == 0 && decide (offset < 4096)
  | .pcieLinkDown => true
  | .msixUnmask _ => true
  | .doeRequest object => decide (2 ≤ object.dwords)
  | .evqConfigWrite _ _ _ => true
  | .evqHeadWrite _ => true
  | .odRead _ => true
  | .odWrite _ _ => true
  | .odEntryWrite _ _ _ => true
  | .mgmtRead frame => frame.wf
  | .mgmtWrite frame => frame.wf
  | .mgmtSubscribe frame => frame.wf
  | .mgmtEventAck frame => frame.wf
  | .mgmtSpdm frame _ => frame.wf
  | .mgmtBadMagicFrame frame => frame.wf && (frame.header >>> 48).truncate 16 != 0x0D01#16
  | .mgmtEventResend _ _ => true
  | .mgmtSpeedAlternate => true
  | .mgmtLinkChange _ => true
  | .ptpMessageReceived _ => true
  | .leashAcquire _ _ => true
  | .leashArbitration _ => true
  | .leashRenew _ _ => true
  | .leashRelease _ _ => true
  | .leashExpired _ => true
  | .getVersion _ => true
  | .getCapabilities _ => true
  | .negotiateAlgorithms _ _ => true
  | .getDigests _ => true
  | .getCertificate _ slot _ _ => decide (slot < 8)
  | .challenge _ _ slot _ => decide (slot < 8)
  | .getMeasurements _ _ block => decide (block < 256)
  | .keyExchange _ _ slot => decide (slot < 8)
  | .finish _ _ => true
  | .heartbeat _ _ => true
  | .keyUpdate _ _ => true
  | .endSession _ _ => true
  | .respondIfReady _ _ => true
  | .setCertificate _ slot => decide (slot < 8)
  | .spdmUnsupportedRequest _ code => decide (code < 256)
  | .laneSignalDetected _ => true
  | .trainingComplete _ => true
  | .alignComplete _ _ => true
  | .trainTimeout _ => true
  | .discoveryReceived _ _ _ => true
  | .discoverySend _ => true
  | .linkFaultDetected _ _ => true
  | .retrainTimeout _ => true
  | .forceDown _ _ _ => true
  | .rearm _ _ _ => true
  | .retrain _ _ _ => true
  | .rediscover _ _ _ => true
  | .dataFlitReceived _ flit => flit.wf
  | .linkCtrlReceived _ flit => flit.wf
  | .nakResendTimeout _ => true
  | .replayTimeout _ => true
  | .timeMarkSend _ => true
  | .timeMarkReceived _ _ _ => true
  | .timeHoldover => true
  | .trefPpsEdge _ => true
  | .trefPpsLoss => true
  | .tref10mLoss => true
  | .barkSend _ => true
  | .barkReceived _ _ => true
  | .neighbourLost _ => true
  | .howlReceived _ flit => flit.wf
  | .stepAbandonWrite _ _ => true
  | .howlSendWrite _ _ => true
  | .slotStart _ => true
  | .forwardSlot _ => true
  | .swapArm _ => true
  | .swapDisarm _ => true
  | .swapLoadComplete ecc => eccOk ecc
  | .slotSwap => true
  | .collDataChunkReceived => true
  | .fingerprintChunkReceived => true
  | .segAckReceived => true
  | .chunkNakReceived => true
  | .refetchReqReceived => true
  | .chunkStreamTimeout _ _ _ => true
  | .collAckTimeout _ => true
  | .earlyHoldExpired => true
  | .shadowDataReceived => true
  | .shadowCommitReceived => true
  | .shadowCommitHoldTimeout _ => true
  | .shadowCommitSend => true
  | .trailFreeze _ => true
  | .trailResume _ => true
  | .trailDump _ _ => true
  | .trailPostFreeze => true
  | .trailMarkWrite _ _ => true
  | .trailEntryRead _ => true
  | .snClose _ _ => true
  | .snReset _ _ => true
  | .snDeferredClose _ => true
  | .snContextWrite _ _ _ _ => true
  | .snifferRun _ groups => decide (1 ≤ groups)
  | .epochValueWrite _ _ => true
  | .pstateCmdStandby _ => true
  | .pstateCmdHold _ => true
  | .pstateCmdReady _ => true
  | .pstateCmdRun _ => true
  | .pstateStepComplete env => decide (env.modules.length ≤ 16) && env.nearFail.all (fun k => decide (k < 16)) && env.kennelFail.all (fun k => decide (k < 16))
  | .heelPeriod pace power rails => decide (pace < 65536) && decide (power < 65536) && decide (rails.length ≤ 16)
      && rails.all (fun r => decide (r.1 < 65536) && decide (r.2 < 2 ^ 32))
  | .avsbusFault _ _ => true
  | .avsbusRetry _ _ => true
  | .sensorConversion _ tenths => decide (-32768 ≤ tenths) && decide (tenths ≤ 32767)
  | .sensorFailed _ => true
  | .railOutOfWindow _ => true
  | .vrFaultAsserted => true
  | .vrFaultLatchClear => true
  | .clkMonitorTrip _ _ => true
  | .clkSourceReady _ => true
  | .oscillatorStartFailed _ => true
  | .loopRelockAttempt _ _ => true
  | .domainSourceWrite _ _ _ => true
  | .clkForcedSwitch _ => true
  | .loopConfigWrite _ _ _ _ => true
  | .fioTrim _ => true
  | .rollbackCommit _ _ => true
  | .debugTokenDataWrite _ _ => true
  | .debugTokenSubmit _ => true
  | .debugLock _ => true
  | .fwUpdBegin _ => true
  | .fwUpdDataWrite _ _ => true
  | .fwUpdVerify _ => true
  | .fwVerifyComplete _ => true
  | .fwUpdCancel _ => true
  | .fwUpdActivate _ => true
  | .firmwareConfirm => true
  | .powerOnReset _ _ => true
  | .warmReset _ => true
  | .fullReset _ _ => true
  | .perstAsserted _ => true
  | .perstDeasserted => true
  | .hotReset _ => true
  | .functionLevelReset => true
  | .strapsCheck _ => true
  | .stopNChange _ => true
  | .stopLockoutEnd => true
  | .ledgerCommit _ => true
  | .ledgerAck _ _ => true
  | .ledgerCompaction => true
  | .trailDumpRelease _ _ => true
  | .lifetimeRecordWrite _ => true
  | .calendarWrite _ _ => true
  | .standbySupplyLoss => true
  | .pcieLinkUp => true
  | .memDeviceFailed _ => true
  | .kennelClockStopTimeout _ => true
  | .tref10mRestored => true
  | .fwUpdFlashDone _ => true
  | .testPortAccess _ => true

end Sys2Proof
end

