-- ==== Sys2Proof/Tests/Slice0.lean ====
section
/-! SUPPORT. The model's own tests: the well-formedness checks refuse an ill-formed command each, every statement of the obligations that has
hypotheses has a concrete state and operands that meet them, clause by clause, and single steps give what spec/ says. -/

namespace Sys2Proof.Tests

open Sys2Proof.Machine

set_option Elab.async false

/-! ## Helpers -/

/-- The device that a command leaves. -/
def after (c : Instr) (d : Dev) : Dev :=
  match exec c ⟨[], 0, d⟩ with
  | .next t => t.dev
  | _ => Dev.init

/-- The status of the last dictionary answer. -/
def status (d : Dev) : Option Nat :=
  match d.out.head? with
  | some (.odAnswer st _ _) => some st
  | _ => none

/-- Every Leash is held by the PCI Express port for long. -/
def owned (d : Dev) : Dev := (below 32).foldl (fun d n => d.setLeash n ⟨.pcie, 10 ^ 18, false, []⟩) d

def inState (p : PState) (d : Dev) : Dev := { d with power := { d.power with pstate := p } }

/-- A device in RUN whose scoreboard holds descriptor 7 of ring 0. -/
def running (desc : Nat) : Dev :=
  let d := inState .run Dev.init
  { d with disp := { d.disp with board := [⟨7, 0, 0, desc, 0, 0, false, false, 0, false, none⟩], nextId := 8 } }

/-- The entry of that descriptor. -/
def entry7 (desc : Nat) : Entry := ⟨7, 0, 0, desc, 0, 0, false, false, 0, false, none⟩

def stateOf (d : Dev) : State := ⟨[], 0, d⟩

/-- A port in a state. -/
def portIn (p : Nat) (st : LinkState) (d : Dev) : Dev := d.setPort p { Port.init with state := st }

/-- A management frame with an operation, an object and data. -/
def frameOf (op index sub : Nat) (data : List Byte) : MgmtFrame :=
  ⟨1, 2, 7, 29150, none, false, BitVec.ofNat 256 (mgmtHeader 0 0 5 index sub 0 data.length op), data⟩

/-- The management link is up, and the port has the address 7. -/
def linked (d : Dev) : Dev := (d.put 0x1200 4 7).put 0x1200 9 25

/-! ## Well-formedness refuses an ill-formed command for each check -/

theorem wf_refuses_memory_error_inside_a_unit : (Instr.vecMap 7 [⟨32, true⟩]).wf = false := by decide
theorem wf_refuses_memory_error_beyond_48_bits : (Instr.arrayMatmul 7 [⟨2 ^ 48, true⟩]).wf = false := by decide
theorem wf_refuses_short_host_read : (Instr.descriptorIssue (.data [1#8]) []).wf = false := by decide
theorem wf_accepts_failed_host_read : (Instr.descriptorIssue .failed []).wf = true := by decide
theorem wf_refuses_remote_read_beyond_48_bits : (Instr.remoteRetrieverRequest 1 0 false (2 ^ 48) ⟨[], [], 0, false⟩ []).wf = false := by decide
theorem wf_refuses_remote_write_beyond_48_bits : (Instr.remoteRetrieverRequest 1 0 true (2 ^ 48 - 1) ⟨[1#8], [], 0, false⟩ []).wf = false := by decide
theorem wf_refuses_remote_read_with_data : (Instr.remoteRetrieverRequest 1 0 false 0 ⟨[1#8], [], 1, false⟩ []).wf = false := by decide
theorem wf_refuses_more_marks_than_bytes : (Instr.remoteRetrieverRequest 1 0 true 0 ⟨[1#8], [true, true], 0, false⟩ []).wf = false := by decide
theorem wf_refuses_partial_read_without_a_failure : (Instr.moveFromHost 7 (.part [0#8] []) []).wf = false := by decide
theorem wf_refuses_failure_beyond_the_body :
    (Instr.descriptorIssue (.part (List.replicate 128 0#8) [(128, 1)]) []).wf = false := by decide +kernel
theorem wf_refuses_scrub_inside_a_unit : (Instr.patrolScrub 1 ⟨none, []⟩).wf = false := by decide
theorem wf_refuses_later_error_inside_a_unit : (Instr.patrolScrub 0 ⟨none, [⟨1, true⟩]⟩).wf = false := by decide
theorem wf_refuses_scrub_beyond_48_bits : (Instr.patrolScrub (2 ^ 48) ⟨none, []⟩).wf = false := by decide
theorem wf_refuses_empty_read : (Instr.bar2Read 0 ⟨0, []⟩).wf = false := by decide
theorem wf_refuses_long_read : (Instr.bar2Read 0 ⟨4097, []⟩).wf = false := by decide
theorem wf_refuses_read_beyond_bar : (Instr.bar2Read (2 ^ 43) ⟨1, []⟩).wf = false := by decide
theorem wf_refuses_empty_write : (Instr.bar2Write 0 []).wf = false := by decide
theorem wf_refuses_long_write : (Instr.bar2Write 0 (List.replicate 513 0#8)).wf = false := by decide +kernel
theorem wf_refuses_write_beyond_bar : (Instr.bar2Write (2 ^ 43) [0#8]).wf = false := by decide
theorem wf_refuses_unaligned_configuration : (Instr.pcieConfigRequest false 2 0).wf = false := by decide
theorem wf_refuses_configuration_beyond_4096 : (Instr.pcieConfigRequest false 4096 0).wf = false := by decide
theorem wf_refuses_doe_object_without_header : (Instr.doeRequest ⟨1, 0, 1, 0, .message .getVersion⟩).wf = false := by decide
theorem wf_refuses_wide_vlan : (Instr.mgmtRead { frameOf 1 0x1018 1 [] with vlan := some 4096 }).wf = false := by decide +kernel
theorem wf_refuses_long_datagram : (Instr.mgmtWrite (frameOf 2 0x1018 1 (List.replicate 65536 0#8))).wf = false := by decide +kernel
theorem wf_refuses_good_magic_as_bad : (Instr.mgmtBadMagicFrame (frameOf 1 0x1018 1 [])).wf = false := by decide +kernel
theorem wf_refuses_certificate_slot_8 : (Instr.getCertificate .doe 8 0 0).wf = false := by decide
theorem wf_refuses_challenge_slot_8 : (Instr.challenge .doe false 8 0).wf = false := by decide
theorem wf_refuses_key_exchange_slot_8 : (Instr.keyExchange .doe false 8).wf = false := by decide
theorem wf_refuses_set_certificate_slot_8 : (Instr.setCertificate .doe 8).wf = false := by decide
theorem wf_refuses_measurement_256 : (Instr.getMeasurements .doe false 256).wf = false := by decide
theorem wf_refuses_request_code_256 : (Instr.spdmUnsupportedRequest .doe 256).wf = false := by decide
theorem wf_refuses_short_flit : (Instr.dataFlitReceived 0 ⟨0, [], false⟩).wf = false := by decide
theorem wf_refuses_run_of_no_group : (Instr.snifferRun 7 0).wf = false := by decide
theorem wf_refuses_17_modules : (Instr.pstateStepComplete ⟨List.replicate 17 ⟨true, 64, 8800, 1, true, true, 4, 40, 1⟩, [], []⟩).wf = false := by decide
theorem wf_refuses_stack_16 : (Instr.pstateStepComplete ⟨[], [16], []⟩).wf = false := by decide
theorem wf_refuses_channel_16 : (Instr.pstateStepComplete ⟨[], [], [16]⟩).wf = false := by decide
theorem wf_refuses_wide_pace : (Instr.heelPeriod 65536 0 []).wf = false := by decide
theorem wf_refuses_wide_power : (Instr.heelPeriod 0 65536 []).wf = false := by decide
theorem wf_refuses_17_rails : (Instr.heelPeriod 0 0 (List.replicate 17 (0, 0))).wf = false := by decide
theorem wf_refuses_wide_rail : (Instr.heelPeriod 0 0 [(65536, 0)]).wf = false := by decide
theorem wf_refuses_hot_reading : (Instr.sensorConversion 0 32768).wf = false := by decide
theorem wf_refuses_cold_reading : (Instr.sensorConversion 0 (-32769)).wf = false := by decide

/-! ## The queue, reset, rings -/

theorem witness_step_takes_front : (⟨[.firmwareConfirm], 0, Dev.init⟩ : State).pending = .firmwareConfirm :: [] := rfl
theorem witness_idle_queue : State.reset.pending = [] ∧ State.reset.dev.tb.running = true ∧ State.reset.dev.tb.rate = 0
    ∧ State.reset.dev.tb.slew = 0 ∧ State.reset.dev.tb.part < 65536 := by decide
theorem witness_idle_queue_without_supply : (after .standbySupplyLoss Dev.init).tb.running = false := by decide +kernel
theorem witness_queue_kept : exec .firmwareConfirm State.reset = .next State.reset := rfl
theorem witness_fuse_in_range : (⟨[], 96, Dev.init⟩ : State).fuse ≤ 96 ∧ ∃ t, step ⟨[], 96, Dev.init⟩ = .next t := ⟨by decide, _, rfl⟩
theorem witness_reset_region : State.reset.dev.region 0 = some .near := by decide

/-- An idle step of 1 ns moves hall time by 2^16 units (11 R328). -/
theorem test_idle_step : (match step State.reset with
    | .next t => t.dev.now == 1 && t.dev.tb.htf == 65536
    | _ => false) = true := by decide +kernel

/-- The default size of a ring is 64 (04 R94): a doorbell of 64 fits and one of 65 does not. -/
theorem witness_doorbell : Dev.init.barOpen = true
    ∧ ¬ 2 ^ bits (Dev.init.ring 0).cfg 3 5 < ((64#32).toNat + 2 ^ 32 - (Dev.init.ring 0).head) % 2 ^ 32
    ∧ 2 ^ bits (Dev.init.ring 0).cfg 3 5 < ((65#32).toNat + 2 ^ 32 - (Dev.init.ring 0).head) % 2 ^ 32 := by decide +kernel
theorem test_doorbell_fits : ((after (.doorbellWrite 0 64) Dev.init).ring 0).tail = 64 := by decide +kernel
theorem test_doorbell_too_far : ((after (.doorbellWrite 0 65) Dev.init).ring 0).tail = 0
    ∧ ((after (.doorbellWrite 0 65) Dev.init).ring 0).badDoorbell = true := by decide +kernel

theorem witness_event_counter : Dev.init.barOpen = true ∧ Dev.init.counter 4095 < 2 ^ 32 := by decide +kernel
/-- A wait for 1 on a counter at 0xFFFFFFFF is not met, and one for 0xFFFFFFFF on a counter at 0 is (04 R99). -/
theorem test_waits_wrap : (after (.eventCounterWrite 0 0xFFFFFFFF) Dev.init).waitMet 0 1 = false
    ∧ Dev.init.waitMet 0 0xFFFFFFFF = true := by decide +kernel

/-- Ring 1 RUNNING, and ring 2 STOPPED. -/
def rings : Dev := (Dev.init.setRing 1 { Ring.init with state := .running }).setRing 2 { Ring.init with state := .stopped }

theorem witness_ring_configuration : rings.barOpen = true ∧ (rings.ring 1).state = .running
    ∧ mergePart 0 .whole 127 % 128 ≠ 0 ∧ mergePart 0 .whole 128 % 128 = 0
    ∧ bits 0x00400028 3 5 < 6 ∧ 16 < bits 0x00400088 3 5 ∧ bits 0x30 12 14 = 0 ∧ 8192 < bits 0x02001030 12 14
    ∧ ¬ (bits 0x00400080 3 5 < 6 ∨ 16 < bits 0x00400080 3 5) := by decide +kernel
theorem test_ring_enable : ((after (.ringEnable 3) rings).ring 3).state = .running ∧ ((after (.ringEnable 2) rings).ring 2).state = .stopped := by
  decide +kernel
theorem test_ring_disable : ((after (.ringDisable 2) rings).ring 2).state = .disabled
    ∧ ((after (.ringDisable 1) rings).ring 1).cfgRefused = true := by decide +kernel

theorem witness_completion_ring : rings.barOpen = true ∧ (rings.ring 1).cplRing = 0 ∧ mergePart 0 .whole 32 % 32 = 0
    ∧ bits (5 * 32) 5 5 < 6 ∧ ¬ bits (6 * 32) 5 5 < 6 ∧ 16 < bits (17 * 32) 5 5 := by decide +kernel
theorem test_completion_ring_busy : (after (.ringConfigWrite 0 .cplBase .whole 32) rings).cpl 0 = CplRing.init := by decide +kernel
theorem test_completion_ring_free : ((after (.ringConfigWrite 5 .cplBase .whole 32) rings).cpl 5).base = 32
    ∧ ((after (.cplHeadWrite 5 9) rings).cpl 5).head = 9 := by decide +kernel

theorem witness_ring_control : rings.barOpen = true
    ∧ (Instr.ringAbort 1 7 = .ringAbort 1 7 ∧ bit ((7#3).toNat ||| 2) 1 = true ∧ (rings.ring 1).state = .running)
    ∧ (¬ bit ((0#3).toNat ||| 4) 1 = true ∧ bit ((0#3).toNat ||| 4) 2 = true ∧ (rings.ring 2).state = .stopped ∧ rings.inflightOf 2 = 0)
    ∧ (bit ((0#3).toNat ||| 1) 0 = true ∧ (rings.ring 2).state = .stopped ∧ (rings.ring 1).state ≠ .stopped) := by decide +kernel
/-- ABORT outranks RESET, which outranks RESUME (04 R101). -/
theorem test_ring_control_ranks : ((after (.ringResume 1 7) rings).ring 1).state = .stopped
    ∧ ((after (.ringResume 2 4) rings).ring 2).state = .stopped ∧ ((after (.ringResume 2 0) rings).ring 2).state = .running := by decide +kernel
theorem test_ring_reset : ((after (.ringReset 2 0) (rings.setRing 2 { Ring.init with state := .stopped, head := 5, tail := 5 })).ring 2).tail = 0 := by
  decide +kernel
theorem test_ring_abort : ((after (.ringAbort 1 0) (rings.setRing 1 { Ring.init with state := .running, tail := 5 })).ring 1).head = 5 := by decide +kernel

/-! ## Issue, completion, start -/

/-- Ring 0 holds one descriptor at `base`. -/
def issuing (base : Nat) : Dev := (inState .run Dev.init).setRing 0 { Ring.init with state := .running, base := base, tail := 1 }

theorem witness_failed_fetch : (issuing 0).computes = true ∧ (issuing 0).nextRing = some 0
    ∧ bit (2 ^ 63) 63 = true ∧ (issuing (2 ^ 63)).nextRing = some 0
    ∧ (issuing 0x0F1000000000).extent 0x0F1000000000 128 ≠ some .near ∧ (issuing 0x0F1000000000).extent 0x0F1000000000 128 ≠ some .tile
    ∧ (issuing 0x0F1000000000).nextRing = some 0
    ∧ ({ issuing 0 with mem := (issuing 0).mem.mark 64 true } : Dev).mem.anyPoison 0 128 = true
    ∧ ({ issuing 0 with mem := (issuing 0).mem.mark 64 true } : Dev).nextRing = some 0
    ∧ (issuing 0).extent 0 128 = some .near := by decide +kernel
theorem test_failed_fetch_from_host : ((after (.descriptorIssue .failed []) (issuing (2 ^ 63))).ring 0)
    = { (issuing (2 ^ 63)).ring 0 with state := .stopped, errIndex := 0, errCode := ccPoisoned } := by decide +kernel
theorem test_fetch_outside_memory : ((after (.descriptorIssue .failed []) (issuing 0x0F1000000000)).ring 0).errCode = ccAddressRange := by decide +kernel

theorem witness_issue : (issuing 0).computes = true ∧ (issuing 0).nextRing = some 0 ∧ bit (issuing 0).host.evqBase 63 = false
    ∧ (issuing 0).mem.anyPoison 0 128 = false ∧ (issuing 0).issueCheck ((issuing 0).num 0 128) ≠ 0
    ∧ (issuing (2 ^ 63)).issueCheck 0x70 = 0 ∧ (issuing (2 ^ 63)).hostUp = true
    ∧ ofBytes ((toBytes 128 0x70).take 128) = 0x70 := by decide +kernel
theorem test_issue_enters : (after (.descriptorIssue (.data (toBytes 128 0x70)) []) (issuing (2 ^ 63))).disp.board.length = 1
    ∧ ((after (.descriptorIssue (.data (toBytes 128 0x70)) []) (issuing (2 ^ 63))).ring 0).head = 1 := by decide +kernel
theorem test_issue_refuses_opcode_0 : (after (.descriptorIssue .failed []) (issuing 0)).disp.board = []
    ∧ ((after (.descriptorIssue .failed []) (issuing 0)).ring 0).errCode = ccInvalidOpcode := by decide +kernel

/-- A NOP that signals counter 5 by 3, and has ended with a code. -/
def ended (code : Nat) : Dev :=
  let x := 0x70 + 5 <<< 112 + 3 <<< 96
  { running x with disp := { (running x).disp with board := [{ entry7 x with started := true, done := some { Done.init with code := code } }] } }

theorem witness_completion : (ended 0).entry 7 = some { entry7 (0x70 + 5 <<< 112 + 3 <<< 96) with started := true, done := some Done.init }
    ∧ (ended 0).outcome { entry7 (0x70 + 5 <<< 112 + 3 <<< 96) with started := true, done := some Done.init } = some Done.init
    ∧ (ended 0).disp.fatal = false ∧ (ended 0).sniffs 7 = false ∧ (ended 0).taps 7 = false ∧ (ended 0).counter 5 < 2 ^ 32
    ∧ ((ended 0).setRing 0 { Ring.init with state := .draining }).sniffs 7 = false := by decide +kernel
theorem test_completion_signals : (after (.descriptorCompletion 7) (ended 0)).counter 5 = 3
    ∧ (after (.descriptorCompletion 7) (ended 0)).disp.board = [] := by decide +kernel
theorem test_completion_stops_ring : ((after (.descriptorCompletion 7) ((ended 3).setRing 0 { Ring.init with state := .running })).ring 0).errCode = 3
    ∧ (after (.descriptorCompletion 7) (ended 3)).counter 5 = 0 ∧ ((after (.descriptorCompletion 7) (ended 3)).cpl 0).tail = 1 := by decide +kernel

/-- A NOP that waits for 1 on counter 5, watched against 2 ms. -/
def waiting : Dev :=
  let x := 0x70 + 5 <<< 136 + 1 <<< 160 + 1 <<< 70
  { running x with now := 2000001, disp := { (running x).disp with board := [{ entry7 x with watch := 2 }] } }

theorem witness_wait_watch : (waiting.entry 7).isSome = true ∧ waiting.waitsMet (0x70 + 5 <<< 136 + 1 <<< 160 + 1 <<< 70) = false
    ∧ 2 * 1000000 < waiting.now - 0 ∧ ¬ 2 * 1000000 < ({ waiting with now := 2000000 } : Dev).now - 0 := by decide +kernel
theorem test_wait_watch_raises : (after (.waitWatchExpired 7) waiting).get 0x1300 3 = 1
    ∧ (after (.waitWatchExpired 7) (after (.waitWatchExpired 7) waiting)).get 0x1300 3 = 1
    ∧ after (.waitWatchExpired 7) { waiting with now := 2000000 } = { waiting with now := 2000000 } := by decide +kernel

theorem starts_of (c : Instr) (op desc : Nat) (h0 : startedBy c = some (7, op)) (h1 : hdOpcode desc = op) (h2 : (running desc).mayStart (entry7 desc) = true)
    (h3 : opClass op = 3 → (running desc).snFree (mvSniffEn desc) (mvSniffUnit desc) = true) (h4 : ¬ (op = 0x34 ∨ op = 0x36 ∨ op = 0x37) := by decide) :
    Starts c (stateOf (running desc)) (entry7 desc) :=
  ⟨7, op, h0, rfl, h1, h2, h3, fun h => absurd h h4⟩

/-- A bank in force that routes to device 5, which is in the slice, by port 0. -/
def routed (d : Dev) : Dev := { d with slots := { d.slots with active := some ⟨[], [(5, 0x8000)], [(5, true)], 0, 0⟩ } }
theorem starts_with_route (c : Instr) (op desc : Nat) (h0 : startedBy c = some (7, op)) (h1 : hdOpcode desc = op)
    (h2 : (routed (running desc)).mayStart (entry7 desc) = true) (h3 : (routed (running desc)).snFree (mvSniffEn desc) (mvSniffUnit desc) = true)
    (h4 : (routed (running desc)).reaches (mvRemote desc) = true) : Starts c (stateOf (routed (running desc))) (entry7 desc) :=
  ⟨7, op, h0, rfl, h1, h2, fun _ => h3, fun _ => h4⟩

theorem witness_nop_starts : Starts (.syncNop 7) (stateOf (running 0x70)) (entry7 0x70) :=
  starts_of _ 0x70 _ rfl (by decide +kernel) (by decide +kernel) (by decide)
theorem witness_counter_set_starts : Starts (.syncCounterSet 7) (stateOf (running 0x72)) (entry7 0x72) :=
  starts_of _ 0x72 _ rfl (by decide +kernel) (by decide +kernel) (by decide)
theorem witness_marker_starts : Starts (.syncMarker 7) (stateOf (running (0x74 + 1 <<< 412))) (entry7 (0x74 + 1 <<< 412))
    ∧ syHost (0x74 + 1 <<< 412) = true ∧ syHost 0x74 = false ∧ (running 0x74).host.linkUp = true ∧ (running 0x74).host.held = false :=
  ⟨starts_of _ 0x74 _ rfl (by decide +kernel) (by decide +kernel) (by decide), by decide +kernel⟩
theorem witness_conditions_of_a_start : (running 0x70).mayStart (entry7 0x70) = true
    ∧ (running (0x70 + 3 <<< 70)).mayStart (entry7 (0x70 + 3 <<< 70)) = true ∧ bit (hdWaitEn (0x70 + 3 <<< 70)) 1 = true
    ∧ (running (0x70 + 1 <<< 66)).mayStart (entry7 (0x70 + 1 <<< 66)) = true ∧ hdSerial (0x70 + 1 <<< 66) = true
    ∧ (running 0x73).mayStart (entry7 0x73) = true := by decide +kernel
theorem test_counter_set : (after (.syncCounterSet 7) (running (0x72 + 9 <<< 320 + 4 <<< 332))).counter 9 = 4 := by decide +kernel
theorem test_marker : (after (.syncMarker 7) (running (0x74 + 0xAB <<< 256 + 0x100 <<< 364))).num 0x100 8 = 0xAB := by decide +kernel
theorem test_nothing_starts_in_ready : (after (.syncNop 7) (inState .ready (running 0x70))) = inState .ready (running 0x70) := by decide +kernel

/-- A hall-time wait for 1,000 ns. -/
theorem witness_hall_time_wait : (running (0x71 + 1000 <<< 256)).mayStart (entry7 (0x71 + 1000 <<< 256)) = true
    ∧ (running (0x71 + 1000 <<< 256)).ht < syHtTarget (0x71 + 1000 <<< 256) ∧ hdOpcode (0x71 + 1000 <<< 256) = 0x71
    ∧ ¬ (running 0x71).ht < syHtTarget 0x71 ∧ (running 0x71).mayStart (entry7 0x71) = true := by decide +kernel
theorem test_hall_time_wait : ((after (.syncWaitHt 7) (running (0x71 + 1000 <<< 256))).entry 7).map (fun e => (e.started, e.done)) = some (true, none)
    ∧ ((after (.syncWaitHt 7) (running 0x71)).entry 7).map (fun e => e.done) = some (some ⟨0, 0, 0, 0⟩) := by decide +kernel

theorem witness_step_boundary : Starts (.syncStepBoundary 7) (stateOf (running (0x73 + 1 <<< 477))) (entry7 (0x73 + 1 <<< 477))
    ∧ syNextStep (0x73 + 1 <<< 477) = (running (0x73 + 1 <<< 477)).step + 1 ∧ syNextStep 0x73 ≠ (running 0x73).step + 1
    ∧ (0 ∉ (running (0x73 + 1 <<< 477)).disp.fatalSteps) :=
  ⟨starts_of _ 0x73 _ rfl (by decide +kernel) (by decide +kernel) (by decide), by decide +kernel⟩
theorem test_step_boundary : (after (.syncStepBoundary 7) (running (0x73 + 1 <<< 477))).step = 1
    ∧ ((after (.syncStepBoundary 7) (running 0x73)).entry 7).map (fun e => e.done.map Done.code) = some (some ccInvalidField) := by decide +kernel

/-! ## Compute -/

/-- The 64-byte unit of an address is poisoned. -/
def poisonAt (a : Nat) (d : Dev) : Dev := { d with mem := d.mem.mark a true }
/-- Bytes in memory. -/
def withBytes (a : Nat) (l : List Byte) (d : Dev) : Dev := { d with mem := d.mem.write a l }
/-- An operand slot: address, stride, format, scale record. -/
def slot (a stride fmt : Nat) : Nat := a + stride <<< 48 + fmt <<< 80

/-- A 1 by 1 product of G16 operands at 0x1000 and 0x2000 into 0x3000; `more` adds fields. -/
def matmul (more : Nat) : Nat :=
  0x10 + 0x1000 <<< 256 + 0x2000 <<< 304 + 0x3000 <<< 352 + 1 <<< 496 + 1 <<< 507 + 1 <<< 519 + 2 <<< 608 + 2 <<< 610 + 2 <<< 631 + 0xFFF <<< 822 + more

/-- The same with FB8 operands and an FB8 output, whose scale records are control data. -/
def matmul8 : Nat :=
  0x10 + 0x1000 <<< 256 + 0x2000 <<< 304 + 0x3000 <<< 352 + 1 <<< 496 + 1 <<< 507 + 1 <<< 519 + 3 <<< 631 + 0xFFF <<< 822

theorem witness_compute_next : startedBy (.moveFill 7) = some (7, 0x33) ∧ (0x33 : Nat) < 0x70 ∧ ∃ t, exec (.moveFill 7) State.reset = .next t :=
  ⟨rfl, by decide, _, rfl⟩

theorem witness_matmul_starts : Starts (.arrayMatmul 7 []) (stateOf (running (matmul 0))) (entry7 (matmul 0)) ∧ arWverId (matmul 0) = 0xFFF :=
  ⟨starts_of _ 0x10 _ rfl (by decide +kernel) (by decide +kernel) (by decide), by decide +kernel⟩
/-- A tapped product whose tap header is at 0x5000. -/
def tapped : Nat := matmul (1 <<< 852 + 0x5000 <<< 860)
theorem witness_matmul_clauses :
    (running (matmul 0)).firstPoison ((running (matmul 0)).arRecords (matmul 0)) = none
    ∧ (poisonAt 0x5000 (running tapped)).firstPoison ((poisonAt 0x5000 (running tapped)).arRecords tapped) ≠ none
    ∧ (running (matmul 0)).arBad (matmul 0) = none
    ∧ (poisonAt 0x1000 (running (matmul 0))).arBad (matmul 0) ≠ none
    ∧ (poisonAt (Dev.init.scaleAddr 0) (running matmul8)).arStart matmul8 false = 0
    ∧ (poisonAt (Dev.init.scaleAddr 0) (running matmul8)).arBad matmul8 ≠ none ∧
    ((poisonAt (Dev.init.scaleAddr 0) (running matmul8)).begun (entry7 matmul8) []).firstPoison
        (((poisonAt (Dev.init.scaleAddr 0) (running matmul8)).begun (entry7 matmul8) []).arControl matmul8) ≠ none
    ∧ ((running (matmul 0)).begun (entry7 (matmul 0)) []).firstPoison ((running (matmul 0)).arControl (matmul 0)) = none
    ∧ (running (matmul 0)).arStart (matmul 0) false = 0
    ∧ ((running (matmul (1 <<< 618))).setTile 0 { Tile.init with torn := true }).arStart (matmul (1 <<< 618)) true ≠ 0
    ∧ (((running (matmul 0)).firstPoison ((running (matmul 0)).arData (matmul 0))).or ((running (matmul 0)).poisonedTile (matmul 0))) = none
    ∧ ((poisonAt 0x1000 (running (matmul 0))).firstPoison ((running (matmul 0)).arData (matmul 0))) ≠ none := by decide +kernel
/-- Twin operands: FB8, two tiles, an upstream of one element. -/
def twin : Nat :=
  0x11 + 0x1000 <<< 256 + 0x2000 <<< 304 + 0x3000 <<< 352 + 1 <<< 496 + 1 <<< 507 + 1 <<< 519 + 1 <<< 624 + 0xFFF <<< 822
theorem witness_twin_starts : Starts (.arrayTwin 7 []) (stateOf (running twin)) (entry7 twin) ∧ arWverId twin = 0xFFF
    ∧ (running twin).arStart twin false = 0 ∧ (running twin).firstPoison ((running twin).arControl twin) = none :=
  ⟨starts_of _ 0x11 _ rfl (by decide +kernel) (by decide +kernel) (by decide), by decide +kernel⟩

/-- A drain of one element of tile 0 in G16. -/
def drain (mode : Nat) : Nat := 0x12 + 0x3000 <<< 352 + 1 <<< 496 + 1 <<< 507 + mode <<< 631 + 0xFFF <<< 822
theorem witness_drain_starts : Starts (.arrayDrain 7 []) (stateOf (running (drain 2))) (entry7 (drain 2)) ∧ arOutMode (drain 2) ≠ 3
    ∧ ((running (drain 2)).tile 0).poison = false ∧ (running (drain 2)).firstPoison ((running (drain 2)).drainReads (drain 2)) = none
    ∧ arOutMode (drain 3) = 3 ∧ (running (drain 3)).histOk 0 = true
    ∧ (withBytes (Dev.init.scaleAddr 0) (List.replicate 32 0xFF#8) (running (drain 3))).histOk 0 = false
    ∧ (((running (drain 2)).setTile 0 { Tile.init with poison := true }).tile 0).poison = true :=
  ⟨starts_of _ 0x12 _ rfl (by decide +kernel) (by decide +kernel) (by decide), by decide +kernel⟩
theorem test_drain_of_poisoned_tile :
    ((after (.arrayDrain 7 []) ((running (drain 2)).setTile 0 { Tile.init with poison := true })).entry 7).map (fun e => e.done.map Done.code)
      = some (some ccPoisoned) := by decide +kernel

theorem witness_tap_flush : ({ Dev.init with cmp := { Compute.init with taps := [⟨7, 0x1000, 0, false, 0, 1, false, []⟩] } } : Dev).cmp.taps
      = ⟨7, 0x1000, 0, false, 0, 1, false, []⟩ :: []
    ∧ thMergeOps (Dev.init.num 0x1000 64) = 0
    ∧ (let d := withBytes 0x1000 (toBytes 64 (1 <<< 416)) Dev.init; thMergeOps (d.num 0x1000 64) ≠ 0 ∧ thOps (d.num 0x1000 64) + 1 = thMergeOps (d.num 0x1000 64)) := by
  decide +kernel
theorem test_tap_flush_counts :
    (after .tapFlush { Dev.init with cmp := { Compute.init with taps := [⟨7, 0x1000, 0, false, 0, 1, false, []⟩] } }).get 0x6110 1 = 1 := by decide +kernel

/-- The sum of two A32 values at 0x1000 and 0x2000 into 0x3000; `more` adds fields. -/
def addition (more : Nat) : Nat :=
  0x20 + slot 0x3000 4 3 <<< 256 + slot 0x1000 4 3 <<< 360 + slot 0x2000 4 3 <<< 464 + 1 <<< 672 + 1 <<< 696 + 1 <<< 720 + more
/-- A masked one, whose sequence table is at 0x4000. -/
def maskedAddition : Nat := addition (2 <<< 840 + 0x4000 <<< 792)
/-- One into FB8. -/
def addition8 : Nat :=
  0x20 + slot 0x3000 4 0 <<< 256 + slot 0x1000 4 3 <<< 360 + slot 0x2000 4 3 <<< 464 + 1 <<< 672 + 1 <<< 696 + 1 <<< 720

theorem witness_vector_starts : Starts (.vecMap 7 []) (stateOf (running (addition 0))) (entry7 (addition 0))
    ∧ startedBy (.vecConvert 7 []) = some (7, 0x25) ∧ startedBy (.vecNorm 7 []) = some (7, 0x21) ∧ startedBy (.vecSoftmax 7 []) = some (7, 0x22)
    ∧ startedBy (.vecLoss 7 []) = some (7, 0x23) ∧ startedBy (.vecReduce 7 []) = some (7, 0x24) :=
  ⟨starts_of _ 0x20 _ rfl (by decide +kernel) (by decide +kernel) (by decide), rfl, rfl, rfl, rfl, rfl⟩
theorem witness_vector_clauses :
    (poisonAt 0x4000 (running maskedAddition)).firstPoison ((running maskedAddition).vecControl maskedAddition) ≠ none
    ∧ (running maskedAddition).firstPoison ((running maskedAddition).vecControl maskedAddition) = none
    ∧ ((running maskedAddition).veMask maskedAddition).ok = false ∧ ((running (addition 0)).veMask (addition 0)).ok = true
    ∧ vecProduces addition8 = true ∧ vecProduces (addition 0) = false ∧ (running addition8).histOk 0 = true
    ∧ (withBytes (Dev.init.scaleAddr 0) (List.replicate 32 0xFF#8) (running addition8)).histOk 0 = false
    ∧ (running (addition 0)).firstPoison (vecReads (addition 0)) = none
    ∧ (poisonAt 0x1000 (running (addition 0))).firstPoison (vecReads (addition 0)) ≠ none := by decide +kernel
/-- Function 1 of the map is the sum (04 R128): 1.0 + 1.0 = 2.0. -/
theorem test_vector_sum : (after (.vecMap 7 []) (withBytes 0x1000 [0, 0, 0x80, 0x3F] (withBytes 0x2000 [0, 0, 0x80, 0x3F] (running (addition 0))))).num 0x3000 4
    = 0x40000000 := by decide +kernel
/-- The worked example of 02: 23.5 with `MARGIN` 1 takes e = 3 and becomes 0x74. -/
theorem test_vector_quantises : (after (.vecMap 7 []) (withBytes 0x1000 (toBytes 4 0x41BC0000) (withBytes (Dev.init.scaleAddr 0 + 5) [0x28#8] (running addition8)))).num 0x3000 1
    = 0x74 := by decide +kernel

/-- A copy of one G16 element, from FORMAT `f` into `g`. -/
def copy (op f g : Nat) : Nat := op + slot 0x1000 2 f <<< 256 + slot 0x3000 2 g <<< 360 + 1 <<< 464 + 1 <<< 488
theorem witness_move_starts : Starts (.moveCopy 7 []) (stateOf (running (copy 0x30 2 2))) (entry7 (copy 0x30 2 2))
    ∧ Starts (.moveFromHost 7 .failed []) (stateOf (running (copy 0x31 2 2))) (entry7 (copy 0x31 2 2))
    ∧ Starts (.moveToHost 7 []) (stateOf (running (copy 0x32 2 2))) (entry7 (copy 0x32 2 2)) :=
  ⟨starts_of _ 0x30 _ rfl (by decide +kernel) (by decide +kernel) (by decide +kernel),
    starts_of _ 0x31 _ rfl (by decide +kernel) (by decide +kernel) (by decide +kernel),
    starts_of _ 0x32 _ rfl (by decide +kernel) (by decide +kernel) (by decide +kernel)⟩
theorem witness_move_clauses :
    (poisonAt (Dev.init.scaleAddr 0) (running (copy 0x30 2 0))).firstPoison ((running (copy 0x30 2 0)).moveControl (copy 0x30 2 0)) ≠ none
    ∧ (running (copy 0x30 2 0)).firstPoison ((running (copy 0x30 2 0)).moveControl (copy 0x30 2 0)) = none
    ∧ (running (copy 0x30 2 0)).moveHistOk (copy 0x30 2 0) = true
    ∧ (withBytes (Dev.init.scaleAddr 0) (List.replicate 32 0xFF#8) (running (copy 0x30 2 0))).moveHistOk (copy 0x30 2 0) = false
    ∧ (poisonAt 0x1000 (running (copy 0x30 2 2))).localBad ((running (copy 0x30 2 2)).view (mvSrc (copy 0x30 2 2))) (0, 0) = true
    ∧ (0, 0) ∈ grid (mvRows (copy 0x30 2 2)) (mvCols (copy 0x30 2 2))
    ∧ (let v := ((running (copy 0x31 2 2)).view (mvSrc (copy 0x31 2 2))).at 0
       hostBad v ((running (copy 0x31 2 2)).hostRead .failed 2) (0, 0) = true ∧ hostBad v ((running (copy 0x31 2 2)).hostRead (.data [1, 2]) 2) (0, 0) = false
         ∧ hostBad v ((running (copy 0x31 2 2)).hostRead (.part [1, 2] [(1, 1)]) 2) (0, 0) = true) := by decide +kernel
theorem test_move_from_host : (after (.moveFromHost 7 (.data [1, 2]) []) (running (copy 0x31 2 2))).rd 0x3000 2 = [1#8, 2#8]
    ∧ (after (.moveFromHost 7 (.part [1, 2] [(1, 1)]) []) (running (copy 0x31 2 2))).rd 0x3000 2 = [1#8, 0xFF#8] := by decide +kernel
/-- A conversion through a poisoned scale record writes its element, marks it poisoned and ends with `POISONED` (09 R274, R275). -/
theorem test_move_through_poisoned_record :
    (let d := after (.moveCopy 7 []) (withBytes 0x1000 [0x80, 0x3F] (poisonAt (Dev.init.scaleAddr 0) (running (copy 0x30 2 0))))
     d.num 0x3000 1 ≠ 0 ∧ d.anyBad 0x3000 1 = true ∧ ((d.entry 7).map (fun e => e.done.map Done.code)) = some (some ccPoisoned)) := by decide +kernel
theorem test_move_keeps_bits : (after (.moveCopy 7 []) (withBytes 0x1000 [1, 0x7F] (running (copy 0x30 2 2)))).num 0x3000 2 = 0x7F01 := by decide +kernel

/-- A fill of two elements. -/
def fill : Nat := 0x33 + slot 0x3000 4 2 <<< 360 + 1 <<< 464 + 2 <<< 488 + 0x1234 <<< 638
theorem witness_fill_starts : Starts (.moveFill 7) (stateOf (running fill)) (entry7 fill)
    ∧ (∀ p ∈ grid (mvRows fill) (mvCols fill), inWindow (((running fill).view (mvDst fill)).place p.1 p.2) = false)
    ∧ mvCols fill * ((running fill).view (mvDst fill)).fmt.size ≤ ((running fill).view (mvDst fill)).stride :=
  ⟨starts_of _ 0x33 _ rfl (by decide +kernel) (by decide +kernel) (by decide +kernel), by decide +kernel⟩
theorem test_fill : (after (.moveFill 7) (running fill)).num 0x3000 6 = 0x12341234 := by decide +kernel

/-- A Retriever descriptor that names device 5, class 4, and a record where `rec` is not 0. -/
def retrieve (op rec_ remote : Nat) : Nat :=
  op + slot 0x1000 2 2 <<< 256 + slot 0x3000 2 2 <<< 360 + 1 <<< 464 + 1 <<< 488 + rec_ <<< 520 + remote <<< 584 + 4 <<< 630
def served (l : List Byte) : RemoteReply := ⟨true, l, [], List.replicate 32 0#8⟩
def refusedReply : RemoteReply := ⟨false, [], [], []⟩
theorem witness_retriever_starts :
    Starts (.retrieveFetch 7 refusedReply refusedReply) (stateOf (routed (running (retrieve 0x34 0x40 5)))) (entry7 (retrieve 0x34 0x40 5))
    ∧ Starts (.retrievePrefetch 7 []) (stateOf (running (retrieve 0x35 0 0))) (entry7 (retrieve 0x35 0 0))
    ∧ Starts (.retrieveOffload 7 refusedReply []) (stateOf (routed (running (retrieve 0x36 0 5)))) (entry7 (retrieve 0x36 0 5))
    ∧ Starts (.retrieveRestore 7 refusedReply []) (stateOf (routed (running (retrieve 0x37 0 5)))) (entry7 (retrieve 0x37 0 5)) :=
  ⟨starts_with_route _ 0x34 _ rfl (by decide +kernel) (by decide +kernel) (by decide +kernel) (by decide +kernel),
    starts_of _ 0x35 _ rfl (by decide +kernel) (by decide +kernel) (by decide +kernel),
    starts_with_route _ 0x36 _ rfl (by decide +kernel) (by decide +kernel) (by decide +kernel) (by decide +kernel),
    starts_with_route _ 0x37 _ rfl (by decide +kernel) (by decide +kernel) (by decide +kernel) (by decide +kernel)⟩
theorem witness_retriever_clauses :
    (running (retrieve 0x34 0 5)).retrLength (retrieve 0x34 0 5) = 2 ∧ replyServes (served [1, 2]) 2 = true ∧ replyServes (served [1]) 2 = false
    ∧ mvHostAddr (retrieve 0x34 0 5) = 0 ∧ mvHostAddr (retrieve 0x34 0x40 5) ≠ 0
    ∧ fpMatches (remoteBytes (retrieve 0x34 0x40 5) ((running (retrieve 0x34 0x40 5)).view (mvSrc (retrieve 0x34 0x40 5))) [1, 2])
        (ofBytes ((List.replicate 32 0#8).take 32)) = false
    ∧ mvRemote (retrieve 0x36 0 0x3FFF) = (running (retrieve 0x36 0 0x3FFF)).self ∧ mvRemote (retrieve 0x36 0 5) ≠ (running (retrieve 0x36 0 5)).self
    ∧ slFmt (mvSrc (retrieve 0x35 0 0)) < 7 := by decide +kernel
theorem witness_fetch_from_itself : (running (retrieve 0x34 0 0x3FFF)).reaches 0x3FFF = true ∧ mvRemote (retrieve 0x34 0 0x3FFF) = (running 0).self
    ∧ (running (retrieve 0x34 0 0x3FFF)).remoteReads (retrieve 0x34 0 0x3FFF) = [(0x1000, 2)]
    ∧ (((running 0).put 0x4040 1 0x1000).put 0x4041 1 0x1000).inAperture 0x1000 2 = true
    ∧ (Dev.fetched (((running 0).put 0x4040 1 0x1000).put 0x4041 1 0x1000) (retrieve 0x34 0 0x3FFF) refusedReply).2.served = true := by decide +kernel
theorem witness_unreachable_owner : (running (retrieve 0x34 0 5)).reaches 5 = false ∧ (running (retrieve 0x34 0 5)).mayStart (entry7 (retrieve 0x34 0 5)) = true := by
  decide +kernel
theorem test_unreachable_owner : ((after (.retrieveFetch 7 (served [1, 2]) refusedReply) (running (retrieve 0x34 0 5))).entry 7).map (fun e => (e.started, e.done))
    = some (true, none) := by decide +kernel
theorem test_fetch_without_record : (after (.retrieveFetch 7 (served [1, 2]) refusedReply) (routed (running (retrieve 0x34 0 5)))).num 0x3000 2 = 0x0201 := by
  decide +kernel
theorem test_fetch_mismatch_twice :
    ((after (.retrieveFetch 7 (served [1, 2]) (served [1, 2])) (routed (running (retrieve 0x34 0x40 5)))).entry 7).map (fun e => e.done.map Done.code)
      = some (some ccFetchMismatch) := by decide +kernel
/-- A poisoned byte of a reply poisons the element that holds it (09 R275). -/
theorem test_fetch_of_poison : (let d := after (.retrieveFetch 7 ⟨true, [1, 2], [false, true], []⟩ refusedReply) (routed (running (retrieve 0x34 0 5)))
    (d.mem.poisoned 0x3000, (d.entry 7).map (fun e => e.done.map Done.code))) = (true, some (some ccPoisoned)) := by decide +kernel

/-- An aperture of 4 KiB at 0x10000, and a hold slot of 256 bytes at 0x8000 that keeps step 2 for device 1. -/
def apertured : Dev :=
  let d := (Dev.put (routed (inState .ready Dev.init)) 0x4040 1 0x10000).put 0x4041 1 0x1000
  (((d.put 0x7210 1 0x8001).put 0x7210 2 0x8000).put 0x7210 3 256).put 0x7210 5 1
theorem witness_remote_request : apertured.memoryOn = true ∧ apertured.serves 5 false false 0x10FFF 1 = some 0x10FFF
    ∧ apertured.serves 5 false false 0x10FFF 2 = none ∧ apertured.serves 1 false true 255 1 = some 0x80FF ∧ apertured.serves 1 false true 255 2 = none
    ∧ apertured.serves 5 false true 255 1 = none ∧ apertured.fencedOut 1 1 = false ∧ (apertured.put 0x3420 2 1).fencedOut 1 1 = true
    ∧ apertured.reaches 5 = true ∧ apertured.reaches 1 = false := by decide +kernel
theorem test_remote_request : (after (.remoteRetrieverRequest 1 5 true 0x10FFF ⟨[9], [true], 0, false⟩ []) apertured).num 0x10FFF 1 = 9
    ∧ (after (.remoteRetrieverRequest 1 5 true 0x10FFF ⟨[9], [true], 0, false⟩ []) apertured).mem.poisoned 0x10FFF = true
    ∧ (after (.remoteRetrieverRequest 1 5 false 0x10FFF ⟨[], [], 2, false⟩ []) apertured).get 0x4050 2 = 1
    ∧ after (.remoteRetrieverRequest 1 1 true 0x10FFF ⟨[9], [], 0, false⟩ []) (apertured.put 0x3420 2 1) = apertured.put 0x3420 2 1 := by decide +kernel

/-- A root of one element, 1.0, from 0x1000 into 0x3000: p = 2, damping 1.0, tolerance 2^-20, 20 iterations. -/
def root (more : Nat) : Nat :=
  0x50 + 0x1000 <<< 256 + 0x3000 <<< 304 + 1 <<< 400 + 1 <<< 413 + 0x3F800000 <<< 434 + 20 <<< 502 + 20 <<< 510 + more
def rootDev : Dev := withBytes 0x1000 [0, 0, 0x80, 0x3F] (running (root 0))
theorem witness_root_starts : Starts (.ceRoot 7 []) (stateOf rootDev) (entry7 (root 0)) :=
  ⟨7, 0x50, rfl, by decide +kernel, by decide +kernel, by decide +kernel, by decide, by decide⟩
theorem witness_solver_starts : Starts (.ceCholInv 7 []) (stateOf (running 0x51)) (entry7 0x51) ∧ Starts (.ceLsq 7 []) (stateOf (running 0x52)) (entry7 0x52) :=
  ⟨starts_of _ 0x51 _ rfl (by decide +kernel) (by decide +kernel) (by decide), starts_of _ 0x52 _ rfl (by decide +kernel) (by decide +kernel) (by decide)⟩
theorem witness_solver_clauses :
    (poisonAt 0x1000 rootDev).firstPoison (ceInput (root 0) ++ rootDev.ceStored (root 0)) ≠ none
    ∧ rootDev.firstPoison (ceInput (root 0) ++ rootDev.ceStored (root 0)) = none
    ∧ (withBytes 0x1000 [0, 0, 0x80, 0x7F] rootDev).squareFinite (root 0) = false ∧ rootDev.squareFinite (root 0) = true
    ∧ (rootDev.squarePlan (root 0) (2 ^ cePCode (root 0))).isSome = true
    ∧ rootDev.ceRoom (root 0) = ccInvalidField ∧ (rootDev.put 0x6000 7 1).ceRoom (root 0) = 0
    ∧ ceWarmEn (root 0) = false ∧ ceStoreRoot (root 0) = false
    ∧ (rootDev.squarePlan 0x50 1) = none := by decide +kernel

/-! ## Collectives and shadows -/

/-- A bank whose tree 0 holds this device and, for `q` = 2, device 5 after it; the counts at 0x4000 are 1. -/
def treed (q desc : Nat) : Dev :=
  let d := withBytes 0x4000 (toBytes 4 1 ++ toBytes 4 1) (withBytes 0x104000 (toBytes 2 0x3FFF ++ toBytes 2 5) (withBytes 0x100000 (toBytes 4 q) (running desc)))
  { d with slots := { d.slots with active := some ⟨[], [], [], 0x100000, 0⟩ } }
/-- Collective 9 with operands at 0x1000 and 0x2000 in format `f`; `more` adds fields. -/
def coll (op f more : Nat) : Nat :=
  op + slot 0x1000 8 f <<< 256 + slot 0x2000 8 f <<< 360 + 0x4000 <<< 464 + 9 <<< 512 + 2 <<< 618 + more
/-- The collective of such a descriptor, before its start. -/
def collIn (q desc : Nat) (counts : List Nat) : Coll :=
  newColl (entry7 desc) ((treed q desc).stepOf desc) 0 (if q = 1 then [0x3FFF] else [0x3FFF, 5]) 0 counts
def collBegun (q desc : Nat) : Dev := (treed q desc).begun (entry7 desc) []

/-- Step 0 is behind: a permutation may start (04 R133). -/
def nextStep (d : Dev) : Dev := d.put 0x5080 4 1

theorem witness_collective_starts : CollStarts (.collReduceScatter 7 []) (stateOf (treed 1 (coll 0x40 2 0))) (entry7 (coll 0x40 2 0)) []
    ∧ CollStarts (.collAllGather 7 []) (stateOf (treed 1 (coll 0x41 2 0))) (entry7 (coll 0x41 2 0)) []
    ∧ CollStarts (.collPermute 7 []) (stateOf (nextStep (treed 1 (coll 0x43 2 (1 <<< 528))))) (entry7 (coll 0x43 2 (1 <<< 528))) []
    ∧ CollStarts (.collExactReduce 7 []) (stateOf (treed 1 (coll 0x44 4 0))) (entry7 (coll 0x44 4 0)) [] :=
  ⟨⟨0x40, rfl, by decide +kernel, by decide +kernel, by decide +kernel⟩, ⟨0x41, rfl, by decide +kernel, by decide +kernel, by decide +kernel⟩,
    ⟨0x43, rfl, by decide +kernel, by decide +kernel, by decide +kernel⟩, ⟨0x44, rfl, by decide +kernel, by decide +kernel, by decide +kernel⟩⟩
theorem witness_collective_refusals :
    (poisonAt 0x100000 (treed 1 (coll 0x41 2 0))).firstPoison ((treed 1 (coll 0x41 2 0)).treeExt 0) ≠ none
    ∧ (treed 1 (coll 0x41 2 0)).firstPoison ((treed 1 (coll 0x41 2 0)).treeExt 0) = none
    ∧ (treed 0 (coll 0x41 2 0)).treeInfo 0 = none ∧ (treed 1 (coll 0x41 2 0)).treeInfo 0 = some (0, [0x3FFF], 0)
    ∧ ((treed 1 (coll 0x41 2 0)).countsExt (coll 0x41 2 (0x0F1000000000 <<< 464 - 0x4000 <<< 464)) 1).all ((treed 1 (coll 0x41 2 0)).extentIn coreRegions) = false
    ∧ (poisonAt 0x4000 (treed 1 (coll 0x41 2 0))).firstPoison ((treed 1 (coll 0x41 2 0)).countsExt (coll 0x41 2 0) 1) ≠ none
    ∧ (treed 1 (coll 0x41 2 (1 <<< 528))).collClash (coll 0x41 2 (1 <<< 528)) = true ∧ (treed 1 (coll 0x41 2 0)).collClash (coll 0x41 2 0) = false
    ∧ (treed 1 (coll 0x44 2 0)).collInvalid (collIn 1 (coll 0x44 2 0) [1]) = true
    ∧ ((treed 1 (coll 0x41 2 0)).collExts (collIn 1 (coll 0x41 2 (0x0F1000000000 <<< 256)) [1])).all ((treed 1 (coll 0x41 2 0)).extentIn coreRegions)
        = false := by decide +kernel
theorem witness_collective_alone : (collBegun 1 (coll 0x41 2 0)).CollPasses (entry7 (coll 0x41 2 0)) (collIn 1 (coll 0x41 2 0) [1])
    ∧ (treed 1 (coll 0x41 2 0)).eng = Engine.init ∧ (collBegun 1 (coll 0x41 2 0)).mem.poison = [] :=
  ⟨⟨0, [0x3FFF], 0, by decide +kernel, by decide +kernel, by decide +kernel, by decide +kernel, by decide +kernel, by decide +kernel,
    by decide +kernel, by decide +kernel, by decide +kernel⟩, by decide +kernel, by decide +kernel⟩
theorem witness_broadcast_sends : (collBegun 2 (coll 0x42 2 0)).CollPasses (entry7 (coll 0x42 2 0)) (collIn 2 (coll 0x42 2 0) [1, 1])
    ∧ CollStarts (.collBroadcast 7 []) (stateOf (treed 2 (coll 0x42 2 0))) (entry7 (coll 0x42 2 0)) []
    ∧ (collIn 2 (coll 0x42 2 0) [1, 1]).rank = 0 ∧ 0 < (collIn 2 (coll 0x42 2 0) [1, 1]).count 0 * (collIn 2 (coll 0x42 2 0) [1, 1]).sendSize :=
  ⟨⟨0, [0x3FFF, 5], 0, by decide +kernel, by decide +kernel, by decide +kernel, by decide +kernel, by decide +kernel, by decide +kernel,
    by decide +kernel, by decide +kernel, by decide +kernel⟩, ⟨0x42, rfl, by decide +kernel, by decide +kernel, by decide +kernel⟩,
    by decide +kernel, by decide +kernel⟩
theorem test_all_gather_alone : (after (.collAllGather 7 []) (withBytes 0x1000 [1, 2] (treed 1 (coll 0x41 2 0)))).num 0x2000 2 = 0x0201 := by decide +kernel
/-- 1.0 squared is 1.0 (11 R361, `REDOP` 1). -/
theorem test_exact_reduce_alone : (after (.collExactReduce 7 [])
    (withBytes 0x1000 (toBytes 8 0x4000000000000000) (treed 1 (coll 0x44 4 (1 <<< 624))))).num 0x2000 8 = 0x4010000000000000 := by decide +kernel
theorem test_reduce_scatter_alone : (after (.collReduceScatter 7 []) (withBytes 0x1000 [0, 0x3F] (treed 1 (coll 0x40 2 0)))).num 0x2000 2 = 0x3F00 := by
  decide +kernel
/-- A permutation moves to the epoch after the current one (11 R364): one piece to itself. -/
theorem test_permute : (after (.collPermute 7 []) (withBytes 0x4000 (toBytes 4 2 ++ toBytes 16 (1 <<< 32) ++ toBytes 16 (1 <<< 16 + 1 <<< 32 + 1 <<< 64))
    (withBytes 0x1000 [7, 8] (nextStep (treed 1 (coll 0x43 2 (1 <<< 528))))))).num 0x2000 4 = 0x08070000 := by decide +kernel
theorem test_broadcast_leaves : ((after (.collBroadcast 7 []) (withBytes 0x1000 [1, 2] (treed 2 (coll 0x42 2 0)))).eng.segments.map
    (fun g => (g.dest, g.number, g.chunks.map (fun k => k.data)))) = [(5, 0, [[1#8, 2#8]])] := by decide +kernel

/-- A chunk of kind `kind` from device 5 for collective 9, segment 0, in an inbox. -/
def chunkOf (kind stage : Nat) (data : List Byte) : Chunk :=
  ⟨5, 0, 2, (⟨0, 0, stage, data.length, 1, 0, 0, 9, kind⟩ : ChunkHead).value data, data, [false], false⟩
def inbox (k : Chunk) (d : Dev) : Dev := { d with eng := { d.eng with inbox := [k] } }

/-- An all-gather over two ranks that has started: its own part has left, and it expects device 5's. -/
def gathering : Dev := after (.collAllGather 7 []) (withBytes 0x1000 [1, 2] (treed 2 (coll 0x41 2 0)))
/-- Its segment re-sent twice already. -/
def gatheringLast : Dev := { gathering with now := 10000000, eng := { gathering.eng with
  segments := gathering.eng.segments.map (fun g => { g with sent := 1, resends := 2, chunks := g.chunks.map (fun k => { k with resends := 2 }) }) } }
def theFlight : Option Coll := gathering.eng.flights.head?
def theSegment : Option Segment := gathering.eng.segments.head?

theorem witness_chunks : (inbox (chunkOf 0 1 [3, 4]) gathering).eng.inbox.find? (fun k => chKind k.header == 0) = some (chunkOf 0 1 [3, 4])
    ∧ gathering.eng.inbox.find? (fun k => chKind k.header == 0) = none
    ∧ (chunkOf 0 1 [3, 4]).key ∉ gathering.eng.accepted ∧ serialNewer 16 (gathering.epochOf 0) 0 = false
    ∧ theFlight.map (fun f => (coCollId f.desc, coEpoch f.desc, f.needFor (chunkOf 0 1 [3, 4]), f.need.length)) = some (9, 0, some 0, 1)
    ∧ serialNewer 16 (({ gathering with eng := { gathering.eng with epochs := [(0, 1)] } } : Dev).epochOf 0) 0 = true
    ∧ gathering.eng.earlyBytes + 2 ≤ 8 * 2 ^ 20 ∧ chCollId (chunkOf 0 1 [3, 4]).header = 9 := by decide +kernel
theorem witness_duplicate_chunk : (chunkOf 0 1 [3, 4]).key ∈ (after .collDataChunkReceived (inbox (chunkOf 0 1 [3, 4]) gathering)).eng.accepted := by decide +kernel
theorem test_chunk_is_accepted_and_duplicate_counted :
    (let d := after .collDataChunkReceived (inbox (chunkOf 0 1 [3, 4]) gathering)
     d.num 0x2000 4 == 0x04030201 && (after .collDataChunkReceived (inbox (chunkOf 0 1 [9, 9]) d)).num 0x2000 4 == 0x04030201
       && (after .collDataChunkReceived (inbox (chunkOf 0 1 [9, 9]) d)).get 0x3510 2 == 1) = true := by decide +kernel
theorem test_early_chunk_is_held : (after .collDataChunkReceived (inbox (chunkOf 0 1 [3, 4]) Dev.init)).eng.early.length = 1
    ∧ (after .collDataChunkReceived (inbox (chunkOf 0 1 [3, 4]) { Dev.init with eng := { Engine.init with epochs := [(0, 1)] } })).get 0x3510 1 = 1 := by
  decide +kernel
theorem witness_segment_answers : ((inbox (chunkOf 2 1 []) gathering).segmentOf (chunkOf 2 1 [])) = theSegment ∧ theSegment.isSome = true
    ∧ (gathering.segmentOf (chunkOf 2 2 [])) = none
    ∧ theSegment.map (fun g => (g.owner, g.limit, (g.chunks.take g.sent).map (fun q => (chChunk q.header, q.resends)))) = some (some 7, 2, [(0, 0)])
    ∧ gatheringLast.eng.segments.map (fun g => (g.resends, g.chunks.map Kept.resends)) = [(2, [2])]
    ∧ (gatheringLast.coll 7).map (fun f => (f.code, f.id)) = some (0, 7) ∧ (gatheringLast.entry 7).isSome = true
    ∧ (theSegment.bind (fun g => ((gathering.dropSegment g).coll 7).map (fun f => (gathering.dropSegment g).collOver f))) = some false := by decide +kernel
theorem test_seg_ack : (after .segAckReceived (inbox (chunkOf 2 1 []) gathering)).eng.segments = [] := by decide +kernel
theorem test_nak_in_vain : ((after .chunkNakReceived (inbox (chunkOf 3 1 []) gatheringLast)).entry 7).map (fun e => e.done.map Done.code)
    = some (some ccCollIntegrity) := by decide +kernel
theorem test_nak_resends : (after .chunkNakReceived (inbox (chunkOf 3 1 []) gathering)).eng.segments.map (fun g => g.chunks.map Kept.resends) = [[1]] := by
  decide +kernel
theorem witness_refetch : ((gathering.eng.flights ++ gathering.eng.past).find? (fun c => c.op == 0x41 && coCollId c.desc == 9)) = theFlight
    ∧ theFlight.map (fun f => (f.tree.contains 5, decide (0 < f.count f.rank * f.sendSize))) = some (true, true)
    ∧ gathering.eng.nextSegment < 2 ^ 24 ∧ ((Dev.init.eng.flights ++ Dev.init.eng.past).find? (fun c => c.op == 0x41)) = none := by decide +kernel
theorem test_refetch : ((after .refetchReqReceived (inbox (chunkOf 4 0 []) gathering)).eng.segments.map (fun g => (g.dest, g.number))) = [(5, 0), (5, 1)] := by
  decide +kernel

/-- A stream that last brought a flit at 0, and an early chunk that is dropped at 10^9. -/
def streaming (now : Nat) : Dev :=
  { Dev.init with now := now, eng := { Engine.init with streams := [⟨5, 9, false, 1, chunkOf 0 1 [1, 2], 0⟩], early := [(chunkOf 0 1 [3, 4], 10 ^ 9)] } }
theorem witness_engine_timers : ((streaming 20000).eng.streams.find? (fun x => x.src == 5 && x.collId == 9 && x.detour == false)).isSome = true
    ∧ (19999 < 0 + 20000) ∧ ¬ ((20000 : Nat) < 0 + 20000)
    ∧ (gathering.eng.segments.find? (fun g => g.number == 0 && (decide (g.chunks.length ≤ g.sent) && decide (g.lastSend + g.wait * 1000 ≤ gathering.now)))) = none
    ∧ (gatheringLast.eng.segments.find? (fun g => g.number == 0 && (decide (g.chunks.length ≤ g.sent) && decide (g.lastSend + g.wait * 1000 ≤ gatheringLast.now)))).map
        (fun g => (decide (g.limit ≤ g.resends), g.chunks.map (fun q => decide (g.limit ≤ q.resends)))) = some (true, [true]) := by decide +kernel
theorem test_stream_timeout : (after (.chunkStreamTimeout 5 9 false) (streaming 20000)).eng.streams = []
    ∧ (after (.chunkStreamTimeout 5 9 false) (streaming 20000)).get 0x3510 3 = 1
    ∧ after (.chunkStreamTimeout 5 9 false) (streaming 19999) = streaming 19999 := by decide +kernel
theorem test_ack_timeout : ((after (.collAckTimeout 0) gatheringLast).entry 7).map (fun e => e.done.map Done.code) = some (some ccCollIntegrity)
    ∧ (after (.collAckTimeout 0) { gathering with now := 10000000 }).eng.segments.map Segment.resends = [1] := by decide +kernel
theorem test_early_hold : (after .earlyHoldExpired (streaming (10 ^ 9))).eng.early = [] ∧ (after .earlyHoldExpired (streaming (10 ^ 9))).get 0x3510 4 = 1 := by
  decide +kernel

/-- A hold slot 0 for device 5, of 4,096 bytes at 0x8000, which holds step 2; step 3 has brought `b` bytes. -/
def holding (b : Nat) : Dev :=
  let d := ((((Dev.init.put 0x7210 1 0x8005).put 0x7210 2 0x8000).put 0x7210 3 4096).put 0x7210 4 2).put 0x7210 5 1
  d.setHold 0 { Hold.init with step := some 3, bytes := b }
def shadowChunk (off : Nat) (data : List Byte) : Chunk :=
  ⟨5, 0, 3, (⟨off, 3, 0, data.length, 1, 1, 4, 0, 5⟩ : ChunkHead).value data, data, [false], false⟩
def shadowCommit (step total : Nat) : Chunk :=
  let data := toBytes 8 step ++ toBytes 8 total
  ⟨5, 0, 3, (⟨0, step, 0, 16, 1, 0, 0, 0, 6⟩ : ChunkHead).value data, data, [false], false⟩
theorem witness_shadow_data : (holding 0).holdOf 5 = some 0 ∧ (holding 0).holdOf 6 = none ∧ (holding 0).holdStepOk 0 3 = true
    ∧ chOffset (shadowChunk 4094 [1, 2]).header + 2 ≤ (holding 0).get 0x7210 3 ∧ ((holding 0).hold 0).attempt = chStage (shadowChunk 4094 [1, 2]).header
    ∧ ((holding 0).hold 0).step = some (chTensor (shadowChunk 4094 [1, 2]).header) ∧ ((holding 0).hold 0).keys = [] ∧ ((holding 0).hold 0).commit = none := by
  decide +kernel
theorem test_shadow_data : (after .shadowDataReceived (inbox (shadowChunk 4094 [1, 2]) (holding 0))).num (0x8000 + 4096 + 4094) 2 = 0x0201
    ∧ (after .shadowDataReceived (inbox (shadowChunk 4095 [1, 2]) (holding 0))).get 0x7210 6 = 1 := by decide +kernel
theorem witness_shadow_commit : chKind (shadowCommit 3 2).header = 6 ∧ ofBytes ((shadowCommit 3 2).data.take 8) = 3
    ∧ ofBytes (((shadowCommit 3 2).data.drop 8).take 8) = 2 ∧ (holding 2).get 0x7210 4 ≠ 3 ∧ ((holding 2).hold 0).bytes = 2 := by decide +kernel
theorem test_shadow_commit : (after .shadowCommitReceived (inbox (shadowCommit 3 2) (holding 2))).get 0x7210 4 = 3
    ∧ (after .shadowCommitReceived (inbox (shadowCommit 3 2) (holding 1))).get 0x7210 4 = 2 := by decide +kernel
/-- The commit that came early at 0 is held until `COLL_ACK_TIMEOUT` later. -/
def heldCommit (now : Nat) : Dev := { after .shadowCommitReceived (inbox (shadowCommit 3 2) (holding 1)) with now := now }
theorem witness_held_commit : ((heldCommit 0).hold (0 : Fin 4)).commit.isSome = true ∧ ((heldCommit 0).hold (1 : Fin 4)).commit = none
    ∧ ((heldCommit 0).hold 0).commit.map (fun c => c.2.2.1) = some 5000000 := by decide +kernel
theorem test_held_commit : ((after (.shadowCommitHoldTimeout 0) (heldCommit 5000000)).hold 0).commit = none
    ∧ after (.shadowCommitHoldTimeout 0) (heldCommit 4999999) = heldCommit 4999999 := by decide +kernel
/-- Step 3 is shadowed, and its boundary has been executed. -/
def shadowed : Dev := { Dev.init with shadow := { Shadow.init with current := some 3, boundary := true, total := 48 } }
theorem witness_shadow_commit_due : shadowed.shadow.current = some 3 ∧ shadowed.shadow.boundary = true ∧ shadowed.shadow.commitSent = false
    ∧ shadowed.shadow.failed = false ∧ shadowed.eng.segments = [] := by decide
theorem test_shadow_commit_send : (after .shadowCommitSend shadowed).eng.segments.map (fun g => g.chunks.map (fun k => k.data))
    = [[toBytes 8 3 ++ toBytes 8 48]] := by decide +kernel

/-! ## The update sweep and memory service -/

/-- A sweep descriptor over one shard, version 1, outside version rings; `more` adds fields. -/
def sweep (op ring : Nat) : Nat :=
  op + 0x9000 <<< 256 + 0x9100 <<< 304 + 0x9200 <<< 352 + 0x9300 <<< 400 + 1 <<< 448 + ring <<< 476 + 1 <<< 488
/-- The shard's table entry: 1 by 1, scale -16 against the default L of 16, shard 3; `more` adds fields. -/
def shard (more : Nat) : Nat :=
  0x8300 + 0x8000 <<< 48 + 0x8100 <<< 96 + 0x8200 <<< 144 + 0x9400 <<< 288 + 1 <<< 384 + 1 <<< 408 + 1 <<< 432 + 0xF0 <<< 456 + 3 <<< 512 + more
/-- W and the gradient are 1.0, the rate 0.5, and ring 2 has one slot, to which one descriptor refers. -/
def sweepDev (desc entry : Nat) : Dev :=
  let d := withBytes 0x9100 (toBytes 4 0x3F000000) (withBytes 0x8300 [0x80, 0x3F] (withBytes 0x8000 [0x80, 0x3F] (withBytes 0x9000 (toBytes 128 entry) (running desc))))
  withBytes (d.vringAddr 2) (toBytes 64 (1 <<< 384 + 1 <<< 64)) d

theorem witness_sweeps : (sweepDev (sweep 0x61 0xFFF) (shard 0)).mayStart (entry7 (sweep 0x61 0xFFF)) = true
    ∧ (sweepDev (sweep 0x61 0xFFF) (shard 0)).awaitsCommit 7 = false ∧ (sweepDev (sweep 0x60 0xFFF) (shard 0)).mayStart (entry7 (sweep 0x60 0xFFF)) = true
    ∧ (sweepDev (sweep 0x62 0xFFF) (shard 0)).mayStart (entry7 (sweep 0x62 0xFFF)) = true := by decide +kernel
theorem witness_sweep_checks :
    (poisonAt 0x9000 (sweepDev (sweep 0x61 0xFFF) (shard 0))).firstPoison (Dev.sweepControl (sweep 0x61 0xFFF) (sweepDev (sweep 0x61 0xFFF) (shard 0))) ≠ none
    ∧ (sweepDev (sweep 0x61 0xFFF) (shard 0)).firstPoison (Dev.sweepControl (sweep 0x61 0xFFF) (sweepDev (sweep 0x61 0xFFF) (shard 0))) = none
    ∧ (sweepDev (sweep 0x61 0xFFF) 0).tableCheck (sweep 0x61 0xFFF) [0] ≠ 0 ∧ (sweepDev (sweep 0x61 0xFFF) (shard 0)).tableCheck (sweep 0x61 0xFFF) [shard 0] = 0
    ∧ (sweepDev (sweep 0x61 0xFFF) (shard 0)).shardTable (sweep 0x61 0xFFF) = [shard 0] ∧ shResident (shard 0) = false
    ∧ (sweepDev (sweep 0x60 0xFFF) (shard 0)).tableCheck (sweep 0x60 0xFFF) [shard 0] = 0
    ∧ ((sweepDev (sweep 0x60 0xFFF) (shard 0)).normSum [shard 0]).2.2 = none
    ∧ ((poisonAt 0x8300 (sweepDev (sweep 0x60 0xFFF) (shard 0))).normSum [shard 0]).2.2 ≠ none
    ∧ fpValid ((sweepDev (sweep 0x62 0xFFF) (shard 0)).num 0x9300 32) = false ∧ ((sweepDev (sweep 0x61 0xFFF) (shard 0)).put 0x50A0 2 0).get 0x50A0 2 = 0 := by decide +kernel
theorem witness_sweep_claim : claimReady ((sweepDev (sweep 0x61 2) (shard 0)).vring 2) 1 = false
    ∧ (sweepDev (sweep 0x61 2) (shard 0)).tableCheck (sweep 0x61 2) [shard 0] = 0
    ∧ 0x9200 + 45 ≤ (sweepDev (sweep 0x61 2) (shard 0)).vringAddr 2 := by decide +kernel
/-- 1.0 - 0.5 * 1.0 = 0.5 (08 R239, MOMENTUM); the version is published. -/
theorem test_sweep_updates : (let d := after (.sweepShards 7 [] []) (sweepDev (sweep 0x61 0xFFF) (shard 0))
    d.num 0x8000 2 == 0x3F00 && d.num 0x9400 2 == 0x3F00 && d.num 0x8200 4 == 0x3F800000) = true := by decide +kernel
/-- The sum of squares of 1.0 is 1.0, and one shard was read (04 R106; 08 R233). -/
theorem test_norm_check : (after (.sweepNormCheck 7 []) (sweepDev (sweep 0x60 0xFFF) (shard 0))).num 0x9200 8 = 0x3FF0000000000000
    ∧ ((after (.sweepNormCheck 7 []) (sweepDev (sweep 0x60 0xFFF) (shard 0))).entry 7).map (fun e => e.done.map Done.result) = some (some (2 ^ 32)) := by
  decide +kernel
theorem test_verify_of_stale_record : (after (.sweepVerify 7 [] []) (sweepDev (sweep 0x62 0xFFF) (shard 0))).get 0x50A0 5 = 1 := by decide +kernel
/-- A verification of what a sweep stored finds it right (08 R252). -/
theorem test_verify_after_sweep :
    (let d := after (.sweepShards 7 [] []) (sweepDev (sweep 0x61 0xFFF) (shard 0))
     let x := sweep 0x62 0xFFF
     let d : Dev := { d with disp := { d.disp with board := [entry7 x] } }
     ((after (.sweepVerify 7 [] []) d).entry 7).map (fun e => e.done.map Done.code) == some (some 0)
      && (after (.sweepVerify 7 [] []) d).get 0x50A0 4 == 1 && (after (.sweepVerify 7 [] []) d).get 0x50A0 6 == 0) = true := by decide +kernel
/-- Step 0 was shadowed and is not committed; the sweep belongs to step 1. -/
def awaiting : Dev :=
  let x := sweep 0x61 0xFFF
  { ((running x).put 0x5080 4 1).put 0x7200 4 7 with
    shadow := { Shadow.init with current := some 0 }
    disp := { (running x).disp with board := [entry7 (x + 1 <<< 80)] } }
theorem witness_awaits_commit : awaiting.stepOf (sweep 0x61 0xFFF + 1 <<< 80) = 1 ∧ awaiting.awaitsCommit 7 = true := by decide +kernel
theorem test_awaits_commit : (after (.sweepShards 7 [] []) awaiting).shadow.waitFrom = some (7, 0)
    ∧ after (.sweepShards 7 [] []) (after (.sweepShards 7 [] []) awaiting) = after (.sweepShards 7 [] []) awaiting := by decide +kernel

/-- A sweep that waits for its claim, and one that waits for a resident shard. -/
def claiming : Dev := after (.sweepShards 7 [] []) (sweepDev (sweep 0x61 2) (shard 0))
def resident : Dev := after (.sweepShards 7 [] []) (sweepDev (sweep 0x61 0xFFF) (shard (1 <<< 480)))
/-- The one reference of ring 2 is gone. -/
def claimFree : Dev := withBytes (claiming.vringAddr 2) (toBytes 64 (1 <<< 384)) claiming
def abandoned (d : Dev) : Dev := { d with disp := { d.disp with fatalSteps := [0] } }
/-- 1 ms and 1 ns later, the watch being 1 ms. -/
def later (d : Dev) : Dev :=
  { d with now := 1000001, cmp := { d.cmp with sweep := d.cmp.sweep.map (fun r => { r with watch := 1, seen := r.seen.map (fun v => { v with watch := 1 }) }) } }
theorem witness_sweep_under_way : Dev.init.sweeping.isNone = true
    ∧ (claiming.sweeping.map (fun p => (p.1.claiming, p.1.left, p.1.done.code, p.1.raised, p.1.idleFrom))) = some (true, [0], 0, false, none)
    ∧ claimReady (claiming.vring 2) 1 = false ∧ claimReady (claimFree.vring 2) 1 = true ∧ (claimFree.sweeping).isSome = true := by decide +kernel
theorem witness_sweep_waits_for_shards : (resident.sweeping.map (fun p => (p.1.claiming, p.1.left, p.1.idleFrom, p.1.seen.map Visit.entry, resident.eligible p.1 0)))
        = some (false, [0], some 0, [0], false)
    ∧ ((resident.setReady 3 true).sweeping.map (fun p => (resident.setReady 3 true).eligible p.1 0)) = some true
    ∧ ((later claiming).sweeping.map (fun p => decide (p.1.watch * 1000000 < (later claiming).now - p.1.since))) = some true
    ∧ ((later resident).sweeping.map (fun p => p.1.seen.map (fun v => decide (v.watch * 1000000 < (later resident).now - v.since)))) = some [true]
    ∧ ((abandoned claiming).sweeping.map (fun p => (abandoned claiming).disp.fatalSteps.contains p.2.step)) = some true := by decide +kernel
theorem test_claim_goes_on : (after (.vringClaim [] []) claimFree).cmp.sweep = none ∧ (after (.vringClaim [] []) claimFree).num 0x8000 2 = 0x3F00
    ∧ after (.vringClaim [] []) claiming = claiming := by decide +kernel
theorem test_claim_abandoned : ((after (.vringClaim [] []) (abandoned claiming)).entry 7).map (fun e => e.done.map Done.code) = some (some ccAbandoned) := by
  decide +kernel
theorem test_claim_wait : (after .vringClaimWait (later claiming)).get 0x1300 3 = 1
    ∧ (after .vringClaimWait (after .vringClaimWait (later claiming))).get 0x1300 3 = 1 := by decide +kernel
theorem test_shard_eligible : (after (.sweepShardEligible [] []) (resident.setReady 3 true)).num 0x8000 2 = 0x3F00
    ∧ after (.sweepShardEligible [] []) resident = resident := by decide +kernel
theorem test_residency_wait : (after (.sweepResidencyWait 0) (later resident)).get 0x1300 3 = 1
    ∧ after (.sweepResidencyWait 0) resident = resident := by decide +kernel

theorem witness_memory_service : (inState .ready Dev.init).memoryOn = true ∧ (inState .ready Dev.init).scrubPeriod 64 ≠ 0
    ∧ (inState .ready Dev.init).mem.poisoned 64 = false ∧ Dev.init.memoryOn = false
    ∧ (inState .ready Dev.init).deviceFitted 15 = true ∧ (inState .ready Dev.init).deviceFitted 16 = false := by decide +kernel
theorem test_scrub : (after (.patrolScrub 64 ⟨some true, []⟩) (inState .ready Dev.init)).mem.poisoned 100 = true
    ∧ (after (.patrolScrub 64 ⟨some false, []⟩) (inState .ready Dev.init)).get 0x4030 1 = 1
    ∧ (after (.patrolScrub 64 ⟨none, [⟨128, true⟩]⟩) (inState .ready Dev.init)).readFlaws.mem.poisoned 128 = true := by decide +kernel
theorem test_memory_device_failed : (after (.memDeviceFailed 15) (inState .ready Dev.init)).disp.fatal = true
    ∧ after (.memDeviceFailed 16) (inState .ready Dev.init) = inState .ready Dev.init := by decide +kernel
/-- Kennel half 0, in use, stopped at 0. -/
def halfStopped (now : Nat) : Dev :=
  let d : Dev := { Dev.init with now := now, power := { Power.init with pstate := .ready, trained := 16 } }
  d.setDomain 8 { d.domain 8 with stoppedAt := some 0 }
theorem witness_kennel_clock : ((halfStopped 1000001).domain 8).stoppedAt = some 0 ∧ (halfStopped 0).memoryOn = true ∧ (halfStopped 0).power.trained ≠ 0 := by
  decide +kernel
theorem test_kennel_clock : (after (.kennelClockStopTimeout 0) (halfStopped 1000001)).disp.fatal = true
    ∧ after (.kennelClockStopTimeout 0) (halfStopped 1000000) = halfStopped 1000000 := by decide +kernel

/-! ## The host port and the dictionary -/

theorem witness_bar2 : (inState .ready Dev.init).inBar2 0 4 = true ∧ (upFrom 0 4).any (inState .ready Dev.init).inHole = false
    ∧ (upFrom (2 ^ 36 - 4) 4).any (inState .ready Dev.init).inHole = false ∧ (inState .ready Dev.init).inBar2 (2 ^ 36 - 4) 4 = true
    ∧ (inState .ready Dev.init).inBar2 (2 ^ 36 - 4) 5 = false ∧ (upFrom 0 4).any Dev.init.inHole = true := by decide +kernel
theorem test_bar2_read : (after (.bar2Read 0x1000 ⟨2, []⟩) (withBytes 0x1000 [1, 2] (inState .ready Dev.init))).out = [.readCompletion [1#8, 2#8] false]
    ∧ (after (.bar2Read 0x1000 ⟨2, [⟨0x1000, true⟩]⟩) (inState .ready Dev.init)).out.head? = some (.readCompletion [0#8, 0#8] true)
    ∧ (after (.bar2Read 0x1000 ⟨2, []⟩) Dev.init).out.head? = some (.readCompletion [0xFF#8, 0xFF#8] false) := by decide +kernel
theorem test_bar2_write : (after (.bar2Write 0x1000 [5]) (inState .ready Dev.init)).num 0x1000 1 = 5
    ∧ (after (.bar2Write 0x1000 [5]) Dev.init).mem = Dev.init.mem ∧ (after (.bar2Write 0x1000 [5]) Dev.init).get 0x1300 1 = 1 := by decide +kernel

/-- The function is not ready before 100 ms. -/
def unready : Dev := { Dev.init with host := { HostPort.init with readyAt := 100000000 } }
theorem witness_configuration_requests : unready.hostUp = true ∧ unready.now < unready.host.readyAt ∧ Dev.init.host.readyAt ≤ Dev.init.now
    ∧ Dev.init.configKnown 4 = none ∧ (Dev.init.configKnown 0x24).isSome = true
    ∧ ({ Dev.init with host := { HostPort.init with linkUp := false } } : Dev).hostUp = false := by decide +kernel
theorem test_configuration_requests : (after (.pcieConfigRequest false 0 0) Dev.init).out = [.configAnswer 0x0D011F3C false]
    ∧ (after (.pcieConfigRequest false 0 0) unready).out = [.configAnswer 0 true] := by decide +kernel
theorem witness_pcie_link : Dev.init.host.linkUp = true ∧ Dev.init.host.held = false ∧ (Dev.init.domain 1).stopped = false
    ∧ ({ Dev.init with host := { HostPort.init with held := true } } : Dev).host.held = true := by decide +kernel
theorem test_pcie_link : (after .pcieLinkDown Dev.init).host.linkUp = false ∧ (after .pcieLinkUp (after .pcieLinkDown Dev.init)).host.linkUp = true := by
  decide +kernel
/-- Vector 9 has a message that its mask held back, for the address 0x500000004, with the data 6. -/
def masked : Dev := { Dev.init with host := { HostPort.init with msixEnable := true, msix := [(36, 4), (37, 5), (38, 6)], msixPending := [(9, true)] } }
theorem witness_msix : masked.barOpen = true ∧ sget (fun _ => false) masked.host.msixPending 9 = true ∧ masked.host.msixEnable = true
    ∧ sget (fun _ => false) Dev.init.host.msixPending 9 = false := by decide +kernel
theorem test_msix_unmask : (after (.msixUnmask ⟨9, true, .high, 0⟩) masked).out = [.msix 9 0x500000004 6] ∧ (after (.msixUnmask ⟨8, true, .high, 0⟩) masked).out = []
    ∧ (after (.msixUnmask ⟨9, true, .high, 1⟩) masked).out = [] ∧ (after (.msixUnmask ⟨9, false, .whole, 0x700000008⟩) masked).msixWord 37 = 7 := by decide +kernel

/-- The event queue enabled. -/
def queueOn : Dev := { Dev.init with host := { HostPort.init with evqCfg := 0x800000C0 } }
theorem witness_event_queue : bit Dev.init.host.evqCfg 31 = false ∧ bit queueOn.host.evqCfg 31 = true ∧ queueOn.barOpen = true
    ∧ mergePart 0 .whole 64 % 64 = 0 ∧ mergePart 0 .whole 63 % 64 ≠ 0
    ∧ bits (5 <<< 5) 5 5 < 6 ∧ 16 < bits (17 <<< 5) 5 5 ∧ 4 < bits (5 + 6 <<< 5) 0 3
    ∧ ¬ (bits (4 + 16 <<< 5) 5 5 < 6 ∨ 16 < bits (4 + 16 <<< 5) 5 5 ∨ 4 < bits (4 + 16 <<< 5) 0 3) := by decide +kernel
theorem test_event_queue_base : (after (.evqConfigWrite .evqBase .whole 64) Dev.init).host.evqBase = 64
    ∧ (after (.evqConfigWrite .evqBase .whole 64) queueOn).host.evqBase = 0 := by decide +kernel
theorem test_event_queue_head : (after (.evqHeadWrite 5) queueOn).host.evqHead = 5 ∧ (after (.evqConfigWrite .evqCfg .low 0) queueOn) = queueOn := by
  decide +kernel

/-- A write of an entry by the PCI Express port. -/
def put_ (i k v : Nat) : Instr := .odEntryWrite .pcie (BitVec.ofNat 24 (i * 256 + k)) (BitVec.ofNat 256 v)
theorem witness_write_checks : Dev.init.requesterOpen .pcie = true ∧ (Dev.init.domain 0xB).hold = false ∧ Dev.init.updBusy = false
    ∧ Dev.init.entryExists 0x1001 1 = false ∧ Dev.init.entryExists 0x1300 3 = true ∧ (odRow 0x1300 3).map OdRow.access = some .ro
    ∧ (odRow 0x5080 1).map OdRow.access = some .rw ∧ Dev.init.leashOwner (leashGroup 0x5080) ≠ .pcie ∧ (owned Dev.init).leashOwner (leashGroup 0x5080) = .pcie
    ∧ (inState .run (owned Dev.init)).quiescent = false ∧ (odRow 0x5010 1).map OdRow.access = some .rwq
    ∧ (after (put_ 0x1200 8 1) (owned Dev.init)).get 0x1200 8 = 1 := by decide +kernel
/-- `NO_ENTRY`, `NOT_WRITABLE`, `LEASH_NOT_HELD`, `NOT_QUIESCENT`, `VALUE_REFUSED`, `OK` (14 R435). -/
theorem test_write_statuses : status (after (put_ 0x1001 1 0) (owned Dev.init)) = some 1 ∧ status (after (put_ 0x1300 3 0) (owned Dev.init)) = some 2
    ∧ status (after (put_ 0x5080 1 0) Dev.init) = some 5 ∧ status (after (put_ 0x5010 1 0) (inState .run (owned Dev.init))) = some 3
    ∧ status (after (put_ 0x5010 1 2) (owned Dev.init)) = some 4 ∧ status (after (put_ 0x5010 1 1) (owned Dev.init)) = some 0 := by decide +kernel

theorem granted (who : Requester) (i k : Nat) (d : Dev)
    (h : (d.requesterOpen who, (d.domain 0xB).hold, who == .pcie || !d.mgmtBusy, d.notSecure (ownerOf who) (d.requesterSecure who), d.accessStatus (ownerOf who) i k) = (true, false, true, false, 0)) :
    d.Grants who i k := by
  simp only [Prod.mk.injEq, Bool.or_eq_true, beq_iff_eq, Bool.not_eq_true'] at h
  exact ⟨h.1, h.2.1, fun hw => h.2.2.1.resolve_left hw, h.2.2.2⟩

theorem witness_stored_entry : (owned Dev.init).Grants .pcie 0x5080 1 ∧ storesOnly 0x5080 1 ∧ (owned Dev.init).actingEntry 0 true 0x5080 1 77 = none
    ∧ (owned Dev.init).valueOk 0x5080 1 77 = true ∧ (owned Dev.init).Grants .pcie 0x5010 1 ∧ storesOnly 0x5010 1
    ∧ (owned Dev.init).valueOk 0x5010 1 2 = false :=
  ⟨granted _ _ _ _ (by decide +kernel), by unfold storesOnly; decide, by decide +kernel, by decide +kernel, granted _ _ _ _ (by decide +kernel),
    by unfold storesOnly; decide, by decide +kernel⟩
theorem test_stored_entry : (after (put_ 0x5080 1 77) (owned Dev.init)).get 0x5080 1 = 77 := by decide +kernel

/-- The window is busy; Shepherd's clock stands still. -/
def busyWindow : Dev := { Dev.init with host := { HostPort.init with odStatus := 2 ^ 31 } }
def shepherdHeld (d : Dev) : Dev := d.setDomain 0xB { d.domain 0xB with hold := true }
theorem witness_window : Dev.init.windowOpen = true ∧ bit Dev.init.host.odStatus 31 = false ∧ bit busyWindow.host.odStatus 31 = true
    ∧ (shepherdHeld Dev.init).windowOpen = true ∧ ((shepherdHeld Dev.init).domain 0xB).hold = true
    ∧ ({ Dev.init with host := { HostPort.init with d3hot := true } } : Dev).windowOpen = false ∧ Dev.init.sec.recovery = false := by decide +kernel
theorem test_window_read : (let h := (after (.odRead 0x508001) Dev.init).host
    h.odStatus == 0 && h.odLen == entrySize 0x5080 1 && h.odData == Dev.init.get 0x5080 1) = true
    ∧ (after (.odRead 0x100101) Dev.init).host.odStatus = 1 ∧ after (.odRead 0x508001) busyWindow = busyWindow := by decide +kernel
theorem test_window_write : (after (.odWrite 0x508001 77) (owned Dev.init)).get 0x5080 1 = 77 ∧ (after (.odWrite 0x508001 77) Dev.init).host.odStatus = 5 := by
  decide +kernel
theorem test_trail_entry_read : (after (.trailEntryRead .pcie) { Dev.init with trail := { Trail.init with entries := [5, 6] } }).get 0x7110 1 = 1
    ∧ (after (.trailEntryRead .pcie) { Dev.init with trail := { Trail.init with entries := [5, 6] } }).out = [.odAnswer 0 32 5] := by decide +kernel

/-! ## Commands that are dictionary writes -/

theorem witness_port_commands : (owned Dev.init).Grants .pcie 0x3011 6 ∧ bit ((0#4).toNat ||| 8) 3 = true
    ∧ ((portIn 5 .active (owned Dev.init)).port 5).state = .active ∧ ((portIn 5 .down (owned Dev.init)).port 5).state = .down
    ∧ ((owned Dev.init).port 5).state = .disabled ∧ bit ((0#4).toNat ||| 4) 2 = true ∧ bit ((0#4).toNat ||| 2) 1 = true ∧ bit ((0#4).toNat ||| 1) 0 = true
    ∧ bit ((0#4).toNat ||| 1) 1 = false :=
  ⟨granted _ _ _ _ (by decide +kernel), by decide +kernel⟩
theorem test_port_commands : ((after (.forceDown .pcie 5 0) (portIn 5 .active (owned Dev.init))).port 5).state = .down
    ∧ ((after (.rearm .pcie 5 0) (portIn 5 .down (owned Dev.init))).port 5).state = .detect
    ∧ ((after (.retrain .pcie 5 0) (portIn 5 .active (owned Dev.init))).port 5).state = .retrain
    ∧ ((after (.rediscover .pcie 5 0) (portIn 5 .quarantine (owned Dev.init))).port 5).state = .discover := by decide +kernel
theorem test_port_command_refused : status (after (.rearm .pcie 5 0) (portIn 5 .active (owned Dev.init))) = some 4
    ∧ ((after (.rearm .pcie 5 0) (portIn 5 .active (owned Dev.init))).port 5).state = .active := by decide +kernel

theorem witness_power_commands : (owned Dev.init).Grants .pcie 0x2000 1 ∧ (owned Dev.init).power.target = none ∧ (owned Dev.init).power.pstate = .standby
    ∧ (inState .run (running 0x70)).inFlight ≠ 0 ∧ (inState .protect Dev.init).causeCleared = true
    ∧ ({ Dev.init with pins := { Pins.init with vrFault := true } } : Dev).causeCleared = false
    ∧ (after (.pstateCmdReady .pcie) (owned Dev.init)).power.target = some .ready :=
  ⟨granted _ _ _ _ (by decide +kernel), by decide +kernel⟩
theorem test_power_commands : (after (.pstateCmdReady .pcie) (owned Dev.init)).get 0x2000 1 = 2
    ∧ status (after (.pstateCmdHold .pcie) (after (.pstateCmdReady .pcie) (owned Dev.init))) = some 4
    ∧ status (after (.pstateCmdStandby .pcie) (owned (inState .run (running 0x70)))) = some 4
    ∧ status (after (.pstateCmdRun .pcie) (owned (inState .protect Dev.init))) = some 4
    ∧ (after (.pstateCmdStandby .pcie) (owned (inState .protect Dev.init))).power.pstate = .standby := by decide +kernel

theorem witness_domain_source : (owned Dev.init).Grants .pcie 0x2100 0xB ∧ isSource 0 = true ∧ 0 ∈ domainChain 0xB
    ∧ (owned Dev.init).sourceReady 0 = true ∧ ((owned Dev.init).domain 0xB).source ≠ 0 ∧ ((owned Dev.init).domain 0xB).stopped = false
    ∧ (owned Dev.init).sourceReady 1 = false ∧ 3 ∉ domainChain 0xB :=
  ⟨granted _ _ _ _ (by decide +kernel), by decide +kernel⟩
theorem test_domain_source : status (after (.domainSourceWrite .pcie 10 3) (owned Dev.init)) = some 4
    ∧ ((after (.domainSourceWrite .pcie 10 0) (owned Dev.init)).domain 0xB).switchTo = some 0
    ∧ ((after (.domainSourceWrite .pcie 10 0) (owned Dev.init)).get 0x2100 0xB) = 0 := by decide +kernel
theorem witness_loops : (owned Dev.init).Grants .pcie 0x2130 11 ∧ (owned Dev.init).Grants .pcie 0x2131 11 ∧ loopRefOk 10 1 = true ∧ loopRefOk 9 1 = false
    ∧ loopFreqOk 10 50000 = true ∧ loopFreqOk 10 200001 = false :=
  ⟨granted _ _ _ _ (by decide +kernel), granted _ _ _ _ (by decide +kernel), by decide⟩
theorem test_loops : (after (.loopConfigWrite .pcie .freq 10 200000) (owned Dev.init)).get 0x2131 11 = 200000
    ∧ status (after (.loopConfigWrite .pcie .ref 9 1) (owned Dev.init)) = some 4 := by decide +kernel

/-- The running image's `SVN`. -/
def svn (n : Nat) : Dev := { owned Dev.init with sec := { Security.init with runSvn := n } }
theorem witness_rollback : (svn 96).Grants .pcie 0x8000 3 ∧ (svn 96).sec.trial = false ∧ (svn 96).sec.unlocked = false ∧ (svn 96).sec.recovery = false :=
  ⟨granted _ _ _ _ (by decide +kernel), by decide +kernel⟩
theorem test_rollback : (match exec (.rollbackCommit .pcie 1) ⟨[], 5, svn 96⟩ with
    | .next t => t.fuse
    | _ => 0) = 96 ∧ status (after (.rollbackCommit .pcie 0) (svn 96)) = some 4 := by decide +kernel
theorem witness_debug_token : (svn 0).Grants .pcie 0x8020 4 ∧ (svn 0).Grants .pcie 0x8020 5 ∧ (svn 0).get 0x8020 3 + 32 ≤ 1024
    ∧ 1024 < ((svn 0).put 0x8020 3 993).get 0x8020 3 + 32 ∧ (svn 0).tokenFailure ≠ 0 :=
  ⟨granted _ _ _ _ (by decide +kernel), granted _ _ _ _ (by decide +kernel), by decide +kernel⟩
theorem test_debug_token : (after (.debugTokenDataWrite .pcie 0x0201) (svn 0)).get 0x8020 3 = 32
    ∧ (after (.debugTokenSubmit .pcie) (after (.debugTokenDataWrite .pcie 0x0201) (svn 0))).sec.token = []
    ∧ (after (.debugLock .pcie) { svn 0 with sec := { Security.init with unlocked := true } }).sec.unlocked = false := by decide +kernel

/-- An update in a state, with an offset. -/
def updating (st off : Nat) : Dev := ((owned Dev.init).put 0x9100 4 st).put 0x9100 2 off
theorem witness_update : (updating 0 0).Grants .pcie 0x9100 1 ∧ (updating 1 0).Grants .pcie 0x9100 3 ∧ (updating 0 0).updState = 0 ∧ (updating 1 4096).updState = 1
    ∧ 4096 ≤ (updating 1 4096).get 0x9100 2 ∧ (updating 2 0).updState = 2 ∧ (updating 1 0).updBusy = false
    ∧ imSvn (imHeader ((updating 2 0).image (updating 2 0).idleSlot)) = 255 ∧ ¬ 25165824 < (updating 1 25165792).get 0x9100 2 + 32
    ∧ 25165824 < (updating 1 25165793).get 0x9100 2 + 32 ∧ imMagic (imHeader ((updating 1 0).image (updating 1 0).idleSlot)) ≠ 0x46584455
    ∧ ({ updating 1 0 with sec := { Security.init with erasing := true } } : Dev).updBusy = true :=
  ⟨granted _ _ _ _ (by decide +kernel), granted _ _ _ _ (by decide +kernel), by decide +kernel⟩
theorem test_update_begin : (after (.fwUpdBegin .pcie) (updating 0 0)).updState = 1 ∧ (after (.fwUpdBegin .pcie) (updating 0 0)).sec.erasing = true
    ∧ status (after (.fwUpdBegin .pcie) (updating 1 0)) = some 4 := by decide +kernel
theorem test_update_data : (let d := after (.fwUpdDataWrite .pcie 0x0201) (updating 1 0)
    flashRead (d.image d.idleSlot) 0 3 == [1#8, 2#8, 0#8] && d.get 0x9100 2 == 32) = true := by decide +kernel
theorem test_update_verify : (after (.fwUpdVerify .pcie) (updating 1 4096)).sec.verifying = true ∧ status (after (.fwUpdVerify .pcie) (updating 1 4095)) = some 4 := by
  decide +kernel
theorem test_update_ends : (after (.fwUpdCancel .pcie) (updating 2 0)).get 0x9100 5 = 10
    ∧ (after (.fwUpdActivate .pcie) (updating 2 0)).trailer (updating 2 0).idleSlot = ⟨true, false, 0⟩ := by decide +kernel
/-- The checks of a blank image end with result 2, `BAD_HEADER` (18 R541). -/
theorem test_verify_complete : (after (.fwVerifyComplete true) (after (.fwUpdVerify .pcie) (updating 1 4096))).get 0x9100 5 = 2
    ∧ (after (.fwVerifyComplete false) (after (.fwUpdVerify .pcie) (updating 1 4096))).get 0x9100 5 = 9
    ∧ (after (.fwUpdFlashDone .erase) (after (.fwUpdBegin .pcie) (updating 0 0))).sec.erasing = false := by decide +kernel
theorem witness_verify_complete : (after (.fwUpdVerify .pcie) (updating 1 4096)).sec.verifying = true ∧ (after (.fwUpdVerify .pcie) (updating 1 4096)).updState = 1 := by
  decide +kernel
/-- Slot 0 runs on trial. -/
def onTrial : Dev := { Dev.init with sec := { Security.init with trial := true, trailerA := ⟨true, false, 1⟩ } }
theorem witness_confirm : onTrial.sec.trial = true ∧ onTrial.sec.recovery = false ∧ Dev.init.sec.trial = false := by decide
theorem test_confirm : (after .firmwareConfirm onTrial).trailer 0 = ⟨true, true, 1⟩ := by decide +kernel

/-! ## The Trail and the Sniffer -/

/-- A Trail in a state with one entry; `dumpable` where it is frozen. -/
def trail (st : Nat) : Dev := { (owned Dev.init).put 0x7100 2 st with trail := { Trail.init with entries := [5], trigger := 2, dumpable := st == 2 } }
/-- Every dump slot is taken, and slot 3, the newest, is shown. -/
def dumped : Dev :=
  let d := trail 2
  let y (n : Nat) : Dump := ⟨n, 0, 2, 0, [n]⟩
  { d with store := { d.store with dumps := [(0, some (y 0)), (1, some (y 1)), (2, some (y 2)), (3, some (y 3))] }, trail := { d.trail with loaded := some 3 } }
theorem witness_trail_commands : (trail 0).Grants .pcie 0x7100 1 ∧ (trail 0).get 0x7100 2 = 0 ∧ (trail 2).get 0x7100 2 = 2 ∧ (trail 0).get 0x7100 6 = 1
    ∧ (trail 0).freeDump = some 0 ∧ dumped.freeDump = none ∧ (trail 2).trail.dumpable = true ∧ (trail 0).trail.dumpable = false
    ∧ ((trail 0).put 0x7100 6 0).get 0x7100 6 ≠ 1 :=
  ⟨granted _ _ _ _ (by decide +kernel), by decide +kernel⟩
theorem test_trail_freeze : (after (.trailFreeze .pcie) (trail 0)).trail.entries = [5] ∧ (after (.trailFreeze .pcie) (trail 0)).get 0x7100 2 = 2
    ∧ ((after (.trailFreeze .pcie) (trail 0)).dumpAt 0).map Dump.entries = some [5] := by decide +kernel
theorem test_trail_resume_and_dump : (after (.trailResume .pcie) (trail 2)).get 0x7100 2 = 0
    ∧ ((after (.trailDump .pcie true) (trail 2)).dumpAt 0).map Dump.trigger = some 2 ∧ (after (.trailDump .pcie true) dumped).get 0x7100 8 = 1 := by decide +kernel
theorem witness_trail_post : (trail 1).get 0x7100 2 = 1 ∧ (trail 1).trail.postLeft = 0 := by decide +kernel
theorem test_trail_post : (after .trailPostFreeze (trail 1)).get 0x7100 2 = 2 ∧ after .trailPostFreeze (trail 0) = trail 0 := by decide +kernel
theorem witness_trail_mark : (trail 0).Grants .pcie 0x7100 9 ∧ bit ((trail 0).get 0x7100 5) 9 = true ∧ bit (((trail 0).put 0x7100 5 0).get 0x7100 5) 9 = false :=
  ⟨granted _ _ _ _ (by decide +kernel), by decide +kernel⟩
theorem test_trail_mark : (after (.trailMarkWrite .pcie 77) (trail 0)).trail.entries.length = 2 ∧ (after (.trailMarkWrite .pcie 77) (trail 2)).trail.entries = [5]
    ∧ (after (.trailMarkWrite .pcie 77) (trail 2)).get 0x7100 7 = 1 := by decide +kernel
theorem witness_dump_release : dumped.Grants .pcie 0x9020 3 ∧ dumped.dumpAt 3 ≠ none ∧ dumped.trail.loaded = some 3 ∧ (trail 2).dumpAt 3 = none :=
  ⟨granted _ _ _ _ (by decide +kernel), by decide +kernel⟩
theorem test_dump_release : (after (.trailDumpRelease .pcie 3) dumped).trail.entries = [2] ∧ (after (.trailDumpRelease .pcie 0) dumped).dumpAt 0 = none
    ∧ status (after (.trailDumpRelease .pcie 4) dumped) = some 4 := by decide +kernel

/-- Unit 0, clocked, in a `COMPAT` mode, as RESET leaves it, with a run of the bytes of a text. -/
def sniff (mode : Nat) (l : List Byte) : Dev :=
  let d := after (.snReset .pcie 0) ((owned Dev.init).put 0x7400 2 mode)
  let d := d.setSource 1 { d.source 1 with ready := true }
  if l.isEmpty then d else d.setUnit 0 { SnUnit.init with run := some ⟨7, l.map (fun b => (b, false))⟩ }
/-- The nine ASCII bytes of 13 R400. -/
def checkText : List Byte := [0x31, 0x32, 0x33, 0x34, 0x35, 0x36, 0x37, 0x38, 0x39]
/-- The result after the nine bytes. -/
def checkOf (mode : Nat) : Nat :=
  let d := after (.snifferRun 7 1) (sniff mode checkText)
  crcOut (d.snSet 0) (d.get 0x7400 6)
/-- The check column of 13 R400. -/
theorem test_check_strings : checkOf (1 <<< 9) = 0xE3069283 ∧ checkOf (2 <<< 9) = 0xCBF43926 ∧ checkOf (3 <<< 9) = 0x6C40DF5F0B497347
    ∧ checkOf (4 <<< 9) = 0x29B1 := by decide +kernel
/-- The run is over, and its close is pending. -/
def pendingClose : Dev := after (.snifferRun 7 1) (after (.snClose .pcie 0) (sniff 0x220 checkText))
theorem witness_sniffer_commands : (sniff 0x220 []).Grants .pcie 0x7400 1 ∧ (sniff 0x220 []).Grants .pcie 0x7400 6 ∧ (sniff 0x220 []).Grants .pcie 0x7400 7
    ∧ ((sniff 0x220 []).unit 0).run = none ∧ ((sniff 0x220 checkText).unit 0).run ≠ none ∧ (sniff 0x220 []).snSet 0 = crc32cSet
    ∧ ((after (.snClose .pcie 0) (sniff 0x220 checkText)).unit 0).closePending = true ∧ (pendingClose.unit 0).run = none ∧ (pendingClose.unit 0).closePending = true :=
  ⟨granted _ _ _ _ (by decide +kernel), granted _ _ _ _ (by decide +kernel), granted _ _ _ _ (by decide +kernel), by decide +kernel⟩
/-- A RESET with a close pending closes first (13 R409). -/
theorem test_sniffer_reset : (after (.snReset .pcie 0) pendingClose).get 0x7400 9 = 1 ∧ (after (.snReset .pcie 0) pendingClose).get 0x7400 7 = 0
    ∧ status (after (.snReset .pcie 0) pendingClose) = some 0 := by decide +kernel
theorem test_sniffer_close : (after (.snClose .pcie 0) (sniff 0x220 [])).get 0x7400 9 = 1 ∧ (after (.snClose .pcie 0) (sniff 0x220 checkText)).get 0x7400 9 = 0
    ∧ (after (.snDeferredClose 0) (after (.snifferRun 7 1) (after (.snClose .pcie 0) (sniff 0x220 checkText)))).get 0x7400 9 = 1
    ∧ bits ((after (.snDeferredClose 0) (after (.snifferRun 7 1) (after (.snClose .pcie 0) (sniff 0x220 checkText)))).get 0x7400 0xA) 192 64 = 0xE3069283 := by
  decide +kernel
theorem test_sniffer_context : (after (.snContextWrite .pcie 0 .value 5) (sniff 0x220 [])).get 0x7400 6 = 5
    ∧ status (after (.snContextWrite .pcie 0 .value 0x100000000) (sniff 0x220 [])) = some 4
    ∧ status (after (.snContextWrite .pcie 0 .bytes 5) (sniff 0x220 checkText)) = some 4 ∧ status (after (.snReset .pcie 0) (sniff 0x220 checkText)) = some 4 := by
  decide +kernel
theorem witness_sniffer_run : (∀ u < 8, (Dev.init.unit u).run = none) ∧ ((sniff 0x220 checkText).unit 0).run = some ⟨7, checkText.map (fun b => (b, false))⟩
    ∧ (sniff 0x220 checkText).snClocked = true ∧ Dev.init.snClocked = false := by decide +kernel

/-! ## Slot tables and Leashes -/

/-- A swap at 100,000 ns, in a state of `SWAP_STATE`, with the time state in force. -/
def swapping (st time : Nat) : Dev := (((owned Dev.init).put 0x3300 1 100000).put 0x3300 3 st).put 0x3200 3 time
theorem witness_swap_arm : (swapping 0 1).Grants .pcie 0x3300 2 ∧ (swapping 0 1).get 0x3300 3 = 0 ∧ (swapping 1 1).get 0x3300 3 = 1
    ∧ ¬ (swapping 0 1).get 0x3300 1 < (swapping 0 1).ht + 100000 ∧ (swapping 0 0).get 0x3200 3 = 0
    ∧ ((swapping 0 1).put 0x3300 1 99999).get 0x3300 1 < (swapping 0 1).ht + 100000 :=
  ⟨granted _ _ _ _ (by decide +kernel), by decide +kernel⟩
theorem test_swap_arm : (after (.swapArm .pcie) (swapping 0 1)).get 0x3300 3 = 1 ∧ (after (.swapArm .pcie) (swapping 0 0)).get 0x3300 4 = 2
    ∧ (after (.swapArm .pcie) (swapping 0 0)).get 0x3300 3 = 0 ∧ status (after (.swapArm .pcie) (swapping 0 0)) = some 4
    ∧ (after (.swapDisarm .pcie) (swapping 1 1)).get 0x3300 3 = 0 := by decide +kernel
/-- Images of one FREE slot each at 0x10000 on, and empty route, slice and tree images. -/
def imaged : Dev :=
  (below 6).foldl (fun d p => withBytes (0x10000 + 0x100 * p) [1] (d.put 0x3310 (p + 1) (0x10000 + 0x100 * p)))
    (((swapping 1 1).put 0x3310 7 0x20000).put 0x3310 8 0x1000000)
theorem no_poison (m : Mem) (a n : Nat) (h : m.poison = []) : m.anyPoison a n = false := by
  unfold Mem.anyPoison
  rw [List.any_eq_false]
  intro u _
  simp [Mem.poisoned, h, sget]
theorem image_ok (d : Dev) (a n : Nat) (h : d.mem.poison = []) (ha : a % 64 = 0) (hx : d.extent a n = some .near) : d.imageOk a n = true := by
  simp [Dev.imageOk, ha, hx, no_poison _ _ _ h]
theorem imaged_unpoisoned : imaged.mem.poison = [] := by decide +kernel
theorem imaged_check3 : imaged.check3 = true := by
  unfold Dev.check3
  rw [Bool.and_eq_true, Bool.and_eq_true, List.all_eq_true]
  refine ⟨⟨fun p hp => ?_, image_ok _ _ _ imaged_unpoisoned (by decide +kernel) (by decide +kernel)⟩,
    image_ok _ _ _ imaged_unpoisoned (by decide +kernel) (by decide +kernel)⟩
  have h : ∀ p ∈ below 6, imaged.slotImageAt p % 64 = 0
      ∧ imaged.extent (imaged.slotImageAt p) (64 + 4 * (if 65536 < imaged.cycleOf p then 0 else imaged.cycleOf p)) = some .near := by decide +kernel
  exact image_ok _ _ _ imaged_unpoisoned (h p hp).1 (h p hp).2
theorem imaged_cells : imaged.mem.cells = [(0x10000, 1#8), (0x10100, 1#8), (0x10200, 1#8), (0x10300, 1#8), (0x10400, 1#8), (0x10500, 1#8)]
    ∧ imaged.get 0x3310 7 = 0x20000 := by decide +kernel
theorem imaged_byte (a : Nat) (h : 0x20000 ≤ a) (h2 : a < 0x0F0000000000) : imaged.mem.byte a = 0#8 := by
  unfold Mem.byte
  rw [imaged_cells.1]
  simp only [sget, memDefault]
  repeat rw [if_neg (by omega)]
theorem upFrom_lt : ∀ (n b a : Nat), a ∈ upFrom b n → a < b + n
  | 0, _, _, h => by simp [upFrom] at h
  | n + 1, b, a, h => by
    rw [upFrom, List.mem_cons] at h
    rcases h with h | h
    · omega
    · have := upFrom_lt n (b + 1) a h
      omega
theorem imaged_check7 : imaged.check7 = true := by
  unfold Dev.check7
  rw [List.all_eq_true]
  intro a ha
  have h := upFrom_lt _ _ _ ha
  have h0 : imaged.num (0x20000 + 2 * a) 2 = 0 := by
    simp [Dev.num, Mem.num, Mem.read, imaged_byte (0x20000 + 2 * a) (by omega) (by omega), imaged_byte (0x20000 + 2 * a + 1) (by omega) (by omega), ofBytes]
  simp [imaged_cells.2, h0, bit, bits]
theorem imaged_check8 : imaged.check8 = true := by decide +kernel
theorem imaged_check456 : ((below 6).all (fun p => decide (0 < imaged.cycleOf p) && decide (imaged.cycleOf p ≤ 65536))) = true
    ∧ ((below 6).all (fun p => (below (imaged.cycleOf p)).all (fun i => entryOk p (imaged.slotEntry p i)))) = true ∧ (below 6).all imaged.check6 = true := by decide +kernel
theorem witness_load : imaged.get 0x3300 3 = 1 ∧ imaged.loadCheck = 0 ∧ (swapping 0 1).get 0x3300 3 ≠ 1 := by
  refine ⟨by decide +kernel, ?_, by decide +kernel⟩
  simp [Dev.loadCheck, imaged_check3, imaged_check456.1, imaged_check456.2.1, imaged_check456.2.2, imaged_check7, imaged_check8]

/-- An image that is not aligned to 64 bytes fails check 3 (11 R341). -/
theorem test_load_refused : (after (.swapLoadComplete []) (imaged.put 0x3310 1 0x10001)).get 0x3300 3 = 3
    ∧ (after (.swapLoadComplete []) (imaged.put 0x3310 1 0x10001)).get 0x3300 4 = 3 := by decide +kernel
/-- Hall time. -/
def atTime (ns : Nat) (d : Dev) : Dev := { d with tb := { d.tb with htf := ns * 65536 } }
theorem witness_swap : (atTime 100000 (swapping 2 1)).get 0x3300 1 ≤ (atTime 100000 (swapping 2 1)).ht ∧ (swapping 2 1).get 0x3300 3 = 2
    ∧ ¬ (atTime 99999 (swapping 2 1)).get 0x3300 1 ≤ (atTime 99999 (swapping 2 1)).ht := by decide +kernel
theorem test_load_too_late : (after (.swapLoadComplete []) (atTime 100000 (swapping 1 1))).slots.allFree = true
    ∧ (after (.swapLoadComplete []) (atTime 100000 (swapping 1 1))).get 0x3300 3 = 0 := by decide +kernel
theorem test_swap : (after .slotSwap (atTime 100000 (swapping 2 1))).get 0x3300 6 = 1 ∧ (after .slotSwap (atTime 100000 (swapping 1 1))).slots.allFree = true
    ∧ after .slotSwap (atTime 99999 (swapping 2 1)) = atTime 99999 (swapping 2 1) := by decide +kernel

/-- A bank from 0 whose port 0 has one slot with an entry; its route to device 5 is port 0, and a scheduled flit for it waits since `t`. -/
def slotted (entry t : Nat) : Dev :=
  let f : Flit := ⟨BitVec.ofNat 128 (flitLow 1 0 0 false ⟨3, true, false, false, true, 0, 5, 0x3FFF, 0, 32⟩), List.replicate 240 0#8, false⟩
  { inState .ready (portIn 0 .active Dev.init) with slots := ⟨some ⟨[⟨1, [(0, entry)]⟩], [(5, 0x8000)], [(5, true)], 0, 0⟩, none, false, [], []⟩, waiting := [⟨0, t, 0, f, false⟩] }
/-- `KIND` SEND with one flit of collective 0, and FORWARD from port 1. -/
def sendEntry : Nat := 1 <<< 30 + 1 <<< 23
def forwardEntry : Nat := 2 <<< 30 + 1 <<< 23 + 1 <<< 20
theorem witness_slots : (slotted 0 0).dueSlot 0 = some (0, 0) ∧ Dev.init.dueSlot 0 = none ∧ (slotted forwardEntry 0).dueSlot 0 = some (0, forwardEntry)
    ∧ (slotted sendEntry 0).dueSlot 0 = some (0, sendEntry) ∧ slotKind sendEntry = 1 ∧ slotFlits sendEntry = 1 ∧ slotKind forwardEntry = 2
    ∧ (slotted sendEntry 0).slots.allFree = false ∧ ((slotted sendEntry 0).port 0).state = .active ∧ ((portIn 0 .down (slotted sendEntry 0)).port 0).state ≠ .active
    ∧ ((slotted sendEntry 0).streamFlits 0 sendEntry).length = 1 ∧ 8 ≤ (slotted sendEntry 0).slotInstant 0 + 8
    ∧ ¬ 1 + 8 ≤ (slotted sendEntry 1).slotInstant 0 := by decide +kernel
theorem test_free_slot : (after (.slotStart 0) (slotted 0 0)).slots.nextSlot = [(0, 1)] ∧ after (.forwardSlot 0) (slotted 0 0) = slotted 0 0 := by decide +kernel
/-- A slot whose flit is queued too late slips (11 R347), and a slot of a port that is down is dead (11 R346). -/
theorem test_slip_and_dead : (after (.slotStart 0) (slotted sendEntry 1)).get 0x3320 1 = 1
    ∧ (after (.slotStart 0) (portIn 0 .down (slotted sendEntry 0))).get 0x3323 1 = 1 := by decide +kernel
theorem test_slot_sends : (after (.slotStart 0) (atTime 100 { inState .run (slotted sendEntry 0) with slots := { (slotted sendEntry 0).slots with nextSlot := [(0, 1)] } })).waiting = []
    ∧ (after (.forwardSlot 0) (slotted forwardEntry 0)).slots.nextSlot = [(0, 1)] := by decide +kernel

theorem witness_epoch : (owned Dev.init).Grants .pcie 0x3520 2 := granted _ _ _ _ (by decide +kernel)
theorem test_epoch : (after (.epochValueWrite .pcie 9) ((owned Dev.init).put 0x3520 1 4)).epochOf 4 = 9 := by decide +kernel

/-- Leash 3 with an owner until 1 ms, an ACQUIRE of each port at 0. -/
def leashed (o : Owner) (turn : Bool) (claims : List Claim) (now : Nat) : Dev := ({ linked Dev.init with now := now } : Dev).setLeash 3 ⟨o, 1000000, turn, claims⟩
def manager : Requester := .mgmt 1 2 false
theorem witness_leash_commands : (leashed .free false [] 0).Grants manager 0x1100 1 ∧ (leashed .free false [] 0).leashOwner 3 = .free
    ∧ (leashed (.mgmt 1 2) false [] 999999).leashOwner 3 = ownerOf manager ∧ (leashed (.mgmt 1 2) false [] 1000000).leashOwner 3 = .free
    ∧ (leashed .pcie false [] 0).leashOwner 3 ≠ .free ∧ (leashed .pcie false [] 0).leashOwner 3 ≠ ownerOf manager :=
  ⟨granted _ _ _ _ (by decide +kernel), by decide +kernel⟩
theorem test_leash_commands : ((after (.leashAcquire manager 3) (leashed .free false [] 0)).leash 3).claims.length = 1
    ∧ status (after (.leashAcquire manager 3) (leashed .pcie false [] 0)) = some 6 ∧ status (after (.leashRenew manager 3) (leashed .pcie false [] 0)) = some 5
    ∧ ((after (.leashRenew manager 3) (leashed (.mgmt 1 2) false [] 999999)).leash 3).until_ = 999999 + (leashed .free false [] 0).get 0x1100 2 * 1000000
    ∧ ((after (.leashRelease manager 3) (leashed (.mgmt 1 2) false [] 0)).leash 3).owner = .free
    ∧ status (after (.leashRelease manager 3) (leashed .free false [] 0)) = some 0 := by decide +kernel
/-- Claims of both ports, the second at the end of the first's 1 μs. -/
def claims : List Claim := [⟨.mgmt 1 2, 0, .plain⟩, ⟨.pcie, 1000, .plain⟩]
theorem witness_arbitration : ((leashed .free true claims 1000).leash 3).claims = claims ∧ (claims.filter (fun e => decide (e.at_ ≤ 0 + 1000))) = claims
    ∧ (∃ e ∈ claims, e.owner = .pcie) ∧ (∃ e ∈ claims, e.owner ≠ .pcie) ∧ ∀ e ∈ claims.take 1, e.owner ≠ .pcie := by decide +kernel
theorem test_arbitration : ((after (.leashArbitration 3) (leashed .free false claims 1000)).leash 3).owner = .pcie
    ∧ ((after (.leashArbitration 3) (leashed .free true claims 1000)).leash 3).owner = .mgmt 1 2
    ∧ ((after (.leashArbitration 3) (leashed .free true claims 1000)).leash 3).nextTie = false
    ∧ after (.leashArbitration 3) (leashed .free true claims 999) = leashed .free true claims 999 := by decide +kernel
theorem witness_leash_expiry : ((leashed .pcie false [] 1000000).leash 3).owner ≠ .free ∧ ((leashed .pcie false [] 1000000).leash 3).until_ ≤ (leashed .pcie false [] 1000000).now := by
  decide +kernel
theorem test_leash_expiry : (after (.leashExpired 3) (leashed .pcie false [] 1000000)).get 0x1300 3 = 1
    ∧ after (.leashExpired 3) (leashed .pcie false [] 999999) = leashed .pcie false [] 999999 := by decide +kernel

/-! ## The management port and SPDM -/

/-- A subscriber of class 2 at place 0, with one event sent `n` times at 0. -/
def subscribed (n now : Nat) : Dev := { linked Dev.init with now := now, mgmt := ⟨[], [some ⟨1, 2, 2, [(9, 5, n, 0)], []⟩, none, none, none], false, 0, 0⟩ }
/-- 64 requests wait; Shepherd's clock stands still. -/
def crowded : Dev := { shepherdHeld (linked Dev.init) with requests := List.replicate 64 (.frame (frameOf 1 0x5080 1 []) none) }
/-- The firmware serves the dictionary from 1 ms on. -/
def unserved : Dev := let d := linked Dev.init; { d with mgmt := { d.mgmt with servedAt := 1000000 } }
/-- `STATUS` of the last frame that left. -/
def frameStatus (d : Dev) : Option Nat :=
  match d.out.head? with
  | some (.mgmtFrame _ _ e _) => some (bits e.header 96 8)
  | _ => none

theorem witness_management_frames : (linked Dev.init).frameTaken (frameOf 1 0x5080 1 []) = true ∧ Dev.init.frameTaken (frameOf 1 0x5080 1 []) = false
    ∧ ((linked Dev.init).put 0x1200 3 5).frameTaken (frameOf 1 0x5080 1 []) = false ∧ (linked Dev.init).frameTaken { frameOf 1 0x5080 1 [] with dport := 9 } = false
    ∧ unserved.dictServed = false ∧ (frameOf 1 0x5080 1 []).magicOk = true
    ∧ ({ frameOf 1 0x5080 1 [] with header := 0 } : MgmtFrame).magicOk = false ∧ (frameOf 1 0x5080 1 []).op = 1
    ∧ (linked Dev.init).keptResponse 1 2 5 = none ∧ (linked Dev.init).mgmtWaiting = 0 ∧ crowded.mgmtWaiting = 64 ∧ (shepherdHeld (linked Dev.init)).mgmtWaiting < 64
    ∧ (after (.mgmtRead (frameOf 1 0x5080 1 [])) (linked Dev.init)).keptResponse 1 2 5 ≠ none := by decide +kernel
theorem witness_management_executes : (linked Dev.init).executes (frameOf 1 0x5080 1 []) 1 ∧ (linked Dev.init).executes (frameOf 2 0x5080 1 []) 2
    ∧ (linked Dev.init).executes (frameOf 3 0 0 [2]) 3 ∧ (linked Dev.init).executes (frameOf 6 0 0 []) 6 := by
  unfold Dev.executes
  decide +kernel
theorem witness_management_requests : (frameOf 1 0x5080 1 [0]).malformed = true ∧ (frameOf 1 0x5080 1 []).malformed = false ∧ (linked Dev.init).entryExists 0x5080 1 = true
    ∧ (linked Dev.init).entryExists 0x1001 1 = false ∧ (frameOf 2 0x5080 1 [7, 0, 0, 0]).malformed = false ∧ (frameOf 3 0 0 [4]).malformed = false
    ∧ ofBytes (frameOf 3 0 0 [4]).data ≤ 4 ∧ 4 < ofBytes (frameOf 3 0 0 [5]).data ∧ ofBytes (frameOf 3 0 0 [0xFF]).data = 0xFF
    ∧ (subscribed 1 0).subscriberSlot 1 2 = some 0 ∧ (linked Dev.init).subscriberSlot 1 2 = none
    ∧ (linked Dev.init).notSecure (.mgmt 1 2) ((linked Dev.init).inSession 1 2 false) = false
    ∧ ((linked Dev.init).put 0x1200 8 1).notSecure (.mgmt 1 2) false = true := by decide +kernel
/-- The Leash of the entry is the requester's. -/
def managed : Dev := (linked Dev.init).setLeash 5 ⟨.mgmt 1 2, 1000000, false, []⟩
theorem witness_management_write : managed.Grants (.mgmt 1 2 false) 0x5080 1 ∧ managed.actingEntry 0 true 0x5080 1 7 = none ∧ managed.valueOk 0x5080 1 7 = true :=
  ⟨granted _ _ _ _ (by decide +kernel), by decide +kernel⟩
theorem test_management_read : (match (after (.mgmtRead (frameOf 1 0x1300 3 [])) (linked Dev.init)).out with
    | [.mgmtFrame a u ⟨tag, src, sport, h⟩ l] => a == 1 && u == 2 && tag == none && src == 7 && sport == 29150 && bits h 96 8 == 0 && bits h 72 8 == 0x81 && bits h 128 32 == 5 && ofBytes l == 0
    | _ => false) = true ∧ frameStatus (after (.mgmtRead (frameOf 1 0x1001 1 [])) (linked Dev.init)) = some 1 := by decide +kernel
theorem test_management_write : (after (.mgmtWrite (frameOf 2 0x5080 1 [7, 0, 0, 0])) managed).get 0x5080 1 = 7
    ∧ frameStatus (after (.mgmtWrite (frameOf 2 0x5080 1 [7])) managed) = some 7 := by decide +kernel
theorem test_management_busy : frameStatus (after (.mgmtRead (frameOf 1 0x5080 1 [])) crowded) = some 9 ∧ (after (.mgmtRead (frameOf 1 0x5080 1 [])) crowded).get 0x1210 3 = 1
    ∧ frameStatus (after (.mgmtRead (frameOf 1 0x5080 1 [])) unserved) = some 9 ∧ (after (.mgmtRead (frameOf 1 0x5080 1 [])) unserved).get 0x1210 3 = 0 := by
  decide +kernel
theorem test_subscribe : (after (.mgmtSubscribe (frameOf 3 0 0 [2])) (linked Dev.init)).mgmt.subscribers = [some ⟨1, 2, 2, [], []⟩, none, none, none]
    ∧ (after (.mgmtSubscribe (frameOf 3 0 0 [0xFF])) (subscribed 1 0)).mgmt.subscribers = [none, none, none, none] := by decide +kernel
theorem test_bad_magic : (after (.mgmtBadMagicFrame { frameOf 1 0x5080 1 [] with header := 0 }) (linked Dev.init)).get 0x1210 2 = 1
    ∧ (after (.mgmtBadMagicFrame { frameOf 1 0x5080 1 [] with header := 0 }) (linked Dev.init)).out = [] := by decide +kernel

/-- An acknowledgement of event 9. -/
def ack : MgmtFrame := ⟨1, 2, 7, 29150, none, false, BitVec.ofNat 256 (mgmtHeader 0 9 5 0 0 0 0 5), []⟩
theorem witness_management_events : (subscribed 1 0).frameTaken ack = true ∧ ack.magicOk = true ∧ ack.op = 5 ∧ ack.headBad = false ∧ bits ack.head 160 32 = 9
    ∧ (subscribed 1 0).mgmt.subscribers[0]? = some (some ⟨1, 2, 2, [(9, 5, 1, 0)], []⟩) ∧ (subscribed 6 20000000).get 0x1200 9 ≠ 0
    ∧ (Dev.init.get 0x1200 1 = 0 ∧ Dev.init.get 0x1200 9 = 0) ∧ (Dev.init.domain 0xC).stopped = false
    ∧ ({ Dev.init with now := 2000000000 } : Dev).mgmt.trySince + 2000000000 ≤ 2000000000 := by decide +kernel
theorem test_event_ack : (after (.mgmtEventAck ack) (subscribed 1 0)).mgmt.subscribers.head? = some (some ⟨1, 2, 2, [], []⟩) := by decide +kernel
theorem test_event_resend : (after (.mgmtEventResend 0 9) (subscribed 5 20000000)).mgmt.subscribers.head? = some (some ⟨1, 2, 2, [(9, 5, 6, 20000000)], []⟩)
    ∧ (after (.mgmtEventResend 0 9) (subscribed 6 20000000)).get 0x1210 4 = 1
    ∧ after (.mgmtEventResend 0 9) (subscribed 5 19999999) = subscribed 5 19999999 := by decide +kernel
theorem test_management_link : (after (.mgmtLinkChange true) Dev.init).get 0x1200 9 = 25
    ∧ (after (.mgmtLinkChange true) (after .mgmtSpeedAlternate { Dev.init with now := 2000000000 })).get 0x1200 9 = 10
    ∧ (after (.mgmtLinkChange false) (linked Dev.init)).get 0x1200 9 = 0 := by decide +kernel

/-- Session 4 of the DOE mailbox, and one answer kept under token 6. -/
def inSession4 : Dev := { linked Dev.init with sec := { Security.init with sessions := [⟨4, .doe, false⟩, ⟨5, .mgmt 1 2, true⟩], nextSession := 6, deferred := [(.doe, 6, .version)] } }
theorem witness_spdm : Dev.init.spdmOpen .doe = true ∧ Dev.init.spdmOpen (.mgmt 1 2) = false ∧ (linked Dev.init).spdmOpen (.mgmt 1 2) = true
    ∧ (shepherdHeld Dev.init).spdmOpen .doe = true ∧ Dev.init.sec.chainOk = false ∧ inSession4.sec.sessions.length < 4
    ∧ (∃ x ∈ inSession4.sec.sessions, x.number = 4 ∧ x.port = .doe) ∧ ¬ (∃ x ∈ inSession4.sec.sessions, x.number = 5 ∧ x.port = .doe)
    ∧ (inSession4.sec.deferred.find? (fun x => x.1 == .doe && x.2.1 == 6)).isSome = true ∧ inSession4.hasSession (.mgmt 1 2) 5 = true := by decide +kernel
theorem witness_spdm_commands : spdmOf (.getVersion .doe) = some (.doe, .getVersion, false) ∧ spdmOf (.keyExchange .doe true 0) = some (.doe, .keyExchange 0, true)
    ∧ spdmOf (.challenge .doe true 1 9) = some (.doe, .challenge 1 9, true) := ⟨rfl, rfl, rfl⟩
theorem test_spdm_version : (after (.getVersion .doe) Dev.init).out = [.spdm .doe .version none] ∧ (after (.getCapabilities .doe) Dev.init).out = [.spdm .doe .capabilities none]
    ∧ (after (.negotiateAlgorithms .doe false) Dev.init).out = [.spdm .doe .invalidRequest none] := by decide +kernel
theorem test_spdm_empty_slot : (after (.getCertificate .doe 0 0 16) Dev.init).out = [.spdm .doe .invalidRequest none]
    ∧ (after (.getDigests .doe) Dev.init).out = [.spdm .doe (.digests []) none] ∧ (after (.keyExchange .doe false 0) Dev.init).out = [.spdm .doe .invalidRequest none]
    ∧ (after (.challenge .doe false 0 1) Dev.init).out = [.spdm .doe .invalidRequest none] := by decide +kernel
theorem test_spdm_late : (after (.getMeasurements .doe true 0) Dev.init).out = [.spdm .doe (.responseNotReady 14 0) none]
    ∧ (after (.respondIfReady .doe 0) (after (.getMeasurements .doe true 0) Dev.init)).out.head? = some (.spdm .doe (.measurements 6 []) none) := by decide +kernel
theorem test_spdm_sessions : (after (.finish .doe 4) inSession4).sec.sessions.head? = some ⟨4, .doe, true⟩
    ∧ (after (.heartbeat .doe 5) inSession4).out = [.spdm .doe .invalidRequest none] ∧ (after (.keyUpdate .doe 4) inSession4).out = [.spdm .doe (.keyUpdated 4) none]
    ∧ (after (.endSession .doe 4) inSession4).sec.sessions.length = 1 := by decide +kernel
theorem test_spdm_unsupported : (after (.setCertificate .doe 0) Dev.init).out = [.spdm .doe (.unsupportedRequest 0xEE) none]
    ∧ (after (.spdmUnsupportedRequest .doe 0x70) Dev.init).out = [.spdm .doe (.unsupportedRequest 0x70) none] := by decide +kernel

/-- A DOE object of `n` double words, and a frame inside session 5. -/
def doe (kind n : Nat) (b : SpdmBody) : Instr := .doeRequest ⟨1, kind, n, 0, b⟩
theorem witness_spdm_carriers : Dev.init.spdmOpen .doe = true ∧ (4096 : Nat) ≤ 4096 ∧ ¬ (4097 : Nat) ≤ 4096 ∧ (frameOf 6 0 0 []).op = 6
    ∧ inSession4.keptResponse 1 2 5 = none ∧ inSession4.mgmtWaiting < 64 ∧ (frameOf 1 0x1300 3 []).malformed = false
    ∧ (inSession4.addWrap 0x1210 1 1).entryExists 0x1300 3 = true := by decide +kernel
theorem test_doe : (after (doe 0 2 (.message .getVersion)) Dev.init).out = [.doeDiscovery 1 0 1]
    ∧ (after (doe 1 4097 (.message .getVersion)) Dev.init).host.doeError = true
    ∧ (after (doe 1 4096 (.message .getVersion)) Dev.init).out = [.spdm .doe .version none] ∧ (after (doe 3 2 (.message .getVersion)) Dev.init).out = [] := by decide +kernel
theorem test_spdm_frame : (match (after (.mgmtSpdm (frameOf 6 0 0 []) (.message .getVersion)) (linked Dev.init)).out with
      | [.spdm p r (some ⟨tag, src, sport, _⟩)] => p == .mgmt 1 2 && r == .version && tag == none && src == 7 && sport == 29150
      | _ => false) = true
    ∧ (match (after (.mgmtSpdm (frameOf 6 0 0 []) (.secured 5 (frameOf 1 0x1300 3 []))) inSession4).out with
      | [.secured p n h l] => p == .mgmt 1 2 && n == 5 && bits h 96 8 == 0 && ofBytes l == 0
      | _ => false) = true := by decide +kernel

/-! ## Ports, flits, Barks, Howls -/

def portAt (st : LinkState) (now : Nat) : Dev := { inState .run (portIn 0 st Dev.init) with now := now }
/-- A port in DISCOVER whose round 1 is done with a verdict. -/
def round1 (verdict : Nat) : Dev := (inState .run Dev.init).setPort 0 { Port.init with state := .discover, round1 := true, verdict := verdict }
/-- A port that has been retraining since 0. -/
def retraining (now : Nat) : Dev := ({ Dev.init with now := now } : Dev).setPort 0 { Port.init with state := .retrain, retraining := some 0 }
/-- A discovery record that a neighbour of major version 3 sends, with its bits [19] as given. -/
def record (verdict : Nat) : BitVec 512 := BitVec.ofNat 512 (77 <<< 192 + 3 <<< 64 + 0x0012 <<< 40 + 5 <<< 26 + verdict <<< 19)
theorem witness_port_states : ((portAt .detect 0).port 0).state = .detect ∧ ((portAt .train 0).port 0).state = .train ∧ ((portAt .align 0).port 0).state = .align
    ∧ ((portAt .train 0).port 0).reach ≠ 3 ∧ ((portAt .train 500000000).port 0).since + 500000000 ≤ (portAt .train 500000000).now
    ∧ ((portAt .align 100000).port 0).since + 100000 ≤ (portAt .align 100000).now ∧ ((portAt .discover 0).port 0).round1 = false
    ∧ ((portAt .discover 0).port 0).discSent = none ∧ ((retraining 2000000).port 0).retraining = some 0
    ∧ ((portAt .active 30000).pax 0).lastBark + 30000 ≤ (portAt .active 30000).now ∧ bits ((portAt .active 0).get 0x3010 1) 8 8 < 256 := by decide +kernel
theorem test_port_states : ((after (.laneSignalDetected 0) (portAt .detect 0)).port 0).state = .train ∧ ((after (.trainingComplete 0) (portAt .train 0)).port 0).state = .align
    ∧ ((after (.alignComplete 0 true) (portAt .align 0)).port 0).state = .discover ∧ ((after (.alignComplete 0 true) (portAt .align 0)).port 0).reversed = true
    ∧ after (.laneSignalDetected 0) (portAt .train 0) = portAt .train 0 := by decide +kernel
theorem test_port_timers : ((after (.trainTimeout 0) (portAt .train 500000000)).port 0).state = .detect
    ∧ after (.trainTimeout 0) (portAt .train 499999999) = portAt .train 499999999 ∧ ((after (.retrainTimeout 0) (retraining 2000000)).port 0).state = .down
    ∧ after (.retrainTimeout 0) (retraining 1999999) = retraining 1999999
    ∧ ((after (.neighbourLost 0) (portAt .active 30000)).port 0).state = .retrain ∧ after (.neighbourLost 0) (portAt .active 29999) = portAt .active 29999 := by
  decide +kernel
theorem witness_discovery : bit (record 1).toNat 19 = true ∧ bit (record 0).toNat 19 = false ∧ ((round1 0).port 0).round1 = true ∧ ((round1 0).port 0).verdict = 0
    ∧ ((round1 3).port 0).verdict ≠ 0 ∧ (Dev.init.port 0).known = false := by decide +kernel
theorem test_discovery : ((after (.discoveryReceived 0 false ⟨record 0, none⟩) (portAt .discover 0)).port 0).nbLogical = 5
    ∧ (after (.discoveryReceived 0 false ⟨record 0, none⟩) (portAt .discover 0)).get 0x3013 1 = 77
    ∧ ((after (.discoveryReceived 0 true ⟨record 0, none⟩) (round1 0)).port 0).state = .active
    ∧ ((after (.discoveryReceived 0 true ⟨record 1, none⟩) (round1 0)).port 0).quarReason = 10
    ∧ ((after (.discoveryReceived 0 true ⟨record 0, none⟩) (round1 3)).port 0).quarReason = 3 := by decide +kernel
theorem test_discovery_send : ((after (.discoverySend 0) (portAt .discover 5)).port 0).discSent = some 5 := by decide +kernel
/-- Lane 3 of an ACTIVE port reported one uncorrectable codeword at 0. -/
def fecSeen (now : Nat) : Dev := { (portAt .active 0).setPort 0 { (portAt .active 0).port 0 with uncorr := [(3, 0, 1)] } with now := now }
def fecLimit : Nat := bits (Dev.init.get 0x3010 1) 8 8
theorem witness_link_faults : ((fecSeen 999999).port 0).uncorr.filter (fun u => decide (999999 < u.2.1 + 1000000)) = [(3, 0, 1)]
    ∧ ((fecSeen 1000000).port 0).uncorr.filter (fun u => decide (1000000 < u.2.1 + 1000000)) = [] := by decide +kernel
theorem test_link_faults : ((after (.linkFaultDetected 0 .lossOfSignal) (portAt .active 0)).port 0).state = .retrain
    ∧ ((after (.linkFaultDetected 0 (.fec 3 (fecLimit - 1) 7)) (fecSeen 999999)).port 0).state = .active
    ∧ ((after (.linkFaultDetected 0 (.fec 3 fecLimit 7)) (fecSeen 999999)).port 0).state = .retrain
    ∧ ((after (.linkFaultDetected 0 (.fec 3 fecLimit 7)) (fecSeen 1000000)).port 0).state = .active
    ∧ ((after (.linkFaultDetected 0 (.fec 4 fecLimit 7)) (fecSeen 999999)).port 0).state = .active
    ∧ (after (.linkFaultDetected 0 (.fec 3 fecLimit 7)) (fecSeen 999999)).get 0x3020 9 = 7 ∧ after (.linkFaultDetected 0 (.fec 3 1 1)) (portAt .train 0) = portAt .train 0 := by
  decide +kernel

/-- A DATA flit of a class for a device, with a sequence number and a payload, and its right CRC; the zero bytes that would fill the payload are left out. -/
def flitOf (tc dest seq : Nat) (payload : List Byte) : Flit :=
  ⟨withCrc (flitLow 1 seq 0 false ⟨tc, false, false, false, true, 63, dest, 5, 0, 32⟩) payload, payload, false⟩
/-- A LINK_CTRL flit that returns two credits of class 3, and one that asks for a replay from 0. -/
def control (l : List Byte) : Flit := ⟨withCrc (flitLow 2 0 0 false ⟨0, false, false, false, true, 0, 0, 0, 0, 32⟩) l, l, false⟩
/-- A STEP_FATAL Howl of device 5 for step 4, and a slice that holds device 5. -/
def howlFrom5 : Flit := flitOf 6 0x3FFF 0 (toBytes 32 (howlValue 0 4 1 5 5 3 0 false 0))
def sliced : Dev := { portAt .active 0 with slots := ⟨some ⟨[], [], [(5, true)], 0, 0⟩, none, false, [], []⟩ }
theorem witness_flits : (flitOf 3 0x3FFF 0 []).ftype = 1 ∧ flitFails (flitOf 3 0x3FFF 0 []) = false ∧ (flitOf 3 0x3FFF 0 []).lseq = ((portAt .active 0).port 0).rxNext
    ∧ (flitOf 3 0x3FFF 1 []).lseq ≠ ((portAt .active 0).port 0).rxNext ∧ flitFails { flitOf 3 0x3FFF 0 [] with fecBad := true } = true
    ∧ (flitOf 1 7 0 []).tc = 1 ∧ (portAt .active 0).fenceDrops 0 (flitOf 1 7 0 []) = false ∧ (flitOf 0 0x3FFF 0 []).dest = Dev.init.self
    ∧ (flitOf 3 7 0 []).dest ≠ Dev.init.self ∧ (portAt .active 0).inSlice 7 = false := by decide +kernel
theorem witness_howl_received : howlFrom5.ftype = 1 ∧ howlFrom5.tc = 6 ∧ sliced.inSlice 5 = true ∧ sget (fun _ => 0) sliced.howls 5 = 0 ∧ howlFrom5.hops ≠ 0
    ∧ flitFails howlFrom5 = false ∧ bits (ofBytes (howlFrom5.payload.take 32)) 96 4 = 3 ∧ bits (ofBytes (howlFrom5.payload.take 32)) 114 14 = 5
    ∧ sliced.step ≤ bits (ofBytes (howlFrom5.payload.take 32)) 144 48 ∧ sliced.fenceDrops 0 howlFrom5 = false := by decide +kernel
theorem test_flit_in_order : ((after (.dataFlitReceived 0 (flitOf 3 7 0 [])) (portAt .active 0)).port 0).rxNext = 1
    ∧ (after (.dataFlitReceived 0 (flitOf 3 7 0 [])) (portAt .active 0)).get 0x3410 1 = 1
    ∧ ((after (.dataFlitReceived 0 (flitOf 3 7 1 [])) (portAt .active 0)).port 0).nakAt = some 0
    ∧ (after (.dataFlitReceived 0 { flitOf 3 7 0 [] with fecBad := true }) (portAt .active 0)).get 0x3020 3 = 1 := by decide +kernel
theorem test_howl_received : (after (.howlReceived 0 howlFrom5) sliced).disp.fatalSteps = [4] ∧ (after (.howlReceived 0 howlFrom5) sliced).get 0x7300 5 = 1 := by decide +kernel
/-- One flit is out and unacknowledged, class 3 has one credit left. -/
def sent (now replays : Nat) : Dev :=
  ({ inState .run Dev.init with now := now } : Dev).setPort 0
    { Port.init with state := .active, txBuf := [(flitOf 3 7 0 [], 0)], credits := [(3, 1)], nakAt := some 0, replaysInRow := replays }
theorem witness_link_control : (control (0 :: 0 :: List.replicate 16 2#8)).ftype = 2 ∧ flitFails (control [0, 0x80]) = false
    ∧ bit (ofBytes ((control [0, 0x80]).payload.take 2)) 15 = true ∧ (bits (ofBytes ((control [0, 0x80]).payload.take 2)) 0 12 + 4096 - ((sent 0 0).port 0).txBase) % 4096
      < ((sent 0 0).port 0).txBuf.length
    ∧ ((sent 2000 0).port 0).nakAt = some 0 ∧ (sent 2000 0).now = 2000 ∧ ((sent 4000 0).port 0).lastAck + 4000 ≤ (sent 4000 0).now ∧ (sent 0 0).waiting = [] := by
  decide +kernel
theorem test_link_control : sget (fun _ => 256) ((after (.linkCtrlReceived 0 (control (0 :: 0 :: List.replicate 16 2#8))) (sent 0 0)).port 0).credits 3 = 3
    ∧ sget (fun _ => 256) ((after (.linkCtrlReceived 0 (control (0 :: 0 :: List.replicate 16 2#8))) (sent 0 0)).port 0).credits 2 = 256
    ∧ (after (.linkCtrlReceived 0 (control [0, 0x80])) (sent 0 0)).get 0x3020 4 = 1 := by decide +kernel
/-- An ACK that a time mark, a Bark or a discovery record brings counts as any (10 R308); outside READY and RUN a replay waits (10 R298). -/
theorem test_ack_and_held_replay : ((after (.discoveryReceived 0 false ⟨record 0, some 0⟩) (sent 0 0)).port 0).txBuf = []
    ∧ ((after (.barkReceived 0 ⟨0, some 0⟩) (sent 0 0)).port 0).txBuf = []
    ∧ (after (.linkCtrlReceived 0 (control [0, 0x80])) (inState .hold (sent 0 0))).get 0x3020 4 = 0
    ∧ ((after (.linkCtrlReceived 0 (control [0, 0x80])) (inState .hold (sent 0 0))).port 0).replayFrom ≠ none := by decide +kernel
theorem test_replays : ((after (.nakResendTimeout 0) (sent 2000 0)).port 0).nakAt = some 2000 ∧ after (.nakResendTimeout 0) (sent 1999 0) = sent 1999 0
    ∧ ((after (.replayTimeout 0) (sent 4000 6)).port 0).state = .active ∧ ((after (.replayTimeout 0) (sent 4000 7)).port 0).state = .retrain
    ∧ after (.replayTimeout 0) (sent 3999 7) = sent 3999 7 := by decide +kernel

/-- A Bark is due at 10 μs of hall time. -/
def barking (ns : Nat) : Dev := atTime ns (portAt .active 0)
/-- Ninety-nine Barks in a row were unhealthy. -/
def unhealthy : Dev := (portAt .active 0).setPax 0 { PortAux.init with unhealthy := 99 }
theorem witness_barks : (barking 10000).fabricOn = true ∧ (barking 10000).tb.running = true ∧ ((barking 10000).pax 0).barkPeriod < (barking 10000).ht / 10000
    ∧ ¬ ((barking 9999).pax 0).barkPeriod < (barking 9999).ht / 10000 ∧ (unhealthy.pax 0).unhealthy + 1 = 100
    ∧ bits (BitVec.ofNat 256 (3 <<< 141)).toNat 142 1 + 2 * bits (BitVec.ofNat 256 (3 <<< 141)).toNat 141 1 = 3 := by decide +kernel
theorem test_bark_send : ((after (.barkSend 0) (barking 10000)).pax 0).barkSeq = 1 ∧ after (.barkSend 0) (barking 9999) = barking 9999 := by decide +kernel
theorem test_bark_received : ((after (.barkReceived 0 ⟨0, none⟩) unhealthy).get 0x1300 3) = 1 ∧ ((after (.barkReceived 0 ⟨0, none⟩) unhealthy).pax 0).unhealthy = 100
    ∧ ((after (.barkReceived 0 ⟨(BitVec.ofNat 256 (3 <<< 141)), none⟩) unhealthy).pax 0).unhealthy = 0 := by decide +kernel
theorem witness_howl_send : (owned (portAt .active 0)).Grants .pcie 0x7300 2 ∧ (owned (portAt .active 0)).power.pstate = .run ∧ (owned Dev.init).power.pstate ≠ .run
    ∧ (owned (portAt .active 0)).fenced 0 = false ∧ ((owned (portAt .active 0)).port 0).txBuf.length < 4095
    ∧ 0 < sget (fun _ => 256) ((owned (portAt .active 0)).port 0).credits 6 :=
  ⟨granted _ _ _ _ (by decide +kernel), by decide +kernel⟩
theorem test_howl_send : (after (.howlSendWrite .pcie 9) (owned (portAt .active 0))).get 0x7300 3 = 1
    ∧ ((after (.howlSendWrite .pcie 9) (owned (portAt .active 0))).port 0).txBuf.length = 1
    ∧ (after (.howlSendWrite .pcie 9) (owned Dev.init)).get 0x7300 3 = 0 := by decide +kernel
theorem witness_step_abandon : (owned Dev.init).Grants .pcie 0x7300 6 ∧ (owned Dev.init).step = 0 := ⟨granted _ _ _ _ (by decide +kernel), by decide +kernel⟩
theorem test_step_abandon : (after (.stepAbandonWrite .pcie 0) (owned Dev.init)).disp.fatalSteps = [0]
    ∧ status (after (.stepAbandonWrite .pcie 1) (owned Dev.init)) = some 4 := by decide +kernel
/-- A flit that fails and is of no known type sets off no NAK (10 R302, R309). -/
theorem test_unknown_type : ((after (.dataFlitReceived 0 { flitOf 3 0x3FFF 0 [] with header := BitVec.ofNat 128 (7 * 2 ^ 92) }) (portAt .active 0)).port 0).nakAt = none
    ∧ (after (.dataFlitReceived 0 { flitOf 3 0x3FFF 0 [] with header := BitVec.ofNat 128 (7 * 2 ^ 92) }) (portAt .active 0)).get 0x3020 3 = 1 := by decide +kernel
/-- A neighbour that was reset, and whose record comes twice, is still a neighbour that was reset (10 R319). -/
theorem test_repeated_record :
    ((after (.discoveryReceived 0 false ⟨record 0, none⟩) (after (.discoveryReceived 0 false ⟨record 0, none⟩)
      ((portAt .discover 0).setPort 0 { (portAt .discover 0).port 0 with known := true, nbSerial := 77, nbIncarnation := 9 }))).port 0).back = 2 := by decide +kernel

/-! ## Hall time -/

/-- A follower whose parent, port 0, is ACTIVE and has sent mark 0 at 0. -/
def follower : Dev :=
  ((portAt .active 0).put 0x3210 2 0).setPax 0 { PortAux.init with marksSent := [(0, 0)] }
/-- A mark that carries LOCKED and an echo 2 ns later than this device's clock makes it. -/
def mark2ns : BitVec 384 := BitVec.ofNat 384 ((2 * 65536) <<< 144 + 2 <<< 108 + 3 <<< 104 + 9 <<< 89)
def role (r now : Nat) : Dev := ({ Dev.init with now := now } : Dev).put 0x3210 1 r
theorem witness_marks : (barking 1024).listens 0 = true ∧ (barking 1024).tb.running = true ∧ ((barking 1024).pax 0).markPeriod < (barking 1024).ht / 1024
    ∧ ¬ ((barking 1023).pax 0).markPeriod < (barking 1023).ht / 1024 ∧ follower.listens 0 = true ∧ follower.get 0x3210 1 = 0
    ∧ (follower.setPax 0 { PortAux.init with marksSent := [(0, 0)], nbTState := 2 }).activeParent = 0 ∧ Dev.init.activeParent = 7
    ∧ (∃ e ∈ (follower.pax 0).marksSent, e.1 = bits mark2ns.toNat 112 16 ∧ follower.now ≤ e.2 + 8000) ∧ Dev.init.listens 0 = false
    ∧ (follower.put 0x3210 1 1).get 0x3210 1 ≠ 0 := by decide +kernel
theorem test_mark_send : ((after (.timeMarkSend 0) (barking 1024)).pax 0).markSeq = 1 ∧ after (.timeMarkSend 0) (barking 1023) = barking 1023 := by decide +kernel
/-- The offset is half of the 2 ns that the two paths differ by (11 R332). -/
theorem test_mark_received : (let d := after (.timeMarkReceived 0 ⟨mark2ns, none⟩ 0) follower
    d.get 0x3200 5 == 1000 && d.get 0x3200 4 == 4 && d.get 0x3200 3 == 1 && d.tb.rootAddr == 9 && d.tb.slew == 65536 * 65536) = true := by decide +kernel
theorem witness_holdover : (role 0 8000).get 0x3210 1 = 0 ∧ ((role 0 8000).put 0x3200 3 2).get 0x3200 3 = 2 ∧ (role 0 8000).tb.lastRef + 8000 ≤ (role 0 8000).now
    ∧ (role 1 0).get 0x3210 1 = 1 ∧ (0 + 1500000000 ≤ (1500000000 : Nat)) := by decide +kernel
theorem test_holdover : (after .timeHoldover ((role 0 8000).put 0x3200 3 2)).get 0x3200 3 = 3
    ∧ after .timeHoldover ((role 0 7999).put 0x3200 3 2) = (role 0 7999).put 0x3200 3 2 := by decide +kernel
/-- The last PPS edge was at 0. -/
def pps (now : Nat) : Dev := { role 1 now with tb := { TimeBase.init with lastPps := some 0, tref10m := true } }
theorem witness_pps : (pps 1500000000).tb.lastPps = some 0 ∧ (pps 0).tb.tref10m = true ∧ (role 1 0).tb.lastPps = none ∧ (role 1 0).tb.pairStart = none
    ∧ (0 + 999900000 ≤ (pps 1000100000).now ∧ (pps 1000100000).now ≤ 0 + 1000100000) ∧ ¬ (pps 1000100001).now ≤ 0 + 1000100000 := by decide +kernel
theorem test_pps : (after (.trefPpsEdge 100) (pps 1000100000)).tb.lastPps = some 1000100000 ∧ (after (.trefPpsEdge 99) (pps 1000100000)).get 0x3220 1 = 1
    ∧ (after (.trefPpsEdge 100) (pps 1000100001)).get 0x3220 1 = 1 ∧ (after (.trefPpsEdge 100) (role 1 5)).tb.pairStart = some 5 := by decide +kernel
theorem test_tref_losses : (after .trefPpsLoss (pps 1500000000)).get 0x3200 3 = 3 ∧ after .trefPpsLoss (pps 1499999999) = pps 1499999999
    ∧ (after .tref10mLoss (pps 0)).get 0x3200 3 = 3 ∧ (after .tref10mRestored (role 1 0)).tb.tref10m = true := by decide +kernel
/-- A request is out: sync at 0 with its stamp at 4 ns, the request at 10 ns. -/
def asked : Dev := { role 2 0 with tb := { TimeBase.init with ptpSync := some (0, 4), ptpReq := some 10 } }
theorem witness_ptp : asked.get 0x3210 1 = 2 ∧ asked.get 0x3210 6 = 0 ∧ asked.tb.ptpSync = some (0, 4) ∧ asked.tb.ptpReq = some 10 ∧ (role 2 0).tb.ptpSync = none := by
  decide +kernel
/-- ((14 - 10) - (4 - 0)) / 2 = 0 and ((16 - 10) - (4 - 0)) / 2 = 1 ns (11 R337). -/
theorem test_ptp : (after (.ptpMessageReceived (.delayResp 0 0 14)) asked).get 0x3200 5 = 0 ∧ (after (.ptpMessageReceived (.delayResp 0 0 16)) asked).get 0x3200 5 = 1000
    ∧ (after (.ptpMessageReceived (.sync 0 false 7)) (role 2 0)).out = [.ptpDelayReq] ∧ (after (.ptpMessageReceived (.followUp 1 7)) asked) = asked := by decide +kernel

/-! ## Power -/

/-- A chain towards a state. -/
def chain (old goal : PState) : Dev := { inState old Dev.init with power := { Power.init with pstate := old, target := some goal } }
theorem witness_chain : (chain .standby .run).power.target = some .run ∧ (chain .hold .ready).power.wasReady = false
    ∧ ((chain .hold .ready).get 0x5050 1 == 0x0F002FE00000) = true ∧ (chain .protect .run).power.pstate = .protect ∧ Dev.init.power.target = none := by decide +kernel
theorem test_chain : (after (.pstateStepComplete ⟨[], [], []⟩) (chain .standby .run)).power.pstate = .hold
    ∧ (after (.pstateStepComplete ⟨[], [], []⟩) (chain .ready .run)).power.pstate = .run
    ∧ (after (.pstateStepComplete ⟨[], [], []⟩) (chain .ready .run)).power.target = none
    ∧ (after (.pstateStepComplete ⟨[], [], []⟩) (chain .run .standby)).power.v = 550 := by decide +kernel
/-- In RUN at 700 mV, the last period at 0. -/
def heel (now : Nat) : Dev := { Dev.init with now := now, power := { Power.init with pstate := .run, v := 700 } }
theorem witness_heel : 0 + 100000 ≤ (heel 100000).now ∧ (heel 100000).power.pstate = .run ∧ (heel 99999).now < 0 + 100000
    ∧ (heel 0).get 0x2010 1 = 1500 ∧ (heel 0).get 0x2010 3 = 2200 ∧ (heel 0).power.warn = false := by decide +kernel
/-- The voltages of the worked example of 16, and the cap (16 R491). -/
theorem test_heel : (let d := ((heel 100000).put 0x2010 1 1550).put 0x2010 3 2400
      (after (.heelPeriod 1539 2330 []) { d with power := { d.power with v := 730 } }).power.v == 735
        && (after (.heelPeriod 1552 2330 []) { d with power := { d.power with v := 735 } }).power.v == 735) = true
    ∧ (after (.heelPeriod 1515 2200 []) (heel 100000)).power.v = 695 ∧ (after (.heelPeriod 1499 2201 []) (heel 100000)).power.v = 690
    ∧ after (.heelPeriod 1499 2200 []) (heel 99999) = heel 99999 := by decide +kernel
/-- The bus failed at 0. -/
def avs (now : Nat) : Dev := { after (.avsbusFault 2 7) Dev.init with now := now }
theorem witness_avsbus : (avs 1000000).power.avsHeld = true ∧ (avs 1000000).power.avsRetryAt ≤ (avs 1000000).now ∧ sget (fun _ => false) (avs 0).power.avsRaised 2 = true
    ∧ sget (fun _ => false) Dev.init.power.avsRaised 2 = false := by decide +kernel
theorem test_avsbus : (after (.avsbusRetry 2 true) (avs 1000000)).power.avsHeld = false ∧ (after (.avsbusRetry 2 false) (avs 1000000)).power.avsRetryAt = 2000000
    ∧ after (.avsbusRetry 2 true) (avs 999999) = avs 999999 ∧ (avs 0).get 0x1300 3 = 1 ∧ (after (.avsbusFault 2 7) (avs 0)).get 0x1300 3 = 1 := by decide +kernel
/-- A sensor that read 115.0 once; the other sensors of its die have failed. -/
def hot : Dev := (inState .run Dev.init).setSensor 0 { Sensor.init with hits := 1 }
def lastOfDie : Dev := (below 128).foldl (fun d k => if dieOf k = dieOf 0 ∧ k ≠ 0 then d.setSensor k { Sensor.init with failed := true } else d) { Dev.init with now := 1000000 }
theorem witness_sensors : (hot.sensor 0).failed = false ∧ ¬ ((1150 : Int) < -400 ∨ 1500 < (1150 : Int)) ∧ hot.power.warn = false
    ∧ (lastOfDie.sensor 0).last + 1000000 ≤ lastOfDie.now ∧ (∀ k < 128, dieOf k = dieOf 0 → k ≠ 0 → (lastOfDie.sensor k).failed = true)
    ∧ ¬ (∀ k < 128, dieOf k = dieOf 0 → k ≠ 0 → (hot.sensor k).failed = true) := by decide +kernel
theorem test_sensors : (after (.sensorConversion 0 1150) hot).power.pstate = .protect ∧ (after (.sensorConversion 0 1149) hot).power.pstate = .run
    ∧ (after (.sensorConversion 0 1149) hot).power.warn = true ∧ (after (.sensorConversion 0 1501) hot).get 0x2030 1 = 32767
    ∧ (after (.sensorFailed 0) lastOfDie).power.pstate = .protect := by decide +kernel
/-- A device that VR_FAULT_N stopped at 0; the pin was released at 0. -/
def faulted (now : Nat) : Dev := { after .vrFaultAsserted (inState .run Dev.init) with now := now }
theorem witness_rails : Dev.init.railChecked 0 = false ∧ ({ Dev.init with power := { Power.init with railsOn := [(0, true)] }, now := 2000000 } : Dev).railChecked 0 = true
    ∧ (faulted 0).power.pstate = .protect ∧ (faulted 0).pins.vrDeassertAt + 100000000 ≤ (faulted 100000000).now
    ∧ (faulted 0).power.protectAt + 100000000 ≤ (faulted 100000000).now := by decide +kernel
theorem test_rails : (after (.railOutOfWindow 0) { Dev.init with power := { Power.init with railsOn := [(0, true)] }, now := 2000000 }).power.pstate = .protect
    ∧ (faulted 0).get 0x2000 4 = 2 ∧ (after .vrFaultLatchClear (faulted 100000000)).pins.vrFault = false ∧ after .vrFaultLatchClear (faulted 99999999) = faulted 99999999 := by
  decide +kernel
/-- While the voltage is held, the throttle alone keeps the cap (16 R488, R502). -/
theorem test_throttle_when_held : (let d := { heel 100000 with power := { (heel 100000).power with avsHeld := true } }
      (after (.heelPeriod 1499 2201 []) d).power.v == 700 && (after (.heelPeriod 1499 2201 []) d).power.throttle == 1) = true := by decide +kernel
/-- Throttling by two sixteenths holds the array for 125 μs of each millisecond (16 R493). -/
def throttledAt (now : Nat) : Dev := { Dev.init with now := now, power := { Power.init with throttle := 2, throttleAt := 5 } }
theorem test_throttled : (throttledAt 5).throttled = true ∧ (throttledAt 125004).throttled = true ∧ (throttledAt 125005).throttled = false
    ∧ (throttledAt 1000005).throttled = true ∧ Dev.init.throttled = false := by decide +kernel

/-! ## Clocks -/

/-- Shepherd's sources 1 and 2 are ready. -/
def clocked : Dev := (Dev.init.setSource 1 ⟨true, false, 0⟩).setSource 2 ⟨true, false, 0⟩
theorem witness_trip : clocked.requests = [] ∧ isSource 1 = true ∧ clocked.sourcePowered 1 = true ∧ (clocked.source 1).failed = false
    ∧ (∀ k < 12, clocked.loopRef k = 1 → clocked.sourceReady (16 + k) = false) ∧ (clocked.domain 0xB).source = 1 ∧ (clocked.domain 0xB).hold = false
    ∧ (clocked.domain 0xB).parked = false ∧ (clocked.domain 0xB).switchTo = none ∧ clocked.nextMember 0xB 1 1 = 2 ∧ clocked.sourceReady 2 = true
    ∧ (Dev.init.setSource 1 ⟨true, false, 0⟩).sourceReady 2 = false := by decide +kernel
theorem test_trip : ((after (.clkMonitorTrip 1 .stopped) clocked).domain 0xB).source = 2 ∧ ((after (.clkMonitorTrip 1 .stopped) clocked).domain 0xB).forced = true
    ∧ ((after (.clkMonitorTrip 1 .count) (Dev.init.setSource 1 ⟨true, false, 0⟩)).domain 0xB).hold = true
    ∧ (after (.clkMonitorTrip 1 .count) clocked).get 0x2140 3 = 1 ∧ after (.clkMonitorTrip 0 .count) clocked = clocked := by decide +kernel
/-- Shepherd's domain waits for XTA. -/
def waitsForXta (now : Nat) : Dev := after (.clkMonitorTrip 1 .count) (({ Dev.init with now := now } : Dev).setSource 1 ⟨true, false, 0⟩)
theorem witness_source_ready : isSource 2 = true ∧ (waitsForXta 1000000).sourcePowered 2 = true ∧ ((waitsForXta 1000000).source 2).failed = false ∧ ((waitsForXta 1000000).source 2).ready = false
    ∧ ((waitsForXta 1000000).domain 0xB).hold = true ∧ ((waitsForXta 1000000).domain 0xB).awaited = 2 ∧ (waitsForXta 1000000).requests = [] ∧ ((waitsForXta 1000000).source 2).startAt + steadyTime 2 ≤ (waitsForXta 1000000).now := by decide +kernel
theorem test_source_ready : ((after (.clkSourceReady 2) (waitsForXta 1000000)).domain 0xB).hold = false ∧ ((after (.clkSourceReady 2) (waitsForXta 1000000)).domain 0xB).source = 2
    ∧ after (.clkSourceReady 16) (waitsForXta 1000000) = waitsForXta 1000000
    ∧ after (.clkSourceReady 2) (waitsForXta 999999) = waitsForXta 999999 := by decide +kernel
theorem witness_oscillator : ((waitsForXta 10000000).source 2).startAt + 10000000 ≤ (waitsForXta 10000000).now ∧ ((waitsForXta 0).source 2).startAt = 0
    ∧ (waitsForXta 0).nextMember 0xB 2 ((waitsForXta 0).domain 0xB).prior = 0 ∧ (waitsForXta 0).sourceReady 0 = true := by decide +kernel
theorem test_oscillator : ((after (.oscillatorStartFailed 2) (waitsForXta 10000000)).domain 0xB).source = 0
    ∧ after (.oscillatorStartFailed 2) (waitsForXta 9999999) = waitsForXta 9999999 := by decide +kernel
/-- Loop 11 unlocked since 0, on a reference that is ready. -/
def relocking (now : Nat) : Dev := ({ clocked with now := now } : Dev).put 0x2130 12 2
theorem witness_loop : ((relocking 1000000).source 27).ready = false ∧ (relocking 0).sourcePowered 27 = true ∧ (relocking 0).sourceReady ((relocking 0).loopRef 11) = true
    ∧ ((relocking 1000000).source 27).startAt + 1000000 ≤ (relocking 1000000).now := by decide +kernel
theorem test_loop : (after (.loopRelockAttempt 11 true) (relocking 1000000)).sourceReady 27 = true ∧ ((after (.loopRelockAttempt 11 false) (relocking 1000000)).source 27).startAt = 1000000
    ∧ after (.loopRelockAttempt 11 true) (relocking 999999) = relocking 999999 := by decide +kernel
/-- Shepherd's domain is to switch to SIO since 0. -/
def switching (now : Nat) : Dev := ({ Dev.init with now := now } : Dev).setDomain 0xB { Domain.init 0xB with switchTo := some 0 }
theorem witness_forced_switch : ((switching 51200).domain 0xB).switchTo = some 0 ∧ ((switching 51200).domain 0xB).switchAt + 51200 ≤ (switching 51200).now
    ∧ (Dev.init.domain 0xB).switchTo = none := by decide +kernel
theorem test_forced_switch : ((after (.clkForcedSwitch 10) (switching 51200)).domain 0xB).source = 0 ∧ (after (.clkForcedSwitch 10) (switching 51200)).get 0x2140 4 = 1
    ∧ after (.clkForcedSwitch 10) (switching 51199) = switching 51199 := by decide +kernel
/-- The first trim is due, with a reference and without one. -/
def trimming (ready : Bool) : Dev := ({ Dev.init with now := 50000000 } : Dev).setSource 2 ⟨ready, false, 0⟩
theorem witness_trim : (trimming false).trimUsable = false ∧ (trimming false).clocks.lastTrim + 50000000 ≤ (trimming false).now ∧ (trimming false).get 0x2140 1 ≠ 0
    ∧ ((trimming true).put 0x2140 1 0).trimUsable = false ∧ ((trimming true).put 0x2140 1 0).get 0x2140 1 = 0 ∧ (trimming true).trimUsable = true := by decide +kernel
theorem test_trim : (after (.fioTrim 100001) (trimming true)).clocks.trim = -1 ∧ (after (.fioTrim 100000) (trimming true)).clocks.trim = 0
    ∧ (after (.fioTrim (-100001)) (trimming true)).clocks.trim = 1 ∧ (after (.fioTrim 1) (trimming false)).get 0x1300 3 = 1 := by decide +kernel

/-! ## Resets -/

/-- In RUN with a port up, straps 5, hall time 1 s. -/
def busyDev : Dev := atTime 1000000000 ((owned (portAt .active 0)).put 0x3000 1 5)
theorem witness_resets : busyDev.Grants .pcie 0x9000 1 ∧ busyDev.hostUp = true ∧ busyDev.pins.perst = false
    ∧ ({ busyDev with pins := { Pins.init with perst := true } } : Dev).pins.perst = true ∧ (inState .protect busyDev).power.pstate = .protect
    ∧ ({ busyDev with host := { HostPort.init with linkUp := false } } : Dev).hostUp = false :=
  ⟨granted _ _ _ _ (by decide +kernel), by decide +kernel⟩
theorem test_warm_reset : (let d := after (.warmReset .pcie) busyDev
    d.ports == [] && d.power.pstate == .standby && d.get 0x3000 1 == 5 && d.host.linkUp && d.tb.htf == 1000000000 * 65536 && d.get 0xA010 4 == 1) = true := by decide +kernel
theorem test_function_level_reset : (let d := after .functionLevelReset busyDev
    d.get 0x3000 1 == 5 && d.host.linkUp && (d.leash 5).owner == .free) = true ∧ (after .functionLevelReset (inState .protect busyDev)).power.pstate = .protect := by decide +kernel
theorem test_perst_deasserted : (after .perstDeasserted { Dev.init with pins := { Pins.init with perst := true }, host := { HostPort.init with held := true } }).host.readyAt = 100000000
    ∧ after .perstDeasserted Dev.init = Dev.init := by decide +kernel
theorem test_supply_loss : (after .standbySupplyLoss busyDev).tb.running = false ∧ (after .standbySupplyLoss busyDev).store.buffer = [] := by decide +kernel

/-! ## Pins, ledger, lifetime records, the test port -/

def atNow (now : Nat) : Dev := { Dev.init with now := now }
theorem witness_straps : (atNow 100000000).store.lastStraps + 100000000 ≤ (atNow 100000000).now ∧ (7#16).toNat ≠ (atNow 0).get 0x3000 1 ∧ (atNow 0).store.pinsDiffer = false := by
  decide +kernel
theorem test_straps : (after (.strapsCheck 7) (atNow 100000000)).get 0x1300 3 = 1 ∧ (after (.strapsCheck 7) (atNow 100000000)).get 0x3000 1 = (atNow 0).get 0x3000 1
    ∧ after (.strapsCheck 7) (atNow 99999999) = atNow 99999999 := by decide +kernel
/-- STOP_N was accepted at 0 and has been released since. -/
def stopped (now : Nat) : Dev := { after (.stopNChange false) (after (.stopNChange true) (atNow 0)) with now := now }
theorem witness_stop : (stopped 0).pins.stopLockout = some 1000000 ∧ (stopped 0).pins.stopN = true ∧ (stopped 0).pins.stopFiltered = false
    ∧ ¬ (stopped 1000000).now < 1000000 ∧ (atNow 0).pins.stopLockout = none ∧ (atNow 0).pins.stopN ≠ true := by decide +kernel
theorem test_stop : (after .stopLockoutEnd (stopped 1000000)).pins.stopN = false ∧ after .stopLockoutEnd (stopped 999999) = stopped 999999
    ∧ (after (.stopNChange true) (atNow 0)).pins.stopN = true := by decide +kernel
/-- A buffered record; 768 segments in use. -/
def buffered : Dev := { Dev.init with store := { Store.init with buffer := [⟨0, 0, 2, toBytes 4 9⟩], nextSeq := 1 } }
def fullLedger : Dev := { Dev.init with store := { Store.init with segs := (below 768).map (fun n => ⟨n, n, [], false⟩) } }
theorem witness_ledger : buffered.store.buffer = ⟨0, 0, 2, toBytes 4 9⟩ :: [] ∧ buffered.hasRoom ⟨0, 0, 2, toBytes 4 9⟩ = true
    ∧ (buffered.program ⟨0, 0, 2, toBytes 4 9⟩).isSome = true ∧ Dev.init.store.segs.length < 768 ∧ 768 ≤ fullLedger.store.segs.length := by decide +kernel
theorem test_ledger : (after (.ledgerCommit true) buffered).store.buffer = [] ∧ (after (.ledgerCommit true) buffered).store.segs.map (fun g => g.records.length) = [1]
    ∧ (after (.ledgerCommit false) buffered).store.retired.length = 1 := by decide +kernel
theorem witness_ack : (owned buffered).Grants .pcie 0x9010 0xD ∧ serialNewer 32 1 (((owned buffered).store.nextSeq + 2 ^ 32 - 1) % 2 ^ 32) = true
    ∧ serialNewer 32 0 (((owned buffered).store.nextSeq + 2 ^ 32 - 1) % 2 ^ 32) = false ∧ buffered.store.buffer.length < 256 ∧ buffered.store.ackSeq = none :=
  ⟨granted _ _ _ _ (by decide +kernel), by decide +kernel⟩
theorem test_ack : (after (.ledgerAck .pcie 0) (owned buffered)).store.ackSeq = some 0 ∧ (after (.ledgerAck .pcie 0) (owned buffered)).store.buffer.length = 2
    ∧ status (after (.ledgerAck .pcie 1) (owned buffered)) = some 4 := by decide +kernel
theorem test_compaction : after .ledgerCompaction Dev.init = Dev.init := by decide +kernel
theorem witness_lifetime : (atNow 900000000000).store.lastLife + 900000000000 ≤ (atNow 900000000000).now ∧ (owned (atNow 0)).Grants .pcie 0xA000 1
    ∧ (owned (atNow 0)).timeState ≠ 2 ∧ (owned ((atNow 0).put 0x3200 3 2)).timeState = 2 :=
  ⟨by decide +kernel, granted _ _ _ _ (by decide +kernel), by decide +kernel⟩
theorem test_lifetime : ((after (.lifetimeRecordWrite true) (atNow 900000000000)).store.life).map LifeRec.seq = some 0
    ∧ after (.lifetimeRecordWrite true) (atNow 899999999999) = atNow 899999999999 := by decide +kernel
theorem test_calendar : (after (.calendarWrite .pcie 77) (owned (atNow 0))).get 0xA000 1 = 77 ∧ (after (.calendarWrite .pcie 77) (owned (atNow 0))).get 0xA000 2 = 1
    ∧ status (after (.calendarWrite .pcie 77) (owned ((atNow 0).put 0x3200 3 2))) = some 4 := by decide +kernel
theorem witness_test_port : Dev.init.power.pstate = .standby ∧ (after (.stopNChange true) (atNow 0)).pins.stopN = true ∧ Dev.init.pins.stopN = false
    ∧ Dev.init.sec.unlocked = false ∧ ({ Dev.init with sec := { Security.init with unlocked := true } } : Dev).sec.unlocked = true := by decide +kernel
theorem test_test_port : (after (.testPortAccess .extest) (after (.stopNChange true) (atNow 0))).out.head? = some (.testPort 0)
    ∧ after (.testPortAccess (.privateTest 3)) Dev.init = Dev.init := by decide +kernel
/-- A segment of two records, two lifetime records. -/
def twoRecords : Store := { Store.init with segs := [⟨5, 0, [⟨0, 7, 0, []⟩, ⟨0, 8, 0, []⟩], false⟩], life := some ⟨1, [], [], 9, []⟩, lifeOld := [⟨0, [], [], 3, []⟩] }
theorem test_mount : (twoRecords.mount ⟨true, [(5, 1)], [], 1, []⟩).segs = [⟨5, 0, [⟨0, 7, 0, []⟩], true⟩] ∧ twoRecords.tornCount ⟨true, [(5, 1)], [], 1, []⟩ = 1
    ∧ (twoRecords.mount ⟨true, [(5, 1)], [], 1, []⟩).nextSeq = 8 ∧ ((twoRecords.mount ⟨true, [], [5], 1, []⟩).life).map LifeRec.calendar = some 3
    ∧ (twoRecords.mount ⟨true, [], [5], 0, []⟩).segs = [] ∧ twoRecords.mount ⟨true, [], [], 0, []⟩ = { twoRecords with nextSeq := 9 } := by decide +kernel

end Sys2Proof.Tests
end

section
/-! PROOF. How array operations end (03 R76, R77, R83, R84; 09 R275, R276): what their parts leave of the compute units, of memory and of
the outcome so far, what an operation on poisoned data leaves in its tiles, and O23. -/

namespace Sys2Proof.Machine

/-! ## What a step-fatal event leaves -/

/-- What every step of a fold keeps, the fold keeps. -/
theorem foldl_keeps {α β γ : Type} {g : β → γ} {f : β → α → β} (h : ∀ b a, g (f b a) = g b) (l : List α) (b : β) :
    g (l.foldl f b) = g b := by
  induction l generalizing b with
  | nil => rfl
  | cons a t ih => rw [List.foldl_cons, ih, h]

/-- What the compute units and device memory hold. -/
def Dev.contents (d : Dev) : Compute × Mem := (d.cmp, d.mem)

theorem Dev.contents_eq_iff {a b : Dev} : a.contents = b.contents ↔ a.cmp = b.cmp ∧ a.mem = b.mem := Prod.mk_inj

theorem Dev.contents_of_mute {a b : Dev} (h : a.mute = b.mute) : a.contents = b.contents :=
  Dev.contents_eq_iff.2 ⟨Dev.of_mute_cmp h, Dev.of_mute_mem h⟩

@[simp] theorem Dev.withDisp_contents (d : Dev) (x : Disp) : ({ d with disp := x } : Dev).contents = d.contents := rfl
@[simp] theorem Dev.put_contents (d : Dev) (i k v : Nat) : (d.put i k v).contents = d.contents := rfl
@[simp] theorem Dev.errLog_contents (d : Dev) (er : Nat) : (d.errLog er).contents = d.contents :=
  Dev.contents_of_mute (d.errLog_mute er)

@[simp] theorem Dev.howlOn_contents (d : Dev) (f : Flit) (p : Nat) : (d.howlOn f p).contents = d.contents := by
  unfold Dev.howlOn
  split
  · rfl
  · split
    · rfl
    · split <;> rfl

@[simp] theorem Dev.howl_contents (d : Dev) (kind port subject event step : Nat) (v : Bool) :
    (d.howl kind port subject v event step).contents = d.contents := by
  unfold Dev.howl
  split
  · rfl
  · exact (foldl_keeps (g := Dev.contents) (fun d p => d.howlOn_contents _ p) _ _).trans
      (Dev.contents_eq_iff.2 ⟨Dev.note_cmp _ _ _ _, Dev.note_mem _ _ _ _⟩)

@[simp] theorem Dev.raiseStep_contents (d : Dev) (code a b s : Nat) : (d.raiseStep code a b s).contents = d.contents := by
  unfold Dev.raiseStep
  extract_lets x disp y z
  have hx : x.contents = d.contents := Dev.contents_of_mute (d.report_mute code a b true)
  have hz : z.contents = d.contents := (y.put_contents _ _ _).trans ((x.withDisp_contents _).trans hx)
  split <;> simp [hz]

/-! ## The outcome of a job so far -/

@[simp] theorem Job.start_d (d : Dev) : (Job.start d).d = d := rfl
@[simp] theorem Job.start_code (d : Dev) : (Job.start d).done.code = 0 := rfl
@[simp] theorem Job.dev_d (j : Job) (f : Dev → Dev) : (j.dev f).d = f j.d := rfl
@[simp] theorem Job.dev_code (j : Job) (f : Dev → Dev) : (j.dev f).done.code = j.done.code := by cases j; rfl
@[simp] theorem Job.noteEvent_d (j : Job) (c : Nat) : (j.noteEvent c).d = j.d := by
  unfold Job.noteEvent; generalize pickEvent j.done.event c = v; rfl
@[simp] theorem Job.noteEvent_code (j : Job) (c : Nat) : (j.noteEvent c).done.code = j.done.code := by
  unfold Job.noteEvent; generalize pickEvent j.done.event c = v; rfl
@[simp] theorem Job.result_d (j : Job) (r : Nat) : (j.result r).d = j.d := rfl
@[simp] theorem Job.result_code (j : Job) (r : Nat) : (j.result r).done.code = j.done.code := by cases j; rfl
@[simp] theorem Job.result_result (j : Job) (r : Nat) : (j.result r).done.result = r := rfl

@[simp] theorem Job.fail_d (j : Job) (c : Nat) : (j.fail c).d = j.d := by unfold Job.fail; split <;> rfl

/-- A job that has no code yet takes the one it fails with. -/
theorem Job.fail_code {j : Job} (h : j.done.code = 0) (c : Nat) : (j.fail c).done.code = c := by simp [Job.fail, h]

@[simp] theorem Job.poisonedAt_contents (j : Job) (s a : Nat) : (j.poisonedAt s a).d.contents = j.d.contents := by
  simp [Job.poisonedAt, Job.poisoned, Job.raiseStep]

/-- Poisoned data end a job that has not failed with `POISONED`. -/
theorem Job.poisonedAt_code {j : Job} (h : j.done.code = 0) (s a : Nat) : (j.poisonedAt s a).done.code = ccPoisoned := by
  unfold Job.poisonedAt Job.poisoned Job.raiseStep
  exact Job.fail_code (by simpa using h) _

@[simp] theorem Job.failRead_contents (j : Job) (s c : Nat) (bad : Option Nat) : (j.failRead s c bad).d.contents = j.d.contents := by
  cases bad <;> simp [Job.failRead]

/-- A failing check gives its code, or `POISONED` where it read poison. -/
theorem Job.failRead_code {j : Job} (h : j.done.code = 0) (s c : Nat) (bad : Option Nat) :
    (j.failRead s c bad).done.code = if bad = none then c else ccPoisoned := by
  cases bad with
  | none => simpa [Job.failRead] using Job.fail_code h c
  | some a => simpa [Job.failRead] using Job.poisonedAt_code h s a

/-! ## What writing outputs leaves -/

/-- What a job that writes its outputs to memory does not change: the compute units, the code, the result. -/
def Job.standing (j : Job) : Compute × Nat × Nat := (j.d.cmp, j.done.code, j.done.result)

theorem Job.standing_eq_iff {i j : Job} :
    i.standing = j.standing ↔ i.d.cmp = j.d.cmp ∧ i.done.code = j.done.code ∧ i.done.result = j.done.result := by
  simp [Job.standing]

/-- A change of the device that keeps the compute units keeps all that stands. -/
theorem Job.dev_standing (j : Job) {f : Dev → Dev} (h : (f j.d).cmp = j.d.cmp) : (j.dev f).standing = j.standing := by
  simp [Job.standing, Job.dev, h]

@[simp] theorem Job.raise_standing (j : Job) (c a b : Nat) : (j.raise c a b).standing = j.standing :=
  j.dev_standing (f := fun d => d.raise c a b) (Dev.raise_cmp _ _ _ _)
@[simp] theorem Job.flag_standing (j : Job) (b : Nat) : (j.flag b).standing = j.standing := rfl
@[simp] theorem Job.flagIf_standing (j : Job) (c : Bool) (b : Nat) : (j.flagIf c b).standing = j.standing := by
  unfold Job.flagIf; split <;> rfl
@[simp] theorem Job.dev_wr_standing (j : Job) (a : Dev → Nat) (l : List Byte) (p : Bool) :
    (j.dev (fun d => d.wr (a d) l p)).standing = j.standing := rfl

@[simp] theorem Job.fixScale_standing (j : Job) (k : Nat) (vals : List Fp) : (j.fixScale k vals).1.standing = j.standing := by
  unfold Job.fixScale
  extract_lets v cur j₁ j₂ l r e c j₃
  have h₁ : j₁.standing = j.standing := by simp only [j₁]; split <;> simp
  have h₃ : j₃.standing = j.standing := by simp [j₃, j₂, h₁]
  split <;> simp [h₃]

@[simp] theorem Job.finishScale_standing (j : Job) (k sat : Nat) (vals : List Fp) :
    (j.finishScale k sat vals).standing = j.standing := by
  unfold Job.finishScale
  dsimp only
  split <;> simp

@[simp] theorem Job.produce_standing (j : Job) (k : Nat) (gb8 : Bool) (vals : List Fp) :
    (j.produce k gb8 vals).1.standing = j.standing := by
  simp [Job.produce]

@[simp] theorem Dev.clearCovered_cmp (d : Dev) (l : List Ext) : (d.clearCovered l).cmp = d.cmp :=
  foldl_keeps (g := Dev.cmp) (fun d u => by split <;> rfl) _ d

/-- Writes to memory, one for each item of a list, keep the compute units. -/
theorem Dev.foldl_wr_cmp {α : Type} (a : α → Nat) (b : Dev → α → List Byte) (p : Bool) (l : List α) (d : Dev) :
    (l.foldl (fun d q => d.wr (a q) (b d q) p) d).cmp = d.cmp :=
  foldl_keeps (g := Dev.cmp) (f := fun d q => d.wr (a q) (b d q) p) (fun _ _ => rfl) l d

/-- A drain only writes memory, and raises the events of its scale record (03 R86). -/
@[simp] theorem Job.drain_standing (j : Job) (x s t col0 : Nat) (masked : Nat → Nat → Bool) (poison : Bool) :
    (j.drain x s t col0 masked poison).standing = j.standing := by
  unfold Job.drain
  dsimp only
  generalize hj : (if outSize (arOutMode x) = 0 then j else _ : Job) = i
  have hi : i.standing = j.standing := by
    rw [← hj]
    split
    · rfl
    · exact j.dev_standing (Dev.clearCovered_cmp _ _)
  rw [← hi]
  split
  · exact i.dev_standing (Dev.foldl_wr_cmp _ _ _ _ _)
  · exact i.dev_standing (Dev.foldl_wr_cmp _ _ _ _ _)
  · exact (Job.dev_standing _ (Dev.foldl_wr_cmp _ _ _ _ _)).trans (Job.produce_standing _ _ _ _)
  · exact i.dev_standing (Dev.foldl_wr_cmp _ _ _ _ _)
  · rfl

/-! ## Tiles -/

/-- What a tile operation comes to: no code and no result, and one last write of its tile's status, in which a plain operation on the
whole tile is neither torn nor poisoned (03 R77; 09 R276). -/
theorem Job.tileOp_standing (j : Job) (o : TileOp) (value : Nat → Nat → Fp → Fp) (masked : Nat → Nat → Bool) :
    ∃ (d : Dev) (y : Tile), (j.tileOp o value masked).standing = ((d.setTile o.tile y).cmp, j.done.code, j.done.result)
      ∧ (o.add = false → o.rows = 1024 → o.cols = 2048 → y.torn = false ∧ y.poison = false) := by
  unfold Job.tileOp
  extract_lets _ ped _ full _ x dPed _ _ d lost last i
  have hx : o.add = false → o.rows = 1024 → o.cols = 2048 → x.torn = false ∧ x.poison = false := by
    intro ha hr hc
    simp [x, full, ha, hr, hc]
  clear_value x dPed d
  split
  · exact ⟨dPed, { x with spillValid := false }, rfl, hx⟩
  · have hi : i.standing = ((d.setTile o.tile { last with spillValid := true }).cmp, j.done.code, j.done.result) :=
      Job.flagIf_standing _ _ _
    refine ⟨d, { last with spillValid := true }, ?_, hx⟩
    split <;> simp [hi]

@[simp] theorem Job.tileOp_code (j : Job) (o : TileOp) (value : Nat → Nat → Fp → Fp) (masked : Nat → Nat → Bool) :
    (j.tileOp o value masked).done.code = j.done.code := by
  obtain ⟨d, y, h, -⟩ := j.tileOp_standing o value masked
  exact congrArg (fun q => q.2.1) h

/-- Whether a tile is torn and poisoned. -/
def Dev.Ruined (d : Dev) (t : Nat) : Prop := (d.tile t).torn = true ∧ (d.tile t).poison = true

/-- Whether a tile is neither torn nor poisoned. -/
def Dev.Sound (d : Dev) (t : Nat) : Prop := (d.tile t).torn = false ∧ (d.tile t).poison = false

/-- A plain operation on a whole tile leaves it sound (03 R77; 09 R276). -/
theorem Job.tileOp_sound (j : Job) (o : TileOp) (value : Nat → Nat → Fp → Fp) (masked : Nat → Nat → Bool) (ha : o.add = false)
    (hr : o.rows = 1024) (hc : o.cols = 2048) : (j.tileOp o value masked).d.Sound o.tile := by
  obtain ⟨d, y, h, hy⟩ := j.tileOp_standing o value masked
  have ht : (j.tileOp o value masked).d.tile o.tile = y := by
    unfold Dev.tile
    rw [show (j.tileOp o value masked).d.cmp = _ from congrArg Prod.fst h]
    exact d.setTile_tile_same o.tile y
  unfold Dev.Sound
  rw [ht]
  exact hy ha hr hc

/-- A tap only queues its flush (06 R169). -/
@[simp] theorem Job.tap_tile (j : Job) (id x s : Nat) (m : Mask) (poison : Bool) (z : Nat → Nat → Fp) (t : Nat) :
    (j.tap id x s m poison z).d.tile t = j.d.tile t := by
  unfold Job.tap; split <;> rfl
@[simp] theorem Job.tap_code (j : Job) (id x s : Nat) (m : Mask) (poison : Bool) (z : Nat → Nat → Fp) :
    (j.tap id x s m poison z).done.code = j.done.code := by
  unfold Job.tap; split <;> [rfl; exact Job.dev_code _ _]

@[simp] theorem Job.drain_code (j : Job) (x s t col0 : Nat) (masked : Nat → Nat → Bool) (poison : Bool) :
    (j.drain x s t col0 masked poison).done.code = j.done.code := by
  obtain ⟨-, hc, -⟩ := Job.standing_eq_iff.1 (j.drain_standing x s t col0 masked poison)
  exact hc
@[simp] theorem Job.drain_cmp (j : Job) (x s t col0 : Nat) (masked : Nat → Nat → Bool) (poison : Bool) :
    (j.drain x s t col0 masked poison).d.cmp = j.d.cmp := by
  obtain ⟨hc, -⟩ := Job.standing_eq_iff.1 (j.drain_standing x s t col0 masked poison)
  exact hc
@[simp] theorem Job.drain_tile (j : Job) (x s t col0 : Nat) (masked : Nat → Nat → Bool) (poison : Bool) (u : Nat) :
    (j.drain x s t col0 masked poison).d.tile u = j.d.tile u := by
  simp [Dev.tile]

/-! ## Operations on poisoned data (09 R274, R275) -/

theorem Dev.withAcc_tiles (d : Dev) (a : SMap Nat) : ({ d with cmp := { d.cmp with acc := a } } : Dev).cmp.tiles = d.cmp.tiles := rfl
theorem Dev.setAcc_tiles (d : Dev) (t r c v : Nat) : (d.setAcc t r c v).cmp.tiles = d.cmp.tiles := by
  unfold Dev.setAcc
  exact d.withAcc_tiles _
theorem Dev.wr_tiles (d : Dev) (a : Nat) (l : List Byte) (p : Bool) : (d.wr a l p).cmp.tiles = d.cmp.tiles := rfl

/-- New contents and spill values of cells of a tile leave the status of every tile. -/
theorem Dev.foldl_cells_tiles (t : Nat) (v : Nat × Nat → Nat) (b : Nat × Nat → List Byte) (cells : List (Nat × Nat)) (d : Dev) :
    (cells.foldl (fun d p => (d.setAcc t p.1 p.2 (v p)).wr (d.spillAddr t p.1 p.2) (b p) false) d).cmp.tiles = d.cmp.tiles := by
  induction cells generalizing d with
  | nil => rfl
  | cons p ps ih =>
    rw [List.foldl_cons, ih]
    exact (Dev.wr_tiles _ _ _ _).trans (d.setAcc_tiles t p.1 p.2 (v p))

/-- Tearing a tile is one last write of its status, over a device in which the status of every tile is as it was. -/
theorem Dev.tear_eq (d : Dev) (t : Nat) (poison : Bool) :
    ∃ (x : Dev) (valid : Bool), x.cmp.tiles = d.cmp.tiles
      ∧ d.tear t poison = x.setTile t { x.tile t with torn := true, spillValid := valid, poison := (x.tile t).poison || poison } := by
  refine ⟨_, _, ?_, rfl⟩
  rw [Dev.foldl_cells_tiles t (fun p => Config.unspecified d.draws (2048 * p.1 + p.2) % 2 ^ 32)
    (fun p => toBytes 8 (Config.unspecified (d.draws + 1) (2048 * p.1 + p.2)))]

/-- Tearing a tile leaves it torn, poisoned where its data were, and the status of every other tile as it was. -/
theorem Dev.tear_tile (d : Dev) (t : Nat) (poison : Bool) :
    ((d.tear t poison).tile t).torn = true ∧ ((d.tear t poison).tile t).poison = ((d.tile t).poison || poison)
      ∧ ∀ u, u ≠ t → (d.tear t poison).tile u = d.tile u := by
  obtain ⟨x, valid, hx, he⟩ := d.tear_eq t poison
  have ht : ∀ u, x.tile u = d.tile u := fun u => by unfold Dev.tile; rw [hx]
  rw [he]
  refine ⟨?_, ?_, fun u hu => ?_⟩
  · rw [Dev.setTile_tile_same]
  · rw [Dev.setTile_tile_same, ht]
  · rw [Dev.setTile_tile, if_neg hu, ht]

theorem Dev.tear_ruins (d : Dev) (t : Nat) : (d.tear t true).Ruined t := by
  obtain ⟨ht, hp, -⟩ := d.tear_tile t true
  exact ⟨ht, by simp [hp]⟩

/-- A torn and poisoned tile stays so while tiles are torn on poisoned data. -/
theorem Dev.Ruined.tear {d : Dev} {u : Nat} (h : d.Ruined u) (t : Nat) : (d.tear t true).Ruined u := by
  by_cases hu : u = t
  · rw [hu]; exact d.tear_ruins t
  · obtain ⟨-, -, hk⟩ := d.tear_tile t true
    unfold Dev.Ruined
    rw [hk u hu]
    exact h

/-- Tearing tiles fixes no code. -/
theorem foldl_tear_code (tiles : List Nat) (j : Job) :
    (tiles.foldl (fun j t => j.dev (fun d => d.tear t true)) j).done.code = j.done.code :=
  foldl_keeps (g := fun j : Job => j.done.code) (f := fun j t => j.dev (fun d => d.tear t true)) (fun j _ => j.dev_code _) tiles j

theorem foldl_tear_keeps_ruined (tiles : List Nat) {u : Nat} : ∀ j : Job, j.d.Ruined u →
    (tiles.foldl (fun j t => j.dev (fun d => d.tear t true)) j).d.Ruined u := by
  induction tiles with
  | nil => exact fun _ h => h
  | cons t ts ih =>
    intro j h
    rw [List.foldl_cons]
    exact ih _ (by rw [Job.dev_d]; exact h.tear t)

/-- The operation ends on poisoned data: the first of its tiles is torn and poisoned, whatever other tiles it has. -/
theorem Job.arrayPoison_some {j : Job} (h : j.done.code = 0) (s a t : Nat) (ts : List Nat) :
    (j.arrayPoison s (t :: ts) (some a)).done.code = ccPoisoned ∧ (j.arrayPoison s (t :: ts) (some a)).d.Ruined t := by
  have hi := Job.poisonedAt_code h s a
  unfold Job.arrayPoison
  dsimp only
  generalize j.poisonedAt s a = i at hi ⊢
  refine ⟨?_, ?_⟩
  · rw [foldl_tear_code, hi]
  · rw [List.foldl_cons]
    exact foldl_tear_keeps_ruined ts _ (by rw [Job.dev_d]; exact i.d.tear_ruins t)

/-- What the work of an array operation on a descriptor `x` comes to: on clean data no code, and a sound tile after a plain product of
a whole tile; on poisoned data `POISONED` and a torn and poisoned tile (03 R77; 09 R275, R276). -/
structure ArrayWork (f : Job → Option Nat → Job) (x : Nat) : Prop where
  clean : ∀ j, j.done.code = 0 → (f j none).done.code = 0
  whole : ∀ j, hdOpcode x = 0x10 → arAdd x = false → arM x = 1024 → arN x = 2048 → (f j none).d.Sound (arTile x)
  poisoned : ∀ j a, j.done.code = 0 → (f j (some a)).done.code = ccPoisoned ∧ (f j (some a)).d.Ruined (arTile x)

theorem matmul_arrayWork (e : Entry) : ArrayWork (fun j bad => j.matmul e bad) e.desc where
  clean j h := by simp [Job.matmul, Job.arrayPoison, h]
  whole j _ ha hr hc := by
    have h := fun value masked => Job.tileOp_sound j ⟨arTile e.desc, arAdd e.desc, arM e.desc, arN e.desc, arCol0 e.desc,
      spills (arK e.desc) (arS e.desc)⟩ value masked ha hr hc
    simpa [Job.matmul, Job.arrayPoison, Dev.Sound] using h _ _
  poisoned j a h := by
    unfold Job.matmul
    exact Job.arrayPoison_some (by simpa using h) _ _ _ _

theorem twin_arrayWork {e : Entry} (ho : hdOpcode e.desc = 0x11) : ArrayWork (fun j bad => j.twin e bad) e.desc where
  clean j h := by simp [Job.twin, Job.arrayPoison, h]
  whole j h := by rw [ho] at h; contradiction
  poisoned j a h := by
    unfold Job.twin
    exact Job.arrayPoison_some (by simpa using h) _ _ _ _

/-! ## From the start of a descriptor to its outcome -/

@[simp] theorem Dev.startedEntry_desc (d : Dev) (e : Entry) : (d.startedEntry e).desc = e.desc := rfl
@[simp] theorem Dev.markStarted_tile (d : Dev) (e : Entry) (t : Nat) : (d.markStarted e).tile t = d.tile t := rfl
theorem Dev.markStarted_accReads (d : Dev) (e : Entry) (x : Nat) : (d.markStarted e).accReads x = d.accReads x := rfl

/-- The device on which the work of a descriptor begins, as its command reaches it. -/
theorem Dev.eccRead_markStarted (d : Dev) (e : Entry) (ecc : List EccHit) :
    (d.markStarted e).eccRead ((d.markStarted e).accReads e.desc) ecc = d.begun e ecc := by
  rw [Dev.markStarted_accReads, Dev.begun]

/-- The opcode of a descriptor that a command starts. -/
theorem Starts.opcode {c : Instr} {s : State} {e : Entry} {op : Nat} (h : Starts c s e) (hc : startedBy c = some (e.id, op)) :
    hdOpcode e.desc = op := by
  obtain ⟨id, op', hb, -, ho, -⟩ := h
  obtain ⟨-, rfl⟩ : e.id = id ∧ op = op' := by simpa [hc] using hb
  exact ho

/-- A command that runs the descriptor which it starts ends the work with the outcome of `f`, and leaves what `f` leaves in the compute
units and in memory. -/
theorem Starts.ended {c : Instr} {s : State} {e : Entry} {op : Nat} {f : Dev → Entry → Job} (h : Starts c s e)
    (hc : startedBy c = some (e.id, op)) (hx : exec c s = run s (fun _ d => d.startWith e.id op f)) :
    ∃ t, Ended c s t e (f (s.dev.markStarted e) (s.dev.startedEntry e)).done
      ∧ t.dev.contents = (f (s.dev.markStarted e) (s.dev.startedEntry e)).d.contents := by
  obtain ⟨id, op', hb, he, ho, hm, -⟩ := h
  obtain ⟨rfl, rfl⟩ : e.id = id ∧ op = op' := by simpa [hc] using hb
  obtain ⟨pin, hw⟩ := s.dev.startWith_eq e.id op f e he ho hm
  refine ⟨{ s with dev := s.dev.startWith e.id op f }, ⟨⟨hx, rfl, rfl⟩, pin, ?_⟩, ?_⟩
  · dsimp only
    rw [hw]
    rfl
  · dsimp only
    rw [hw]
    rfl

/-! ## The start of an array operation -/

theorem Job.weights_unversioned {e : Entry} (h : arWverId e.desc = 0xFFF) (j : Job) : j.weights e = j := by
  simp [Job.weights, h]

/-- Whether a tile that an array operation adds onto is torn (03 R77). -/
def Dev.addsTorn (d : Dev) (x : Nat) : Bool := (addTiles x).any (fun t => (d.tile t).torn)

/-- The array work `f` of an entry that starts, with its reads and its start checks. -/
def Dev.arrayJob (d : Dev) (e : Entry) (ecc : List EccHit) (f : Job → Option Nat → Job) : Job :=
  (Job.start (d.markStarted e)).arrayRun (d.startedEntry e) ecc f

section
variable {d : Dev} {e : Entry} {ecc : List EccHit} {f : Job → Option Nat → Job} (hw : arWverId e.desc = 0xFFF)
include hw

/-- Without a weight version, an array operation begins once the errors that its reads find are recorded. -/
theorem Dev.arrayJob_weights :
    ((Job.start (d.markStarted e)).dev (fun d => d.eccRead (d.accReads e.desc) ecc)).weights (d.startedEntry e)
      = Job.start (d.begun e ecc) := by
  rw [Job.weights_unversioned (e := d.startedEntry e) hw, ← Dev.eccRead_markStarted]
  rfl

/-- An operation whose ring record or tap header is poisoned ends with nothing written. -/
theorem Dev.arrayJob_records {a : Nat} (h : (d.begun e ecc).firstPoison ((d.begun e ecc).arRecords e.desc) = some a) :
    d.arrayJob e ecc f = (Job.start (d.begun e ecc)).poisonedAt (d.stepOf e.desc) a := by
  unfold Dev.arrayJob Job.arrayRun
  simp only [Dev.startedEntry_desc, Dev.arrayJob_weights hw, Job.start_d, h]
  rfl

variable (hr : (d.begun e ecc).firstPoison ((d.begun e ecc).arRecords e.desc) = none)
include hr

/-- An operation whose start check fails ends with nothing written. -/
theorem Dev.arrayJob_refused (hc : (d.begun e ecc).arStart e.desc (d.addsTorn e.desc) ≠ 0) :
    d.arrayJob e ecc f = (Job.start (d.begun e ecc)).failRead (d.stepOf e.desc)
      ((d.begun e ecc).arStart e.desc (d.addsTorn e.desc)) ((d.begun e ecc).firstPoison ((d.begun e ecc).arControl e.desc)) := by
  unfold Dev.addsTorn at hc
  unfold Dev.arrayJob Job.arrayRun
  simp only [Dev.startedEntry_desc, Dev.markStarted_tile, Dev.arrayJob_weights hw, Job.start_d, hr]
  rw [if_neg (by simp), if_pos (by simpa using hc)]
  rfl

/-- An operation that passes its start checks runs. -/
theorem Dev.arrayJob_runs (hc : (d.begun e ecc).arStart e.desc (d.addsTorn e.desc) = 0) :
    d.arrayJob e ecc f = f (Job.start (d.begun e ecc)) ((d.begun e ecc).arBad e.desc) := by
  unfold Dev.addsTorn at hc
  unfold Dev.arrayJob Job.arrayRun
  simp only [Dev.startedEntry_desc, Dev.markStarted_tile, Dev.arrayJob_weights hw, Job.start_d, hr]
  rw [if_neg (by simp), if_neg (by simpa using hc)]

end

/-- ARRAY_MATMUL and ARRAY_TWIN start their descriptor and do an array work on it. -/
theorem Starts.array_ended {c : Instr} {ecc : List EccHit} {s : State} {e : Entry}
    (hc : c = .arrayMatmul e.id ecc ∨ c = .arrayTwin e.id ecc) (h : Starts c s e) :
    ∃ f, ArrayWork f e.desc ∧ ∃ t, Ended c s t e (s.dev.arrayJob e ecc f).done
      ∧ t.dev.contents = (s.dev.arrayJob e ecc f).d.contents := by
  rcases hc with rfl | rfl
  · exact ⟨_, matmul_arrayWork (s.dev.startedEntry e), h.ended rfl rfl⟩
  · exact ⟨_, twin_arrayWork (e := s.dev.startedEntry e) (h.opcode rfl), h.ended rfl rfl⟩

/-! ## The drain -/

/-- The first poisoned address of what a drain reads: its tile, by its window address, and the data beside it (09 R273, R275). -/
def Dev.drainPoison (d : Dev) (x : Nat) : Option Nat :=
  (if (d.tile (arTile x)).poison then some (windowBase + 0x800000 * arTile x) else none).or (d.firstPoison (d.drainReads x))

theorem Dev.drainPoison_eq_none_iff (d : Dev) (x : Nat) :
    d.drainPoison x = none ↔ (d.tile (arTile x)).poison = false ∧ d.firstPoison (d.drainReads x) = none := by
  unfold Dev.drainPoison
  cases (d.tile (arTile x)).poison <;> simp

/-- The outputs of a drain and its result; the outputs are poisoned where it read poison. -/
def Dev.drainOutput (d : Dev) (x step : Nat) : Job :=
  ((Job.start d).drain x step (arTile x) (512 * arColOffset x) (fun _ _ => false) (d.drainPoison x).isSome).result (arM x)

/-- The work of ARRAY_DRAIN on the device on which it begins. -/
def Dev.drainWork (d : Dev) (x step : Nat) : Job :=
  if arOutMode x == 3 && !d.histOk (arScaleC x) then (Job.start d).fail ccAddressRange
  else
    match d.drainPoison x with
    | some a => (d.drainOutput x step).poisonedAt step a
    | none => d.drainOutput x step

theorem exec_arrayDrain (id : Nat) (ecc : List EccHit) (s : State) :
    exec (.arrayDrain id ecc) s
      = run s (fun _ d => d.startWith id 0x12 (fun d e => (d.eccRead (d.accReads e.desc) ecc).drainWork e.desc e.step)) := rfl

@[simp] theorem Dev.drainOutput_cmp (d : Dev) (x step : Nat) : (d.drainOutput x step).d.cmp = d.cmp := by simp [Dev.drainOutput]
@[simp] theorem Dev.drainOutput_code (d : Dev) (x step : Nat) : (d.drainOutput x step).done.code = 0 := by simp [Dev.drainOutput]
@[simp] theorem Dev.drainOutput_result (d : Dev) (x step : Nat) : (d.drainOutput x step).done.result = arM x := rfl

section
variable {d : Dev} {x : Nat} (step : Nat)

/-- A history ring out of reach ends the drain with nothing written. -/
theorem Dev.drainWork_unreached (hm : arOutMode x = 3) (hh : d.histOk (arScaleC x) = false) :
    d.drainWork x step = (Job.start d).fail ccAddressRange := by
  simp [Dev.drainWork, hm, hh]

variable (hr : arOutMode x = 3 → d.histOk (arScaleC x) = true)
include hr

/-- A drain that reads no poison ends once its outputs are written. -/
theorem Dev.drainWork_clean (hp : d.drainPoison x = none) : d.drainWork x step = d.drainOutput x step := by
  unfold Dev.drainWork
  rw [if_neg (by simpa using hr), hp]

theorem Dev.drainWork_poisoned {a : Nat} (hp : d.drainPoison x = some a) :
    d.drainWork x step = (d.drainOutput x step).poisonedAt step a := by
  unfold Dev.drainWork
  rw [if_neg (by simpa using hr), hp]

end

/-- A drain reads its tile and never changes it, nor anything else of the compute units (03 R86). -/
theorem Dev.drainWork_cmp (d : Dev) (x step : Nat) : (d.drainWork x step).d.cmp = d.cmp := by
  unfold Dev.drainWork
  split
  · rw [Job.fail_d, Job.start_d]
  · split
    · exact (Dev.contents_eq_iff.1 (Job.poisonedAt_contents _ _ _)).1.trans (d.drainOutput_cmp x step)
    · exact d.drainOutput_cmp x step

/-- ARRAY_DRAIN starts its descriptor and does its drain work. -/
theorem Starts.drain_ended {ecc : List EccHit} {s : State} {e : Entry} (h : Starts (.arrayDrain e.id ecc) s e) :
    ∃ t, Ended (.arrayDrain e.id ecc) s t e ((s.dev.begun e ecc).drainWork e.desc (s.dev.stepOf e.desc)).done
      ∧ t.dev.contents = ((s.dev.begun e ecc).drainWork e.desc (s.dev.stepOf e.desc)).d.contents := by
  obtain ⟨t, ht⟩ := h.ended rfl (exec_arrayDrain e.id ecc s)
  exact ⟨t, by rwa [← s.dev.eccRead_markStarted e ecc]⟩

/-! ## O23 -/

theorem Dev.acc_mem_of_contents {a b : Dev} (h : a.contents = b.contents) : a.cmp.acc = b.cmp.acc ∧ a.mem = b.mem := by
  obtain ⟨hc, hm⟩ := Dev.contents_eq_iff.1 h
  exact ⟨by rw [hc], hm⟩

theorem Dev.tile_of_contents {a b : Dev} (h : a.contents = b.contents) (t : Nat) : a.tile t = b.tile t := by
  unfold Dev.tile
  rw [(Dev.contents_eq_iff.1 h).1]

/-- Settles O23: an array operation is split by the first thing that stops it (poisoned records, a failing start check, poisoned data), a
drain by the reach of its history and by the poison it reads. -/
theorem arrayOperationsEnd : Obligations.ArrayOperationsEnd := by
  unfold Obligations.ArrayOperationsEnd
  refine ⟨fun c ecc s e hc h hw => ?_, fun ecc s e h => ?_⟩
  · intro x d torn recs code
    obtain ⟨f, hf, t, hended, hkept⟩ := h.array_ended hc
    refine ⟨t, _, hended, fun hr => ?_, fun hr hs => ?_, fun hr hs hb => ?_, fun hr hs hb => ?_⟩
    · obtain ⟨a, ha⟩ := Option.ne_none_iff_exists'.1 hr
      rw [Dev.arrayJob_records hw ha] at hkept ⊢
      exact ⟨Job.poisonedAt_code rfl _ _, Dev.acc_mem_of_contents (hkept.trans (Job.poisonedAt_contents _ _ _))⟩
    · rw [Dev.arrayJob_refused hw hr hs] at hkept ⊢
      exact ⟨Job.failRead_code rfl _ _ _, Dev.acc_mem_of_contents (hkept.trans (Job.failRead_contents _ _ _ _))⟩
    · rw [Dev.arrayJob_runs hw hr hs, hb] at hkept ⊢
      refine ⟨hf.clean _ rfl, fun ha hm hn ho => ?_⟩
      rw [Dev.tile_of_contents hkept]
      exact hf.whole _ ho ha hm hn
    · obtain ⟨a, ha⟩ := Option.ne_none_iff_exists'.1 hb
      rw [Dev.arrayJob_runs hw hr hs, ha] at hkept ⊢
      rw [Dev.tile_of_contents hkept]
      exact hf.poisoned _ a rfl
  · intro x d
    obtain ⟨t, hended, hkept⟩ := h.drain_ended
    refine ⟨t, _, hended, ?_, fun hm hh => ?_, fun hr hp hb => ?_, fun hr hb => ?_⟩
    · exact (Dev.contents_eq_iff.1 hkept).1.trans (Dev.drainWork_cmp _ _ _)
    · rw [Dev.drainWork_unreached _ hm hh] at hkept ⊢
      exact ⟨Job.fail_code rfl _, by rw [(Dev.contents_eq_iff.1 hkept).2, Job.fail_d, Job.start_d]⟩
    · rw [Dev.drainWork_clean _ hr ((Dev.drainPoison_eq_none_iff _ _).2 ⟨hp, hb⟩)]
      exact ⟨Dev.drainOutput_code _ _ _, Dev.drainOutput_result _ _ _⟩
    · have hne : d.drainPoison x ≠ none := by
        rw [Ne, Dev.drainPoison_eq_none_iff, not_and_or, Bool.not_eq_false]
        exact hb
      obtain ⟨a, ha⟩ := Option.ne_none_iff_exists'.1 hne
      rw [Dev.drainWork_poisoned _ hr ha]
      exact Job.poisonedAt_code (Dev.drainOutput_code _ _ _) _ _

end Sys2Proof.Machine
end

section
/-! PROOF. Command rings and event counters (04 R94-R102): O7, O8, O9, O10, O11. -/

namespace Sys2Proof.Machine

/-! ## Words of the claims -/

/-- What a command by `run` answers. -/
theorem answers_run {c : Instr} {s : State} {f : Nat → Dev → Dev} (h : exec c s = run s f) :
    Answers c s { s with dev := f s.fuse s.dev } := ⟨h, rfl, rfl⟩

/-! ## Reset -/

/-- Device memory of the near stacks reads 0 where nothing was written (09 R260, R270). -/
theorem memDefault_near {a : Nat} (h : a < nearSize) : memDefault a = 0 := by
  unfold memDefault
  rw [if_neg]
  · rfl
  · unfold nearSize at h; omega

theorem Dev.region_near {d : Dev} {a : Nat} (h : d.region a = some .near) : a < nearSize := by
  unfold Dev.region at h
  split at h
  · assumption
  · split at h
    · cases h
    · split at h
      · cases h
      · split at h <;> cases h

/-- Settles O7: the values of `Dev.init`, read one by one. -/
theorem resetLeavesDefaults : Obligations.ResetLeavesDefaults := by
  unfold Obligations.ResetLeavesDefaults
  intro d
  have hring : ∀ n, d.ring n = Ring.init := fun _ => rfl
  refine ⟨rfl, rfl, fun n => ⟨hring n, ?_⟩, fun _ => rfl, fun _ => rfl, rfl, fun _ => ⟨rfl, rfl⟩, fun _ => rfl, rfl, rfl, rfl, rfl,
    fun _ _ => rfl, fun a ha => memDefault_near (Dev.region_near ha)⟩
  have hin : d.inflightOf n = 0 := rfl
  rw [Dev.ringStatus, hring, hin]
  decide


/-! ## Doorbells and counters -/

section
variable (d : Dev) {n m : Nat}

/-- Setting one ring, completion ring or counter leaves the others. -/
theorem Dev.setRing_ring_ne (r : Ring) (h : m ≠ n) : (d.setRing n r).ring m = d.ring m := by rw [Dev.setRing_ring, if_neg h]
theorem Dev.setCpl_cpl_ne (c : CplRing) (h : m ≠ n) : (d.setCpl n c).cpl m = d.cpl m := by rw [Dev.setCpl_cpl, if_neg h]
theorem Dev.setCounter_counter_ne (v : Nat) (h : m ≠ n) : (d.setCounter n v).counter m = d.counter m := by
  rw [Dev.setCounter_counter, if_neg h]

/-- Setting a ring, a completion ring or a counter changes nothing outside their tables. -/
theorem Dev.setRing_frame (n : Nat) (r : Ring) :
    ({ d.setRing n r with disp := { (d.setRing n r).disp with rings := d.disp.rings } } : Dev) = d := rfl
theorem Dev.setCounter_frame (n v : Nat) :
    ({ d.setCounter n v with disp := { (d.setCounter n v).disp with counters := d.disp.counters } } : Dev) = d := rfl

end

/-- The ring that a doorbell leaves (04 R98). -/
def Ring.rung (r : Ring) (v : Nat) : Ring :=
  if r.size < (v + 2 ^ 32 - r.head) % 2 ^ 32 then
    { r with badDoorbell := true, state := if r.state = .running then .stopped else r.state }
  else { r with tail := v }

theorem Dev.doorbell_eq (d : Dev) (n v : Nat) : d.doorbell n v = d.setRing n ((d.ring n).rung v) := by
  unfold Dev.doorbell Ring.rung
  dsimp only
  split <;> rfl

section
variable {r : Ring} {v : Nat}

theorem Ring.rung_over (h : 2 ^ bits r.cfg 3 5 < (v + 2 ^ 32 - r.head) % 2 ^ 32) :
    r.rung v = { r with badDoorbell := true, state := if r.state = .running then .stopped else r.state } := by
  rw [Ring.rung, Ring.size, if_pos h]

theorem Ring.rung_within (h : ¬ 2 ^ bits r.cfg 3 5 < (v + 2 ^ 32 - r.head) % 2 ^ 32) : r.rung v = { r with tail := v } := by
  rw [Ring.rung, Ring.size, if_neg h]

end

/-- Settles O8: a doorbell sets its own ring only, and `Ring.rung` says how. -/
theorem doorbellSetsTailOrStopsRing : Obligations.DoorbellSetsTailOrStopsRing := by
  unfold Obligations.DoorbellSetsTailOrStopsRing
  intro n v s hopen r
  have hx : exec (.doorbellWrite n v) s = run s (fun _ d => if d.barOpen then d.doorbell n v.toNat else d) := rfl
  refine ⟨_, answers_run hx, ?_⟩
  dsimp only
  rw [if_pos hopen, Dev.doorbell_eq]
  refine ⟨fun h => ?_, fun h => ?_, fun m hm => s.dev.setRing_ring_ne _ hm, s.dev.setRing_frame _ _⟩
  · rw [Dev.setRing_ring_same, Ring.rung_over h]
  · rw [Dev.setRing_ring_same, Ring.rung_within h]

/-- What a signal leaves in a counter in range: its increment is added modulo 2^32, in its own counter only (04 R102). -/
theorem Dev.signal_counter (d : Dev) (c inc k : Nat) (h : d.counter k < 2 ^ 32) :
    (d.signal c inc).counter k = (d.counter k + if c = k then inc else 0) % 2 ^ 32 := by
  unfold Dev.signal
  by_cases hi : inc = 0
  · rw [if_pos hi, hi, ite_self, Nat.add_zero, Nat.mod_eq_of_lt h]
  · rw [if_neg hi, Dev.setCounter_counter]
    by_cases hk : k = c
    · subst hk; rw [if_pos rfl, if_pos rfl]
    · rw [if_neg hk, if_neg (Ne.symm hk), Nat.add_zero, Nat.mod_eq_of_lt h]

theorem Dev.signal_counter_ne (d : Dev) {c k : Nat} (inc : Nat) (h : k ≠ c) : (d.signal c inc).counter k = d.counter k := by
  unfold Dev.signal
  split
  · rfl
  · exact d.setCounter_counter_ne _ h

/-- A wait compares in serial arithmetic (04 R102). -/
theorem Dev.waitMet_iff (d : Dev) (c : Nat) (v : Word) (h : d.counter c < 2 ^ 32) :
    d.waitMet c v.toNat = true ↔ (((d.counter c : Int) - v.toNat) % 2 ^ 32) < 2 ^ 31 := by
  have hv := v.isLt
  unfold Dev.waitMet
  rw [decide_eq_true_iff]
  omega

/-- Settles O9: each counter operation by its own law. -/
theorem eventCountersSetSignalAndWait : Obligations.EventCountersSetSignalAndWait := by
  unfold Obligations.EventCountersSetSignalAndWait
  refine ⟨fun c v s hopen => ?_, fun d c inc h => ⟨?_, fun k hk => d.signal_counter_ne inc hk⟩, fun d c v h => d.waitMet_iff c v h⟩
  · have hx : exec (.eventCounterWrite c v) s = run s (fun _ d => if d.barOpen then d.setCounter c v.toNat else d) := rfl
    refine ⟨_, answers_run hx, ?_⟩
    dsimp only
    rw [if_pos hopen]
    refine ⟨?_, fun k hk => s.dev.setCounter_counter_ne _ hk, s.dev.setCounter_frame _ _⟩
    rw [Dev.setCounter_counter_same, Nat.mod_eq_of_lt v.isLt]
  · rw [d.signal_counter c inc c h, if_pos rfl]

/-! ## Configuration registers (04 R95) -/

/-- RUNNING, DRAINING, or with descriptors in the scoreboard. -/
theorem Dev.ringBusy_iff (d : Dev) (n : Nat) :
    d.ringBusy n = true ↔ (d.ring n).state = .running ∨ (d.ring n).state = .draining ∨ d.inflightOf n ≠ 0 := by
  simp [Dev.ringBusy, or_assoc]

theorem mem_upFrom {a n k : Nat} : k ∈ upFrom a n ↔ a ≤ k ∧ k < a + n := by
  induction n generalizing a with
  | zero => simp [upFrom]
  | succ n ih => rw [upFrom, List.mem_cons, ih]; omega

theorem mem_below {n k : Nat} : k ∈ below n ↔ k < n := by simp [below, mem_upFrom]

theorem Dev.cplBusy_iff (d : Dev) (n : Nat) : d.cplBusy n = true ↔
    ∃ k < 64, (d.ring k).cplRing = n ∧ ((d.ring k).state = .running ∨ (d.ring k).state = .draining ∨ d.inflightOf k ≠ 0) := by
  simp only [Dev.cplBusy, List.any_eq_true, mem_below, Bool.and_eq_true, beq_iff_eq, Dev.ringBusy_iff]

/-- The ring that a write of a configuration register leaves: refused, or with `r` stored (04 R95). -/
def Ring.written (old r : Ring) (refused : Prop) [Decidable refused] : Ring := if refused then { old with cfgRefused := true } else r

theorem Dev.writeRingBase_eq (d : Dev) (n v : Nat) : d.writeRingBase n v
    = d.setRing n ((d.ring n).written { d.ring n with base := v, cfgRefused := false } (d.ringBusy n = true ∨ v % 128 ≠ 0)) := by
  unfold Dev.writeRingBase Dev.refuseCfg Ring.written
  rw [apply_ite (d.setRing n)]
  exact if_congr (by simp) rfl rfl

theorem Dev.writeRingCfg_eq (d : Dev) (n v : Nat) : d.writeRingCfg n v
    = d.setRing n ((d.ring n).written
        { d.ring n with cfg := setBits v 1 2 0, cfgRefused := false, state := (d.ring n).state.enabled (bit v 0) }
        (d.ringBusy n = true ∨ bits v 3 5 < 6 ∨ 16 < bits v 3 5 ∨ bits v 12 14 = 0 ∨ 8192 < bits v 12 14)) := by
  unfold Dev.writeRingCfg Dev.refuseCfg Ring.written
  rw [apply_ite (d.setRing n)]
  exact if_congr (by simp [or_assoc]) rfl rfl

theorem Ring.written_refused (old r : Ring) {refused : Prop} [Decidable refused] (h : refused) :
    old.written r refused = { old with cfgRefused := true } := if_pos h
theorem Ring.written_stored (old r : Ring) {refused : Prop} [Decidable refused] (h : ¬ refused) :
    old.written r refused = r := if_neg h

/-- Settles O10: each write sets its own ring only, and the condition under which it is refused is the claim's. -/
theorem ringConfigurationWrites : Obligations.RingConfigurationWrites := by
  unfold Obligations.RingConfigurationWrites
  intro n s hopen r busy bad kept cfgTo
  have hbusy : s.dev.ringBusy n = true ↔ busy := s.dev.ringBusy_iff n
  have hkept : ∀ x, kept { s with dev := s.dev.setRing n x } := fun x => ⟨fun m hm => s.dev.setRing_ring_ne _ hm, s.dev.setRing_frame _ _⟩
  have hcfg : ∀ c (v : Dev → Nat), exec c s = run s (fun _ d => if d.barOpen then d.writeRingCfg n (v d) else d) →
      ∃ t, Answers c s t ∧ kept t ∧ cfgTo (v s.dev) t := by
    intro c v hx
    refine ⟨_, answers_run hx, ?_⟩
    simp only [hopen, if_true, Dev.writeRingCfg_eq]
    refine ⟨hkept _, fun h => ?_, fun h => ?_⟩
    · rw [Dev.setRing_ring_same, Ring.written_refused _ _ (by rw [hbusy]; exact h)]
    · rw [Dev.setRing_ring_same, Ring.written_stored _ _ (by rw [hbusy]; exact h)]
  refine ⟨fun part v => ?_, fun v => hcfg _ (fun _ => bits v.toNat 0 32) rfl, hcfg _ (fun d => setBits (d.ring n).cfg 0 1 1) rfl,
    hcfg _ (fun d => setBits (d.ring n).cfg 0 1 0) rfl, rfl, rfl, rfl, rfl⟩
  intro w
  have hx : exec (.ringConfigWrite n .ringBase part v) s
      = run s (fun _ d => if d.barOpen then d.writeRingBase n (mergePart (d.ring n).base part v.toNat) else d) := rfl
  refine ⟨_, answers_run hx, ?_⟩
  simp only [hopen, if_true, Dev.writeRingBase_eq]
  refine ⟨hkept _, fun h => ?_, fun h => ?_⟩
  · rw [Dev.setRing_ring_same, Ring.written_refused _ _ (by rw [hbusy]; exact h)]
  · rw [Dev.setRing_ring_same, Ring.written_stored _ _ (by rw [hbusy]; exact h)]

/-! ## Completion rings (04 R95, R108) -/

/-- Only the command ring and the completion ring of number `n` may have changed. -/
def Dev.OnlyRings (d t : Dev) (n : Nat) : Prop :=
  (∀ m : Nat, m ≠ n → t.ring m = d.ring m ∧ t.cpl m = d.cpl m)
    ∧ { t with disp := { t.disp with rings := d.disp.rings, cpls := d.disp.cpls } } = d

theorem Dev.OnlyRings.refl (d : Dev) (n : Nat) : d.OnlyRings d n := ⟨fun _ _ => ⟨rfl, rfl⟩, rfl⟩

theorem Dev.OnlyRings.setRing {d t : Dev} {n : Nat} (h : d.OnlyRings t n) (r : Ring) : d.OnlyRings (t.setRing n r) n :=
  ⟨fun m hm => ⟨(t.setRing_ring_ne r hm).trans (h.1 m hm).1, (h.1 m hm).2⟩, h.2⟩

theorem Dev.OnlyRings.setCpl {d t : Dev} {n : Nat} (h : d.OnlyRings t n) (c : CplRing) : d.OnlyRings (t.setCpl n c) n :=
  ⟨fun m hm => ⟨(h.1 m hm).1, (t.setCpl_cpl_ne c hm).trans (h.1 m hm).2⟩, h.2⟩

theorem Dev.setRing_onlyRings (d : Dev) (n : Nat) (r : Ring) : d.OnlyRings (d.setRing n r) n := (Dev.OnlyRings.refl d n).setRing r
theorem Dev.setCpl_onlyRings (d : Dev) (n : Nat) (c : CplRing) : d.OnlyRings (d.setCpl n c) n := (Dev.OnlyRings.refl d n).setCpl c

/-- What a write of a completion ring's configuration leaves: refused, or with `c` stored (04 R95). -/
def Dev.CplWritten (d t : Dev) (n : Nat) (c : CplRing) (refused : Prop) : Prop :=
  d.OnlyRings t n ∧ (refused → t.ring n = { d.ring n with cfgRefused := true } ∧ t.cpl n = d.cpl n)
    ∧ (¬ refused → t.ring n = { d.ring n with cfgRefused := false } ∧ t.cpl n = c)

/-- Refusing, or storing `c`, by a test of the condition. -/
theorem Dev.cplWritten_of_test (d : Dev) (n : Nat) (c : CplRing) {b : Bool} {refused : Prop} (h : b = true ↔ refused) :
    d.CplWritten (if b then d.refuseCfg n else (d.setCpl n c).setRing n { d.ring n with cfgRefused := false }) n c refused := by
  unfold Dev.refuseCfg Dev.CplWritten
  rw [← h]
  cases b with
  | true => exact ⟨d.setRing_onlyRings _ _, fun _ => ⟨d.setRing_ring_same _ _, rfl⟩, fun h => absurd rfl h⟩
  | false =>
    exact ⟨(d.setCpl_onlyRings n c).setRing _, fun h => by contradiction,
      fun _ => ⟨Dev.setRing_ring_same _ _ _, d.setCpl_cpl_same n c⟩⟩

theorem Dev.writeCplBase_written (d : Dev) (n v : Nat) :
    d.CplWritten (d.writeCplBase n v) n { d.cpl n with base := v } (d.cplBusy n = true ∨ v % 32 ≠ 0) :=
  d.cplWritten_of_test n { d.cpl n with base := v } (b := d.cplBusy n || v % 32 != 0) (by simp)

theorem Dev.writeCplCfg_written (d : Dev) (n v : Nat) :
    d.CplWritten (d.writeCplCfg n v) n { d.cpl n with cfg := bits v 5 16 <<< 5 }
      (d.cplBusy n = true ∨ bits v 5 5 < 6 ∨ 16 < bits v 5 5) :=
  d.cplWritten_of_test n { d.cpl n with cfg := bits v 5 16 <<< 5 }
    (b := d.cplBusy n || decide (bits v 5 5 < 6) || decide (16 < bits v 5 5)) (by simp [or_assoc])

/-- The high half of a register, as an access to both halves and one to the high half bring it. -/
theorem bits_high_half (v : Nat) : bits (v >>> 32) 0 32 = bits v 32 32 := rfl

/-- A write of a configuration register leaves the BARs as they are. -/
theorem Dev.OnlyRings.barOpen {d t : Dev} {n : Nat} (h : d.OnlyRings t n) : t.barOpen = d.barOpen := by
  have hb := congrArg Dev.barOpen h.2
  exact hb

theorem exec_ringConfigWrite (n : Fin 64) (reg : RingReg) (part : Part) (v : DWord) (s : State) :
    exec (.ringConfigWrite n reg part v) s = run s (fun _ d => if d.barOpen then d.ringConfig n reg part v.toNat else d) := rfl

/-- What an access to a configuration register answers while the BARs are open. -/
theorem answers_ringConfigWrite (n : Fin 64) (reg : RingReg) (part : Part) (v : DWord) {s : State} (h : s.dev.barOpen = true) :
    Answers (.ringConfigWrite n reg part v) s { s with dev := s.dev.ringConfig n reg part v.toNat } := by
  have ha := answers_run (exec_ringConfigWrite n reg part v s)
  rwa [if_pos h] at ha

/-- An access to both halves of a register pair is the access to the low half, then the one to the high half (04 R94). -/
theorem Dev.ringConfig_whole (d : Dev) (n : Nat) (v : DWord) {reg : RingReg} (h : reg = .ringCfg ∨ reg = .cplCfg) :
    d.ringConfig n reg .whole v.toNat = (d.ringConfig n reg .low v.toNat).ringConfig n reg .high (v >>> 32).toNat := by
  rcases h with rfl | rfl <;> simp [Dev.ringConfig, bits_high_half]

theorem Dev.ringConfig_low_onlyRings (d : Dev) (n v : Nat) {reg : RingReg} (h : reg = .ringCfg ∨ reg = .cplCfg) :
    d.OnlyRings (d.ringConfig n reg .low v) n := by
  rcases h with rfl | rfl
  · rw [show d.ringConfig n .ringCfg .low v = d.writeRingCfg n (bits v 0 32) from rfl, Dev.writeRingCfg_eq]
    exact d.setRing_onlyRings _ _
  · exact (d.writeCplCfg_written n (bits v 0 32)).1

theorem bits_low_word {n lo w : Nat} (h : lo + w ≤ 32) : bits (bits n 0 32) lo w = bits n lo w := by
  unfold bits
  rw [Nat.shiftRight_zero, Nat.shiftRight_eq_div_pow, Nat.shiftRight_eq_div_pow]
  obtain ⟨k, hk⟩ : ∃ k, 32 = lo + (w + k) := ⟨32 - lo - w, by omega⟩
  rw [hk, pow_add, Nat.mod_mul_right_div_self, pow_add, Nat.mod_mul_right_mod]

/-- Settles O11: each write leaves the tables of ring `n` alone to change, and an access to both halves is its two halves in turn. -/
theorem completionRingWrites : Obligations.CompletionRingWrites := by
  unfold Obligations.CompletionRingWrites
  intro n s hopen r c busy kept
  have hbusy : s.dev.cplBusy n = true ↔ busy := s.dev.cplBusy_iff n
  refine ⟨fun part v => ?_, fun v => ?_, fun v => ?_, fun reg v hreg => ?_⟩
  · intro w
    obtain ⟨hk, hr, hs⟩ := s.dev.writeCplBase_written n w
    rw [hbusy] at hr hs
    exact ⟨_, answers_ringConfigWrite n .cplBase part v hopen, hk, hr, hs⟩
  · obtain ⟨hk, hr, hs⟩ := s.dev.writeCplCfg_written n (bits v.toNat 0 32)
    simp only [hbusy, bits_low_word (show 5 + 5 ≤ 32 by decide), bits_low_word (show 5 + 16 ≤ 32 by decide)] at hr hs
    exact ⟨_, answers_ringConfigWrite n .cplCfg .low v hopen, hk, hr, hs⟩
  · have hx : exec (.cplHeadWrite n v) s = run s (fun _ d => if d.barOpen then d.writeCplHead n v.toNat else d) := rfl
    refine ⟨_, answers_run hx, ?_⟩
    simp only [hopen, if_true, Dev.writeCplHead, Nat.mod_eq_of_lt v.isLt]
    exact ⟨s.dev.setCpl_onlyRings _ _, rfl, s.dev.setCpl_cpl_same _ _⟩
  · have hlow := s.dev.ringConfig_low_onlyRings n v.toNat hreg
    refine ⟨_, _, answers_ringConfigWrite n reg .low v hopen, answers_ringConfigWrite n reg .high (v >>> 32) (hlow.barOpen.trans hopen), ?_⟩
    have hw := answers_ringConfigWrite n reg .whole v hopen
    rwa [Dev.ringConfig_whole _ _ _ hreg] at hw

end Sys2Proof.Machine
end

section
/-! PROOF. What traffic leaves alone: the dispatcher, device memory, the compute units, power, clocks and the step counter stand while flits
are queued, sent and credited and while chunks and segments are fed to the fabric (10 R306, R307; 11 R349, R350, R355, R366). -/

namespace Sys2Proof.Machine

/-- What sending does not touch. -/
def Dev.apart (d : Dev) : Disp × Mem × Compute × Power × Clocks × Nat := (d.disp, d.mem, d.cmp, d.power, d.clocks, d.step)

theorem Dev.apart_eq_iff {a b : Dev} : a.apart = b.apart ↔
    a.disp = b.disp ∧ a.mem = b.mem ∧ a.cmp = b.cmp ∧ a.power = b.power ∧ a.clocks = b.clocks ∧ a.step = b.step := by
  simp [Dev.apart]

/-- What changes only notices and leaves the step counter, leaves all of it. -/
theorem Dev.apart_of_mute {a b : Dev} (h : a.mute = b.mute) (hs : a.step = b.step) : a.apart = b.apart :=
  Dev.apart_eq_iff.2 ⟨Dev.of_mute_disp h, Dev.of_mute_mem h, Dev.of_mute_cmp h, Dev.of_mute_power h, Dev.of_mute_clocks h, hs⟩

section
variable (d : Dev)

theorem Dev.put_apart {i j : Nat} (v : Nat) (h : odKey 0x5080 4 ≠ odKey i j) : (d.put i j v).apart = d.apart :=
  Dev.apart_of_mute rfl (d.put_get_ne i j v _ _ h)
theorem Dev.addSat_apart {i j : Nat} (w n : Nat) (h : odKey 0x5080 4 ≠ odKey i j) : (d.addSat i j w n).apart = d.apart := d.put_apart _ h
theorem Dev.addWrap_apart {i j : Nat} (n : Nat) (h : odKey 0x5080 4 ≠ odKey i j) : (d.addWrap i j n).apart = d.apart := d.put_apart _ h
@[simp] theorem Dev.withWaiting_apart (w : List Waiting) : ({ d with waiting := w } : Dev).apart = d.apart := rfl
@[simp] theorem Dev.withEng_apart (x : Engine) : ({ d with eng := x } : Dev).apart = d.apart := rfl
@[simp] theorem Dev.raise_apart (c a b : Nat) : (d.raise c a b).apart = d.apart :=
  Dev.apart_of_mute (d.raise_mute c a b) (d.raise_get (by decide) c a b)
@[simp] theorem Dev.note_apart (k c a : Nat) : (d.note k c a).apart = d.apart :=
  Dev.apart_of_mute (d.note_mute k c a) (d.note_get (by decide) k c a)

/-- The flit counter of a port is not the step counter. -/
theorem odKey_step_ne {i j : Nat} (h : j % 256 ≠ 4) : odKey 0x5080 4 ≠ odKey i j := by
  unfold odKey; omega

/-! ## Flits -/

@[simp] theorem Dev.control_apart (p t : Nat) (l : List Byte) : (d.control p t l).apart = d.apart :=
  Dev.addWrap_apart _ _ (odKey_step_ne (by decide))
@[simp] theorem Dev.linkCtrl_apart (p : Nat) (nak : Option Nat) (credit : Nat → Nat) : (d.linkCtrl p nak credit).apart = d.apart :=
  d.control_apart _ _ _
@[simp] theorem Dev.giveCredit_apart (p c : Nat) : (d.giveCredit p c).apart = d.apart := by
  unfold Dev.giveCredit; dsimp only
  split
  · exact d.linkCtrl_apart _ _ _
  · split <;> rfl
@[simp] theorem Dev.transmit_apart (p : Nat) (f : Flit) (chunk : Nat) : (d.transmit p f chunk).apart = d.apart :=
  Dev.addWrap_apart _ _ (odKey_step_ne (by decide))
@[simp] theorem Dev.returnCredit_apart (w : Waiting) : (d.returnCredit w).apart = d.apart := by
  unfold Dev.returnCredit; dsimp only
  split
  · split <;> simp
  · rfl

/-- A flit that leaves by a port. -/
theorem Dev.pumpBest_apart {d d' : Dev} {p : Nat} (h : d.pumpBest p = some d') : d'.apart = d.apart := by
  unfold Dev.pumpBest at h; dsimp only at h
  split at h
  · cases h
  · split at h
    · cases h
    · split at h
      · cases h
      · cases h
        rw [Dev.returnCredit_apart, Dev.transmit_apart]
        rfl

theorem Dev.pumpOnce_apart {d d' : Dev} {p : Nat} (h : d.pumpOnce p = some d') : d'.apart = d.apart := by
  unfold Dev.pumpOnce at h
  split at h
  · cases h
  · split at h
    · cases h; simp
    · exact Dev.pumpBest_apart h

@[simp] theorem Dev.pump_apart (p n : Nat) : (d.pump p n).apart = d.apart := by
  induction n generalizing d with
  | zero => rfl
  | succ n ih =>
    rw [Dev.pump]
    split
    · next h => rw [ih, Dev.pumpOnce_apart h]
    · rfl

@[simp] theorem Dev.pumpAll_apart : d.pumpAll.apart = d.apart :=
  foldl_keeps (g := Dev.apart) (f := fun d p => d.pump p d.waiting.length) (fun d p => d.pump_apart p _) (below 6) d

@[simp] theorem Dev.originate_apart (f : Flit) (chunk : Nat) : (d.originate f chunk).apart = d.apart := by
  unfold Dev.originate; dsimp only
  split
  · rfl
  · split
    · exact d.addSat_apart _ _ (by decide)
    · rfl

/-! ## Chunks and segments -/

@[simp] theorem Dev.sendKept_apart (k : Kept) (tc : Nat) (sched detour : Bool) : (d.sendKept k tc sched detour).apart = d.apart := by
  unfold Dev.sendKept
  rw [Dev.pumpAll_apart]
  exact foldl_keeps (g := Dev.apart) (fun d f => d.originate_apart f _) _ _

@[simp] theorem Dev.feedOne_apart (g : Segment) (k : Kept) : (d.feedOne g k).apart = d.apart := by
  unfold Dev.feedOne; exact Dev.sendKept_apart _ _ _ _ _

@[simp] theorem Dev.feed_apart (n : Nat) : (d.feed n).apart = d.apart := by
  induction n generalizing d with
  | zero => rfl
  | succ n ih =>
    rw [Dev.feed]
    split
    · rw [ih, Dev.feedOne_apart]
    · rfl

@[simp] theorem Dev.feedAll_apart : d.feedAll.apart = d.apart := d.feed_apart _

@[simp] theorem Dev.forget_apart (f : Segment → Bool) : (d.forget f).apart = d.apart := by
  unfold Dev.forget
  split
  · exact Dev.feedAll_apart _
  · rfl

@[simp] theorem Dev.launch_apart (owner : Option Nat) (dest number : Nat) (l : List Kept) : (d.launch owner dest number l).apart = d.apart :=
  Dev.feedAll_apart _

@[simp] theorem Dev.noteEvent_apart (owner : Option Nat) (code : Nat) : (d.noteEvent owner code).apart = d.apart := rfl

@[simp] theorem Dev.takeNumber_apart (r : SegReq) : (d.takeNumber r).apart = d.apart := by
  unfold Dev.takeNumber
  extract_lets n
  split
  · rw [Dev.noteEvent_apart, Dev.raise_apart, Dev.withEng_apart]
  · rfl

@[simp] theorem Dev.startSegment_apart (r : SegReq) : (d.startSegment r).apart = d.apart := by
  unfold Dev.startSegment
  split
  · rfl
  · rw [Dev.launch_apart, Dev.takeNumber_apart]

@[simp] theorem Dev.renumber_apart : d.renumber.apart = d.apart := by
  unfold Dev.renumber
  extract_lets live wait
  exact foldl_keeps (g := Dev.apart) (fun d r => d.startSegment_apart r) wait _

end

end Sys2Proof.Machine
end

section
/-! PROOF. Completion and the ring commands (04 R100, R101, R103): what a completed descriptor leaves of its ring and of the scoreboard, O12. -/

namespace Sys2Proof.Machine

/-! ## A ring after a completion -/

/-- The ring after a descriptor of it completed with a code: stopped on a code other than OK, and out of DRAINING with the last started
descriptor (04 R100, R101). -/
def Ring.closed (r : Ring) (index code : Nat) (started : Bool) : Ring :=
  let x := r.afterCode index code
  if x.state = .draining ∧ !started then { x with state := .stopped } else x

section
variable {r : Ring} (index : Nat) {code : Nat} (started : Bool)

theorem Ring.closed_running_ok (h : r.state = .running) : r.closed index 0 started = r := by
  simp [Ring.closed, Ring.afterCode, h]

theorem Ring.closed_running_stops (h : r.state = .running) (hc : code ≠ 0) :
    r.closed index code started = { r with state := .stopped, errIndex := index, errCode := code } := by
  simp [Ring.closed, Ring.afterCode, h, hc]

theorem Ring.afterCode_of_not_running (h : r.state ≠ .running) (code : Nat) : r.afterCode index code = r := by
  simp [Ring.afterCode, h]

theorem Ring.closed_not_running (h : r.state ≠ .running) (code : Nat) :
    r.closed index code started = { r with state := if r.state = .draining ∧ started = false then .stopped else r.state } := by
  unfold Ring.closed
  rw [Ring.afterCode_of_not_running index h]
  dsimp only
  cases started <;> simp
  split <;> rfl

end

section
variable (d : Dev)

theorem Dev.endDraining_ring (n m : Nat) : (d.endDraining n).ring m =
    if m = n then (if (d.ring n).state = .draining ∧ !d.anyStarted n then { d.ring n with state := .stopped } else d.ring n)
    else d.ring m := by
  unfold Dev.endDraining
  dsimp only
  split
  · rw [Dev.setRing_ring]
  · split
    · next h => rw [h]
    · rfl

/-- What a completion leaves of the rings (04 R100, R101, R144). -/
theorem Dev.completeAs_ring (n index desc : Nat) (k : Done) (h : d.disp.fatal = false) (m : Nat) :
    (d.completeAs n index desc k).ring m = if m = n then (d.ring n).closed index k.code (d.anyStarted n) else d.ring m := by
  unfold Dev.completeAs
  rw [if_neg (by simp [h])]
  extract_lets x y z
  have hx : ∀ m, x.ring m = d.ring m := fun m => by simp only [x]; split <;> simp
  have hy : ∀ m, y.ring m = x.ring m := fun m => by simp only [y]; split <;> simp
  have hz : ∀ m, z.ring m = d.ring m := fun m => by rw [← hx, ← hy]; simp only [z]; split <;> simp
  have hb : z.disp.board = d.disp.board := by
    simp only [z, y, x]; split <;> split <;> split <;> simp
  rw [Dev.acted_ring, Dev.endDraining_ring, Dev.setRing_ring_same]
  have hs : (z.setRing n ((z.ring n).afterCode index k.code)).anyStarted n = d.anyStarted n := by
    unfold Dev.anyStarted; rw [Dev.setRing_disp_board, hb]
  rw [hs, hz]
  split
  · rfl
  · next hm => rw [Dev.setRing_ring_ne _ _ hm, hz]

/-! ## An entry completes -/

/-- Giving a version back touches device memory, the marks of saturated slots and notices only, and leaves the code (05 R155, R157). -/
theorem Job.dropRefs_kept (j : Job) (ring slot n : Nat) :
    (j.dropRefs ring slot n).done.code = j.done.code ∧ (j.dropRefs ring slot n).d.disp = j.d.disp
      ∧ (j.dropRefs ring slot n).d.power = j.d.power ∧ (j.dropRefs ring slot n).d.clocks = j.d.clocks
      ∧ (j.dropRefs ring slot n).d.ports = j.d.ports ∧ (j.dropRefs ring slot n).d.sec = j.d.sec := by
  unfold Job.dropRefs
  dsimp only
  split
  · exact ⟨rfl, rfl, rfl, rfl, rfl, rfl⟩
  · split <;> simp [Job.dev, Job.raise, Job.noteEvent, Dev.setVring, Dev.setStuck]

theorem Job.releaseVersion_kept (j : Job) (ring version ref : Nat) :
    (j.releaseVersion ring version ref).done.code = j.done.code ∧ (j.releaseVersion ring version ref).d.disp = j.d.disp
      ∧ (j.releaseVersion ring version ref).d.power = j.d.power ∧ (j.releaseVersion ring version ref).d.clocks = j.d.clocks
      ∧ (j.releaseVersion ring version ref).d.ports = j.d.ports ∧ (j.releaseVersion ring version ref).d.sec = j.d.sec := by
  unfold Job.releaseVersion
  dsimp only
  split <;> exact j.dropRefs_kept _ _ _

theorem Dev.waitOver_kept (id : Nat) : (d.waitOver id).disp = d.disp ∧ (d.waitOver id).power = d.power
    ∧ (d.waitOver id).clocks = d.clocks ∧ (d.waitOver id).ports = d.ports ∧ (d.waitOver id).sec = d.sec := by
  unfold Dev.waitOver
  split
  · split <;> exact ⟨rfl, rfl, rfl, rfl, rfl⟩
  · exact ⟨rfl, rfl, rfl, rfl, rfl⟩

/-- An entry that completes leaves the scoreboard, and then its code takes effect (04 R103). -/
theorem Dev.complete_eq_completeAs (e : Entry) (k : Done) : ∃ (x : Dev) (k' : Done), d.complete e k = x.completeAs e.ring e.index e.desc k'
    ∧ k'.code = k.code ∧ x.disp = (d.dropEntry e.id).disp ∧ x.power = d.power ∧ x.clocks = d.clocks ∧ x.ports = d.ports
    ∧ x.sec = d.sec := by
  unfold Dev.complete
  extract_lets k' j j'
  have hk : k'.code = k.code := by simp only [k']; split <;> rfl
  obtain ⟨h1, h2, h3, h4, h5⟩ := (d.dropEntry e.id).waitOver_kept e.id
  refine ⟨j'.d, j'.done, rfl, ?_⟩
  simp only [j']
  split
  · obtain ⟨hc, r1, r2, r3, r4, r5⟩ := j.releaseVersion_kept (arWverId e.desc) (arWver e.desc) (arWverRef e.desc)
    exact ⟨hc.trans hk, r1.trans h1, r2.trans h2, r3.trans h3, r4.trans h4, r5.trans h5⟩
  · exact ⟨hk, h1, h2, h3, h4, h5⟩

/-! ## ABORT (04 R101) -/

/-- Ring `n` drains, or has drained: it is `r` but for its state, which is STOPPED only once nothing of it is under way. -/
def Dev.Drains (n : Nat) (r : Ring) : Prop :=
  d.ring n = { r with state := .draining } ∨ d.ring n = { r with state := .stopped } ∧ d.anyStarted n = false

variable {d} {n : Nat} {r : Ring}

theorem Dev.anyStarted_dropEntry (h : d.anyStarted n = false) (id : Nat) : (d.dropEntry id).anyStarted n = false := by
  simp only [Dev.anyStarted, Dev.dropEntry, List.any_eq_false, List.mem_filter] at h ⊢
  exact fun e he => h e he.1

/-- Completing an entry keeps a draining ring draining, or stops it with the last started descriptor. -/
theorem Dev.Drains.complete (h : d.Drains n r) (e : Entry) (k : Done) : (d.complete e k).Drains n r := by
  obtain ⟨x, k', hx, -, hdisp, -⟩ := d.complete_eq_completeAs e k
  have hring : ∀ m, x.ring m = d.ring m := fun m => by unfold Dev.ring; rw [hdisp]; rfl
  have hany : x.anyStarted n = (d.dropEntry e.id).anyStarted n := by unfold Dev.anyStarted; rw [hdisp]
  have hdone : (x.completeAs e.ring e.index e.desc k').anyStarted n = x.anyStarted n := by
    unfold Dev.anyStarted; rw [Dev.completeAs_board]
  have hsame : d.ring n = (x.completeAs e.ring e.index e.desc k').ring n → (x.completeAs e.ring e.index e.desc k').Drains n r :=
    fun hr => h.imp (hr ▸ ·) fun ⟨h1, h2⟩ => ⟨hr ▸ h1, hdone.trans (hany.trans (Dev.anyStarted_dropEntry h2 _))⟩
  rw [hx]
  cases hf : x.disp.fatal with
  | true => exact hsame (by rw [Dev.completeAs, if_pos hf, hring])
  | false =>
    have hc := x.completeAs_ring e.ring e.index e.desc k' hf n
    by_cases hn : n = e.ring
    · subst hn
      rw [if_pos rfl, hring] at hc
      rcases h with h | ⟨h, hs⟩
      · have hr : (d.ring e.ring).state ≠ .running := by simp [h]
        rw [Ring.closed_not_running _ _ hr, h] at hc
        cases ha : x.anyStarted e.ring with
        | true => exact .inl (by rw [hc, ha]; rfl)
        | false => exact .inr ⟨by rw [hc, ha]; rfl, hdone.trans ha⟩
      · have hr : (d.ring e.ring).state ≠ .running := by simp [h]
        rw [Ring.closed_not_running _ _ hr, h] at hc
        exact .inr ⟨by rw [hc]; rfl, hdone.trans (hany.trans (Dev.anyStarted_dropEntry hs _))⟩
    · rw [if_neg hn, hring] at hc
      exact hsame hc.symm

/-- Discarding the work of an entry leaves the dispatcher to itself. -/
theorem Dev.discard_addSat_disp (d : Dev) (id us : Nat) : ((d.discard id).addSat 0x50A0 7 64 us).disp = d.disp := by
  have h := congrArg Prod.fst ((d.discard id).addSat_apart (i := 0x50A0) (j := 7) 64 us (by decide))
  rw [show (d.discard id).apart = _ from Dev.forget_apart _ _] at h
  exact h

theorem Dev.Drains.abortOne (h : d.Drains n r) (e : Entry) : (d.abortOne e).Drains n r := by
  unfold Dev.abortOne
  extract_lets k us
  refine Dev.Drains.complete ?_ e k
  have hd := d.discard_addSat_disp e.id us
  unfold Dev.Drains Dev.ring Dev.anyStarted at h ⊢
  rwa [hd]

theorem Dev.Drains.abortAll (l : List Entry) (h : d.Drains n r) : (l.foldl Dev.abortOne d).Drains n r := by
  induction l generalizing d with
  | nil => exact h
  | cons e l ih => exact ih (h.abortOne e)

/-- The entry that `ABORT` discards leaves the scoreboard, and no other does. -/
theorem Dev.abortOne_board (d : Dev) (e : Entry) : (d.abortOne e).disp.board = d.disp.board.filter (fun x => x.id != e.id) := by
  unfold Dev.abortOne
  extract_lets k us
  rw [Dev.complete_board, d.discard_addSat_disp]

theorem Dev.mem_abortAll_board (l : List Entry) (d : Dev) (x : Entry) :
    x ∈ (l.foldl Dev.abortOne d).disp.board ↔ x ∈ d.disp.board ∧ ∀ e ∈ l, x.id ≠ e.id := by
  induction l generalizing d with
  | nil => simp
  | cons e l ih => simp [ih, Dev.abortOne_board, and_assoc]

/-- A ring that has drained is STOPPED, one that drains stays so (04 R101). -/
theorem Dev.Drains.endDraining (h : d.Drains n r) : (d.endDraining n).ring n
    = { r with state := if d.anyStarted n then .draining else .stopped } := by
  rw [Dev.endDraining_ring, if_pos rfl]
  rcases h with h | ⟨h, hs⟩
  · rw [h]; cases d.anyStarted n <;> rfl
  · rw [h, hs]; rfl

/-- The device once `ABORT` of ring `n` has discarded what it may. -/
def Dev.aborted (d : Dev) (n : Nat) : Dev :=
  (d.disp.board.filter (fun e => e.ring == n && d.abortable e)).foldl Dev.abortOne (d.setRing n { d.ring n with state := .draining })

theorem Dev.abortRing_eq (d : Dev) (n : Nat) : d.abortRing n
    = ((d.aborted n).setRing n { (d.aborted n).ring n with head := ((d.aborted n).ring n).tail }).endDraining n := rfl

theorem Dev.aborted_drains (d : Dev) (n : Nat) : (d.aborted n).Drains n (d.ring n) :=
  Dev.Drains.abortAll _ (.inl (d.setRing_ring_same _ _))

/-- Forgetting what was not fetched keeps a ring draining. -/
theorem Dev.Drains.unfetch (h : d.Drains n r) :
    (d.setRing n { d.ring n with head := (d.ring n).tail }).Drains n { r with head := r.tail } := by
  unfold Dev.Drains
  rw [Dev.setRing_ring_same]
  exact h.imp (fun h => by rw [h]) fun ⟨h, hs⟩ => ⟨by rw [h], hs⟩

/-- `ABORT` (04 R101): what was not fetched is gone, and the ring drains or has stopped. -/
theorem Dev.abortRing_ring (d : Dev) (n : Nat) : (d.abortRing n).ring n = { d.ring n with
    head := (d.ring n).tail, state := if (d.abortRing n).anyStarted n then .draining else .stopped } := by
  have hany : ∀ z : Dev, (z.endDraining n).anyStarted n = z.anyStarted n := fun z => by
    unfold Dev.anyStarted; rw [Dev.endDraining_board]
  rw [Dev.abortRing_eq, hany, (d.aborted_drains n).unfetch.endDraining]

theorem Dev.mem_abortRing_board (d : Dev) (n : Nat) (x : Entry) : x ∈ (d.abortRing n).disp.board ↔
    x ∈ d.disp.board ∧ ∀ e ∈ d.disp.board, e.ring = n → d.abortable e = true → x.id ≠ e.id := by
  rw [Dev.abortRing_eq, Dev.endDraining_board, Dev.setRing_disp_board, Dev.aborted, Dev.mem_abortAll_board, Dev.setRing_disp_board]
  simp only [List.mem_filter, Bool.and_eq_true, beq_iff_eq, and_imp]

/-! ## A write of `RING_CTRL` (04 R101) -/

theorem Dev.cplBusy_setRing (d : Dev) (n k : Nat) (r : Ring) (hc : r.cfg = (d.ring n).cfg) (hs : r.state = (d.ring n).state) :
    (d.setRing n r).cplBusy k = d.cplBusy k := by
  have hring : ∀ m, ((d.setRing n r).ring m).cfg = (d.ring m).cfg ∧ ((d.setRing n r).ring m).state = (d.ring m).state := fun m => by
    rw [Dev.setRing_ring]
    split
    · next h => rw [h]; exact ⟨hc, hs⟩
    · exact ⟨rfl, rfl⟩
  simp only [Dev.cplBusy, Dev.ringBusy, Ring.cplRing, hring]
  rfl

/-- `RESET` (04 R101). -/
theorem Dev.resetRing_kept (d : Dev) (n : Nat) : (d.resetRing n).ring n = { d.ring n with head := 0, tail := 0 }
    ∧ (d.resetRing n).cpl n = (if d.cplBusy n then d.cpl n else { d.cpl n with head := 0, tail := 0 })
    ∧ d.OnlyRings (d.resetRing n) n := by
  have hr : (d.setRing n { d.ring n with head := 0, tail := 0 }).ring n = { d.ring n with head := 0, tail := 0 } :=
    d.setRing_ring_same _ _
  have ho := d.setRing_onlyRings n { d.ring n with head := 0, tail := 0 }
  unfold Dev.resetRing
  dsimp only at hr ho ⊢
  rw [Dev.cplBusy_setRing]
  · split
    · exact ⟨hr, rfl, ho⟩
    · exact ⟨hr, Dev.setCpl_cpl_same _ _ _, ho.setCpl _⟩
  · rfl
  · rfl

theorem Dev.ringCtrl_eq (d : Dev) (n v : Nat) : d.ringCtrl n v =
    if bit v 1 = true ∧ ((d.ring n).state = .running ∨ (d.ring n).state = .stopped) then d.abortRing n
    else if bit v 2 = true ∧ ((d.ring n).state = .stopped ∨ (d.ring n).state = .disabled) ∧ d.inflightOf n = 0 then d.resetRing n
    else if bit v 0 = true ∧ (d.ring n).state = .stopped then d.setRing n { d.ring n with state := .running } else d := by
  unfold Dev.ringCtrl
  simp only [Bool.and_eq_true, Bool.or_eq_true, beq_iff_eq, and_assoc]

/-- The commands that write `RING_CTRL`, and the value that each writes. -/
theorem answers_ringCtrl {n : Fin 64} {also : BitVec 3} {c : Instr} {v : Nat} {s : State} (hopen : s.dev.barOpen = true)
    (h : c = .ringReset n also ∧ v = (also.toNat ||| 4) ∨ c = .ringAbort n also ∧ v = (also.toNat ||| 2)
      ∨ c = .ringResume n also ∧ v = (also.toNat ||| 1) ∨ ∃ w : DWord, c = .ringConfigWrite n .ringCfg .high w ∧ v = bits w.toNat 0 32) :
    Answers c s { s with dev := s.dev.ringCtrl n v } := by
  have hrun : exec c s = run s (fun _ d => if d.barOpen then d.ringCtrl n v else d) := by
    rcases h with ⟨rfl, rfl⟩ | ⟨rfl, rfl⟩ | ⟨rfl, rfl⟩ | ⟨w, rfl, rfl⟩ <;> rfl
  have ha := answers_run hrun
  rwa [if_pos hopen] at ha

/-- Settles O12: `Dev.ringCtrl_eq` gives the rank, and each command its own lemma. -/
theorem ringControlCommands : Obligations.RingControlCommands := by
  unfold Obligations.RingControlCommands
  intro n also c v s hopen hc r abort reset resume
  refine ⟨_, answers_ringCtrl hopen hc, ?_⟩
  dsimp only
  rw [Dev.ringCtrl_eq]
  refine ⟨fun ha => ?_, fun ha hr => ?_, fun ha hr hg => ?_, fun ha hr hg => ?_⟩
  · have hring := s.dev.abortRing_ring n
    rw [if_pos ha]
    refine ⟨by rw [hring], by rw [hring], by rw [hring], fun e he => ?_, fun hid e he hkeep => ?_⟩
    · obtain ⟨hmem, hne⟩ := (s.dev.mem_abortRing_board n e).1 he
      exact ⟨hmem, fun ⟨hn, hab⟩ => hne e hmem hn hab rfl⟩
    · refine (s.dev.mem_abortRing_board n e).2 ⟨he, fun o ho hn hab heq => hkeep ?_⟩
      rw [List.inj_on_of_nodup_map hid he ho heq]
      exact ⟨hn, hab⟩
  · obtain ⟨hring, hcpl, hothers, hframe⟩ := s.dev.resetRing_kept n
    rw [if_neg ha, if_pos hr]
    exact ⟨hring, hcpl, hothers, hframe⟩
  · rw [if_neg ha, if_neg hr, if_pos hg]
    exact ⟨s.dev.setRing_ring_same _ _, fun m hm => s.dev.setRing_ring_ne _ hm, s.dev.setRing_frame _ _⟩
  · rw [if_neg ha, if_neg hr, if_neg hg]

end

end Sys2Proof.Machine
end

section
/-! PROOF. Completion of descriptors (04 R100-R108): what a completion leaves beside the rings, O15. -/

namespace Sys2Proof.Machine

/-! ## Completion (04 R103) -/

/-- What no part of a completion touches. -/
def Dev.outside (d : Dev) : Power × Clocks × List (Nat × Port) × Security := (d.power, d.clocks, d.ports, d.sec)

/-- The signals of a descriptor, applied as its code lets them be (04 R103). -/
def Dev.signalled (d : Dev) (desc code : Nat) : Dev :=
  if code = 0 ∨ hdSigOnError desc then (d.signal (hdSig0Id desc) (hdSig0Inc desc)).signal (hdSig1Id desc) (hdSig1Inc desc) else d

/-- The record of a descriptor, where one is written (04 R103, R104). -/
def Dev.recorded (d : Dev) (n index desc : Nat) (k : Done) : Dev :=
  if hdCplMode desc = 0 ∧ k.code = 0 then d else d.writeRecord n index desc k

/-- The Trail entry of a code other than OK (12 R390). -/
def Dev.trailed (d : Dev) (n index code : Nat) : Dev := if code = 0 then d else d.note 8 code (n * 2 ^ 32 + index)

/-- What a completion leaves before its ring follows. -/
def Dev.closing (d : Dev) (n index desc : Nat) (k : Done) : Dev :=
  ((d.signalled desc k.code).recorded n index desc k).trailed n index k.code

section
variable (d : Dev)

theorem Dev.completeAs_eq (n index desc : Nat) (k : Done) (h : d.disp.fatal = false) : d.completeAs n index desc k
    = (((d.closing n index desc k).setRing n (((d.closing n index desc k).ring n).afterCode index k.code)).endDraining n).acted := by
  unfold Dev.completeAs
  rw [if_neg (by simp [h])]
  rfl

/-- Both signals of a descriptor, in a counter in range (04 R102, R109). -/
theorem Dev.signals_counter (c₀ i₀ c₁ i₁ j : Nat) (h : d.counter j < 2 ^ 32) : ((d.signal c₀ i₀).signal c₁ i₁).counter j
    = (d.counter j + ((if c₀ = j then i₀ else 0) + (if c₁ = j then i₁ else 0))) % 2 ^ 32 := by
  have h0 := d.signal_counter c₀ i₀ j h
  have hlt : (d.signal c₀ i₀).counter j < 2 ^ 32 := by rw [h0]; exact Nat.mod_lt _ (by decide)
  rw [Dev.signal_counter _ _ _ _ hlt, h0]
  omega

@[simp] theorem Dev.signal_outside (c inc : Nat) : (d.signal c inc).outside = d.outside := by unfold Dev.signal; split <;> rfl
@[simp] theorem Dev.signal_cpl (c inc m : Nat) : (d.signal c inc).cpl m = d.cpl m := by unfold Dev.signal; split <;> rfl
@[simp] theorem Dev.signalled_outside (x code : Nat) : (d.signalled x code).outside = d.outside := by
  unfold Dev.signalled; split <;> simp
@[simp] theorem Dev.signalled_cpl (x code m : Nat) : (d.signalled x code).cpl m = d.cpl m := by
  unfold Dev.signalled; split <;> simp
@[simp] theorem Dev.signalled_ring (x code m : Nat) : (d.signalled x code).ring m = d.ring m := by
  unfold Dev.signalled; split <;> simp

theorem Dev.signalled_counter (x code j : Nat) (h : d.counter j < 2 ^ 32) : (d.signalled x code).counter j =
    if code = 0 ∨ hdSigOnError x = true
    then (d.counter j + ((if hdSig0Id x = j then hdSig0Inc x else 0) + (if hdSig1Id x = j then hdSig1Inc x else 0))) % 2 ^ 32
    else d.counter j := by
  unfold Dev.signalled
  split
  · exact d.signals_counter _ _ _ _ j h
  · rfl

@[simp] theorem Dev.writeTo_outside (h : Bool) (a : Nat) (l : List Byte) : (d.writeTo h a l).outside = d.outside := by
  unfold Dev.writeTo
  split
  · simp [Dev.outside]
  · split <;> rfl

/-- A record takes a slot of the completion ring of its ring (04 R104, R107, R108). -/
theorem Dev.writeRecord_kept (n index desc : Nat) (k : Done) : (d.writeRecord n index desc k).outside = d.outside
    ∧ ∃ c : CplRing, c.tail = ((d.cpl (d.ring n).cplRing).tail + 1) % 2 ^ 32
      ∧ (d.writeRecord n index desc k).disp = (d.setCpl (d.ring n).cplRing c).disp := by
  unfold Dev.writeRecord
  extract_lets q c phase record y ask z
  have hy : y.outside = d.outside := d.writeTo_outside _ _ _
  have hd : y.disp = d.disp := d.writeTo_disp _ _ _
  have hz : z.disp = (d.setCpl q { c with tail := (c.tail + 1) % 2 ^ 32, armed := c.armed && !ask }).disp := by
    simp only [z, Dev.setCpl, hd]
  constructor
  · split
    · have hm : (z.message c.vector).outside = z.outside := by simp [Dev.outside]
      exact hm.trans hy
    · exact hy
  · refine ⟨_, rfl, Eq.trans ?_ hz⟩
    split
    · exact z.message_disp _
    · rfl

@[simp] theorem Dev.recorded_outside (n index x : Nat) (k : Done) : (d.recorded n index x k).outside = d.outside := by
  unfold Dev.recorded
  split
  · rfl
  · exact (d.writeRecord_kept n index x k).1

@[simp] theorem Dev.recorded_counter (n index x j : Nat) (k : Done) : (d.recorded n index x k).counter j = d.counter j := by
  unfold Dev.recorded
  split
  · rfl
  · obtain ⟨-, c, -, h⟩ := d.writeRecord_kept n index x k
    unfold Dev.counter
    rw [h, Dev.setCpl_disp_counters]

theorem Dev.recorded_cpl (n index x : Nat) (k : Done) :
    ((d.recorded n index x k).cpl (d.ring n).cplRing).tail
        = (if ¬ (hdCplMode x = 0 ∧ k.code = 0) then ((d.cpl (d.ring n).cplRing).tail + 1) % 2 ^ 32 else (d.cpl (d.ring n).cplRing).tail)
      ∧ ∀ m, m ≠ (d.ring n).cplRing → (d.recorded n index x k).cpl m = d.cpl m := by
  unfold Dev.recorded
  by_cases hr : hdCplMode x = 0 ∧ k.code = 0
  · rw [if_pos hr, if_neg (not_not.2 hr)]
    exact ⟨rfl, fun _ _ => rfl⟩
  · rw [if_neg hr, if_pos hr]
    obtain ⟨-, c, hc, h⟩ := d.writeRecord_kept n index x k
    have hcpl : ∀ m, (d.writeRecord n index x k).cpl m = (d.setCpl (d.ring n).cplRing c).cpl m := fun m => by
      unfold Dev.cpl; rw [h]
    exact ⟨by rw [hcpl, Dev.setCpl_cpl_same, hc], fun m hm => by rw [hcpl, Dev.setCpl_cpl_ne _ _ hm]⟩

@[simp] theorem Dev.trailed_outside (n index code : Nat) : (d.trailed n index code).outside = d.outside := by
  unfold Dev.trailed; split <;> simp [Dev.outside]
@[simp] theorem Dev.trailed_counter (n index code j : Nat) : (d.trailed n index code).counter j = d.counter j := by
  unfold Dev.trailed; split <;> simp
@[simp] theorem Dev.trailed_cpl (n index code m : Nat) : (d.trailed n index code).cpl m = d.cpl m := by
  unfold Dev.trailed; split <;> simp

@[simp] theorem Dev.endDraining_outside (n : Nat) : (d.endDraining n).outside = d.outside := by
  unfold Dev.endDraining; dsimp only; split <;> rfl
@[simp] theorem Dev.endDraining_counter (n j : Nat) : (d.endDraining n).counter j = d.counter j := by
  unfold Dev.endDraining; dsimp only; split <;> rfl
@[simp] theorem Dev.endDraining_cpl (n m : Nat) : (d.endDraining n).cpl m = d.cpl m := by
  unfold Dev.endDraining; dsimp only; split <;> rfl
@[simp] theorem Dev.setRing_outside (n : Nat) (r : Ring) : (d.setRing n r).outside = d.outside := rfl
@[simp] theorem Dev.acted_outside : d.acted.outside = d.outside := rfl

/-- What a completion leaves beside the rings: its signals, and a slot of the completion ring where it writes a record (04 R100, R103,
R104). -/
theorem Dev.completeAs_outside (n index x : Nat) (k : Done) : (d.completeAs n index x k).outside = d.outside := by
  cases hf : d.disp.fatal with
  | true => rw [Dev.completeAs, if_pos hf]
  | false => simp [d.completeAs_eq n index x k hf, Dev.closing]

theorem Dev.completeAs_counter (n index x : Nat) (k : Done) (j : Nat) (h : d.disp.fatal = false) :
    (d.completeAs n index x k).counter j = (d.signalled x k.code).counter j := by
  simp [d.completeAs_eq n index x k h, Dev.closing]

theorem Dev.completeAs_cpl (n index x : Nat) (k : Done) (m : Nat) (h : d.disp.fatal = false) :
    (d.completeAs n index x k).cpl m = ((d.signalled x k.code).recorded n index x k).cpl m := by
  simp [d.completeAs_eq n index x k h, Dev.closing]

theorem Dev.anyStarted_iff (n : Nat) : d.anyStarted n = true ↔ ∃ x ∈ d.disp.board, x.ring = n ∧ x.started = true := by
  simp [Dev.anyStarted]

end

/-- DESCRIPTOR_COMPLETION, once nothing holds the completion back (04 R103; 06 R169; 13 R406). -/
theorem answers_descriptorCompletion {id : Nat} {e : Entry} {k : Done} {s : State} (he : s.dev.entry id = some e)
    (hk : s.dev.outcome e = some k) (hf : s.dev.disp.fatal = false) (hs : s.dev.sniffs id = false) (ht : s.dev.taps id = false) :
    Answers (.descriptorCompletion id) s { s with dev := s.dev.complete e k } := by
  have hx : exec (.descriptorCompletion id) s = run s (fun _ d => match d.entry id with
    | none => d
    | some e => match d.outcome e with
      | none => d
      | some done => if d.disp.fatal || d.sniffs id || d.taps id then d else d.complete e done) := rfl
  have ha := answers_run hx
  simpa only [he, hk, hf, hs, ht, Bool.or_self, Bool.false_eq_true, if_false] using ha

/-- Settles O15: the entry leaves the scoreboard, and then the laws of `Dev.completeAs` say what its code does. -/
theorem completionSignalsRecordsAndStops : Obligations.CompletionSignalsRecordsAndStops := by
  unfold Obligations.CompletionSignalsRecordsAndStops
  intro id e k s he hk hf hsn htap r c on record inc
  refine ⟨_, answers_descriptorCompletion he hk hf hsn htap, ?_⟩
  dsimp only
  have hboard := s.dev.complete_board e k
  rw [Dev.entry_id he] at hboard
  obtain ⟨x, k', hc, hcode, hdisp, hpow, hclk, hport, hsec⟩ := s.dev.complete_eq_completeAs e k
  have hring : ∀ m, x.ring m = s.dev.ring m := fun m => by unfold Dev.ring; rw [hdisp]; rfl
  have hcpl : ∀ m, x.cpl m = s.dev.cpl m := fun m => by unfold Dev.cpl; rw [hdisp]; rfl
  have hcnt : ∀ m, x.counter m = s.dev.counter m := fun m => by unfold Dev.counter; rw [hdisp]; rfl
  have hfx : x.disp.fatal = false := by rw [hdisp]; exact hf
  have hany : x.anyStarted e.ring = true ↔ ∃ y ∈ (s.dev.complete e k).disp.board, y.ring = e.ring ∧ y.started = true := by
    rw [x.anyStarted_iff, hdisp, hboard, ← Dev.entry_id he]; rfl
  have hrings := x.completeAs_ring e.ring e.index e.desc k' hfx
  have hslot := (x.signalled e.desc k'.code).recorded_cpl e.ring e.index e.desc k'
  have hout := x.completeAs_outside e.ring e.index e.desc k'
  simp only [Dev.signalled_ring, Dev.signalled_cpl, hring, hcpl, hcode] at hrings hslot
  obtain ⟨htail, hothers⟩ := hslot
  simp only [Dev.outside, Prod.mk.injEq, hpow, hclk, hport, hsec] at hout
  rw [hc] at hboard hany ⊢
  refine ⟨hboard, fun j hj => ?_, ?_, fun m hm => ?_, fun m hm => ?_, fun hr => ?_, fun hr => ?_, hout⟩
  · rw [x.completeAs_counter _ _ _ _ _ hfx, x.signalled_counter _ _ _ (by rwa [hcnt]), hcnt, hcode]
  · rw [x.completeAs_cpl _ _ _ _ _ hfx, hcode, htail]
  · rw [x.completeAs_cpl _ _ _ _ _ hfx, hcode, hothers m hm]
  · rw [hrings, if_neg hm]
  · rw [hrings, if_pos rfl]
    by_cases h0 : k.code = 0
    · rw [if_pos h0, h0, Ring.closed_running_ok _ _ hr]
    · rw [if_neg h0, Ring.closed_running_stops _ _ hr h0]
  · rw [hrings, if_pos rfl, Ring.closed_not_running _ _ hr]
    exact ⟨rfl, rfl, if_congr (and_congr_right fun _ => by rw [← hany, Bool.not_eq_true]) rfl rfl⟩

end Sys2Proof.Machine
end

section
/-! PROOF. The counter of raised events (14 R429): what an event, its notices and the errors of a read leave of it; O16. -/

namespace Sys2Proof.Machine

/-- The dictionary entries that the notices of an event may change, apart from the counter of events and that of lost ledger records. -/
def deliveryKeys : List Nat := [odKey 0x1300 2, odKey 0x7100 2, odKey 0x7100 7, odKey 0x1210 4]

section
variable (d : Dev) {i j : Nat} (h : odKey i j ∉ deliveryKeys)
include h

theorem Dev.note_get_kept (k c a : Nat) : (d.note k c a).get i j = d.get i j := by
  have h7 : odKey i j ≠ odKey 0x7100 7 := fun e => h (by simp [deliveryKeys, e])
  unfold Dev.note
  split
  · rfl
  · dsimp only
    split <;> exact d.addWrap_get_ne _ _ _ _ _ h7

theorem Dev.trigger_get_kept (b : Nat) : (d.trigger b).get i j = d.get i j := by
  have h2 : odKey i j ≠ odKey 0x7100 2 := fun e => h (by simp [deliveryKeys, e])
  unfold Dev.trigger
  split
  · exact d.put_get_ne _ _ 1 _ _ h2
  · rfl

theorem Dev.post_get_kept (a : Nat) (l : List Byte) : (d.post a l).get i j = d.get i j := by
  have h2 : odKey i j ≠ odKey 0x1300 2 := fun e => h (by simp [deliveryKeys, e])
  unfold Dev.post
  split
  · rfl
  · exact d.addSat_get_ne _ _ _ _ _ _ h2

theorem Dev.message_get_kept (v : Nat) : (d.message v).get i j = d.get i j := by
  have h2 : odKey i j ≠ odKey 0x1300 2 := fun e => h (by simp [deliveryKeys, e])
  unfold Dev.message
  split
  · rfl
  · split
    · rfl
    · exact d.addSat_get_ne _ _ _ _ _ _ h2

theorem Dev.notifyOne_get_kept (c e r k : Nat) : (d.notifyOne c e r k).get i j = d.get i j := by
  have h4 : odKey i j ≠ odKey 0x1210 4 := fun e => h (by simp [deliveryKeys, e])
  unfold Dev.notifyOne
  split
  · split
    · rfl
    · split
      · exact d.frame_get _ _ _ _ _ _
      · split
        · rfl
        · exact d.addSat_get_ne _ _ _ _ _ _ h4
  · rfl

theorem Dev.notify_get_kept (c e r : Nat) : (d.notify c e r).get i j = d.get i j :=
  foldl_keeps (g := fun d => d.get i j) (f := fun d k => d.notifyOne c e r k) (fun d k => d.notifyOne_get_kept h c e r k) (below 4) d

theorem Dev.evqPut_get_kept (c a b e : Nat) : (d.evqPut c a b e).get i j = d.get i j := by
  unfold Dev.evqPut
  dsimp only
  split
  · rfl
  · split
    · rfl
    · split
      · rw [Dev.message_get_kept _ h]; exact d.post_get_kept h _ _
      · exact d.post_get_kept h _ _

end

section
variable (d : Dev)

/-- Every event counts, once (14 R429). -/
theorem Dev.report_counts (c a b : Nat) (l : Bool) : (d.report c a b l).get 0x1300 3 = (d.get 0x1300 3 + 1) % 2 ^ 32 := by
  have hk : odKey 0x1300 3 ∉ deliveryKeys := by decide
  have hcount : (d.addWrap 0x1300 3 1).get 0x1300 3 = (d.get 0x1300 3 + 1) % 2 ^ 32 := d.put_get_same _ _ _
  have hledger : ∀ (d : Dev) (k : Nat) (x : List Byte), (d.ledger k x).get 0x1300 3 = d.get 0x1300 3 := fun d k x => by
    unfold Dev.ledger
    dsimp only
    split
    · rfl
    · exact d.addSat_get_ne _ _ _ _ _ _ (by decide)
  unfold Dev.report
  dsimp only
  rw [Dev.notify_get_kept _ hk, Dev.evqPut_get_kept _ hk, ← hcount]
  split
  · rw [hledger, Dev.trigger_get_kept _ hk, Dev.note_get_kept _ hk]
  · rw [Dev.trigger_get_kept _ hk, Dev.note_get_kept _ hk]

theorem Dev.raise_counts (c a b : Nat) : (d.raise c a b).get 0x1300 3 = (d.get 0x1300 3 + 1) % 2 ^ 32 := d.report_counts c a b true

/-- An event kept out of the ledger loses no record there (19 R564). -/
theorem Dev.report_unledgered (c a b : Nat) : (d.report c a b false).get 0x9010 0xF = d.get 0x9010 0xF := by
  have hk : odKey 0x9010 0xF ∉ deliveryKeys := by decide
  unfold Dev.report
  dsimp only
  rw [Dev.notify_get_kept _ hk, Dev.evqPut_get_kept _ hk, if_neg (by decide), Dev.trigger_get_kept _ hk, Dev.note_get_kept _ hk]
  exact d.addWrap_get_ne _ _ _ _ _ (by decide)

end

/-! ## WAIT_WATCH_EXPIRED (04 R116) -/

/-- The watch on the waits of an entry has expired, and has not been reported. -/
def Dev.watchDue (d : Dev) (e : Entry) : Prop :=
  e.watch ≠ 0 ∧ e.watchRaised = false ∧ e.started = false ∧ d.waitsMet e.desc = false ∧ e.watch * 1000000 < d.now - e.issuedAt

theorem Dev.not_watchDue_iff (d : Dev) (e : Entry) : ¬ d.watchDue e ↔ e.watch = 0 ∨ e.watchRaised = true ∨ e.started = true
    ∨ d.waitsMet e.desc = true ∨ ¬ e.watch * 1000000 < d.now - e.issuedAt := by
  simp only [Dev.watchDue, not_and_or, not_not, Bool.not_eq_false, ne_eq]

theorem Effect.answers {c : Instr} {s : State} {x : Dev} (h : Effect c s x) : Answers c s { s with dev := x } := ⟨h, rfl, rfl⟩

/-- The device after WAIT_WATCH_EXPIRED for an entry. -/
def Dev.watched (d : Dev) (e : Entry) : Dev := (d.setEntry { e with watchRaised := true }).raise 0x0401 e.ring e.index

theorem Dev.watched_sameButNotices (d : Dev) (e : Entry) :
    (d.watched e).SameButNotices (d.setEntry { e with watchRaised := true }) := by
  unfold Dev.watched
  exact ⟨Dev.raise_mute _ _ _ _, fun i j h => Dev.raise_get _ h _ _ _⟩

theorem Dev.watched_counts (d : Dev) (e : Entry) : (d.watched e).get 0x1300 3 = (d.get 0x1300 3 + 1) % 2 ^ 32 := by
  unfold Dev.watched
  exact Dev.raise_counts _ _ _ _

theorem exec_waitWatchExpired {id : Nat} {e : Entry} {s : State} (he : s.dev.entry id = some e) :
    (s.dev.watchDue e → Effect (.waitWatchExpired id) s (s.dev.watched e))
      ∧ (¬ s.dev.watchDue e → Effect (.waitWatchExpired id) s s.dev) := by
  have hx : exec (.waitWatchExpired id) s = run s (fun _ d => match d.entry id with
    | none => d
    | some e =>
      if e.watch == 0 || e.watchRaised || e.started || d.waitsMet e.desc || decide (d.now - e.issuedAt ≤ e.watch * 1000000) then d
      else d.watched e) := rfl
  have hc : (e.watch == 0 || e.watchRaised || e.started || s.dev.waitsMet e.desc
      || decide (s.dev.now - e.issuedAt ≤ e.watch * 1000000)) = true ↔ ¬ s.dev.watchDue e := by
    simp [Dev.not_watchDue_iff, or_assoc]
  simp only [Effect, hx, run, he]
  exact ⟨fun h => by rw [if_neg (by rw [hc]; exact not_not.2 h)], fun h => by rw [if_pos (hc.2 h)]⟩

/-- A watch that was reported is not reported again. -/
theorem effect_waitWatchExpired_raised {id : Nat} {e : Entry} {s : State} (he : s.dev.entry id = some e) (h : e.watchRaised = true) :
    Effect (.waitWatchExpired id) s s.dev :=
  (exec_waitWatchExpired he).2 ((s.dev.not_watchDue_iff e).2 (.inr (.inl h)))

theorem Dev.watched_entry {d : Dev} {id : Nat} {e : Entry} (he : d.entry id = some e) :
    (d.watched e).entry id = some { e with watchRaised := true } ∧ ∀ k, k ≠ id → (d.watched e).entry k = d.entry k := by
  have hid := Dev.entry_id he
  have hentry : ∀ k, (d.watched e).entry k = (d.setEntry { e with watchRaised := true }).entry k := fun k => by
    rw [Dev.entry, Dev.watched, Dev.raise_disp]; rfl
  refine ⟨?_, fun k hk => ?_⟩
  · rw [hentry, ← hid]
    exact d.setEntry_entry _ (by rw [hid, he]; rfl)
  · rw [hentry]
    exact d.setEntry_entry_ne _ k (by rw [hid]; exact hk)

/-- Settles O16: the entry is marked, so that its watch is not due again, and the event counts once. -/
theorem waitWatchRaisesOnceAndGoesOn : Obligations.WaitWatchRaisesOnceAndGoesOn := by
  unfold Obligations.WaitWatchRaisesOnceAndGoesOn
  intro id e s he
  obtain ⟨hfires, hrests⟩ := exec_waitWatchExpired he
  have hwhen := s.dev.not_watchDue_iff e
  by_cases hdue : s.dev.watchDue e
  · obtain ⟨hown, hothers⟩ := Dev.watched_entry he
    have hsame := s.dev.watched_sameButNotices e
    have hcount := s.dev.watched_counts e
    have heq : s.dev.watched e = (s.dev.setEntry { e with watchRaised := true }).raise 0x0401 e.ring e.index := by rw [Dev.watched]
    generalize s.dev.watched e = w at *
    exact ⟨_, (hfires hdue).answers, fun _ _ _ _ _ => ⟨hown, hothers, heq, hsame, hcount,
      effect_waitWatchExpired_raised (s := { s with dev := w }) hown rfl⟩, fun hn => absurd hdue (hwhen.2 hn)⟩
  · exact ⟨_, (hrests hdue).answers, fun h1 h2 h3 h4 h5 => absurd ⟨h1, h2, h3, h4, h5⟩ hdue, fun _ => rfl⟩

end Sys2Proof.Machine
end

section
/-! PROOF. Issue and start of descriptors (04 R97-R117, R591): O13, O14, O18. -/

namespace Sys2Proof.Machine

/-! ## The fetch (04 R591) -/

section
variable (d : Dev)

theorem Dev.extentIn_core_iff (a n : Nat) (h : n ≠ 0) :
    d.extentIn coreRegions (a, n) = true ↔ d.extent a n = some .near ∨ d.extent a n = some .tile := by
  unfold Dev.extentIn
  dsimp only
  generalize d.extent a n = o
  cases o with
  | none => simp [h]
  | some r => cases r <;> simp [h, coreRegions]

/-- The address of the next descriptor of a ring (04 R94). -/
def Ring.fetchAddr (r : Ring) : Nat := bits r.base 0 63 + 128 * (r.head % 2 ^ bits r.cfg 3 5)

theorem Dev.fetchDesc_host {n : Nat} (host : HostReply) (hb : bit (d.ring n).base 63 = true) :
    (∀ l, host = .data l → d.hostUp = true → d.fetchDesc n host = .inl (ofBytes (l.take 128)))
      ∧ ((∀ l, host ≠ .data l) ∨ d.hostUp = false → d.fetchDesc n host = .inr ccPoisoned) := by
  unfold Dev.fetchDesc
  dsimp only
  rw [if_pos hb]
  constructor
  · rintro l rfl hu
    exact if_pos hu
  · intro h
    cases host with
    | data l =>
      refine if_neg ?_
      rw [h.resolve_left fun hn => hn l rfl]
      decide
    | failed => rfl
    | part a b => rfl

theorem Dev.fetchDesc_device {n : Nat} (host : HostReply) (hb : bit (d.ring n).base 63 = false) :
    d.fetchDesc n host = if ¬ d.extentIn coreRegions ((d.ring n).fetchAddr, 128) = true then .inr ccAddressRange
      else if d.mem.anyPoison (d.ring n).fetchAddr 128 = true then .inr ccPoisoned else .inl (d.num (d.ring n).fetchAddr 128) := by
  unfold Dev.fetchDesc
  dsimp only
  rw [hb, if_neg (by decide)]
  exact if_congr (by rw [Bool.not_eq_true', Bool.not_eq_true]; rfl) rfl rfl

end

/-- DESCRIPTOR_ISSUE for the ring whose turn it is. -/
theorem exec_descriptorIssue (host : HostReply) (ecc : List EccHit) {n : Nat} {s : State} (hc : s.dev.computes = true)
    (hn : s.dev.nextRing = some n) : Effect (.descriptorIssue host ecc) s
      (match (s.dev.eccRead [] ecc).fetchDesc n host with
      | .inr code => ((s.dev.eccRead [] ecc).serve n).fetchFails n code
      | .inl x => ((s.dev.eccRead [] ecc).serve n).enter n x) := by
  have hx : exec (.descriptorIssue host ecc) s = run s (fun _ d => if !d.computes then d else match d.nextRing with
    | none => d
    | some n => match ((d.eccRead [] ecc).serve n).fetchDesc n host with
      | .inr code => ((d.eccRead [] ecc).serve n).fetchFails n code
      | .inl x => ((d.eccRead [] ecc).serve n).enter n x) := rfl
  have hf : ((s.dev.eccRead [] ecc).serve n).fetchDesc n host = (s.dev.eccRead [] ecc).fetchDesc n host := rfl
  rw [Effect, hx, run, hc, hn, if_neg (by decide)]
  simp only [hf]

/-- A fetch that fails stops its ring (04 R591). -/
theorem Dev.fetchFails_kept (d : Dev) (n code : Nat) :
    let t := (d.serve n).fetchFails n code
    t.ring n = { d.ring n with state := .stopped, errIndex := (d.ring n).head, errCode := code }
      ∧ (∀ m, m ≠ n → t.ring m = d.ring m) ∧ t.disp.board = d.disp.board ∧ t.disp.cpls = d.disp.cpls
      ∧ t.disp.counters = d.disp.counters ∧ { t with disp := d.disp } = d :=
  ⟨(d.serve n).setRing_ring_same n _, fun _ hm => (d.serve n).setRing_ring_ne _ hm, rfl, rfl, rfl, rfl⟩

theorem Dev.eccRead_ring (d : Dev) (l : List Nat) (ecc : List EccHit) (n : Nat) : (d.eccRead l ecc).ring n = d.ring n := d.eccAll_ring_at _ n
theorem Dev.eccRead_disp (d : Dev) (l : List Nat) (ecc : List EccHit) : (d.eccRead l ecc).disp = d.disp := d.eccAll_disp _
theorem Dev.eccRead_now (d : Dev) (l : List Nat) (ecc : List EccHit) : (d.eccRead l ecc).now = d.now := d.eccAll_now _

/-- Settles O13: the three ways a fetch fails, and what each leaves. -/
theorem failedFetchStopsRing : Obligations.FailedFetchStopsRing := by
  unfold Obligations.FailedFetchStopsRing
  intro host ecc n s hc hn d r a inHost outside code hfail
  have hr : d.ring n = r := s.dev.eccRead_ring [] ecc n
  have hd : d.disp = s.dev.disp := s.dev.eccRead_disp [] ecc
  have hout : outside ↔ ¬ d.extentIn coreRegions (a, 128) = true := by
    rw [d.extentIn_core_iff a 128 (by decide), not_or]
  have hf : d.fetchDesc n host = .inr code := by
    rcases hfail with ⟨hb, hh, rfl⟩ | ⟨hb, ho, rfl⟩ | ⟨hb, ho, hp, rfl⟩
    · exact (d.fetchDesc_host host (by rw [hr]; exact hb)).2 hh
    · rw [d.fetchDesc_device host (by rw [hr]; exact eq_false_of_ne_true hb), hr]
      exact if_pos (hout.1 ho)
    · rw [d.fetchDesc_device host (by rw [hr]; exact eq_false_of_ne_true hb), hr]
      exact (if_neg fun h => ho (hout.2 h)).trans (if_pos hp)
  have hx := exec_descriptorIssue host ecc hc hn
  obtain ⟨h1, h2, h3, h4, h5, h6⟩ := d.fetchFails_kept n code
  simp only [show (s.dev.eccRead [] ecc).fetchDesc n host = .inr code from hf] at hx
  rw [hr] at h1
  rw [hd] at h3 h4 h5
  exact ⟨_, hx.answers, h1, fun m hm => (h2 m hm).trans (s.dev.eccRead_ring [] ecc m), h3, h4, h5, h6⟩

/-! ## The checks at issue (04 R113) -/

section
variable (d : Dev)

/-- The checks read of the dispatcher its scoreboard only (03 R84). -/
theorem Dev.issueCheck_disp (p : Disp) (x : Nat) (h : p.board = d.disp.board) : ({ d with disp := p } : Dev).issueCheck x = d.issueCheck x := by
  have ht : ({ d with disp := p } : Dev).twinConflict x = d.twinConflict x := by unfold Dev.twinConflict; rw [h]
  unfold Dev.issueCheck
  rw [ht]
  rfl

/-- The ring with its head past a descriptor (04 R97). -/
def Ring.past (r : Ring) : Ring := { r with head := (r.head + 1) % 2 ^ 32 }

/-- The device with the head of ring `n` moved past a descriptor, in its turn (04 R97, R112). -/
def Dev.pastHead (n : Nat) : Dev := (d.serve n).setRing n (d.ring n).past

theorem Dev.pastHead_issueCheck (n x : Nat) : (d.pastHead n).issueCheck x = d.issueCheck x := d.issueCheck_disp _ x rfl

/-- The entry that a descriptor of ring `n` gets at its issue (04 R116). -/
def Dev.issuedEntry (n x : Nat) : Entry :=
  ⟨d.disp.nextId, n, (d.ring n).head, x, d.now, d.get 0x5080 1, false, false, 0, false, none⟩

/-- The device once a descriptor of ring `n` has entered the scoreboard. -/
def Dev.entered (n x : Nat) : Dev :=
  { d.pastHead n with disp := { (d.pastHead n).disp with board := d.disp.board ++ [d.issuedEntry n x], nextId := d.disp.nextId + 1 } }

/-- How a descriptor that the checks refuse with a code ends (04 R106, R113). -/
def refusedDone (x code : Nat) : Done := { Done.init with code := code, result := if opClass (hdOpcode x) = 5 then 0xFFF <<< 36 else 0 }

/-- A descriptor enters the scoreboard, or completes at once with the code of the checks, which ends the turn of its ring (04 R113, R117). -/
theorem Dev.enter_eq (n x : Nat) : (d.serve n).enter n x = if d.issueCheck x = 0 then d.entered n x
    else ((d.pastHead n).completeAs n (d.ring n).head x (refusedDone x (d.issueCheck x))).endTurn := by
  have h : (d.serve n).enter n x = if (d.pastHead n).issueCheck x = 0 then d.entered n x
      else ((d.pastHead n).completeAs n (d.ring n).head x (refusedDone x ((d.pastHead n).issueCheck x))).endTurn := rfl
  rw [h, d.pastHead_issueCheck]

theorem Dev.pastHead_ring (n : Nat) : (d.pastHead n).ring n = (d.ring n).past
    ∧ ∀ m, m ≠ n → (d.pastHead n).ring m = d.ring m :=
  ⟨Dev.setRing_ring_same _ _ _, fun _ hm => Dev.setRing_ring_ne (d.serve n) _ hm⟩

theorem Dev.enter_refused_kept {n x : Nat} (h : d.issueCheck x ≠ 0) (hf : d.disp.fatal = false) :
    ((d.serve n).enter n x).disp.board = d.disp.board ∧ (∀ m, m ≠ n → ((d.serve n).enter n x).ring m = d.ring m)
      ∧ (((d.serve n).enter n x).ring n).head = ((d.ring n).head + 1) % 2 ^ 32
      ∧ ((d.ring n).state = .running → ((d.serve n).enter n x).ring n = { d.ring n with
          head := ((d.ring n).head + 1) % 2 ^ 32, state := .stopped, errIndex := (d.ring n).head, errCode := d.issueCheck x }) := by
  have he := d.enter_eq n x
  rw [if_neg h] at he
  have hk : (refusedDone x (d.issueCheck x)).code = d.issueCheck x := rfl
  generalize refusedDone x (d.issueCheck x) = k at he hk
  obtain ⟨hown, hothers⟩ := d.pastHead_ring n
  have hr : ∀ m, ((d.serve n).enter n x).ring m = ((d.pastHead n).completeAs n (d.ring n).head x k).ring m := fun m => by rw [he]; rfl
  have hc := (d.pastHead n).completeAs_ring n (d.ring n).head x k hf
  have hb : ((d.serve n).enter n x).disp.board = ((d.pastHead n).completeAs n (d.ring n).head x k).disp.board := by rw [he]; rfl
  refine ⟨by rw [hb, Dev.completeAs_board]; rfl, fun m hm => ?_, ?_, fun hrun => ?_⟩
  · rw [hr, hc, if_neg hm, hothers m hm]
  · rw [hr, hc, if_pos rfl, hown]
    by_cases hrun : (d.ring n).past.state = .running
    · rw [Ring.closed_running_stops _ _ hrun (by rwa [hk])]; rfl
    · rw [Ring.closed_not_running _ _ hrun]; rfl
  · rw [hr, hc, if_pos rfl, hown, Ring.closed_running_stops (r := (d.ring n).past) _ _ hrun (by rwa [hk]), hk]
    rfl

/-- The next descriptor of ring `n` reads whole, as `x`. -/
def Dev.Reads (n : Nat) (host : HostReply) (x : Nat) : Prop :=
  bit (d.ring n).base 63 = true ∧ d.hostUp = true ∧ (∃ l : List Byte, host = .data l ∧ x = ofBytes (l.take 128))
    ∨ bit (d.ring n).base 63 = false ∧ (d.extent (d.ring n).fetchAddr 128 = some .near ∨ d.extent (d.ring n).fetchAddr 128 = some .tile)
      ∧ d.mem.anyPoison (d.ring n).fetchAddr 128 = false ∧ x = d.num (d.ring n).fetchAddr 128

theorem Dev.Reads.fetchDesc {d : Dev} {n x : Nat} {host : HostReply} (h : d.Reads n host x) : d.fetchDesc n host = .inl x := by
  rcases h with ⟨hb, hu, l, hl, hx⟩ | ⟨hb, hin, hp, hx⟩
  · rw [hx]; exact (d.fetchDesc_host host hb).1 l hl hu
  · have hcore := (d.extentIn_core_iff (d.ring n).fetchAddr 128 (by decide)).2 hin
    simp only [hx, d.fetchDesc_device host hb, hcore, hp, not_true_eq_false, Bool.false_eq_true, if_false]

end

/-- DESCRIPTOR_ISSUE of a descriptor that reads whole. -/
theorem exec_descriptorIssue_reads {host : HostReply} {ecc : List EccHit} {n x : Nat} {s : State} (hc : s.dev.computes = true)
    (hn : s.dev.nextRing = some n) (h : (s.dev.eccRead [] ecc).Reads n host x) :
    Effect (.descriptorIssue host ecc) s (((s.dev.eccRead [] ecc).serve n).enter n x) := by
  have hx := exec_descriptorIssue host ecc hc hn
  rwa [h.fetchDesc] at hx

/-- Settles O14: `Dev.enter_accepted` gives the state in full, `Dev.enter_refused_kept` the stop on the code of the check. -/
theorem issueEntersOrRefuses : Obligations.IssueEntersOrRefuses := by
  unfold Obligations.IssueEntersOrRefuses
  constructor
  · intro host ecc n x s hc hn d r a hread hcheck e left
    have hr : d.ring n = r := s.dev.eccRead_ring [] ecc n
    have hd : d.disp = s.dev.disp := s.dev.eccRead_disp [] ecc
    have hnow : d.now = s.dev.now := s.dev.eccRead_now [] ecc
    have hreads : d.Reads n host x := by unfold Dev.Reads; rw [hr]; exact hread
    have hx := exec_descriptorIssue_reads hc hn hreads
    rw [d.enter_eq, if_pos hcheck] at hx
    have he : d.issuedEntry n x = e := by unfold Dev.issuedEntry; rw [hd, hr, hnow]
    have hpast : d.pastHead n = (d.serve n).setRing n r.past := by unfold Dev.pastHead; rw [hr]
    have hserve : d.serve n = { d with disp := { d.disp with lastServed := n, takeLeft := left } } := by
      unfold Dev.serve; rw [hr, hd]; rfl
    rw [Effect, Dev.entered, he, hpast, hserve] at hx
    rw [← hd]
    exact hx
  · intro host ecc n x s hc hn d r a hread
    have hr : ∀ m, d.ring m = s.dev.ring m := s.dev.eccRead_ring [] ecc
    have hd : d.disp = s.dev.disp := s.dev.eccRead_disp [] ecc
    have hf : d.disp.fatal = false := by
      rw [hd]
      simp only [Dev.computes, Bool.and_eq_true, Bool.not_eq_true'] at hc
      exact hc.2
    have hreads : d.Reads n host x := by unfold Dev.Reads; rw [hr]; exact hread
    have hnow : d.now = s.dev.now := s.dev.eccRead_now [] ecc
    have hx : Effect (.descriptorIssue host ecc) s ((d.serve n).enter n x) := exec_descriptorIssue_reads hc hn hreads
    clear_value d
    refine ⟨_, hx.answers, ?_⟩
    dsimp only
    by_cases h0 : d.issueCheck x = 0
    · obtain ⟨hown, hothers⟩ := d.pastHead_ring n
      rw [hr] at hown
      rw [d.enter_eq, if_pos h0]
      have hring : ∀ m, (d.entered n x).ring m = (d.pastHead n).ring m := fun _ => rfl
      have hboard : (d.entered n x).disp.board = d.disp.board ++ [d.issuedEntry n x] := rfl
      have hnext : (d.entered n x).disp.nextId = d.disp.nextId + 1 := rfl
      have hframe : { d.entered n x with disp := d.disp } = d := rfl
      have he : (d.issuedEntry n x).id = s.dev.disp.nextId ∧ (d.issuedEntry n x).index = r.head
          ∧ (d.issuedEntry n x).issuedAt = s.dev.now := by
        unfold Dev.issuedEntry; rw [hr, hd]; exact ⟨rfl, rfl, hnow⟩
      rw [hd] at hboard hnext
      refine ⟨?_, fun m hm => ?_, fun _ => ⟨?_, ⟨d.issuedEntry n x, hboard, he.1, rfl, he.2.1, rfl, he.2.2, rfl, rfl, rfl, rfl⟩, hnext,
        hframe⟩, fun h => absurd h0 h⟩
      · rw [hring, hown]; rfl
      · rw [hring, hothers m hm, hr]
      · rw [hring, hown]; rfl
    · obtain ⟨hb, hothers, hhead, hstop⟩ := d.enter_refused_kept (n := n) h0 hf
      rw [hr] at hhead hstop
      exact ⟨hhead, fun m hm => (hothers m hm).trans (hr m), fun h => absurd h h0, fun _ => ⟨hb.trans (by rw [hd]), hstop⟩⟩

/-! ## The conditions of a start (04 R111-R115)

`Dev.mayStart` takes unit 0 for the synchronisation class, which waits for no other descriptor; but `unitOf` also gives 0 to the opcodes
below 0x10, which are no opcodes. The issue checks keep those out of the scoreboard (04 R113), but the claim speaks of every device. -/

/-- An entry of opcode 0x00. -/
def noOpcode (id : Nat) : Entry := ⟨id, 0, 0, 0, 0, 0, false, false, 0, false, none⟩

/-- A device in RUN with two entries of opcode 0x00 in the scoreboard. -/
def twoNoOpcodes : Dev :=
  { Dev.init with
    power := { Dev.init.power with pstate := .run }
    disp := { Dev.init.disp with board := [noOpcode 0, noOpcode 1] } }

theorem twoNoOpcodes_mayStart : twoNoOpcodes.mayStart (noOpcode 1) = true ∧ twoNoOpcodes.ready (noOpcode 0) = true := by decide +kernel

/-- Refutes O18: of two ready entries of opcode 0x00, which is not of the synchronisation class, the younger may start before the older
one of its unit. -/
theorem not_conditionsOfAStart : ¬ Obligations.ConditionsOfAStart := by
  unfold Obligations.ConditionsOfAStart
  intro h
  obtain ⟨hstart, hready⟩ := twoNoOpcodes_mayStart
  obtain ⟨-, -, -, -, -, -, -, -, -, holder, -⟩ := h twoNoOpcodes (noOpcode 1) hstart
  have hold := holder (by decide) (noOpcode 0) (List.mem_cons_self ..) (by decide) rfl
  rw [hready] at hold
  exact Bool.noConfusion hold

end Sys2Proof.Machine
end

section
/-! PROOF. The synchronisation commands (04 R137-R139): O19, O20, O21. -/

namespace Sys2Proof.Machine

/-! ## The course of a command that runs a descriptor -/

/-- The device once the work `j` of the descriptor of entry `e`, begun on `d`, has ended. -/
def Dev.worked (d : Dev) (e : Entry) (pin : Bool) (j : Job) : Dev :=
  { j.d with disp := { j.d.disp with board := d.boardAfter e pin j.done } }

/-- A command that runs `f` on the descriptor it starts ends with what `f` leaves, and in the scoreboard with its own entry changed. -/
theorem Starts.effect {c : Instr} {s : State} {e : Entry} {id op : Nat} {f : Dev → Entry → Job} (h : Starts c s e)
    (hc : startedBy c = some (id, op)) (hx : exec c s = run s (fun _ d => d.startWith id op f)) :
    ∃ pin, Effect c s (s.dev.worked e pin (f (s.dev.markStarted e) (s.dev.startedEntry e))) := by
  obtain ⟨id', op', hb, he, ho, hm, -⟩ := h
  obtain ⟨rfl, rfl⟩ : id = id' ∧ op = op' := by simpa [hc] using hb
  obtain ⟨pin, hw⟩ := s.dev.startWith_eq id op f e he ho hm
  refine ⟨pin, ?_⟩
  rw [Effect, hx, run, hw, Dev.worked, Dev.boardAfter, Dev.entry_id he]

/-! ## O19 -/

theorem toBytes_length (n v : Nat) : (toBytes n v).length = n := by
  induction n generalizing v with
  | zero => rfl
  | succ n ih => rw [toBytes, List.length_cons, ih]

theorem toBytes_getD {n i : Nat} (v : Nat) (h : i < n) : (toBytes n v).getD i 0#8 = BitVec.ofNat 8 (v / 256 ^ i) := by
  induction n generalizing v i with
  | zero => omega
  | succ n ih =>
    rw [toBytes]
    cases i with
    | zero => simp
    | succ i => rw [List.getD_cons_succ, ih _ (by omega), Nat.div_div_eq_div_mul, pow_succ']

/-- The work of SYNC_MARKER (04 R137, R138). -/
def Dev.marker (d : Dev) (x : Nat) : Dev :=
  if syHost x then d.post (syHostAddr x) (toBytes 8 (syHtTarget x)) else d.wr (syAddr x) (toBytes 8 (syHtTarget x)) false

theorem bits_lt (v lo w : Nat) : bits v lo w < 2 ^ w := Nat.mod_lt _ (by positivity)

/-- Settles O19: each command is `Starts.effect` with its own work. -/
theorem synchronisationCommands : Obligations.SynchronisationCommands := by
  unfold Obligations.SynchronisationCommands
  intro id s e ended
  refine ⟨fun h => ?_, fun h => ?_, fun h => ?_⟩
  · obtain ⟨pin, hx⟩ := h.effect (f := fun d _ => Job.start d) rfl rfl
    exact ⟨_, hx.answers, pin, rfl⟩
  · obtain ⟨pin, hx⟩ := h.effect (f := fun d e => Job.start (d.setCounter (syCid e.desc) (syCvalue e.desc))) rfl rfl
    refine ⟨_, hx.answers, ?_, fun k hk => ?_, pin, rfl⟩
    · exact ((s.dev.markStarted e).setCounter_counter_same _ _).trans (Nat.mod_eq_of_lt (bits_lt _ _ 32))
    · exact (s.dev.markStarted e).setCounter_counter_ne _ hk
  · obtain ⟨pin, hx⟩ := h.effect (f := fun d e => Job.start (d.marker e.desc)) rfl rfl
    rw [Dev.startedEntry_desc] at hx
    refine ⟨_, hx.answers, fun hh => ?_, fun hh hl hd => ⟨pin, ?_⟩, fun hh hl => ⟨pin, ?_⟩⟩
    · have hm : (s.dev.markStarted e).marker e.desc = (s.dev.markStarted e).wr (syAddr e.desc) (toBytes 8 (syHtTarget e.desc)) false := by
        rw [Dev.marker, hh, if_neg (by decide)]
      rw [hm]
      refine ⟨fun i hi => ?_, fun a ha => ?_, pin, rfl⟩
      · refine (Mem.store_byte _ _ _ _ _).trans ?_
        rw [toBytes_length, if_pos (by omega), Nat.add_sub_cancel_left, toBytes_getD _ hi]
      · exact Mem.store_byte_out _ _ _ _ _ (by rw [toBytes_length]; exact ha)
    · have hm : (s.dev.markStarted e).marker e.desc
          = (s.dev.markStarted e).emit (.hostWrite (syHostAddr e.desc) (toBytes 8 (syHtTarget e.desc))) := by
        rw [Dev.marker, hh, if_pos rfl, Dev.post, if_pos]
        simp [Dev.markStarted, Dev.acted, Dev.setEntry, hl, hd]
      rw [hm]
      rfl
    · have hm : (s.dev.markStarted e).marker e.desc = (s.dev.markStarted e).addSat 0x1300 2 32 1 := by
        rw [Dev.marker, hh, if_pos rfl, Dev.post, if_neg]
        simpa [Dev.markStarted, Dev.acted, Dev.setEntry] using hl
      rw [hm]
      rfl

/-! ## O20 -/

/-- How SYNC_WAIT_HT ends: with the time of its release, and `LATE` where it starts after its target (04 R106, R138). -/
def Dev.hallDone (d : Dev) (e : Entry) : Done :=
  ⟨0, if e.started = false ∧ syHtTarget e.desc < d.ht then 2 ^ sfLate else 0, 0, d.ht - syHtTarget e.desc⟩

/-- An entry that has started, whether it starts now or did before. -/
def Dev.begunEntry (d : Dev) (e : Entry) : Entry := if e.started then e else d.startedEntry e

/-- The device once the entry has started, whether it starts now or did before. -/
def Dev.withBegun (d : Dev) (e : Entry) : Dev := if e.started then d else d.markStarted e

theorem exec_syncWaitHt {id : Nat} {s : State} {e : Entry} (he : s.dev.entry id = some e) (ho : hdOpcode e.desc = 0x71)
    (hd : e.done = none) (hs : e.started = true ∨ s.dev.mayStart e = true) : Effect (.syncWaitHt id) s
      (if s.dev.ht < syHtTarget e.desc then s.dev.withBegun e else (s.dev.withBegun e).finish id (s.dev.hallDone e)) := by
  have hx : exec (.syncWaitHt id) s = execSyncWaitHt id s := rfl
  have hgo : (hdOpcode e.desc != 0x71 || e.done.isSome || (!e.started && !s.dev.mayStart e)) = false := by
    simpa [ho, hd, ← Bool.not_eq_true, or_iff_not_imp_left] using hs
  have hht : (s.dev.withBegun e).ht = s.dev.ht := by unfold Dev.withBegun; split <;> rfl
  have hdone : ∀ d : Dev, (((Job.start d).flagIf (!e.started && decide (syHtTarget e.desc < s.dev.ht)) sfLate).result
      (s.dev.ht - syHtTarget e.desc)).done = s.dev.hallDone e := fun d => by
    have hflag : orBit 0 sfLate = 2 ^ sfLate := by decide
    unfold Dev.hallDone Job.flagIf
    cases e.started <;> by_cases hl : syHtTarget e.desc < s.dev.ht <;>
      simp [hl, Job.result, Job.flag, Job.start, Done.init, hflag]
  rw [Effect, hx, execSyncWaitHt, run, he]
  dsimp only
  rw [if_neg (by simp [hgo]), ← hdone (s.dev.withBegun e)]
  unfold Dev.withBegun at hht ⊢
  rw [hht]

section
variable {d : Dev} {id : Nat} {e : Entry} (he : d.entry id = some e)
include he

/-- Starting an entry makes it start, and leaves the others. -/
theorem Dev.withBegun_entry : (d.withBegun e).entry id = some (d.begunEntry e) ∧ ∀ k, k ≠ id → (d.withBegun e).entry k = d.entry k := by
  have hid := Dev.entry_id he
  unfold Dev.withBegun Dev.begunEntry
  split
  · exact ⟨he, fun _ _ => rfl⟩
  · have hs : ∀ k, (d.markStarted e).entry k = (d.setEntry (d.startedEntry e)).entry k := fun _ => rfl
    have hsid : (d.startedEntry e).id = id := hid
    refine ⟨?_, fun k hk => ?_⟩
    · rw [hs, ← hsid, Dev.setEntry_entry]
      rw [hsid, he]
      rfl
    · rw [hs, Dev.setEntry_entry_ne _ _ _ (by rwa [hsid])]

/-- Ending the work of an entry gives it its outcome, and leaves the others. -/
theorem Dev.finish_entry (k : Done) : (d.finish id k).entry id = some { e with done := some k }
    ∧ ∀ j, j ≠ id → (d.finish id k).entry j = d.entry j := by
  have hid := Dev.entry_id he
  rw [d.finish_eq id k e he]
  subst hid
  exact ⟨d.setEntry_entry { e with done := some k } (by rw [he]; rfl), fun j hj => d.setEntry_entry_ne { e with done := some k } j hj⟩

end

/-- Only the scoreboard and the time of the last action differ. -/
def Dev.OnlyBoard (d t : Dev) : Prop :=
  { t with disp := { t.disp with board := d.disp.board, lastAction := d.disp.lastAction } } = d

theorem Dev.OnlyBoard.setEntry {d t : Dev} (h : d.OnlyBoard t) (e : Entry) : d.OnlyBoard (t.setEntry e) := h

theorem Dev.withBegun_onlyBoard (d : Dev) (e : Entry) : d.OnlyBoard (d.withBegun e) := by
  unfold Dev.withBegun; split <;> rfl

theorem Dev.withBegun_lastAction (d : Dev) (e : Entry) :
    (d.withBegun e).disp.lastAction = if e.started = true then d.disp.lastAction else d.now := by
  unfold Dev.withBegun; split <;> rfl

/-- Settles O20: the wait starts its entry, and ends it once its target has come. -/
theorem hallTimeWait : Obligations.HallTimeWait := by
  unfold Obligations.HallTimeWait
  intro id s e he ho hd hs late step
  have hx := exec_syncWaitHt he ho hd hs
  obtain ⟨hown, hothers⟩ := Dev.withBegun_entry he
  have hbegun : s.dev.begunEntry e = { e with started := true, step := step } := by
    unfold Dev.begunEntry
    cases hb : e.started with
    | true => simp only [step, hb, if_true]; rw [← hb]
    | false => simp only [step, hb, Bool.false_eq_true, if_false]; rfl
  rw [hbegun] at hown
  have honly := s.dev.withBegun_onlyBoard e
  have hact := s.dev.withBegun_lastAction e
  refine ⟨_, hx.answers, ?_⟩
  by_cases ht : s.dev.ht < syHtTarget e.desc
  · simp only [if_pos ht]
    exact ⟨fun _ => hown, fun h => absurd ht h, hothers, hact, honly⟩
  · obtain ⟨hdone, hrest⟩ := Dev.finish_entry hown (s.dev.hallDone e)
    have hfin := (s.dev.withBegun e).finish_eq id (s.dev.hallDone e) _ hown
    simp only [if_neg ht]
    refine ⟨fun h => absurd h ht, fun _ => hdone, fun k hk => (hrest k hk).trans (hothers k hk), ?_, ?_⟩
    · rw [hfin]; exact hact
    · rw [hfin]; exact honly.setEntry _

end Sys2Proof.Machine
end

section
/-! PROOF. The step boundary (02 R51, R52; 04 R139; 11 R347, R366; 13 R411): what its parts leave, O21. -/

namespace Sys2Proof.Machine

/-- What the loss-scale rule leaves of a job: all but the dictionary and the notices, and the code. -/
def Job.calm (j : Job) : (Disp × Mem × Compute × Power × Clocks × Nat) × Engine × Nat := (j.d.apart, j.d.eng, j.done.code)

section
variable (j : Job)

theorem Job.raise_calm (c a b : Nat) : (j.raise c a b).calm = j.calm := by
  simp [Job.calm, Job.raise]

theorem Job.dev_put_calm {i k : Nat} (v : Dev → Nat) (h : odKey 0x5080 4 ≠ odKey i k) : (j.dev (fun d => d.put i k (v d))).calm = j.calm := by
  simp [Job.calm, Dev.put_apart _ _ h]

theorem Job.changeL_calm (l : Nat) : (j.changeL l).calm = j.calm := by
  unfold Job.changeL
  split
  · rfl
  · rw [Job.raise_calm, Job.dev_put_calm _ _ (by decide)]

/-- The loss-scale rule changes the dictionary only, and raises events (02 R52). -/
theorem Job.lossRule_calm (skipped : Bool) : (j.lossRule skipped).calm = j.calm := by
  unfold Job.lossRule
  extract_lets l i
  have hi : i.calm = j.calm := by
    simp only [i]
    split
    · exact j.dev_put_calm (i := 0x5030) (k := 5) _ (by decide)
    · rfl
  split
  · exact hi
  · split
    · split
      · rw [Job.raise_calm, Job.dev_put_calm _ _ (by decide), hi]
      · rw [Job.changeL_calm, Job.dev_put_calm _ _ (by decide), hi]
    · split
      · rw [Job.changeL_calm, Job.dev_put_calm _ _ (by decide), hi]
      · rw [Job.dev_put_calm _ _ (by decide), hi]

end

/-! ## After the step counter -/

/-- What every step of a fold keeps, for the members of the list, the fold keeps. -/
theorem foldl_keeps_of_mem {α β γ : Type} {g : β → γ} {f : β → α → β} (l : List α) (h : ∀ b, ∀ a ∈ l, g (f b a) = g b) (b : β) :
    g (l.foldl f b) = g b := by
  induction l generalizing b with
  | nil => rfl
  | cons a t ih => rw [List.foldl_cons, ih (fun b x hx => h b x (List.mem_cons_of_mem a hx)), h b a List.mem_cons_self]

/-- What closing Sniffer units and copying `SLACK_MIN` leave: what traffic leaves, and the collectives engine. -/
def Dev.settled (d : Dev) : (Disp × Mem × Compute × Power × Clocks × Nat) × Engine := (d.apart, d.eng)

section
variable (d : Dev)

theorem Dev.put_settled {i j : Nat} (v : Nat) (h : odKey 0x5080 4 ≠ odKey i j) : (d.put i j v).settled = d.settled := by
  simp [Dev.settled, Dev.put_apart _ _ h]

theorem Dev.setUnit_settled (u : Nat) (x : SnUnit) : (d.setUnit u x).settled = d.settled := rfl

/-- The dictionary of a Sniffer unit does not hold the step counter. -/
theorem odKey_step_ne_sniffer (u : Nat) {k : Nat} (hk : k < 256) : odKey 0x5080 4 ≠ odKey (0x7400 + u) k := by
  unfold odKey; omega

theorem Dev.snLoad_settled (u : Nat) : (d.snLoad u).settled = d.settled := by
  unfold Dev.snLoad
  dsimp only
  rw [Dev.setUnit_settled, Dev.put_settled _ _ (odKey_step_ne_sniffer u (by decide)),
    Dev.put_settled _ _ (odKey_step_ne_sniffer u (by decide))]

theorem Dev.snCloseNow_settled (u step : Nat) : (d.snCloseNow u step).settled = d.settled := by
  unfold Dev.snCloseNow
  dsimp only
  rw [Dev.setUnit_settled, Dev.snLoad_settled, Dev.put_settled _ _ (odKey_step_ne_sniffer u (by decide)),
    Dev.put_settled _ _ (odKey_step_ne_sniffer u (by decide))]

theorem Dev.autoClose_settled (step : Nat) : (d.autoClose step).settled = d.settled := by
  unfold Dev.autoClose
  refine foldl_keeps (g := Dev.settled) (fun d u => ?_) (below 8) d
  dsimp only
  split
  · rfl
  · split
    · split
      · rfl
      · exact d.setUnit_settled _ _
    · exact d.snCloseNow_settled _ _

theorem Dev.boundarySlack_settled : d.boundarySlack.settled = d.settled := by
  unfold Dev.boundarySlack
  refine foldl_keeps_of_mem (g := Dev.settled) (below 6) (fun d p hp => ?_) d
  have hk : ∀ i, i ≠ 0x5080 → odKey 0x5080 4 ≠ odKey i (p + 1) := fun i hi => by
    rw [mem_below] at hp
    unfold odKey
    omega
  rw [Dev.put_settled _ _ (hk _ (by decide)), Dev.put_settled _ _ (hk _ (by decide))]

theorem Dev.life_settled (w n : Nat) : (d.life 10 w n).settled = d.settled := by
  have hs : (d.addSat 0xA010 10 w n).settled = d.settled := d.put_settled _ (by decide)
  unfold Dev.life
  dsimp only
  split
  · have hr : ((d.addSat 0xA010 10 w n).raise 0x0F08 10 0).settled = (d.addSat 0xA010 10 w n).settled := by
      simp [Dev.settled]
    exact hr.trans hs
  · exact hs

/-- A step boundary begins the numbering of segments again (11 R366). -/
theorem Dev.renumber_nextSegment (h : d.eng.backlog = []) : d.renumber.eng.nextSegment = 0 := by
  unfold Dev.renumber
  dsimp only
  rw [h]
  rfl

end

/-- The device with the step counter advanced and L to be latched anew (02 R51; 04 R139; 12 R383). -/
def Dev.advanced (d : Dev) (s : Nat) : Dev :=
  { (d.put 0x5080 4 (s + 1)) with
    cmp := { d.cmp with lossL := none, lossWritten := false, skips := d.cmp.skips.filter (fun k => decide (s < k.step)) }
    shadow := if d.shadow.current = some s then { d.shadow with boundary := true } else d.shadow }

/-- A step boundary: the Trail and the loss-scale rule, then the step counter and what starts again with it. -/
theorem Job.boundary_eq (j : Job) : ∃ (i : Job) (s : Nat), i.calm = j.calm ∧ s = j.d.step
    ∧ j.boundary = i.dev (fun d => (((d.advanced s).renumber.boundarySlack).autoClose s).life 10 64 1) := by
  refine ⟨(j.dev (fun d => d.note 5 (b2n (j.d.stepSkipped j.d.step)) j.d.lossL)).lossRule (j.d.stepSkipped j.d.step), j.d.step, ?_, rfl, rfl⟩
  rw [Job.lossRule_calm]
  simp [Job.calm]

/-- What a step boundary leaves of the step, of L and of the segment numbers, and all that it leaves as it was. -/
theorem Job.boundary_kept (j : Job) : j.boundary.done.code = j.done.code ∧ j.boundary.d.step = (j.d.step + 1) % 2 ^ 64
    ∧ j.boundary.d.cmp.lossL = none ∧ (j.d.eng.backlog = [] → j.boundary.d.eng.nextSegment = 0) ∧ j.boundary.d.disp = j.d.disp
    ∧ j.boundary.d.mem = j.d.mem ∧ j.boundary.d.power = j.d.power ∧ j.boundary.d.clocks = j.d.clocks := by
  obtain ⟨i, s, hcalm, hs, hj⟩ := j.boundary_eq
  simp only [Job.calm, Prod.mk.injEq] at hcalm
  obtain ⟨hapart, heng, hcode⟩ := hcalm
  obtain ⟨h1, h2, -, h4, h5, -⟩ := Dev.apart_eq_iff.1 hapart
  have hset : j.boundary.d.settled = (i.d.advanced s).renumber.settled := by
    rw [hj, Job.dev_d, Dev.life_settled, Dev.autoClose_settled, Dev.boundarySlack_settled]
  simp only [Dev.settled, Prod.mk.injEq] at hset
  obtain ⟨hsa, hse⟩ := hset
  rw [Dev.renumber_apart] at hsa
  obtain ⟨a1, a2, a3, a4, a5, a6⟩ := Dev.apart_eq_iff.1 hsa
  have hstep : (i.d.advanced s).step = (s + 1) % 2 ^ 64 := i.d.put_get_same 0x5080 4 (s + 1)
  refine ⟨by rw [hj, Job.dev_code, hcode], by rw [a6, hstep, hs], by rw [a3]; rfl, fun hb => ?_, a1.trans h1, a2.trans h2, a4.trans h4,
    a5.trans h5⟩
  rw [hse]
  exact Dev.renumber_nextSegment _ ((congrArg Engine.backlog heng).trans hb)

/-- The work of SYNC_STEP_BOUNDARY (04 R139; 12 R378). -/
def Dev.stepBoundary (d : Dev) (x : Nat) : Job :=
  if 0 < syNextStep x ∧ d.disp.fatalSteps.contains (syNextStep x - 1) then (Job.start d).fail ccAbandoned
  else if syNextStep x != d.step + 1 then (Job.start d).fail ccInvalidField
  else (Job.start d).boundary

/-- Settles O21: `Job.boundary_kept` says what a boundary leaves. -/
theorem stepBoundary : Obligations.StepBoundary := by
  unfold Obligations.StepBoundary
  intro id s e h hfatal
  obtain ⟨pin, hx⟩ := h.effect (f := fun d e => d.stepBoundary e.desc) rfl rfl
  rw [Dev.startedEntry_desc] at hx
  have hnf : ¬ (0 < syNextStep e.desc ∧ (s.dev.markStarted e).disp.fatalSteps.contains (syNextStep e.desc - 1) = true) := by
    rintro ⟨hp, hc⟩
    exact hfatal hp (List.contains_iff_mem.1 hc)
  have hstep : (s.dev.markStarted e).step = s.dev.step := rfl
  have hwork : (s.dev.markStarted e).stepBoundary e.desc = if syNextStep e.desc ≠ s.dev.step + 1
      then (Job.start (s.dev.markStarted e)).fail ccInvalidField else (Job.start (s.dev.markStarted e)).boundary := by
    unfold Dev.stepBoundary
    rw [if_neg hnf, hstep]
    simp only [bne_iff_ne]
  rw [hwork] at hx
  refine ⟨_, hx.answers, fun hn => ?_, fun hn => ⟨pin, ?_⟩⟩
  · rw [if_neg (not_not.2 hn)]
    obtain ⟨hc, hs, hl, hb, hd, hm, hp, hk⟩ := (Job.start (s.dev.markStarted e)).boundary_kept
    generalize (Job.start (s.dev.markStarted e)).boundary = j at *
    refine ⟨?_, hl, hb, ⟨pin, j.done, hc, rfl⟩, ?_, hm, hp, hk⟩
    · have hlt : syNextStep e.desc < 2 ^ 64 := (bits_lt _ _ 48).trans (by decide)
      refine hs.trans ?_
      rw [Job.start_d, hstep, ← hn, Nat.mod_eq_of_lt hlt]
    · exact (congrArg Disp.rings hd : j.d.disp.rings = _)
  · rw [if_pos hn]
    rfl

end Sys2Proof.Machine
end

section
/-! PROOF. Compute leaves control alone (04 R115, R120): what the work of array, vector, move, Retriever and solver descriptors never touches;
the rule O17 and O22 rest on. -/

namespace Sys2Proof.Machine

/-- The control state that the work of a descriptor leaves to others. -/
def Dev.steering (d : Dev) :=
  ((d.power, d.clocks, d.sec, d.leashes, d.requests, d.tb, d.slots), (d.eng, d.shadow, d.pins, d.disp.rings, d.disp.cpls, d.disp.counters))

/-! ## The device -/

section
variable (d : Dev)

theorem Dev.steering_of_hush {a b : Dev} (h : a.hush = b.hush) : a.steering = b.steering := by
  have h' := congrArg Dev.steering h
  exact h'

theorem Dev.steering_of_mute {a b : Dev} (h : a.mute = b.mute) : a.steering = b.steering := Dev.steering_of_hush (Dev.of_mute_hush h)

@[simp] theorem Dev.put_steering (i j v : Nat) : (d.put i j v).steering = d.steering := rfl
@[simp] theorem Dev.addSat_steering (i j w n : Nat) : (d.addSat i j w n).steering = d.steering := rfl
@[simp] theorem Dev.addWrap_steering (i j n : Nat) : (d.addWrap i j n).steering = d.steering := rfl
@[simp] theorem Dev.emit_steering (o : Out) : (d.emit o).steering = d.steering := rfl
@[simp] theorem Dev.wr_steering (a : Nat) (l : List Byte) (p : Bool) : (d.wr a l p).steering = d.steering := rfl
@[simp] theorem Dev.withCmp_steering (c : Compute) : ({ d with cmp := c } : Dev).steering = d.steering := rfl
@[simp] theorem Dev.withDraws_steering (n : Nat) : ({ d with draws := n } : Dev).steering = d.steering := rfl
@[simp] theorem Dev.withFatalSteps_steering (l : List Nat) :
    ({ d with disp := { d.disp with fatalSteps := l } } : Dev).steering = d.steering := rfl
@[simp] theorem Dev.setTile_steering (t : Nat) (x : Tile) : (d.setTile t x).steering = d.steering := rfl
@[simp] theorem Dev.setEntry_steering (e : Entry) : (d.setEntry e).steering = d.steering := rfl
@[simp] theorem Dev.markStarted_steering (e : Entry) : (d.markStarted e).steering = d.steering := rfl
@[simp] theorem Dev.setAcc_steering (t r c v : Nat) : (d.setAcc t r c v).steering = d.steering := by
  unfold Dev.setAcc; exact d.withCmp_steering _
@[simp] theorem Dev.setFresh_steering (t r c : Nat) : (d.setFresh t r c).steering = d.steering := by
  unfold Dev.setFresh; exact d.withCmp_steering _
@[simp] theorem Dev.dropFresh_steering (t : Nat) : (d.dropFresh t).steering = d.steering := by
  unfold Dev.dropFresh; exact d.withCmp_steering _
@[simp] theorem Dev.setStuck_steering (r s : Nat) (b : Bool) : (d.setStuck r s b).steering = d.steering := rfl
@[simp] theorem Dev.setVring_steering (n v : Nat) : (d.setVring n v).steering = d.steering := rfl
@[simp] theorem Dev.setElem_steering (v : View) (r c p : Nat) (b : Bool) : (d.setElem v r c p b).steering = d.steering := rfl
@[simp] theorem Dev.setWinByte_steering (a : Nat) (b : Byte) : (d.setWinByte a b).steering = d.steering := by
  unfold Dev.setWinByte Dev.setAccAt; simp
@[simp] theorem Dev.setReady_steering (k : Nat) (on : Bool) : (d.setReady k on).steering = d.steering := by
  unfold Dev.setReady; simp
@[simp] theorem Dev.storeRoot_steering (x : Nat) (l : List Byte) (e : Int) (m i r : Nat) : (d.storeRoot x l e m i r).steering = d.steering := by
  unfold Dev.storeRoot; simp
@[simp] theorem Dev.dropMessage_steering (n : Nat) : (d.dropMessage n).steering = d.steering := rfl
@[simp] theorem Dev.post_steering (a : Nat) (l : List Byte) : (d.post a l).steering = d.steering := Dev.steering_of_mute (d.post_mute a l)
@[simp] theorem Dev.note_steering (k c a : Nat) : (d.note k c a).steering = d.steering := Dev.steering_of_mute (d.note_mute k c a)
@[simp] theorem Dev.report_steering (c a b : Nat) (l : Bool) : (d.report c a b l).steering = d.steering :=
  Dev.steering_of_mute (d.report_mute c a b l)
@[simp] theorem Dev.raise_steering (c a b : Nat) : (d.raise c a b).steering = d.steering := Dev.steering_of_mute (d.raise_mute c a b)
@[simp] theorem Dev.errLog_steering (er : Nat) : (d.errLog er).steering = d.steering := Dev.steering_of_mute (d.errLog_mute er)
@[simp] theorem Dev.eccRead_steering (l : List Nat) (ecc : List EccHit) : (d.eccRead l ecc).steering = d.steering :=
  Dev.steering_of_hush (d.eccAll_hush _)
@[simp] theorem Dev.refuseRequest_steering : d.refuseRequest.steering = d.steering := by simp [Dev.refuseRequest]

@[simp] theorem Dev.latchL_steering : d.latchL.steering = d.steering := by unfold Dev.latchL; split <;> rfl
@[simp] theorem Dev.snBegin_steering (u id : Nat) (l : List (Byte × Bool)) : (d.snBegin u id l).steering = d.steering := by
  unfold Dev.snBegin; dsimp only; split <;> rfl
@[simp] theorem Dev.howlOn_steering (f : Flit) (p : Nat) : (d.howlOn f p).steering = d.steering := by
  unfold Dev.howlOn
  split
  · rfl
  · split
    · rfl
    · split <;> rfl

@[simp] theorem Dev.howl_steering (kind port subject event step : Nat) (v : Bool) :
    (d.howl kind port subject v event step).steering = d.steering := by
  unfold Dev.howl
  split
  · rfl
  · extract_lets seq x y w f
    have hx : x.steering = d.steering := Dev.note_steering _ _ _ _
    exact (foldl_keeps (g := Dev.steering) (fun d p => d.howlOn_steering f p) (below 6) y).trans hx

/-- A step-fatal event leaves a Howl, the mark of its step, and nothing of control (00 R10). -/
@[simp] theorem Dev.raiseStep_steering (code a b s : Nat) : (d.raiseStep code a b s).steering = d.steering := by
  unfold Dev.raiseStep
  extract_lets x disp y z
  have hx : x.steering = d.steering := d.report_steering code a b true
  have hy : y.steering = x.steering := x.withFatalSteps_steering _
  have hz : z.steering = d.steering := (y.put_steering _ _ _).trans (hy.trans hx)
  split
  · rw [Dev.howl_steering, hz]
  · exact hz

@[simp] theorem Dev.clearCovered_steering (l : List Ext) : (d.clearCovered l).steering = d.steering :=
  foldl_keeps (g := Dev.steering) (fun d u => by split <;> rfl) _ d

/-- A fold of any operation that leaves control alone. -/
theorem foldl_steering {α : Type} {f : Dev → α → Dev} (h : ∀ d a, (f d a).steering = d.steering) (l : List α) (d : Dev) :
    (l.foldl f d).steering = d.steering := foldl_keeps h l d

@[simp] theorem Dev.tear_steering (t : Nat) (p : Bool) : (d.tear t p).steering = d.steering := by
  unfold Dev.tear
  extract_lets n x
  have hx : x.steering = d.steering := foldl_steering (fun d p => by simp) _ _
  exact (x.setTile_steering t _).trans hx

@[simp] theorem Dev.putNative_steering (o : TileOp) (value : Fp → Fp) (masked : Bool) (r c : Nat) :
    (d.putNative o value masked r c).steering = d.steering := by
  unfold Dev.putNative
  split
  · rfl
  · simp
@[simp] theorem Dev.putPedigree_steering (o : TileOp) (value : Fp → Fp) (masked : Bool) (r c : Nat) :
    (d.putPedigree o value masked r c).steering = d.steering := by
  unfold Dev.putPedigree
  split
  · rfl
  · simp

@[simp] theorem Dev.writeWindow_steering (l : List MoveElem) : (d.writeWindow l).steering = d.steering := by
  unfold Dev.writeWindow
  refine (foldl_steering (fun d t => ?_) _ _).trans
    (foldl_steering (fun d m => foldl_steering (fun d q => d.setWinByte_steering _ _) _ d) l d)
  dsimp only
  split
  · rfl
  · exact d.setTile_steering _ _

@[simp] theorem Dev.writeElems_steering (l : List MoveElem) : (d.writeElems l).steering = d.steering := by
  unfold Dev.writeElems
  split
  · exact d.writeWindow_steering l
  · exact (foldl_steering (fun d m => d.wr_steering _ _ _) _ _).trans (d.clearCovered_steering _)

@[simp] theorem Dev.postElems_steering (l : List MoveElem) : (d.postElems l).steering = d.steering :=
  foldl_steering (fun d _ => d.post_steering _ _) l d
@[simp] theorem Dev.askRemote_steering (x : Nat) : (d.askRemote x).steering = d.steering :=
  foldl_steering (fun d _ => d.emit_steering _) (d.remoteReads x) d

@[simp] theorem Dev.fetched_steering (x : Nat) (r : RemoteReply) : (d.fetched x r).1.steering = d.steering := by
  unfold Dev.fetched Dev.serveSelf
  dsimp only
  split
  · split
    · rfl
    · exact foldl_steering (fun d _ => d.refuseRequest_steering) _ d
  · exact d.askRemote_steering x

end

end Sys2Proof.Machine
end

section
/-! PROOF. Compute leaves control alone, work by work (03, 04, 07, 09): the rule O17 and O22 rest on. -/

namespace Sys2Proof.Machine

/-! ## What all work is made of -/

section
variable (j : Job)

@[simp] theorem Job.flag_d (b : Nat) : (j.flag b).d = j.d := rfl
@[simp] theorem Job.flagIf_d (c : Bool) (b : Nat) : (j.flagIf c b).d = j.d := by unfold Job.flagIf; split <;> rfl
@[simp] theorem Job.raise_steering (c a b : Nat) : (j.raise c a b).d.steering = j.d.steering := by simp [Job.raise]
@[simp] theorem Job.raiseStep_steering (c a b s : Nat) : (j.raiseStep c a b s).d.steering = j.d.steering := by simp [Job.raiseStep]
@[simp] theorem Job.poisoned_steering (s m a : Nat) : (j.poisoned s m a).d.steering = j.d.steering := by simp [Job.poisoned]
@[simp] theorem Job.poisonedAt_steering (s a : Nat) : (j.poisonedAt s a).d.steering = j.d.steering := by simp [Job.poisonedAt]
@[simp] theorem Job.poisonedHost_steering (s a : Nat) : (j.poisonedHost s a).d.steering = j.d.steering := by simp [Job.poisonedHost]
@[simp] theorem Job.failRead_steering (s c : Nat) (bad : Option Nat) : (j.failRead s c bad).d.steering = j.d.steering := by
  cases bad <;> simp [Job.failRead]

@[simp] theorem Job.fixScale_steering (k : Nat) (vals : List Fp) : (j.fixScale k vals).1.d.steering = j.d.steering := by
  unfold Job.fixScale
  extract_lets v cur j₁ j₂ l r e c j₃
  have h₁ : j₁.d.steering = j.d.steering := by simp only [j₁]; split <;> simp
  have h₃ : j₃.d.steering = j.d.steering := by simp [j₃, j₂, h₁]
  split <;> simp [h₃]

@[simp] theorem Job.finishScale_steering (k sat : Nat) (vals : List Fp) : (j.finishScale k sat vals).d.steering = j.d.steering := by
  unfold Job.finishScale
  dsimp only
  split <;> simp

@[simp] theorem Job.produce_steering (k : Nat) (gb8 : Bool) (vals : List Fp) : (j.produce k gb8 vals).1.d.steering = j.d.steering := by
  simp [Job.produce]

/-! ## The array (03) -/

@[simp] theorem Job.drain_steering (x s t col0 : Nat) (masked : Nat → Nat → Bool) (poison : Bool) :
    (j.drain x s t col0 masked poison).d.steering = j.d.steering := by
  unfold Job.drain
  dsimp only
  generalize hj : (if outSize (arOutMode x) = 0 then j else _ : Job) = i
  have hi : i.d.steering = j.d.steering := by rw [← hj]; split <;> simp
  rw [← hi]
  split
  · exact foldl_steering (fun d p => d.wr_steering _ _ _) _ _
  · exact foldl_steering (fun d p => d.wr_steering _ _ _) _ _
  · exact (foldl_steering (fun d p => d.wr_steering _ _ _) _ _).trans (i.produce_steering _ _ _)
  · exact foldl_steering (fun d p => d.wr_steering _ _ _) _ _
  · rfl

@[simp] theorem Job.tileOp_steering (o : TileOp) (value : Nat → Nat → Fp → Fp) (masked : Nat → Nat → Bool) :
    (j.tileOp o value masked).d.steering = j.d.steering := by
  unfold Job.tileOp
  extract_lets _ ped _ full _ x dPed d₁ d₂ d lost last i
  have hped : dPed.steering = j.d.steering := foldl_steering (fun d p => d.putPedigree_steering _ _ _ _ _) _ _
  have h₁ : d₁.steering = j.d.steering := by
    simp only [d₁]
    split
    · rfl
    · exact j.d.dropFresh_steering o.tile
  have h₂ : d₂.steering = d₁.steering := by simp only [d₂]; split <;> simp
  have hd : d.steering = d₂.steering := foldl_steering (fun d p => d.putNative_steering _ _ _ _ _) _ _
  split
  · exact hped
  · have hi : i.d.steering = j.d.steering := by simp only [i, Job.flagIf_d, Dev.setTile_steering, hd, h₂, h₁]
    split <;> simp [hi]

@[simp] theorem Job.tap_steering (id x s : Nat) (m : Mask) (poison : Bool) (z : Nat → Nat → Fp) :
    (j.tap id x s m poison z).d.steering = j.d.steering := by
  unfold Job.tap; split <;> rfl

@[simp] theorem Job.addRefs_steering (ring slot n : Nat) : (j.addRefs ring slot n).d.steering = j.d.steering := by
  unfold Job.addRefs; dsimp only; split <;> simp
@[simp] theorem Job.takeVersion_steering (ring v ref s cring cindex : Nat) :
    (j.takeVersion ring v ref s cring cindex).d.steering = j.d.steering := by
  unfold Job.takeVersion
  dsimp only
  split
  · simp
  · split <;> simp
@[simp] theorem Job.weights_steering (e : Entry) : (j.weights e).d.steering = j.d.steering := by
  unfold Job.weights
  dsimp only
  split
  · rfl
  · split <;> simp

@[simp] theorem Job.arrayPoison_steering (s : Nat) (tiles : List Nat) (bad : Option Nat) :
    (j.arrayPoison s tiles bad).d.steering = j.d.steering := by
  cases bad with
  | none => rfl
  | some a =>
    exact (foldl_keeps (g := fun j : Job => j.d.steering) (f := fun j t => j.dev (fun d => d.tear t true))
      (fun j t => j.d.tear_steering t true) tiles _).trans (j.poisonedAt_steering s a)

@[simp] theorem Job.matmul_steering (e : Entry) (bad : Option Nat) : (j.matmul e bad).d.steering = j.d.steering := by simp [Job.matmul]
@[simp] theorem Job.twin_steering (e : Entry) (bad : Option Nat) : (j.twin e bad).d.steering = j.d.steering := by simp [Job.twin]

theorem Job.arrayRun_steering (e : Entry) (ecc : List EccHit) {f : Job → Option Nat → Job}
    (h : ∀ i bad, (f i bad).d.steering = i.d.steering) : (j.arrayRun e ecc f).d.steering = j.d.steering := by
  unfold Job.arrayRun
  extract_lets x torn i
  have hi : i.d.steering = j.d.steering := by simp [i]
  split
  · exact hi
  · split
    · rw [Job.poisonedAt_steering, hi]
    · split
      · rw [Job.failRead_steering, hi]
      · rw [h, hi]

theorem Dev.drainWork_steering (d : Dev) (x step : Nat) : (d.drainWork x step).d.steering = d.steering := by
  unfold Dev.drainWork
  split
  · simp
  · split <;> simp [Dev.drainOutput]

/-! ## The vector unit (04 R126-R129) -/

@[simp] theorem Job.storeGrid_steering (slot : Nat) (cells : List ((Nat × Nat) × Option Fp)) (poison : Bool) :
    (j.storeGrid slot cells poison).d.steering = j.d.steering := by
  unfold Job.storeGrid
  extract_lets v live
  split
  next i l hi =>
  have h : i.d.steering = j.d.steering := by
    split at hi
    · rw [← j.produce_steering _ _ _, hi]
    · cases hi; rfl
  exact ((foldl_steering (fun d q => d.setElem_steering _ _ _ _ _) _ _).trans
    (foldl_steering (fun d q => d.setElem_steering _ _ _ _ _) _ _)).trans h

@[simp] theorem Job.putD_steering (x : Nat) (cells : List ((Nat × Nat) × Option Fp)) (poison : Bool) :
    (j.putD x cells poison).d.steering = j.d.steering := by simp [Job.putD]

theorem Job.vectorRun_steering (e : Entry) (ecc : List EccHit) {f : Job → Bool → Job}
    (h : ∀ i bad, (f i bad).d.steering = i.d.steering) : (j.vectorRun e ecc f).d.steering = j.d.steering := by
  unfold Job.vectorRun
  extract_lets x i ctl bad k
  have hi : i.d.steering = j.d.steering := by simp [i]
  have hk : k.d.steering = j.d.steering := by simp [k, h, hi]
  split
  · rw [Job.failRead_steering, hi]
  · split
    · rw [Job.failRead_steering, hi]
    · cases bad with
      | some a => rw [Job.poisonedAt_steering, hk]
      | none => exact hk

@[simp] theorem Job.lossStatsJob_steering (x : Nat) (bad : Bool) : (j.lossStatsJob x bad).d.steering = j.d.steering := by
  unfold Job.lossStatsJob
  rw [Job.result_d, Job.dev_d]
  exact foldl_steering (fun d r => by rw [Dev.setElem_steering, Dev.setElem_steering]) _ _

@[simp] theorem Job.lossSeedJob_steering (x : Nat) (bad : Bool) : (j.lossSeedJob x bad).d.steering = j.d.steering := by
  unfold Job.lossSeedJob
  extract_lets i d k m z mem lab tri hit t rows l
  have hi : i.d.steering = j.d.steering := by rw [Job.dev_d, Dev.latchL_steering]
  have hl : l.d.steering = j.d.steering := by rw [Job.putD_steering, hi]
  clear_value l
  rw [Job.dev_d, ← hl]
  refine foldl_steering (fun d r => ?_) _ _
  split
  · exact d.setElem_steering _ _ _ _ _
  · rfl

@[simp] theorem Job.convert0_steering (x : Nat) (bad : Bool) : (j.convert0 x bad).d.steering = j.d.steering := by
  unfold Job.convert0
  dsimp only
  split
  · exact foldl_steering (fun d p => d.setElem_steering _ _ _ _ _) _ _
  · simp

@[simp] theorem Job.convertMaster_steering (x : Nat) (bad : Bool) : (j.convertMaster x bad).d.steering = j.d.steering := by
  unfold Job.convertMaster
  dsimp only
  refine foldl_steering (fun d p => ?_) _ _
  split <;> simp

end

end Sys2Proof.Machine
end

section
/-! PROOF. Moves, the Retriever and the solvers leave control alone too (07, 09). -/

namespace Sys2Proof.Machine

section
variable (j : Job)

/-! ## Moves (04 R131) -/

@[simp] theorem Job.movePatterns_steering (x : Nat) (raw : List Nat) : (j.movePatterns x raw).1.d.steering = j.d.steering := by
  unfold Job.movePatterns
  dsimp only
  split
  · rfl
  · split
    · exact j.produce_steering _ _ _
    · rfl

@[simp] theorem Job.sniff_steering (on : Bool) (u id : Nat) (l : List (Byte × Bool)) : (j.sniff on u id l).d.steering = j.d.steering := by
  unfold Job.sniff
  split
  · exact j.d.snBegin_steering u id l
  · rfl

theorem Job.moveOut_steering (e : Entry) (l : List MoveElem) {put : Dev → List MoveElem → Dev}
    (h : ∀ d l, (put d l).steering = d.steering) : (j.moveOut e l put).d.steering = j.d.steering := by
  unfold Job.moveOut
  dsimp only
  rw [Job.result_d, Job.sniff_steering, Job.dev_d, h]

theorem Job.moveRun_steering (e : Entry) (dst : View) (raw : Nat × Nat → Nat) (bad : Nat × Nat → Bool) {put : Dev → List MoveElem → Dev}
    (h : ∀ d l, (put d l).steering = d.steering) : (j.moveRun e dst raw bad put).d.steering = j.d.steering := by
  unfold Job.moveRun
  extract_lets x ctl
  split
  · exact j.failRead_steering _ _ _
  · have hi := fun l => (Job.moveOut_steering (j.movePatterns x ((grid (mvRows x) (mvCols x)).map raw)).1 e l h).trans
      (j.movePatterns_steering _ _)
    cases ctl with
    | some a => exact (Job.poisonedAt_steering _ _ _).trans (hi _)
    | none => exact hi _

@[simp] theorem Job.endLocal_steering (e : Entry) (v : View) (bad : Nat × Nat → Bool) : (j.endLocal e v bad).d.steering = j.d.steering := by
  unfold Job.endLocal
  split
  · rfl
  · split
    · exact j.poisonedAt_steering _ _
    · rfl

/-! ## The Retriever (09) -/

@[simp] theorem Job.retrCount_steering (x : Nat) : (j.retrCount x).d.steering = j.d.steering := rfl

@[simp] theorem Job.retrIn_steering (e : Entry) (r : RemoteReply) : (j.retrIn e r).d.steering = j.d.steering := by
  have h := fun l => j.moveOut_steering e l Dev.writeElems_steering
  unfold Job.retrIn
  dsimp only
  split
  · rw [Job.poisonedAt_steering, Job.retrCount_steering, h]
  · rw [Job.retrCount_steering, h]

@[simp] theorem Job.retrJunk_steering (e : Entry) : (j.retrJunk e).d.steering = j.d.steering := by
  unfold Job.retrJunk
  dsimp only
  rw [Job.retrCount_steering, Job.sniff_steering, Job.dev_d, Dev.withDraws_steering, Dev.writeElems_steering]

@[simp] theorem Job.refetch_steering (e : Entry) (r : RemoteReply) : (j.refetch e r).d.steering = j.d.steering := by
  unfold Job.refetch
  dsimp only
  have hk : (j.dev (fun _ => (j.d.fetched e.desc r).1.addSat 0x50A0 8 32 1)).d.steering = j.d.steering := by
    rw [Job.dev_d, Dev.addSat_steering, Dev.fetched_steering]
  generalize j.dev (fun _ => (j.d.fetched e.desc r).1.addSat 0x50A0 8 32 1) = k at hk ⊢
  split
  · rw [Job.fail_d, hk]
  · split
    · rw [Job.retrIn_steering, hk]
    · split
      · rw [Job.raise_steering, Job.flag_d, Job.retrIn_steering, hk]
      · rw [Job.fail_d, Job.raise_steering, Job.retrJunk_steering, hk]

@[simp] theorem Job.retrLocal_steering (e : Entry) : (j.retrLocal e).d.steering = j.d.steering := by
  unfold Job.retrLocal
  dsimp only
  rw [Job.endLocal_steering, Job.retrCount_steering, Job.moveOut_steering j e _ Dev.writeElems_steering]

/-! ## The solvers (07) -/

@[simp] theorem Job.ceStop_d (code r : Nat) : (j.ceStop code r).d = j.d := by
  rw [Job.ceStop, Job.result_d, Job.fail_d]
@[simp] theorem Job.ceEvent_steering (q : Bool) (c a b : Nat) : (j.ceEvent q c a b).d.steering = j.d.steering := by
  unfold Job.ceEvent; split <;> simp
@[simp] theorem Job.ceSat_steering (q s : Bool) : (j.ceSat q s).d.steering = j.d.steering := by
  unfold Job.ceSat; split <;> simp
@[simp] theorem Job.ceClamp_steering (q : Bool) (pl : Plan) : (j.ceClamp q pl).d.steering = j.d.steering := by
  unfold Job.ceClamp; split <;> simp
@[simp] theorem Job.cePivots_steering (f : Factor) : (j.cePivots f).d.steering = j.d.steering := by
  unfold Job.cePivots; split <;> simp

@[simp] theorem Job.useScratch_steering (x : Nat) : (j.useScratch x).d.steering = j.d.steering := by
  unfold Job.useScratch
  dsimp only
  rw [Job.dev_d, Dev.withDraws_steering, Dev.wr_steering]

@[simp] theorem Job.ceLate_steering (x len bound damped first : Nat) (sat : Bool) :
    (j.ceLate x len bound damped first sat).d.steering = j.d.steering := by
  unfold Job.ceLate
  dsimp only
  rw [Job.result_d, Job.fail_d, Job.ceSat_steering, Job.dev_d, Dev.addSat_steering, Job.flagIf_d, Job.dev_d, Dev.withDraws_steering,
    Dev.wr_steering]

@[simp] theorem Job.ceWrite_steering (x : Nat) (w : Bool) (l : List Byte) : (j.ceWrite x w l).d.steering = j.d.steering := by
  unfold Job.ceWrite
  dsimp only
  rw [Job.dev_d, Dev.withDraws_steering, Dev.wr_steering]

@[simp] theorem Job.ceStore_steering (x : Nat) (w : Bool) (a : Mat) (e : Int) (m i r : Nat) :
    (j.ceStore x w a e m i r).d.steering = j.d.steering := by
  unfold Job.ceStore
  split
  · rfl
  · dsimp only
    rw [Job.dev_d, Dev.withDraws_steering, Dev.storeRoot_steering]

theorem Job.ceRun_steering (e : Entry) (ecc : List EccHit) (fin : Dev → Bool) {f : Job → Job} (h : ∀ i, (f i).d.steering = i.d.steering) :
    (j.ceRun e ecc fin f).d.steering = j.d.steering := by
  unfold Job.ceRun
  extract_lets x i
  have hi : i.d.steering = j.d.steering := by rw [Job.dev_d, Dev.addWrap_steering, Dev.eccRead_steering]
  split
  · rw [Job.ceStop_d, hi]
  · split
    · rw [Job.ceStop_d, hi]
    · rw [h, hi]

theorem Job.cePlan_steering (e : Entry) (ecc : List EccHit) (sat : Bool) (pl : Option Plan) {f : Job → Plan → Job}
    (h : ∀ i pl, (f i pl).d.steering = i.d.steering) : (j.cePlan e ecc sat pl f).d.steering = j.d.steering := by
  unfold Job.cePlan
  extract_lets x c
  split
  · rw [Job.ceStop_d, Job.ceSat_steering]
  next pl =>
  extract_lets warm quiet i
  have hi : i.d.steering = j.d.steering := by rw [Job.ceClamp_steering, Job.ceSat_steering]
  clear_value i
  split
  · rw [Job.ceStop_d, hi]
  · split
    · rw [Job.ceStop_d, hi]
    · rw [h, hi]

@[simp] theorem Job.ceRootRun_steering (e : Entry) (ecc : List EccHit) (pl : Plan) : (j.ceRootRun e ecc pl).d.steering = j.d.steering := by
  unfold Job.ceRootRun
  extract_lets x n frac a i start f
  clear_value start
  split
  next k x0 m0 hk =>
  have h : k.d.steering = j.d.steering := by
    split at hk <;> cases hk
    · split <;> rfl
    · rfl
  extract_lets r late wild k' rPat k₁ k₂
  have h' : k'.d.steering = j.d.steering := by rw [Job.useScratch_steering, h]
  split
  · rw [Job.ceLate_steering, h']
  · have h₂ : k₂.d.steering = j.d.steering := by rw [Job.result_d, Job.ceWrite_steering, Job.ceSat_steering, h']
    split
    · rw [Job.fail_d, h₂]
    · rw [Job.ceStore_steering, h₂]

@[simp] theorem Job.ceCholRun_steering (e : Entry) (ecc : List EccHit) (pl : Plan) : (j.ceCholRun e ecc pl).d.steering = j.d.steering := by
  unfold Job.ceCholRun
  extract_lets x n frac fu a f late wild i us u inv prod r sat rPat k
  have hi : i.d.steering = j.d.steering := j.useScratch_steering x
  have hk : k.d.steering = j.d.steering := by
    rw [Job.result_d, Job.ceWrite_steering, Job.ceSat_steering, Job.cePivots_steering, hi]
  clear_value i k
  split
  · split
    · rw [Job.ceLate_steering, hi]
    · rw [Job.result_d, Job.fail_d, Job.ceWrite_steering, Job.ceSat_steering, Job.cePivots_steering, hi]
  · split
    · rw [Job.ceLate_steering, hi]
    · rw [Job.ceStore_steering, hk]

@[simp] theorem Job.ceLsqRun_steering (e : Entry) (ecc : List EccHit) (l : Lsq) (pl : Plan) :
    (j.ceLsqRun e ecc l pl).d.steering = j.d.steering := by
  unfold Job.ceLsqRun
  extract_lets x n frac hh gs gh f late wild i sat
  have hi : i.d.steering = j.d.steering := j.useScratch_steering x
  clear_value i
  split
  · split
    · rw [Job.ceLate_steering, hi]
    · rw [Job.result_d, Job.fail_d, Job.ceWrite_steering, Job.ceSat_steering, Job.cePivots_steering, hi]
  · split
    · rw [Job.ceLate_steering, hi]
    · rw [Job.result_d, Job.ceWrite_steering, Job.ceSat_steering, Job.cePivots_steering, hi]

end

end Sys2Proof.Machine
end

section
/-! PROOF. What every command that runs a descriptor does: O17, O22. -/

namespace Sys2Proof.Machine

/-! ## The three ways to start a descriptor -/

/-- How a descriptor of opcode `op` starts: a move behind its Sniffer unit (13 R405), a Retriever request behind its route too (11 R349). -/
def Dev.begins (d : Dev) (id op : Nat) (f : Dev → Entry → Job) : Dev :=
  if op = 0x34 ∨ op = 0x36 ∨ op = 0x37 then d.startRetr id op f
  else if opClass op = 3 then d.startMove id op f else d.startWith id op f

/-- Work of class below 7 leaves control to others. -/
def Steers (op : Nat) (f : Dev → Entry → Job) : Prop := op < 0x70 → ∀ d e, (f d e).d.steering = d.steering

/-- A command does its own work on the descriptor it starts. -/
def Works (c : Instr) (id op : Nat) : Prop := ∃ f, Steers op f ∧ ∀ s, exec c s = run s (fun _ d => d.begins id op f)

section
variable {c : Instr} {id op : Nat} {f : Dev → Entry → Job}

theorem Dev.begins_with (h : opClass op ≠ 3) (d : Dev) : d.begins id op f = d.startWith id op f := by
  rw [Dev.begins, if_neg, if_neg h]
  rintro (rfl | rfl | rfl) <;> exact h rfl

theorem Dev.begins_move (h : opClass op = 3) (hr : ¬ (op = 0x34 ∨ op = 0x36 ∨ op = 0x37)) (d : Dev) :
    d.begins id op f = d.startMove id op f := by
  rw [Dev.begins, if_neg hr, if_pos h]

theorem Dev.begins_retr (hr : op = 0x34 ∨ op = 0x36 ∨ op = 0x37) (d : Dev) : d.begins id op f = d.startRetr id op f := by
  rw [Dev.begins, if_pos hr]

theorem Works.of_with (h : opClass op ≠ 3) (hx : ∀ s, exec c s = run s (fun _ d => d.startWith id op f)) (hf : Steers op f) :
    Works c id op := ⟨f, hf, fun s => by simp only [Dev.begins_with h, hx]⟩

theorem Works.of_move (h : opClass op = 3) (hr : ¬ (op = 0x34 ∨ op = 0x36 ∨ op = 0x37))
    (hx : ∀ s, exec c s = run s (fun _ d => d.startMove id op f)) (hf : Steers op f) : Works c id op :=
  ⟨f, hf, fun s => by simp only [Dev.begins_move h hr, hx]⟩

theorem Works.of_retr (hr : op = 0x34 ∨ op = 0x36 ∨ op = 0x37) (hx : ∀ s, exec c s = run s (fun _ d => d.startRetr id op f))
    (hf : Steers op f) : Works c id op := ⟨f, hf, fun s => by simp only [Dev.begins_retr hr, hx]⟩

end

/-! ## The work of each command -/

theorem Dev.accRead_steering (d : Dev) (x : Nat) (ecc : List EccHit) : (d.eccRead (d.accReads x) ecc).steering = d.steering :=
  d.eccRead_steering _ _

theorem works_arrayDrain (id : Nat) (ecc : List EccHit) : Works (.arrayDrain id ecc) id 0x12 :=
  .of_with (by decide) (fun s => rfl) (fun _ d e => (Dev.drainWork_steering _ e.desc e.step).trans (d.accRead_steering _ ecc))

theorem works_vecReduce (id : Nat) (ecc : List EccHit) : Works (.vecReduce id ecc) id 0x24 := by
  refine .of_with (by decide) (fun s => rfl) (fun _ d e => Job.vectorRun_steering _ _ _ fun i bad => ?_)
  rw [Job.result_d, Job.dev_d]
  exact foldl_steering (fun d q => d.setElem_steering _ _ _ _ _) _ _

theorem works_vecLoss (id : Nat) (ecc : List EccHit) : Works (.vecLoss id ecc) id 0x23 := by
  refine .of_with (by decide) (fun s => rfl) (fun _ d e => Job.vectorRun_steering _ _ _ fun i bad => ?_)
  split
  · exact i.lossStatsJob_steering _ _
  · exact i.lossSeedJob_steering _ _

theorem works_vecConvert (id : Nat) (ecc : List EccHit) : Works (.vecConvert id ecc) id 0x25 := by
  refine .of_with (by decide) (fun s => rfl) (fun _ d e => Job.vectorRun_steering _ _ _ fun i bad => ?_)
  split
  · exact i.convert0_steering _ _
  · exact i.convertMaster_steering _ _

theorem works_moveCopy (id : Nat) (ecc : List EccHit) : Works (.moveCopy id ecc) id 0x30 :=
  .of_move rfl (by decide) (fun s => rfl) (fun _ d e => (Job.endLocal_steering _ _ _ _).trans
    ((Job.moveRun_steering _ _ _ _ _ Dev.writeElems_steering).trans (d.accRead_steering _ ecc)))

theorem works_moveFromHost (id : Nat) (host : HostReply) (ecc : List EccHit) : Works (.moveFromHost id host ecc) id 0x31 := by
  refine .of_move rfl (by decide) (fun s => rfl) (fun _ d e => ?_)
  have h := fun dst raw bad => (Job.moveRun_steering (Job.start (d.eccRead (d.accReads e.desc) ecc)) e dst raw bad
    Dev.writeElems_steering).trans (d.accRead_steering _ ecc)
  dsimp only
  split
  · split
    · rw [Job.poisonedHost_steering, h]
    · rw [h]
  · rw [h]

theorem works_moveToHost (id : Nat) (ecc : List EccHit) : Works (.moveToHost id ecc) id 0x32 :=
  .of_move rfl (by decide) (fun s => rfl) (fun _ d e => (Job.endLocal_steering _ _ _ _).trans
    ((Job.moveRun_steering _ _ _ _ _ Dev.postElems_steering).trans (d.accRead_steering _ ecc)))

theorem works_moveFill (id : Nat) : Works (.moveFill id) id 0x33 :=
  .of_move rfl (by decide) (fun s => rfl) (fun _ d e => Job.moveOut_steering _ _ _ Dev.writeElems_steering)

theorem works_retrieveFetch (id : Nat) (first second : RemoteReply) : Works (.retrieveFetch id first second) id 0x34 := by
  refine .of_retr (by decide) (fun s => rfl) (fun _ d e => ?_)
  have h : (Job.start (d.fetched e.desc first).1).d.steering = d.steering := d.fetched_steering _ _
  dsimp only
  generalize Job.start (d.fetched e.desc first).1 = i at h ⊢
  split
  · rw [Job.fail_d, h]
  · split
    · rw [Job.retrIn_steering, h]
    · split
      · rw [Job.retrIn_steering, h]
      · rw [Job.refetch_steering, h]

theorem works_retrievePrefetch (id : Nat) (ecc : List EccHit) : Works (.retrievePrefetch id ecc) id 0x35 := by
  refine .of_move rfl (by decide) (fun s => rfl) (fun _ d e => ?_)
  have h := (Job.retrLocal_steering (Job.start (d.eccRead (d.accReads e.desc) ecc)) e).trans (d.accRead_steering _ ecc)
  dsimp only
  split
  · rw [Job.dev_d, Dev.setReady_steering, h]
  · rw [h]

theorem works_retrieveOffload (id : Nat) (remote : RemoteReply) (ecc : List EccHit) : Works (.retrieveOffload id remote ecc) id 0x36 := by
  refine .of_retr (by decide) (fun s => rfl) (fun _ d e => ?_)
  have h : (Job.start (d.eccRead (d.accReads e.desc) ecc)).d.steering = d.steering := d.accRead_steering _ ecc
  dsimp only
  generalize Job.start (d.eccRead (d.accReads e.desc) ecc) = i at h ⊢
  have hs := fun l => Job.moveOut_steering i e l (put := fun d l => (gather l).foldl (fun d m =>
    d.emit (.retrieverRequest (mvRemote e.desc) (retrTc e.desc) true m.dst m.bytes m.bytes.length m.poison false)) d)
    (fun d l => foldl_steering (fun d m => d.emit_steering _) _ d)
  split
  · rw [Job.retrLocal_steering, h]
  · split
    · rw [Job.fail_d, hs, h]
    · rw [Job.endLocal_steering, Job.retrCount_steering, hs, h]

theorem works_retrieveRestore (id : Nat) (remote : RemoteReply) (ecc : List EccHit) : Works (.retrieveRestore id remote ecc) id 0x37 := by
  refine .of_retr (by decide) (fun s => rfl) (fun _ d e => ?_)
  have h : (Job.start (d.eccRead (d.accReads e.desc) ecc)).d.steering = d.steering := d.accRead_steering _ ecc
  dsimp only
  generalize Job.start (d.eccRead (d.accReads e.desc) ecc) = i at h ⊢
  have ha : (i.dev (fun d => d.askRemote e.desc)).d.steering = d.steering := (i.d.askRemote_steering _).trans h
  split
  · rw [Job.retrLocal_steering, h]
  · split
    · rw [Job.fail_d, ha]
    · rw [Job.retrIn_steering, ha]

/-- A synchronisation command is of a class that may change control. -/
theorem Steers.sync {op : Nat} {f : Dev → Entry → Job} (h : 0x70 ≤ op) : Steers op f := fun hl => absurd hl (by omega)

/-- Every command that runs a descriptor does its own work on it. -/
theorem works_of_startedBy {c : Instr} {id op : Nat} (h : startedBy c = some (id, op)) : Works c id op := by
  unfold startedBy at h
  split at h <;> cases h
  case h_1 => exact .of_with (by decide) (fun s => rfl) (fun _ d e => Job.arrayRun_steering _ _ _ fun i bad => i.matmul_steering _ _)
  case h_2 => exact .of_with (by decide) (fun s => rfl) (fun _ d e => Job.arrayRun_steering _ _ _ fun i bad => i.twin_steering _ _)
  case h_3 => exact works_arrayDrain _ _
  case h_4 => exact .of_with (by decide) (fun s => rfl) (fun _ d e => Job.vectorRun_steering _ _ _ fun i bad => i.putD_steering _ _ _)
  case h_5 => exact .of_with (by decide) (fun s => rfl) (fun _ d e => Job.vectorRun_steering _ _ _ fun i bad => i.putD_steering _ _ _)
  case h_6 => exact .of_with (by decide) (fun s => rfl) (fun _ d e => Job.vectorRun_steering _ _ _ fun i bad => i.putD_steering _ _ _)
  case h_7 => exact works_vecLoss _ _
  case h_8 => exact works_vecReduce _ _
  case h_9 => exact works_vecConvert _ _
  case h_10 => exact works_moveCopy _ _
  case h_11 => exact works_moveFromHost _ _ _
  case h_12 => exact works_moveToHost _ _
  case h_13 => exact works_moveFill _
  case h_14 => exact works_retrieveFetch _ _ _
  case h_15 => exact works_retrievePrefetch _ _
  case h_16 => exact works_retrieveOffload _ _ _
  case h_17 => exact works_retrieveRestore _ _ _
  case h_18 => exact .of_with (by decide) (fun s => rfl) (fun _ d e => Job.ceRun_steering _ _ _ _ fun i =>
    Job.cePlan_steering _ _ _ _ _ fun j pl => j.ceRootRun_steering _ _ _)
  case h_19 => exact .of_with (by decide) (fun s => rfl) (fun _ d e => Job.ceRun_steering _ _ _ _ fun i =>
    Job.cePlan_steering _ _ _ _ _ fun j pl => j.ceCholRun_steering _ _ _)
  case h_20 => exact .of_with (by decide) (fun s => rfl) (fun _ d e => Job.ceRun_steering _ _ _ _ fun i =>
    Job.cePlan_steering _ _ _ _ _ fun j pl => j.ceLsqRun_steering _ _ _ _)
  all_goals exact .of_with (by decide) (fun s => rfl) (.sync (by decide))

/-! ## O22 -/

section
variable (d : Dev) (id op : Nat) {f : Dev → Entry → Job} (h : ∀ d e, (f d e).d.steering = d.steering)
include h

theorem Dev.startWith_steering : (d.startWith id op f).steering = d.steering := by
  unfold Dev.startWith
  split
  · rfl
  next e he =>
  split
  · rfl
  · extract_lets d' j
    have hj : j.d.steering = d.steering := (h _ _).trans (d.markStarted_steering e)
    unfold Dev.finish
    split
    · exact hj
    · exact hj

theorem Dev.startMove_steering : (d.startMove id op f).steering = d.steering := by
  unfold Dev.startMove
  split
  · rfl
  · split
    · exact d.startWith_steering id op h
    · rfl

theorem Dev.startRetr_steering : (d.startRetr id op f).steering = d.steering := by
  unfold Dev.startRetr
  split
  · rfl
  · split
    · exact d.startMove_steering id op h
    · exact foldl_steering (fun d n => d.dropMessage_steering n) _ _

theorem Dev.begins_steering : (d.begins id op f).steering = d.steering := by
  unfold Dev.begins
  split
  · exact d.startRetr_steering id op h
  · split
    · exact d.startMove_steering id op h
    · exact d.startWith_steering id op h

end

/-- Settles O22: the work of each command keeps the control state (`works_of_startedBy`), and starting and ending a descriptor does too. -/
theorem computeLeavesControlAlone : Obligations.ComputeLeavesControlAlone := by
  unfold Obligations.ComputeLeavesControlAlone
  intro c id op s t hc hop ht
  obtain ⟨f, hf, hx⟩ := works_of_startedBy hc
  rw [hx, run] at ht
  cases ht
  simpa only [Dev.steering, Prod.mk.injEq, and_assoc] using s.dev.begins_steering id op (hf hop)

/-! ## O17 -/

/-- Where the Sniffer unit is free and the route stands, a descriptor starts as any other. -/
theorem Dev.begins_eq {d : Dev} {id op : Nat} {e : Entry} (f : Dev → Entry → Job) (he : d.entry id = some e)
    (hs : opClass op = 3 → d.snFree (mvSniffEn e.desc) (mvSniffUnit e.desc) = true)
    (hr : op = 0x34 ∨ op = 0x36 ∨ op = 0x37 → d.reaches (mvRemote e.desc) = true) : d.begins id op f = d.startWith id op f := by
  have hm (h3 : opClass op = 3) : d.startMove id op f = d.startWith id op f := by
    rw [Dev.startMove, he]
    exact if_pos (hs h3)
  unfold Dev.begins
  split
  next h =>
    have h3 : opClass op = 3 := by obtain rfl | rfl | rfl := h <;> rfl
    rw [Dev.startRetr, he]
    simp only [hr h, Bool.true_or, if_true]
    exact hm h3
  · split
    next h3 => exact hm h3
    · rfl

/-- Without a route, the requests of a Retriever descriptor are dropped (11 R349). -/
theorem Dev.begins_unrouted {d : Dev} {id op : Nat} {e : Entry} (f : Dev → Entry → Job) (he : d.entry id = some e)
    (hop : op = 0x34 ∨ op = 0x36 ∨ op = 0x37) (ho : hdOpcode e.desc = op) (hm : d.mayStart e = true)
    (hs : d.snFree (mvSniffEn e.desc) (mvSniffUnit e.desc) = true) (hr : d.reaches (mvRemote e.desc) = false) :
    d.begins id op f = (d.messages e.desc).foldl (fun d n => d.dropMessage n) (d.markStarted e) := by
  rw [Dev.begins_retr hop, Dev.startRetr, he]
  simp only [hr, ho, hm, hs, bne_self_eq_false, Bool.not_true, Bool.or_self, Bool.false_eq_true, if_false]

/-- A fold of dropped messages keeps what one dropped message keeps. -/
theorem Dev.dropMessages_keep {β : Type} (g : Dev → β) (h : ∀ d n, g (d.dropMessage n) = g d) (l : List Nat) (d : Dev) :
    g (l.foldl (fun d n => d.dropMessage n) d) = g d := foldl_keeps h l d

theorem Dev.worked_entry {d : Dev} {e : Entry} (he : d.entry e.id = some e) (pin : Bool) (j : Job) :
    (d.worked e pin j).entry e.id = some { d.startedEntry e with pinned := pin, done := some j.done } :=
  findEntry_with _ _ _ rfl (Option.isSome_of_eq_some he)

theorem Dev.worked_entry_ne (d : Dev) (e : Entry) (pin : Bool) (j : Job) {k : Nat} (hk : k ≠ e.id) :
    (d.worked e pin j).entry k = d.entry k := findEntry_with_ne _ _ _ _ rfl hk

/-- Settles O17: a routed command is `Starts.effect` with its own work; an unrouted one marks its entry and drops its messages. -/
theorem startedDescriptorsEnd : Obligations.StartedDescriptorsEnd := by
  unfold Obligations.StartedDescriptorsEnd
  refine ⟨fun c s e h => ?_, fun c id op s e hc hop he ho hm hs hr => ?_⟩
  · obtain ⟨id, op, hb, he, ho, hm, hs, hr⟩ := id h
    obtain rfl := Dev.entry_id he
    obtain ⟨f, -, hx⟩ := works_of_startedBy hb
    obtain ⟨pin, ht⟩ := h.effect hb (by rw [hx, run, run, Dev.begins_eq f he hs hr])
    exact ⟨_, pin, _, ht.answers, rfl, Dev.worked_entry he pin _, fun k hk => Dev.worked_entry_ne _ _ _ _ hk⟩
  · obtain rfl := Dev.entry_id he
    obtain ⟨f, -, hx⟩ := works_of_startedBy hc
    have ht : Effect c s ((s.dev.messages e.desc).foldl (fun d n => d.dropMessage n) (s.dev.markStarted e)) := by
      rw [Effect, hx, run, Dev.begins_unrouted f he hop ho hm hs hr]
    refine ⟨_, ht.answers, ?_, ?_, ?_, fun i k hk => ?_⟩
    · exact Dev.dropMessages_keep (fun d => d.disp.board) (fun _ _ => rfl) _ _
    · exact Dev.dropMessages_keep Dev.mem (fun _ _ => rfl) _ _
    · exact Dev.dropMessages_keep Dev.out (fun _ _ => rfl) _ _
    · exact Dev.dropMessages_keep (fun d => d.get i k) (fun d n => d.addSat_get_ne _ _ _ _ _ _ hk) _ _

end Sys2Proof.Machine
end

section
/-! PROOF. How vector operations end (04 R106, R126-R129, R593): O25. -/

namespace Sys2Proof.Machine

/-! ## The mask of an operation (04 R141, R142) -/

theorem Mem.read_of_cells {m m' : Mem} (h : m.cells = m'.cells) (a n : Nat) : m.read a n = m'.read a n := by
  induction n generalizing a with
  | zero => rfl
  | succ n ih => rw [Mem.read, Mem.read, ih, Mem.byte, Mem.byte, h]

/-- A mask depends on the bytes of memory alone, not on their marks. -/
theorem Dev.veMask_of_cells {a b : Dev} (h : a.mem.cells = b.mem.cells) (x : Nat) : a.veMask x = b.veMask x := by
  have hn : a.num = b.num := by
    funext k n
    exact congrArg ofBytes (Mem.read_of_cells h k n)
  simp only [Dev.veMask, Dev.mask, Dev.seqTable, hn]

@[simp] theorem Dev.clearCovered_veMask (d : Dev) (l : List Ext) (x : Nat) : (d.clearCovered l).veMask x = d.veMask x :=
  Dev.veMask_of_cells (foldl_keeps (g := fun d : Dev => d.mem.cells) (fun d u => by split <;> rfl) _ d) x

@[simp] theorem Dev.latchL_veMask (d : Dev) (x : Nat) : d.latchL.veMask x = d.veMask x :=
  Dev.veMask_of_cells (by unfold Dev.latchL; split <;> rfl) x

/-! ## What a job reports -/

@[simp] theorem Job.fail_result (j : Job) (c : Nat) : (j.fail c).done.result = j.done.result := by unfold Job.fail; split <;> rfl
@[simp] theorem Job.dev_result (j : Job) (f : Dev → Dev) : (j.dev f).done.result = j.done.result := by cases j; rfl
@[simp] theorem Job.noteEvent_result (j : Job) (c : Nat) : (j.noteEvent c).done.result = j.done.result := by
  unfold Job.noteEvent; generalize pickEvent j.done.event c = v; rfl
@[simp] theorem Job.poisoned_result (j : Job) (s m a : Nat) : (j.poisoned s m a).done.result = j.done.result := by
  simp [Job.poisoned, Job.raiseStep]
@[simp] theorem Job.poisonedAt_result (j : Job) (s a : Nat) : (j.poisonedAt s a).done.result = j.done.result := j.poisoned_result _ _ _

@[simp] theorem Job.produce_code (j : Job) (k : Nat) (gb8 : Bool) (vals : List Fp) :
    (j.produce k gb8 vals).1.done.code = j.done.code := by
  obtain ⟨-, hc, -⟩ := Job.standing_eq_iff.1 (j.produce_standing k gb8 vals)
  exact hc

@[simp] theorem Job.storeGrid_code (j : Job) (slot : Nat) (cells : List ((Nat × Nat) × Option Fp)) (poison : Bool) :
    (j.storeGrid slot cells poison).done.code = j.done.code := by
  unfold Job.storeGrid
  extract_lets v live
  split
  next i l hi =>
  rw [Job.dev_code]
  split at hi
  · rw [← j.produce_code (slScale slot) (v.fmt == .gb8) (live.map (fun q => q.2.getD fp0)), hi]
  · cases hi; rfl

theorem Dev.liveCount_cells (d : Dev) (x : Nat) (f : Nat → Nat → Fp) :
    liveCount (d.cells x f) = ((grid (veRows x) (veCols x)).filter (fun p => !(d.veMask x).out p.1 p.2)).length := by
  simp only [liveCount, Dev.cells, List.filter_map, List.length_map]
  refine congrArg (fun q => (List.filter q _).length) (funext fun p => ?_)
  dsimp only [Function.comp]
  split <;> simp [*]

@[simp] theorem Job.putD_code (j : Job) (x : Nat) (cells : List ((Nat × Nat) × Option Fp)) (poison : Bool) :
    (j.putD x cells poison).done.code = j.done.code := by rw [Job.putD, Job.result_code, Job.storeGrid_code]

/-! ## The work of each vector operation -/

/-- What an operation of opcode `op` reports under a mask: the results of VEC_REDUCE, the pairs of STATS, and else the unmasked positions
(04 R106, R593). -/
def vecReported (op x : Nat) (m : Mask) : Nat :=
  if op = 0x24 then (reduceSets x).length
  else if op = 0x23 ∧ veFunc x = 0 then ((below (veRows x)).filter (fun r => !m.padRow r)).length
  else ((grid (veRows x) (veCols x)).filter (fun p => !m.out p.1 p.2)).length

/-- A vector work fixes no code, and reports by its mask. -/
structure VectorWork (op x : Nat) (f : Job → Bool → Job) : Prop where
  code : ∀ j bad, (f j bad).done.code = j.done.code
  reports : ∀ j bad, (f j bad).done.result = vecReported op x (j.d.veMask x)

/-- Work that stores a value at each unmasked position of D. -/
theorem VectorWork.of_putD {op x : Nat} {f : Job → Bool → Job} (v : Job → Nat → Nat → Fp) (hr : op ≠ 0x24) (hs : op ≠ 0x23)
    (hf : ∀ j bad, f j bad = j.putD x (j.d.cells x (v j)) bad) : VectorWork op x f where
  code j bad := by rw [hf, Job.putD_code]
  reports j bad := by
    rw [hf, vecReported, if_neg hr, if_neg (fun h => hs h.1), ← j.d.liveCount_cells x (v j)]
    rfl

theorem vectorWork_loss (x : Nat) : VectorWork 0x23 x (fun j bad => if veFunc x = 0 then j.lossStatsJob x bad else j.lossSeedJob x bad) where
  code j bad := by
    split
    · rw [Job.lossStatsJob, Job.result_code, Job.dev_code]
    · rw [Job.lossSeedJob, Job.dev_code, Job.putD_code, Job.dev_code]
  reports j bad := by
    split
    next h => rw [vecReported, if_neg (by decide), if_pos ⟨rfl, h⟩]; rfl
    next h =>
      rw [vecReported, if_neg (by decide), if_neg (fun q => h q.2), Job.lossSeedJob, Job.dev_result, Job.putD, Job.result_result,
        Dev.liveCount_cells, Job.dev_d, Dev.latchL_veMask]

theorem vectorWork_reduce (x : Nat) (v : Job → Bool → Dev → Dev) :
    VectorWork 0x24 x (fun j bad => (j.dev (v j bad)).result (reduceSets x).length) where
  code j bad := by rw [Job.result_code, Job.dev_code]
  reports j bad := by rw [vecReported, if_pos rfl, Job.result_result]

theorem vectorWork_convert (x : Nat) :
    VectorWork 0x25 x (fun j bad => if veFunc x = 0 then j.convert0 x bad else j.convertMaster x bad) where
  code j bad := by
    split
    · unfold Job.convert0
      extract_lets d a b mem m g
      split
      · rw [Job.result_code, Job.dev_code]
      · rw [Job.putD_code]
    · unfold Job.convertMaster
      rw [Job.result_code, Job.dev_code]
  reports j bad := by
    have hr : vecReported 0x25 x (j.d.veMask x) = ((grid (veRows x) (veCols x)).filter (fun p => !(j.d.veMask x).out p.1 p.2)).length := by
      rw [vecReported, if_neg (by decide), if_neg (fun q => absurd q.1 (by decide))]
    rw [hr]
    split
    · unfold Job.convert0
      extract_lets d a b mem m g
      split
      · rw [Job.result_result]
      · rw [Job.putD, Job.result_result, Dev.liveCount_cells]
    · unfold Job.convertMaster
      rw [Job.result_result]

/-- Every vector command runs a vector work. -/
theorem vectorWork_of_startedBy {c : Instr} {id op : Nat} (h : startedBy c = some (id, op)) (h1 : 0x20 ≤ op) (h2 : op ≤ 0x25) :
    ∃ f : Entry → Job → Bool → Job, (∀ e, VectorWork op e.desc (f e))
      ∧ ∀ s, exec c s = run s (fun _ d => d.startWith id op (fun d e => (Job.start d).vectorRun e (eccOf c) (f e))) := by
  unfold startedBy at h
  split at h <;> cases h
  case h_4 => exact ⟨_, fun e => .of_putD _ (by decide) (by decide) (fun _ _ => rfl), fun s => rfl⟩
  case h_5 => exact ⟨_, fun e => .of_putD _ (by decide) (by decide) (fun _ _ => rfl), fun s => rfl⟩
  case h_6 => exact ⟨_, fun e => .of_putD _ (by decide) (by decide) (fun _ _ => rfl), fun s => rfl⟩
  case h_7 => exact ⟨_, fun e => vectorWork_loss e.desc, fun s => rfl⟩
  case h_8 => exact ⟨_, fun e => vectorWork_reduce e.desc _, fun s => rfl⟩
  case h_9 => exact ⟨_, fun e => vectorWork_convert e.desc, fun s => rfl⟩
  all_goals omega

/-! ## From the start of the descriptor to its outcome -/

/-- A vector descriptor has no tile to read, so that its command begins with the errors of its reads alone. -/
theorem Dev.begun_vector {d : Dev} {e : Entry} (ecc : List EccHit) (h1 : 0x20 ≤ hdOpcode e.desc) (h2 : hdOpcode e.desc ≤ 0x25) :
    d.begun e ecc = (d.markStarted e).eccRead [] ecc := by
  have h : d.accReads e.desc = [] := by
    unfold Dev.accReads
    split
    · omega
    · omega
    · omega
    · exact if_neg (by unfold opClass; omega)
  rw [Dev.begun, h]

/-- A vector operation on the device on which it begins. -/
def Dev.vectorJob (d : Dev) (e : Entry) (f : Job → Bool → Job) : Job :=
  let x := e.desc
  let ctl := d.firstPoison (d.vecControl x)
  if !(d.veMask x).ok then (Job.start d).failRead e.step ccSeqTable ctl
  else if vecProduces x && !d.histOk (slScale (veD x)) then (Job.start d).failRead e.step ccAddressRange ctl
  else
    match d.vecBad x with
    | some a => (f (Job.start (d.clearCovered (d.vecWritten x))) true).poisonedAt e.step a
    | none => f (Job.start (d.clearCovered (d.vecWritten x))) false

theorem Job.vectorRun_eq (d : Dev) (e : Entry) (ecc : List EccHit) (f : Job → Bool → Job) :
    (Job.start d).vectorRun e ecc f = (d.eccRead [] ecc).vectorJob e f := by
  unfold Job.vectorRun Dev.vectorJob
  simp only [Job.dev_d, Job.start_d]
  refine if_congr Iff.rfl rfl (if_congr Iff.rfl rfl ?_)
  generalize (d.eccRead [] ecc).vecBad e.desc = bad
  cases bad <;> rfl

/-- A failing check gives its code, or `POISONED` where it read poison. -/
theorem Job.failRead_code_isSome {j : Job} (h : j.done.code = 0) (s c : Nat) (bad : Option Nat) :
    (j.failRead s c bad).done.code = if bad.isSome then ccPoisoned else c := by
  rw [Job.failRead_code h]
  cases bad <;> rfl

section
variable {d : Dev} {e : Entry} {op : Nat} {f : Job → Bool → Job}

theorem Dev.vectorJob_invalid (hm : (d.veMask e.desc).ok = false) :
    d.vectorJob e f = (Job.start d).failRead e.step ccSeqTable (d.firstPoison (d.vecControl e.desc)) := by
  simp [Dev.vectorJob, hm]

theorem Dev.vectorJob_unreached (hm : (d.veMask e.desc).ok = true) (hp : vecProduces e.desc = true)
    (hh : d.histOk (slScale (veD e.desc)) = false) :
    d.vectorJob e f = (Job.start d).failRead e.step ccAddressRange (d.firstPoison (d.vecControl e.desc)) := by
  simp [Dev.vectorJob, hm, hp, hh]

/-- An operation that runs ends with `OK`, or with `POISONED` where it read poison, and reports by its mask. -/
theorem Dev.vectorJob_runs (hf : VectorWork op e.desc f) (hm : (d.veMask e.desc).ok = true)
    (hh : vecProduces e.desc = true → d.histOk (slScale (veD e.desc)) = true) :
    (d.vectorJob e f).done.code = (if (d.vecBad e.desc).isSome then ccPoisoned else 0)
      ∧ (d.vectorJob e f).done.result = vecReported op e.desc (d.veMask e.desc) := by
  have hc := fun b => hf.code (Job.start (d.clearCovered (d.vecWritten e.desc))) b
  have hr := fun b => hf.reports (Job.start (d.clearCovered (d.vecWritten e.desc))) b
  simp only [Job.start_d, Dev.clearCovered_veMask] at hr
  unfold Dev.vectorJob
  dsimp only
  rw [if_neg (by simp [hm]), if_neg (by simpa using hh)]
  split
  next a ha => exact ⟨by rw [Job.poisonedAt_code (hc true), ha]; rfl, (Job.poisonedAt_result _ _ _).trans (hr true)⟩
  next ha => exact ⟨by rw [hc, ha]; rfl, hr false⟩

end

/-- What the marks of an operation's reads come to. -/
theorem Dev.vecBad_isSome (d : Dev) (x : Nat) :
    (d.vecBad x).isSome = true ↔ (d.firstPoison (d.vecControl x)).isSome = true ∨ (d.firstPoison (vecReads x)).isSome = true := by
  rw [Dev.vecBad]
  cases d.firstPoison (d.vecControl x) <;> simp

/-- Settles O25: the command is the vector job of its work, which is split by the first thing that stops it. -/
theorem vectorOperationsEnd : Obligations.VectorOperationsEnd := by
  unfold Obligations.VectorOperationsEnd
  intro c op s e hc h1 h2 h x d m live pairs ctl
  obtain ⟨f, hf, hx⟩ := vectorWork_of_startedBy hc h1 h2
  obtain ⟨t, hended, hkept⟩ := h.ended hc (hx s)
  have ho := h.opcode hc
  rw [Job.vectorRun_eq, ← Dev.begun_vector (eccOf c) (by omega) (by omega)] at hended hkept
  have hw : VectorWork op (s.dev.startedEntry e).desc (f (s.dev.startedEntry e)) := hf (s.dev.startedEntry e)
  refine ⟨t, _, hended, fun hm => ?_, fun hm hp hh => ?_, fun hm hh => ?_⟩
  · rw [Dev.vectorJob_invalid (e := s.dev.startedEntry e) hm] at hkept ⊢
    refine ⟨?_, (Dev.contents_eq_iff.1 (hkept.trans (Job.failRead_contents _ _ _ _))).2⟩
    exact Job.failRead_code_isSome rfl _ _ _
  · rw [Dev.vectorJob_unreached (e := s.dev.startedEntry e) hm hp hh] at hkept ⊢
    refine ⟨?_, (Dev.contents_eq_iff.1 (hkept.trans (Job.failRead_contents _ _ _ _))).2⟩
    exact Job.failRead_code_isSome rfl _ _ _
  · obtain ⟨hcode, hres⟩ := Dev.vectorJob_runs (d := d) hw hm hh
    refine ⟨hcode.trans (if_congr (d.vecBad_isSome x) rfl rfl), hres⟩

end Sys2Proof.Machine
end

section
/-! PROOF. How moves end (04 R106, R131; 09 R275; 14 R424): O26. -/

namespace Sys2Proof.Machine

/-- A move or Retriever command whose Sniffer unit is free, and whose route stands, ends its descriptor's work with the outcome of `f`. -/
theorem Starts.moved {c : Instr} {s : State} {e : Entry} {op : Nat} {f : Dev → Entry → Job} (h : Starts c s e)
    (hc : startedBy c = some (e.id, op)) (h3 : opClass op = 3) (hx : exec c s = run s (fun _ d => d.startMove e.id op f)) :
    ∃ t, Ended c s t e (f (s.dev.markStarted e) (s.dev.startedEntry e)).done
      ∧ t.dev.contents = (f (s.dev.markStarted e) (s.dev.startedEntry e)).d.contents := by
  obtain ⟨id, op', hb, he, -, -, hs, -⟩ := id h
  obtain ⟨rfl, rfl⟩ : e.id = id ∧ op = op' := by simpa [hc] using hb
  refine h.ended hc ?_
  rw [hx, run, run, Dev.startMove, he]
  simp only [hs h3, if_true]

/-! ## The course of a move -/

theorem length_upFrom (a n : Nat) : (upFrom a n).length = n := by
  induction n generalizing a with
  | zero => rfl
  | succ n ih => rw [upFrom, List.length_cons, ih]

theorem length_grid (rows cols : Nat) : (grid rows cols).length = rows * cols := by
  simp only [grid, below, List.length_flatMap, List.length_map, length_upFrom, List.map_const', List.sum_replicate, smul_eq_mul]

theorem mem_grid {rows cols : Nat} {p : Nat × Nat} : p ∈ grid rows cols ↔ p.1 < rows ∧ p.2 < cols := by
  obtain ⟨r, c⟩ := p
  simp [grid, mem_below]

@[simp] theorem Job.produce_length (j : Job) (k : Nat) (gb8 : Bool) (vals : List Fp) : (j.produce k gb8 vals).2.length = vals.length := by
  simp only [Job.produce, List.length_map, Dev.beforeQuantise]
  split <;> simp

theorem Job.movePatterns_length (j : Job) (x : Nat) (raw : List Nat) : (j.movePatterns x raw).2.length = raw.length := by
  unfold Job.movePatterns
  dsimp only
  split
  · rfl
  · split <;> simp

theorem Job.movePatterns_code (j : Job) (x : Nat) (raw : List Nat) : (j.movePatterns x raw).1.done.code = j.done.code := by
  unfold Job.movePatterns
  dsimp only
  split
  · rfl
  · split
    · exact j.produce_code _ _ _
    · rfl

/-- The bytes of a move's elements: each of the size of the destination's format. -/
theorem elemBytes_length {x : Nat} {pats : List Nat} (dst : View) (bad : Nat × Nat → Bool) (h : pats.length = mvRows x * mvCols x) :
    (elemBytes (moveElems x dst pats bad)).length = mvRows x * mvCols x * dst.fmt.size := by
  have hl : ((grid (mvRows x) (mvCols x)).zip pats).length = mvRows x * mvCols x := by
    rw [List.length_zip, length_grid, h, min_self]
  simp only [elemBytes, moveElems, List.flatMap_map, List.length_flatMap, List.length_map, toBytes_length, List.map_const',
    List.sum_replicate, smul_eq_mul, hl]

theorem Job.sniff_code (j : Job) (on : Bool) (u id : Nat) (l : List (Byte × Bool)) : (j.sniff on u id l).done.code = j.done.code := by
  unfold Job.sniff
  split
  · exact j.dev_code _
  · rfl

theorem Job.moveOut_code (j : Job) (e : Entry) (l : List MoveElem) (put : Dev → List MoveElem → Dev) :
    (j.moveOut e l put).done.code = j.done.code := by
  unfold Job.moveOut
  rw [Job.result_code, Job.sniff_code, Job.dev_code]

theorem Job.moveOut_result (j : Job) (e : Entry) (l : List MoveElem) (put : Dev → List MoveElem → Dev) :
    (j.moveOut e l put).done.result = (elemBytes l).length := by
  unfold Job.moveOut
  rw [Job.result_result]

section
variable {j : Job} {e : Entry} (dst : View) (raw : Nat × Nat → Nat) (bad : Nat × Nat → Bool) (put : Dev → List MoveElem → Dev)

/-- A history out of reach ends a conversion with nothing written. -/
theorem Job.moveRun_unreached (h : j.d.moveHistOk e.desc = false) :
    j.moveRun e dst raw bad put = j.failRead e.step ccAddressRange (j.d.firstPoison (j.d.moveControl e.desc)) := by
  simp [Job.moveRun, h]

/-- A move that runs reports the bytes written, and ends with `POISONED` where its control data are poisoned. -/
theorem Job.moveRun_runs (h : j.d.moveHistOk e.desc = true) (hc : j.done.code = 0) :
    (j.moveRun e dst raw bad put).done.result = mvRows e.desc * mvCols e.desc * dst.fmt.size
      ∧ (j.moveRun e dst raw bad put).done.code = if j.d.firstPoison (j.d.moveControl e.desc) = none then 0 else ccPoisoned := by
  have hl := j.movePatterns_length e.desc ((grid (mvRows e.desc) (mvCols e.desc)).map raw)
  rw [List.length_map, length_grid] at hl
  have hcode := (j.movePatterns_code e.desc ((grid (mvRows e.desc) (mvCols e.desc)).map raw)).trans hc
  unfold Job.moveRun
  rw [if_neg (by simp [h])]
  generalize j.d.firstPoison (j.d.moveControl e.desc) = ctl
  generalize j.movePatterns e.desc ((grid (mvRows e.desc) (mvCols e.desc)).map raw) = q at hl hcode ⊢
  obtain ⟨i, pats⟩ := q
  cases ctl with
  | some a =>
    exact ⟨(Job.poisonedAt_result _ _ _).trans ((Job.moveOut_result _ _ _ _).trans (elemBytes_length dst _ hl)),
      Job.poisonedAt_code ((Job.moveOut_code _ _ _ _).trans hcode) _ _⟩
  | none => exact ⟨(Job.moveOut_result _ _ _ _).trans (elemBytes_length dst _ hl), (Job.moveOut_code _ _ _ _).trans hcode⟩

end

/-! ## The end of a move -/

/-- How a move ends that has come to `j`: as it stands where it failed before, and with `POISONED` where source data were lost. -/
structure MoveEnd (lost : Prop) (j k : Job) : Prop where
  failed : j.done.code ≠ 0 → k = j
  whole : ¬ lost → k = j
  poisoned : j.done.code = 0 → lost → k.done.code = ccPoisoned
  result : k.done.result = j.done.result

theorem Job.endLocal_moveEnd (j : Job) (e : Entry) (v : View) (bad : Nat × Nat → Bool) :
    MoveEnd (∃ p ∈ grid (mvRows e.desc) (mvCols e.desc), bad p = true) j (j.endLocal e v bad) := by
  by_cases h : j.done.code = 0
  · have hj : j.endLocal e v bad = match (grid (mvRows e.desc) (mvCols e.desc)).find? bad with
        | some p => j.poisonedAt e.step (v.place p.1 p.2)
        | none => j := by
      unfold Job.endLocal
      exact if_neg (by simp [h])
    rw [hj]
    cases hp : (grid (mvRows e.desc) (mvCols e.desc)).find? bad with
    | some p =>
      exact ⟨fun hn => absurd h hn, fun hl => absurd ⟨p, List.mem_of_find?_eq_some hp, List.find?_some hp⟩ hl,
        fun _ _ => Job.poisonedAt_code h _ _, j.poisonedAt_result _ _⟩
    | none =>
      refine ⟨fun _ => rfl, fun _ => rfl, fun _ ⟨p, hm, hb⟩ => ?_, rfl⟩
      exact absurd hb (List.find?_eq_none.1 hp p hm)
  · have hj : j.endLocal e v bad = j := by
      unfold Job.endLocal
      rw [if_pos (by simpa using h)]
    rw [hj]
    exact ⟨fun _ => rfl, fun _ => rfl, fun h0 => absurd h0 h, rfl⟩

/-- The end of MOVE_FROM_HOST (14 R424). -/
def Job.endHost (j : Job) (e : Entry) (v : View) (host : HostReply) (l : List (Byte × Bool)) : Job :=
  match firstLost e.desc v l with
  | some i => if j.done.code = 0 then j.poisonedHost e.step (mvHostAddr e.desc + hostRequestOf host i) else j
  | none => j

theorem firstLost_eq_none_iff (x : Nat) (v : View) (l : List (Byte × Bool)) :
    firstLost x v l = none ↔ ¬ ∃ p ∈ grid (mvRows x) (mvCols x), hostBad v l p = true := by
  unfold firstLost
  split
  next p hp => simpa using ⟨p.1, p.2, List.mem_of_find?_eq_some hp, List.find?_some hp⟩
  next hp => simpa using List.find?_eq_none.1 hp

theorem Job.poisonedHost_code {j : Job} (h : j.done.code = 0) (s a : Nat) : (j.poisonedHost s a).done.code = ccPoisoned := by
  unfold Job.poisonedHost Job.poisoned Job.raiseStep
  exact Job.fail_code (by simpa using h) _

theorem Job.endHost_moveEnd (j : Job) (e : Entry) (v : View) (host : HostReply) (l : List (Byte × Bool)) :
    MoveEnd (∃ p ∈ grid (mvRows e.desc) (mvCols e.desc), hostBad v l p = true) j (j.endHost e v host l) := by
  have hn := firstLost_eq_none_iff e.desc v l
  unfold Job.endHost
  split
  next i hi =>
    have hl : ∃ p ∈ grid (mvRows e.desc) (mvCols e.desc), hostBad v l p = true := by
      by_contra q
      rw [hn.2 q] at hi
      cases hi
    split
    next h => exact ⟨fun q => absurd h q, fun q => absurd hl q, fun _ _ => Job.poisonedHost_code h _ _, j.poisoned_result _ _ _⟩
    next h => exact ⟨fun _ => rfl, fun _ => rfl, fun q => absurd q h, rfl⟩
  next hi => exact ⟨fun _ => rfl, fun _ => rfl, fun _ hl => absurd hl (hn.1 hi), rfl⟩

/-! ## O26: moves that copy -/

/-- What a move is that the device `d` comes to at its end: a run, and the end of it. -/
def CopyingMove (d : Dev) (e : Entry) (lost : Prop) (k : Job) : Prop :=
  ∃ dst raw bad put, dst.fmt = (d.view (mvDst e.desc)).fmt ∧ MoveEnd lost ((Job.start d).moveRun e dst raw bad put) k

/-- How a copying move ends. -/
theorem CopyingMove.ends {d : Dev} {e : Entry} {lost : Prop} {k : Job} (h : CopyingMove d e lost k) :
    (d.moveHistOk e.desc = false →
        k.done.code = (if d.firstPoison (d.moveControl e.desc) = none then ccAddressRange else ccPoisoned) ∧ k.d.contents = d.contents)
      ∧ (d.moveHistOk e.desc = true → k.done.result = mvRows e.desc * mvCols e.desc * (d.view (mvDst e.desc)).fmt.size
        ∧ (lost ∨ d.firstPoison (d.moveControl e.desc) ≠ none → k.done.code = ccPoisoned)
        ∧ (¬ lost → d.firstPoison (d.moveControl e.desc) = none → k.done.code = 0)) := by
  obtain ⟨dst, raw, bad, put, hfmt, hend⟩ := h
  refine ⟨fun hh => ?_, fun hh => ?_⟩
  · rw [Job.moveRun_unreached (j := Job.start d) dst raw bad put hh, Job.start_d] at hend
    have hcode := Job.failRead_code (j := Job.start d) rfl e.step ccAddressRange (d.firstPoison (d.moveControl e.desc))
    rw [hend.failed (by rw [hcode]; split <;> decide)]
    exact ⟨hcode, Job.failRead_contents _ _ _ _⟩
  · obtain ⟨hres, hcode⟩ := Job.moveRun_runs (j := Job.start d) dst raw bad put hh rfl
    rw [Job.start_d] at hcode
    refine ⟨by rw [hend.result, hres, hfmt], fun hl => ?_, fun hl hc => ?_⟩
    · by_cases hc : d.firstPoison (d.moveControl e.desc) = none
      · exact hend.poisoned (by rw [hcode, if_pos hc]) (hl.resolve_right (not_not.2 hc))
      · rw [if_neg hc] at hcode
        rw [hend.failed (by rw [hcode]; decide), hcode]
    · rw [hend.whole hl, hcode, if_pos hc]

/-- Each of the three commands is a copying move from the device on which it begins. -/
theorem Starts.copying {ecc : List EccHit} {host : HostReply} {c : Instr} {s : State} {e : Entry}
    (hc : c = .moveCopy e.id ecc ∨ c = .moveFromHost e.id host ecc ∨ c = .moveToHost e.id ecc) (h : Starts c s e) :
    let d := s.dev.begun e ecc
    let v := d.view (mvSrc e.desc)
    let need := (hull 0 (mvRows e.desc) v.stride (mvCols e.desc * v.fmt.size)).2
    ∃ t k, Ended c s t e k.done ∧ t.dev.contents = k.d.contents
      ∧ CopyingMove d (s.dev.startedEntry e)
        (if c = .moveFromHost e.id host ecc then ∃ p ∈ grid (mvRows e.desc) (mvCols e.desc), hostBad (v.at 0) (d.hostRead host need) p = true
          else ∃ p ∈ grid (mvRows e.desc) (mvCols e.desc), d.localBad v p = true) k := by
  intro d v need
  have hd : (s.dev.markStarted e).eccRead ((s.dev.markStarted e).accReads e.desc) ecc = d := s.dev.eccRead_markStarted e ecc
  obtain rfl | rfl | rfl := hc
  · obtain ⟨t, hended, hkept⟩ := h.moved rfl rfl rfl
    refine ⟨t, _, hended, hkept, d.view (mvDst e.desc), d.localRaw v, d.localBad v, Dev.writeElems, rfl, ?_⟩
    rw [if_neg (by simp)]
    simp only [Dev.startedEntry_desc, hd]
    exact Job.endLocal_moveEnd _ (s.dev.startedEntry e) v (d.localBad v)
  · obtain ⟨t, hended, hkept⟩ := h.moved rfl rfl rfl
    refine ⟨t, _, hended, hkept, d.view (mvDst e.desc), fun p => ofBytes ((hostElem (v.at 0) (d.hostRead host need) p).map (fun q => q.1)),
      hostBad (v.at 0) (d.hostRead host need), Dev.writeElems, rfl, ?_⟩
    rw [if_pos rfl]
    simp only [Dev.startedEntry_desc, hd]
    exact Job.endHost_moveEnd _ (s.dev.startedEntry e) (v.at 0) host (d.hostRead host need)
  · obtain ⟨t, hended, hkept⟩ := h.moved rfl rfl rfl
    refine ⟨t, _, hended, hkept, (d.view (mvDst e.desc)).at (mvHostAddr e.desc), d.localRaw v, d.localBad v, Dev.postElems, rfl, ?_⟩
    rw [if_neg (by simp)]
    simp only [Dev.startedEntry_desc, hd]
    exact Job.endLocal_moveEnd _ (s.dev.startedEntry e) v (d.localBad v)

/-! ## O26: MOVE_FILL -/

/-- Bytes that two memories share read alike. -/
theorem Mem.read_congr {m m' : Mem} {a n : Nat} (h : ∀ i < n, m.byte (a + i) = m'.byte (a + i)) : m.read a n = m'.read a n := by
  induction n generalizing a with
  | zero => rfl
  | succ n ih =>
    rw [Mem.read, Mem.read, show m.byte a = m'.byte a from h 0 (by omega), ih fun i hi => ?_]
    have := h (i + 1) (by omega)
    rwa [Nat.add_assoc, Nat.add_comm 1 i]

theorem ofBytes_toBytes (n v : Nat) : ofBytes (toBytes n v) = v % 2 ^ (8 * n) := by
  induction n generalizing v with
  | zero => simp [toBytes, ofBytes, Nat.mod_one]
  | succ n ih =>
    rw [toBytes, ofBytes, ih, BitVec.toNat_ofNat, show 8 * (n + 1) = 8 + 8 * n by omega, pow_add, Nat.mod_mul]
    rfl

/-- Whether a byte lies in an element. -/
abbrev MoveElem.covers (m : MoveElem) (a : Nat) : Prop := m.dst ≤ a ∧ a < m.dst + m.bytes.length

/-- After elements were written, a byte is `b` where every element that covers it holds `b` there, and one covers it or it was `b`. -/
theorem foldl_wr_byte {a : Nat} {b : Byte} (l : List MoveElem) (d : Dev) (h : ∀ m ∈ l, m.covers a → m.bytes.getD (a - m.dst) 0#8 = b)
    (h0 : d.mem.byte a = b ∨ ∃ m ∈ l, m.covers a) : (l.foldl (fun d m => d.wr m.dst m.bytes m.poison) d).mem.byte a = b := by
  induction l generalizing d with
  | nil => exact h0.resolve_right (by simp)
  | cons m l ih =>
    rw [List.foldl_cons]
    have hb : (d.wr m.dst m.bytes m.poison).mem.byte a = if m.covers a then m.bytes.getD (a - m.dst) 0#8 else d.mem.byte a :=
      Mem.store_byte _ _ _ _ _
    refine ih _ (fun m' hm' => h m' (List.mem_cons_of_mem _ hm')) ?_
    by_cases hm : m.covers a
    · exact .inl (by rw [hb, if_pos hm, h m List.mem_cons_self hm])
    · rw [hb, if_neg hm]
      refine h0.imp_right fun ⟨m', hm', hc⟩ => ⟨m', ?_, hc⟩
      obtain rfl | hl := List.mem_cons.1 hm'
      · exact absurd hc hm
      · exact hl


/-- The elements of a fill with pattern `p`. -/
def fillElems (x : Nat) (v : View) (p : Nat) : List MoveElem :=
  (grid (mvRows x) (mvCols x)).map (fun q => ⟨v.place q.1 q.2, toBytes v.fmt.size p, false⟩)

theorem moveElems_const (x : Nat) (v : View) (p : Nat) :
    moveElems x v ((grid (mvRows x) (mvCols x)).map (fun _ => p)) (fun _ => false) = fillElems x v p := by
  unfold moveElems fillElems
  rw [List.zip_map_right, List.map_map, ← List.map_id (grid _ _), List.zip_map', List.map_map, List.map_map]
  simp

@[simp] theorem Dev.snBegin_mem (d : Dev) (u id : Nat) (l : List (Byte × Bool)) : (d.snBegin u id l).mem = d.mem := by
  unfold Dev.snBegin; dsimp only; split <;> rfl

theorem Job.moveOut_mem (j : Job) (e : Entry) (l : List MoveElem) (put : Dev → List MoveElem → Dev) :
    (j.moveOut e l put).d.mem = (put j.d l).mem := by
  unfold Job.moveOut Job.sniff
  dsimp only
  split
  · rw [Job.result_d, Job.dev_d, Job.dev_d, Dev.snBegin_mem]
  · rw [Job.result_d, Job.dev_d]

@[simp] theorem Dev.clearCovered_byte (d : Dev) (l : List Ext) (a : Nat) : (d.clearCovered l).mem.byte a = d.mem.byte a :=
  foldl_keeps (g := fun d : Dev => d.mem.byte a) (fun d u => by split <;> rfl) _ d

section
variable {v : View} {cols r k r' k' a : Nat} (hs : cols * v.fmt.size ≤ v.stride) (hk : k < cols)
include hs hk

/-- In a grid whose rows do not overlap, an element ends before a later one begins. -/
theorem View.place_le (h : r < r' ∨ (r = r' ∧ k < k')) : v.place r k + v.fmt.size ≤ v.place r' k' := by
  have hrow : (k + 1) * v.fmt.size ≤ cols * v.fmt.size := Nat.mul_le_mul_right _ hk
  rw [Nat.succ_mul] at hrow
  unfold View.place
  obtain hr | ⟨rfl, hk'⟩ := h
  · have := Nat.mul_le_mul_right v.stride (Nat.succ_le_of_lt hr)
    rw [Nat.succ_mul] at this
    omega
  · have := Nat.mul_le_mul_right v.fmt.size (Nat.succ_le_of_lt hk')
    rw [Nat.succ_mul] at this
    omega

/-- Elements of such a grid that share a byte are one. -/
theorem View.place_eq (hk' : k' < cols) (h1 : v.place r k ≤ a) (h2 : a < v.place r k + v.fmt.size) (h1' : v.place r' k' ≤ a)
    (h2' : a < v.place r' k' + v.fmt.size) : v.place r k = v.place r' k' := by
  have hle := View.place_le (r := r) (r' := r') (k' := k') hs hk
  have hge := View.place_le (r := r') (r' := r) (k' := k) hs hk'
  obtain hr | rfl | hr := Nat.lt_trichotomy r r'
  · have := hle (.inl hr)
    omega
  · obtain hc | rfl | hc := Nat.lt_trichotomy k k'
    · have := hle (.inr ⟨rfl, hc⟩)
      omega
    · rfl
    · have := hge (.inr ⟨rfl, hc⟩)
      omega
  · have := hge (.inl hr)
    omega

end

section
variable {d : Dev} {x p : Nat} {v : View} (hw : ∀ q ∈ grid (mvRows x) (mvCols x), inWindow (v.place q.1 q.2) = false)
include hw

/-- A byte after a fill: `b` where the elements that cover it hold `b` there, and one covers it or it was `b`. -/
theorem Dev.fill_byte {a : Nat} {b : Byte}
    (h : ∀ r < mvRows x, ∀ k < mvCols x, v.place r k ≤ a → a < v.place r k + v.fmt.size →
      (toBytes v.fmt.size p).getD (a - v.place r k) 0#8 = b)
    (h0 : d.mem.byte a = b ∨ ∃ r < mvRows x, ∃ k < mvCols x, v.place r k ≤ a ∧ a < v.place r k + v.fmt.size) :
    (d.writeElems (fillElems x v p)).mem.byte a = b := by
  have hn : (fillElems x v p).any (fun m => inWindow m.dst) = false := by
    simpa [fillElems] using hw
  rw [Dev.writeElems, hn, if_neg (by decide)]
  refine foldl_wr_byte _ _ (fun m hm hc => ?_) ?_
  · obtain ⟨q, hq, rfl⟩ := List.mem_map.1 hm
    obtain ⟨hr, hk⟩ := mem_grid.1 hq
    obtain ⟨h1, h2⟩ := hc
    rw [toBytes_length] at h2
    exact h q.1 hr q.2 hk h1 h2
  · rw [Dev.clearCovered_byte]
    refine h0.imp_right fun ⟨r, hr, k, hk, h1, h2⟩ => ?_
    have hm : (r, k) ∈ grid (mvRows x) (mvCols x) := mem_grid.2 ⟨hr, hk⟩
    refine ⟨_, List.mem_map_of_mem hm, h1, ?_⟩
    rwa [toBytes_length]

/-- A fill leaves every byte outside its elements. -/
theorem Dev.fill_outside {a : Nat} (h : ∀ r < mvRows x, ∀ k < mvCols x, a < v.place r k ∨ v.place r k + v.fmt.size ≤ a) :
    (d.writeElems (fillElems x v p)).mem.byte a = d.mem.byte a :=
  Dev.fill_byte hw (fun r hr k hk h1 h2 => by have := h r hr k hk; omega) (.inl rfl)

/-- A fill stores its pattern in every element. -/
theorem Dev.fill_num (hs : mvCols x * v.fmt.size ≤ v.stride) {r k : Nat} (hr : r < mvRows x) (hk : k < mvCols x) :
    (d.writeElems (fillElems x v p)).mem.num (v.place r k) v.fmt.size = p % 2 ^ (8 * v.fmt.size) := by
  have hread : (d.writeElems (fillElems x v p)).mem.read (v.place r k) v.fmt.size = toBytes v.fmt.size p := by
    have hst := d.mem.store_read (v.place r k) (toBytes v.fmt.size p) false
    rw [toBytes_length] at hst
    rw [← hst]
    refine Mem.read_congr fun i hi => ?_
    rw [Mem.store_byte, if_pos (by rw [toBytes_length]; omega)]
    refine Dev.fill_byte hw (fun r' hr' k' hk' h1 h2 => ?_) (.inr ⟨r, hr, k, hk, by omega, by omega⟩)
    rw [← View.place_eq (r := r) (a := v.place r k + i) hs hk hk' (by omega) (by omega) h1 h2, Nat.add_sub_cancel_left]
  rw [Mem.num, hread, ofBytes_toBytes]

end

/-- Settles O26: a copying move is a run and its end (`CopyingMove`); a fill writes one pattern at every place of its view. -/
theorem movesEnd : Obligations.MovesEnd := by
  unfold Obligations.MovesEnd
  refine ⟨fun ecc host c s e hc h => ?_, fun s e h => ?_⟩
  · intro x d bytes v need lost ctl
    obtain ⟨t, k, hended, hkept, hk⟩ := h.copying hc
    obtain ⟨h1, h2⟩ := hk.ends
    refine ⟨t, k.done, hended, fun hh => ?_, h2⟩
    obtain ⟨hcode, hmem⟩ := h1 hh
    exact ⟨hcode, (Dev.contents_eq_iff.1 (hkept.trans hmem)).2⟩
  · intro x v
    obtain ⟨t, hended, hkept⟩ := h.moved rfl rfl rfl
    have hl := moveElems_const x v (bits (mvFillValue x) 0 (8 * v.fmt.size))
    have hb : bits (mvFillValue x) 0 (8 * v.fmt.size) = mvFillValue x % 2 ^ (8 * v.fmt.size) := by simp [bits]
    have hmem : t.dev.mem = ((s.dev.markStarted e).writeElems (fillElems x v (mvFillValue x % 2 ^ (8 * v.fmt.size)))).mem := by
      rw [← hb, ← hl]
      exact (Dev.contents_eq_iff.1 hkept).2.trans (Job.moveOut_mem _ _ _ _)
    refine ⟨t, _, hended, Job.moveOut_code _ _ _ _, ?_, fun hw => ⟨fun hs r hr k hk => ?_, fun a ha => ?_⟩⟩
    · exact (Job.moveOut_result _ _ _ _).trans (elemBytes_length v _ (by rw [List.length_map, length_grid]))
    · rw [hmem, Dev.fill_num hw hs hr hk, Nat.mod_mod]
    · rw [hmem, Dev.fill_outside hw ha]
      rfl

end Sys2Proof.Machine
end

section
/-! PROOF. Straps, STOP_N, ledger, calendar, test port (18 R543; 19 R551-R570; 20 R577-R588): O60. -/

namespace Sys2Proof.Machine

/-! ## What events leave of the store -/

/-- The store but for the buffer of the ledger. -/
def Store.flash (s : Store) : Store := { s with buffer := [], nextSeq := 0 }

theorem Dev.flash_of_mute {a b : Dev} (h : a.mute = b.mute) : a.store.flash = b.store.flash := by
  have h' := congrArg Dev.store h; exact h'

section
variable {a b : Store} (h : a.flash = b.flash)
include h

theorem Store.segs_of_flash : a.segs = b.segs := by have h' := congrArg Store.segs h; exact h'
theorem Store.retired_of_flash : a.retired = b.retired := by have h' := congrArg Store.retired h; exact h'
theorem Store.life_of_flash : a.life = b.life := by have h' := congrArg Store.life h; exact h'
theorem Store.pinsDiffer_of_flash : a.pinsDiffer = b.pinsDiffer := by have h' := congrArg Store.pinsDiffer h; exact h'
theorem Store.lastStraps_of_flash : a.lastStraps = b.lastStraps := by have h' := congrArg Store.lastStraps h; exact h'

end

section
variable (d : Dev)

theorem Dev.raise_flash (c a b : Nat) : (d.raise c a b).store.flash = d.store.flash := Dev.flash_of_mute (d.raise_mute c a b)

theorem Dev.ledger_get_ne (k : Nat) (l : List Byte) {i j : Nat} (h : odKey i j ≠ odKey 0x9010 0xF) : (d.ledger k l).get i j = d.get i j := by
  unfold Dev.ledger
  dsimp only
  split
  · rfl
  · exact d.addSat_get_ne _ _ _ _ _ _ h

/-! An event kept out of the ledger leaves the store as it is (19 R564) -/

theorem Dev.note_store (k c a : Nat) : (d.note k c a).store = d.store := by
  unfold Dev.note; split <;> [rfl; (dsimp only; split <;> rfl)]
theorem Dev.trigger_store (b : Nat) : (d.trigger b).store = d.store := by unfold Dev.trigger; split <;> rfl
theorem Dev.post_store (a : Nat) (l : List Byte) : (d.post a l).store = d.store := by unfold Dev.post; split <;> rfl
theorem Dev.message_store (v : Nat) : (d.message v).store = d.store := by unfold Dev.message; split <;> [rfl; (split <;> rfl)]
theorem Dev.frame_store (a : BitVec 128) (u : BitVec 16) (h : Envelope) (l : List Byte) : (d.frame a u h l).store = d.store := by
  unfold Dev.frame; split <;> rfl

theorem Dev.notifyOne_store (c e r i : Nat) : (d.notifyOne c e r i).store = d.store := by
  unfold Dev.notifyOne
  split
  · split
    · rfl
    · split
      · exact Dev.frame_store d _ _ _ _
      · split <;> rfl
  · rfl

theorem Dev.notify_store (c e r : Nat) : (d.notify c e r).store = d.store :=
  foldl_keeps (g := Dev.store) (f := fun d k => d.notifyOne c e r k) (fun d k => d.notifyOne_store c e r k) (below 4) d

theorem Dev.evqPut_store (c a b e : Nat) : (d.evqPut c a b e).store = d.store := by
  unfold Dev.evqPut
  dsimp only
  split
  · rfl
  · split
    · rfl
    · split
      · rw [Dev.message_store]; exact Dev.post_store d _ _
      · exact Dev.post_store d _ _

theorem Dev.report_unledgered_store (c a b : Nat) : (d.report c a b false).store = d.store := by
  unfold Dev.report
  dsimp only
  rw [Dev.notify_store, Dev.evqPut_store, if_neg (by decide), Dev.trigger_store, Dev.note_store]
  rfl

end

/-! ## The straps (19 R552) -/

/-- The device once the straps were compared with the pins. -/
def Dev.strapsSeen (d : Dev) (pins : Nat) : Dev :=
  { d with store := { d.store with lastStraps := d.now, pinsDiffer := pins != d.straps }, pins := { d.pins with loc := pins } }

theorem exec_strapsCheck (pins : BitVec 16) (s : State) : exec (.strapsCheck pins) s = run s (fun _ d =>
    if d.now < d.store.lastStraps + 100000000 then d
    else if (pins.toNat != d.straps) && !d.store.pinsDiffer then (d.strapsSeen pins.toNat).raise 0x0F02 d.straps pins.toNat
    else d.strapsSeen pins.toNat) := rfl

/-- The first part of O60: the straps. -/
theorem straps_follow (pins : BitVec 16) (s : State) :
    (s.dev.now < s.dev.store.lastStraps + 100000000 → Effect (.strapsCheck pins) s s.dev)
      ∧ (s.dev.store.lastStraps + 100000000 ≤ s.dev.now → ∃ t, Answers (.strapsCheck pins) s t
        ∧ t.dev.pins = { s.dev.pins with loc := pins.toNat }
        ∧ (t.dev.store.pinsDiffer = true ↔ pins.toNat ≠ s.dev.get 0x3000 1) ∧ t.dev.store.lastStraps = s.dev.now
        ∧ t.dev.get 0x3000 1 = s.dev.get 0x3000 1
        ∧ t.dev.get 0x1300 3 = (if pins.toNat ≠ s.dev.get 0x3000 1 ∧ s.dev.store.pinsDiffer = false then (s.dev.get 0x1300 3 + 1) % 2 ^ 32
            else s.dev.get 0x1300 3)) := by
  have hb : ((pins.toNat != s.dev.straps) && !s.dev.store.pinsDiffer) = true
      ↔ pins.toNat ≠ s.dev.get 0x3000 1 ∧ s.dev.store.pinsDiffer = false := by
    simp [Dev.straps]
  have hd : (pins.toNat != s.dev.straps) = true ↔ pins.toNat ≠ s.dev.get 0x3000 1 := by simp [Dev.straps]
  refine ⟨fun h => ?_, fun h => ?_⟩
  · rw [Effect, exec_strapsCheck, run, if_pos h]
  · by_cases hr : ((pins.toNat != s.dev.straps) && !s.dev.store.pinsDiffer) = true
    · have hx : Effect (.strapsCheck pins) s ((s.dev.strapsSeen pins.toNat).raise 0x0F02 s.dev.straps pins.toNat) := by
        rw [Effect, exec_strapsCheck, run, if_neg (by omega), if_pos hr]
      have hfl := (s.dev.strapsSeen pins.toNat).raise_flash 0x0F02 s.dev.straps pins.toNat
      refine ⟨_, hx.answers, Dev.raise_pins _ _ _ _, ?_, Store.lastStraps_of_flash hfl, Dev.raise_get _ (by decide) _ _ _, ?_⟩
      · dsimp only
        rw [Store.pinsDiffer_of_flash hfl]
        exact hd
      · rw [if_pos (hb.1 hr)]
        exact Dev.raise_counts _ _ _ _
    · have hx : Effect (.strapsCheck pins) s (s.dev.strapsSeen pins.toNat) := by
        rw [Effect, exec_strapsCheck, run, if_neg (by omega), if_neg hr]
      exact ⟨_, hx.answers, rfl, hd, rfl, rfl, by rw [if_neg (fun q => hr (hb.2 q))]; rfl⟩

/-! ## STOP_N (20 R577, R578) -/

/-- The device with a level of STOP_N accepted, before its event. -/
def Dev.stopSet (d : Dev) (v : Bool) : Dev := { d with pins := { d.pins with stopN := v, stopLockout := some (d.now + 1000000) } }

/-- An event at most once per second changes no field that neither events nor their marks change. -/
theorem Dev.oncePerSecond_keeps {β : Type} (g : Dev → β) (hl : ∀ (d : Dev) l, g { d with limits := l } = g d)
    (hr : ∀ (d : Dev) c a b, g (d.raise c a b) = g d) (d : Dev) (k c a b : Nat) :
    g (d.oncePerSecond k (fun d => d.raise c a b)) = g d := by
  unfold Dev.oncePerSecond
  dsimp only
  split
  · rw [hr, hl]
  · rfl

theorem Dev.acceptStop_keeps {β : Type} (g : Dev → β) (hl : ∀ (d : Dev) l, g { d with limits := l } = g d)
    (hr : ∀ (d : Dev) c a b, g (d.raise c a b) = g d) (d : Dev) (v : Bool) : g (d.acceptStop v) = g (d.stopSet v) := by
  unfold Dev.acceptStop
  dsimp only
  split
  · exact Dev.oncePerSecond_keeps g hl hr _ _ _ _ _
  · exact Dev.oncePerSecond_keeps g hl hr _ _ _ _ _

/-- STOP_N is locked out at this instant. -/
def Dev.stopLocked (d : Dev) : Prop := ∃ u, d.pins.stopLockout = some u ∧ d.now < u

/-- What an accepted level comes to. -/
theorem Dev.acceptStop_takes {c : Instr} {s : State} {d : Dev} {v : Bool} (hx : Effect c s (d.acceptStop v))
    (hd : d.disp = s.dev.disp) (hm : d.mem = s.dev.mem) : ∃ t, Answers c s t
      ∧ t.dev.pins = { d.pins with stopN := v, stopLockout := some (d.now + 1000000) } ∧ t.dev.disp = s.dev.disp ∧ t.dev.mem = s.dev.mem :=
  ⟨_, hx.answers, Dev.acceptStop_keeps Dev.pins (fun _ _ => rfl) (fun _ _ _ _ => Dev.raise_pins _ _ _ _) _ _,
    (Dev.acceptStop_keeps Dev.disp (fun _ _ => rfl) (fun _ _ _ _ => Dev.raise_disp _ _ _ _) _ _).trans hd,
    (Dev.acceptStop_keeps Dev.mem (fun _ _ => rfl) (fun _ _ _ _ => Dev.raise_mem _ _ _ _) _ _).trans hm⟩

theorem exec_stopNChange (level : Bool) (s : State) :
    (s.dev.stopLocked ∨ s.dev.pins.stopN = level →
        Effect (.stopNChange level) s { s.dev with pins := { s.dev.pins with stopFiltered := level } })
      ∧ (¬ s.dev.stopLocked → s.dev.pins.stopN ≠ level →
        Effect (.stopNChange level) s (({ s.dev with pins := { s.dev.pins with stopFiltered := level } } : Dev).acceptStop level)) := by
  have hx : exec (.stopNChange level) s = run s (fun _ d =>
      if (match d.pins.stopLockout with
          | some t => decide (d.now < t)
          | none => false) = true ∨ d.pins.stopN = level then { d with pins := { d.pins with stopFiltered := level } }
      else ({ d with pins := { d.pins with stopFiltered := level } } : Dev).acceptStop level) := rfl
  have hl : (match s.dev.pins.stopLockout with
      | some t => decide (s.dev.now < t)
      | none => false) = true ↔ s.dev.stopLocked := by
    unfold Dev.stopLocked
    cases s.dev.pins.stopLockout <;> simp
  refine ⟨fun h => ?_, fun h1 h2 => ?_⟩
  · rw [Effect, hx, run, if_pos (by rwa [hl])]
  · rw [Effect, hx, run, if_neg (by rw [hl]; exact not_or.2 ⟨h1, h2⟩)]

end Sys2Proof.Machine
end

section
/-! PROOF. The end of the STOP_N lock-out, the ledger, lifetime records, the calendar, the test port: O60. -/

namespace Sys2Proof.Machine

/-! ## The lock-out of STOP_N (20 R578) -/

theorem exec_stopLockoutEnd (s : State) :
    (s.dev.pins.stopLockout = none ∨ s.dev.stopLocked → Effect .stopLockoutEnd s s.dev)
      ∧ (s.dev.pins.stopLockout ≠ none → ¬ s.dev.stopLocked → Effect .stopLockoutEnd s
        (if s.dev.pins.stopFiltered = s.dev.pins.stopN then { s.dev with pins := { s.dev.pins with stopLockout := none } }
          else ({ s.dev with pins := { s.dev.pins with stopLockout := none } } : Dev).acceptStop s.dev.pins.stopFiltered)) := by
  have hx : exec .stopLockoutEnd s = run s (fun _ d => match d.pins.stopLockout with
      | some t => if d.now < t then d
        else if d.pins.stopFiltered = d.pins.stopN then { d with pins := { d.pins with stopLockout := none } }
        else ({ d with pins := { d.pins with stopLockout := none } } : Dev).acceptStop d.pins.stopFiltered
      | none => d) := rfl
  unfold Dev.stopLocked
  rw [Effect, Effect, hx, run]
  cases hl : s.dev.pins.stopLockout with
  | none => exact ⟨fun _ => rfl, fun h => absurd rfl h⟩
  | some u =>
    refine ⟨fun h => ?_, fun _ h => ?_⟩
    · obtain ⟨u', hu, hn⟩ := h.resolve_left (by simp)
      cases hu
      simp only [if_pos hn]
    · have hn : ¬ s.dev.now < u := fun hn => h ⟨u, rfl, hn⟩
      simp only [if_neg hn]

/-- The second part of O60: STOP_N. -/
theorem stopN_follows (level : Bool) (s : State) :
    let x := s.dev.pins
    let locked := ∃ u, x.stopLockout = some u ∧ s.dev.now < u
    let takes (c : Instr) (v : Bool) := ∃ t, Answers c s t
      ∧ t.dev.pins = { x with stopFiltered := v, stopN := v, stopLockout := some (s.dev.now + 1000000) }
      ∧ t.dev.disp = s.dev.disp ∧ t.dev.mem = s.dev.mem
    (locked ∨ x.stopN = level → Effect (.stopNChange level) s { s.dev with pins := { x with stopFiltered := level } })
    ∧ (¬ locked → x.stopN ≠ level → takes (.stopNChange level) level)
    ∧ (x.stopLockout = none ∨ locked → Effect .stopLockoutEnd s s.dev)
    ∧ (x.stopLockout ≠ none → ¬ locked → x.stopFiltered = x.stopN → Effect .stopLockoutEnd s { s.dev with pins := { x with stopLockout := none } })
    ∧ (x.stopLockout ≠ none → ¬ locked → x.stopFiltered ≠ x.stopN → takes .stopLockoutEnd x.stopFiltered) := by
  intro x locked takes
  obtain ⟨hkept, htaken⟩ := exec_stopNChange level s
  obtain ⟨hrest, hend⟩ := exec_stopLockoutEnd s
  refine ⟨hkept, fun h1 h2 => ?_, hrest, fun h1 h2 h3 => ?_, fun h1 h2 h3 => ?_⟩
  · exact Dev.acceptStop_takes (htaken h1 h2) rfl rfl
  · have h := hend h1 h2
    rwa [if_pos h3] at h
  · have h := hend h1 h2
    rw [if_neg h3] at h
    exact Dev.acceptStop_takes h rfl rfl

/-! ## The ledger (19 R551, R561, R564) -/

/-- The head segment's number, or the next in rotation, as a failing programming retires it (19 R551). -/
def Dev.failing (d : Dev) : Nat :=
  match d.store.segs.getLast? with
  | some s => if d.store.retired.contains s.number then (d.nextSeg).getD 0 else s.number
  | none => (d.nextSeg).getD 0

/-- The device with its failing segment retired, before the event. -/
def Dev.retiring (d : Dev) : Dev := { d with store := { d.store with retired := d.store.retired ++ [d.failing] } }

theorem Dev.retireHead_eq (d : Dev) : d.retireHead = d.retiring.raise 0x2F07 (0x03C00000 + 0x10000 * d.failing) 1 := rfl

/-- The sequence number of a new head segment (19 R559). -/
def Dev.headSeq (d : Dev) : Nat :=
  match d.store.segs.getLast? with
  | some s => (s.segSeq + 1) % 2 ^ 32
  | none => 0

/-- A record in a new head segment. -/
def Dev.newHead (d : Dev) (r : Rec) : Option Dev :=
  match d.nextSeg with
  | some k => some { d with store := { d.store with segs := d.store.segs ++ [⟨k, d.headSeq, [r], false⟩], erases := d.store.erases + 1 } }
  | none => none

theorem Dev.program_def (d : Dev) (r : Rec) : d.program r =
    match d.store.segs.getLast? with
    | some s =>
      if s.used + r.size ≤ 65536 ∧ !s.closed ∧ !d.store.retired.contains s.number then
        some { d with store := { d.store with segs := d.store.segs.dropLast ++ [{ s with records := s.records ++ [r] }] } }
      else d.newHead r
    | none => d.newHead r := rfl

/-- A device in which record `r` was programmed behind those of `d`: nothing else differs but the count of erasures. -/
def Dev.Programmed (d d' : Dev) (r : Rec) : Prop :=
  ∃ segs n, d' = { d with store := { d.store with segs := segs, erases := n } }
    ∧ segs.flatMap (fun s => s.records) = d.store.segs.flatMap (fun s => s.records) ++ [r]

theorem Dev.newHead_programmed {d d' : Dev} {r : Rec} (h : d.newHead r = some d') : d.Programmed d' r := by
  unfold Dev.newHead at h
  split at h
  · cases h
    exact ⟨_, _, rfl, by simp⟩
  · cases h

theorem Dev.program_programmed {d d' : Dev} {r : Rec} (h : d.program r = some d') : d.Programmed d' r := by
  rw [Dev.program_def] at h
  split at h
  next s hs =>
    split at h
    · cases h
      refine ⟨_, _, rfl, ?_⟩
      conv_rhs => rw [← List.dropLast_append_getLast? s hs]
      simp
    · exact Dev.newHead_programmed h
  · exact Dev.newHead_programmed h

/-- The device whose oldest buffered record has left the buffer. -/
def Dev.popped (d : Dev) (rest : List Rec) : Dev := { d with store := { d.store with buffer := rest } }

/-- A record dropped and counted; a full ledger is reported once (19 R564). -/
def Dev.dropped (d : Dev) (r : Rec) (rest : List Rec) : Dev :=
  if r.mayReserve && !d.store.fullLatched then
    ({ (d.popped rest).addSat 0x9010 0xF 32 1 with store := { d.store with buffer := rest, fullLatched := true } } : Dev).report 0x2F04 0 0 false
  else (d.popped rest).addSat 0x9010 0xF 32 1

/-- A commit of the oldest record. -/
theorem Dev.commitOne_eq {d : Dev} {r : Rec} {rest : List Rec} (h : d.store.buffer = r :: rest) : d.commitOne =
    match if d.hasRoom r then (d.popped rest).program r else none with
    | some d' => d'
    | none => d.dropped r rest := by
  unfold Dev.commitOne
  rw [h]
  rfl

theorem Dev.popped_program (d : Dev) (r : Rec) (rest : List Rec) :
    (d.popped rest).program r = (d.program r).map (fun d => d.popped rest) := by
  have hn : (d.popped rest).newHead r = (d.newHead r).map (fun d => d.popped rest) := by
    unfold Dev.newHead
    rw [show (d.popped rest).nextSeg = d.nextSeg from rfl]
    cases d.nextSeg <;> rfl
  rw [Dev.program_def, Dev.program_def, show (d.popped rest).store.segs = d.store.segs from rfl]
  cases d.store.segs.getLast? with
  | none => exact hn
  | some s =>
    dsimp only
    rw [hn, show (d.popped rest).store.retired = d.store.retired from rfl]
    split <;> rfl

theorem Dev.dropped_store (d : Dev) (r : Rec) (rest : List Rec) :
    (d.dropped r rest).store.buffer = rest ∧ (d.dropped r rest).store.segs = d.store.segs := by
  unfold Dev.dropped
  split
  · rw [Dev.report_unledgered_store]
    exact ⟨rfl, rfl⟩
  · exact ⟨rfl, rfl⟩

theorem Dev.dropped_counts (d : Dev) (r : Rec) (rest : List Rec) :
    (d.dropped r rest).get 0x9010 0xF = min (d.get 0x9010 0xF + 1) 0xFFFFFFFF := by
  have hc : ((d.popped rest).addSat 0x9010 0xF 32 1).get 0x9010 0xF = min (d.get 0x9010 0xF + 1) 0xFFFFFFFF := by
    rw [Dev.addSat, Dev.put_get_same]
    exact Nat.mod_eq_of_lt (Nat.lt_of_le_of_lt (Nat.min_le_right _ _) (by decide))
  unfold Dev.dropped
  split
  · rw [Dev.report_unledgered]
    exact hc
  · exact hc

/-- A commit takes the oldest record out of the buffer. -/
theorem Dev.commitOne_buffer {d : Dev} {r : Rec} {rest : List Rec} (h : d.store.buffer = r :: rest) : d.commitOne.store.buffer = rest := by
  rw [Dev.commitOne_eq h, Dev.popped_program]
  split
  next d' hd =>
    split at hd
    · obtain ⟨x, -, rfl⟩ := Option.map_eq_some_iff.1 hd
      rfl
    · cases hd
  · exact (d.dropped_store r rest).1

/-- A record that has room is programmed, and nothing is lost. -/
theorem Dev.commitOne_programs {d : Dev} {r : Rec} {rest : List Rec} (h : d.store.buffer = r :: rest) (hr : d.hasRoom r = true)
    (hp : (d.program r).isSome = true) :
    d.commitOne.records = d.records ∧ d.commitOne = { d with store := d.commitOne.store } := by
  obtain ⟨x, hx⟩ := Option.isSome_iff_exists.1 hp
  have hc : d.commitOne = x.popped rest := by rw [Dev.commitOne_eq h, if_pos hr, Dev.popped_program, hx]; rfl
  obtain ⟨segs, n, rfl, hsegs⟩ := Dev.program_programmed hx
  rw [hc]
  refine ⟨?_, rfl⟩
  change segs.flatMap (fun s => s.records) ++ rest = d.store.segs.flatMap (fun s => s.records) ++ d.store.buffer
  rw [hsegs, h, List.append_assoc]
  rfl

theorem Dev.commitOne_drops {d : Dev} {r : Rec} {rest : List Rec} (h : d.store.buffer = r :: rest) (hr : d.hasRoom r = false) :
    d.commitOne = d.dropped r rest := by
  rw [Dev.commitOne_eq h, if_neg (by simp [hr])]

/-- The third part of O60: the commits of the ledger. -/
theorem ledger_commits (s : State) :
    (s.dev.store.buffer = [] → ∀ ok, Effect (.ledgerCommit ok) s s.dev)
    ∧ (∀ r rest, s.dev.store.buffer = r :: rest →
        (∃ t k, Answers (.ledgerCommit false) s t ∧ t.dev.store.retired = s.dev.store.retired ++ [k] ∧ t.dev.store.segs = s.dev.store.segs
          ∧ t.dev.get 0x1300 3 = (s.dev.get 0x1300 3 + 1) % 2 ^ 32)
        ∧ (∃ t, Answers (.ledgerCommit true) s t ∧ t.dev.store.buffer = rest
            ∧ (s.dev.hasRoom r = true → (s.dev.program r).isSome = true → t.dev.records = s.dev.records
                ∧ t.dev.SameButNotices { s.dev with store := t.dev.store })
            ∧ (s.dev.hasRoom r = false → t.dev.store.segs = s.dev.store.segs
                ∧ t.dev.get 0x9010 0xF = min (s.dev.get 0x9010 0xF + 1) 0xFFFFFFFF))) := by
  have hx : ∀ ok, exec (.ledgerCommit ok) s
      = run s (fun _ d => if d.store.buffer.isEmpty then d else if ok then d.commitOne else d.retireHead) := fun _ => rfl
  refine ⟨fun h ok => ?_, fun r rest h => ⟨?_, ?_⟩⟩
  · rw [Effect, hx, run, if_pos (by simp [h])]
  · have he : Effect (.ledgerCommit false) s s.dev.retireHead := by rw [Effect, hx, run, if_neg (by simp [h]), if_neg (by decide)]
    rw [Dev.retireHead_eq] at he
    have hf := s.dev.retiring.raise_flash 0x2F07 (0x03C00000 + 0x10000 * s.dev.failing) 1
    have hretired := Store.retired_of_flash hf
    have hsegs := Store.segs_of_flash hf
    have hcount := s.dev.retiring.raise_counts 0x2F07 (0x03C00000 + 0x10000 * s.dev.failing) 1
    generalize s.dev.retiring.raise 0x2F07 (0x03C00000 + 0x10000 * s.dev.failing) 1 = x at he hretired hsegs hcount
    exact ⟨_, s.dev.failing, he.answers, hretired, hsegs, hcount⟩
  · have he : Effect (.ledgerCommit true) s s.dev.commitOne := by rw [Effect, hx, run, if_neg (by simp [h]), if_pos rfl]
    refine ⟨_, he.answers, Dev.commitOne_buffer h, fun hr hp => ?_, fun hr => ?_⟩
    · obtain ⟨hrec, heq⟩ := Dev.commitOne_programs h hr hp
      refine ⟨hrec, ?_⟩
      dsimp only
      rw [← heq]
      exact ⟨rfl, fun _ _ _ => rfl⟩
    · dsimp only
      rw [Dev.commitOne_drops h hr]
      exact ⟨(s.dev.dropped_store r rest).2, s.dev.dropped_counts r rest⟩

/-! ## Compaction (19 R563) -/

section
variable {β : Type} {g : Dev → β} (h : ∀ (d : Dev) st, g { d with store := st } = g d)
include h

/-- Programming records and compacting segments change the store alone. -/
theorem Dev.program_keeps (d : Dev) (r : Rec) : g ((d.program r).getD d) = g d := by
  cases hd : d.program r with
  | none => rfl
  | some d' =>
    obtain ⟨segs, n, rfl, -⟩ := Dev.program_programmed hd
    exact h _ _

theorem Dev.compactStep_keeps {d d' : Dev} {pass n : Nat} (hc : d.compactStep pass = some (d', n)) : g d' = g d := by
  unfold Dev.compactStep at hc
  split at hc
  · cases hc
    exact (foldl_keeps (f := fun d r => (d.program r).getD d) (fun d r => Dev.program_keeps h d r) _ _).trans (h _ _)
  · cases hc

theorem Dev.compact_keeps (fuel : Nat) (d : Dev) (left dropped reclaimed : Nat) : g (d.compact left dropped reclaimed fuel).1 = g d := by
  induction fuel generalizing d left dropped reclaimed with
  | zero => rfl
  | succ fuel ih =>
    unfold Dev.compact
    split
    · rfl
    · split
      next d' n hc => exact (ih _ _ _ _).trans (Dev.compactStep_keeps h hc)
      · rfl

end

/-- The ledger once compacted, with its record. -/
def Dev.compacted (d : Dev) : Dev :=
  let q := d.compact (d.store.segs.length - 1) 0 0 4096
  (q.1.ledger 7 (toBytes 4 q.2.1 ++ toBytes 4 q.2.2)).raise 0x0F03 q.2.1 q.2.2

theorem exec_ledgerCompaction (s : State) : exec .ledgerCompaction s = run s (fun _ d =>
    if d.store.segs.length < 768 then d
    else if 32 < d.compacted.freeSegs then { d.compacted with store := { d.compacted.store with fullLatched := false } } else d.compacted) := rfl

/-- What a compaction keeps, and what it counts. -/
theorem Dev.compacted_keeps (d : Dev) : d.compacted.get 0x1300 3 = (d.get 0x1300 3 + 1) % 2 ^ 32 ∧ d.compacted.mem = d.mem
    ∧ d.compacted.disp = d.disp ∧ d.compacted.ports = d.ports := by
  unfold Dev.compacted
  dsimp only
  rw [Dev.raise_counts, Dev.ledger_get_ne _ _ _ (by decide), Dev.raise_mem, Dev.ledger_mem, Dev.raise_disp, Dev.ledger_disp, Dev.raise_ports,
    Dev.ledger_ports, Dev.compact_keeps (g := fun d => d.get 0x1300 3) (fun _ _ => rfl), Dev.compact_keeps (g := Dev.mem) (fun _ _ => rfl),
    Dev.compact_keeps (g := Dev.disp) (fun _ _ => rfl), Dev.compact_keeps (g := Dev.ports) (fun _ _ => rfl)]
  exact ⟨rfl, rfl, rfl, rfl⟩

/-- The fifth part of O60: compaction. -/
theorem compaction_reports (s : State) :
    (s.dev.store.segs.length < 768 → Effect .ledgerCompaction s s.dev)
    ∧ (768 ≤ s.dev.store.segs.length → ∃ t, Answers .ledgerCompaction s t ∧ t.dev.get 0x1300 3 = (s.dev.get 0x1300 3 + 1) % 2 ^ 32
        ∧ t.dev.mem = s.dev.mem ∧ t.dev.disp = s.dev.disp ∧ t.dev.ports = s.dev.ports) := by
  refine ⟨fun h => ?_, fun h => ?_⟩
  · rw [Effect, exec_ledgerCompaction, run, if_pos h]
  · have hx : Effect .ledgerCompaction s (if 32 < s.dev.compacted.freeSegs then
        { s.dev.compacted with store := { s.dev.compacted.store with fullLatched := false } } else s.dev.compacted) := by
      rw [Effect, exec_ledgerCompaction, run, if_neg (by omega)]
    refine ⟨_, hx.answers, ?_⟩
    dsimp only
    have hk := s.dev.compacted_keeps
    generalize s.dev.compacted = x at hk
    split <;> exact hk

end Sys2Proof.Machine
end

section
/-! PROOF. Acknowledgements, lifetime records, the calendar and the test port: O60. -/

namespace Sys2Proof.Machine

/-! ## A write that is refused when it has no effect -/

/-- A granted write of an entry that acts: refused where there is no effect, and else the effect. -/
theorem granted_write {c : Instr} {who : Requester} {s : State} {i k v : Nat} {o : Option Dev}
    (hx : exec c s = runF s (fun fuse d => d.writeIn fuse who i k v true none)) (hi : i < 65536) (hs : k < 256)
    (hl : ¬ (i = 0x1100 ∧ k = 1)) (hb : ¬ (i = 0x9100 ∧ k = 3)) (hr : ¬ (i = 0x8000 ∧ k = 3)) (hg : s.dev.Grants who i k)
    (ho : (s.dev.asked who).actingEntry s.fuse true i k (v % 2 ^ (8 * entrySize i k)) = some (.of (s.dev.asked who) o)) :
    (o = none → Declined c who s i k) ∧ ∀ x, o = some x → Accepted c s i k x := by
  have hw : (s.dev.asked who).writeEntry s.fuse (ownerOf who == .pcie || s.dev.requesterSecure who) true i k (v % 2 ^ (8 * entrySize i k))
      = Written.of (s.dev.asked who) o := by
    rw [Dev.writeEntry, ho]
  have hq := s.dev.writeIn_stays s.fuse who v true none hi hs hg hl (fun h => hb ⟨h.1, h.2.1⟩) hr hw (by cases o <;> rfl)
  refine ⟨fun h => ?_, fun x h => ?_⟩
  · rw [Declined, Effect, hx, runF, hq, h]
    rfl
  · rw [Accepted, Effect, hx, runF, hq, h]
    rfl

theorem Accepted.does {c : Instr} {s : State} {i k : Nat} {x : Dev} (h : Accepted c s i k x) :
    Does c s { s with dev := x.emit (.odAnswer 0 (entrySize i k) 0) } i k := ⟨Effect.answers h, rfl⟩

/-! ## Acknowledgements (19 R560) -/

theorem Dev.asked_store (d : Dev) (who : Requester) : (d.asked who).store = d.store := by unfold Dev.asked; split <;> rfl
theorem Dev.asked_ht (d : Dev) (who : Requester) : (d.asked who).ht = d.ht := by unfold Dev.asked; split <;> rfl

/-- Whether an acknowledgement is newer than the last. -/
def Dev.ackNewer (d : Dev) (v : Nat) : Bool :=
  match d.store.ackSeq with
  | some a => serialNewer 32 v a
  | none => true

/-- An acknowledgement takes effect. -/
def Dev.setAck (d : Dev) (v : Nat) : Dev := { d with store := { d.store with ackSeq := some v } }

/-- The device once an acknowledgement was recorded. -/
def Dev.acknowledged (d : Dev) (v : Nat) : Dev :=
  if d.store.buffer.length < 256 ∧ d.ackNewer v = true then (d.ledger 2 (toBytes 4 v)).setAck v else d.ledger 2 (toBytes 4 v)

theorem Dev.ledgerAck_eq (d : Dev) (v : Nat) :
    d.ledgerAck v = if serialNewer 32 v ((d.store.nextSeq + 2 ^ 32 - 1) % 2 ^ 32) then none else some (d.acknowledged v) := by
  unfold Dev.ledgerAck
  exact if_congr Iff.rfl rfl (congrArg some (if_congr (and_congr decide_eq_true_iff Iff.rfl) rfl rfl))

/-- An acknowledgement record enters a buffer that has room, and is dropped otherwise. -/
theorem Dev.ledger_ack_store (d : Dev) (l : List Byte) : (d.ledger 2 l).store =
    if d.store.buffer.length < 256 then
      { d.store with buffer := d.store.buffer ++ [⟨d.ht, d.store.nextSeq, 2, l⟩], nextSeq := (d.store.nextSeq + 1) % 2 ^ 32 }
    else d.store := by
  unfold Dev.ledger
  dsimp only
  by_cases h : d.store.buffer.length < 256
  · rw [if_pos h, if_pos h]
  · rw [if_neg h, if_neg h, if_neg (by simp [Rec.isFault])]
    rfl

theorem Dev.acknowledged_store (d : Dev) (v : Nat) :
    (d.store.buffer.length < 256 → (d.acknowledged v).store.buffer = d.store.buffer ++ [⟨d.ht, d.store.nextSeq, 2, toBytes 4 v⟩]
        ∧ (d.acknowledged v).store.nextSeq = (d.store.nextSeq + 1) % 2 ^ 32)
      ∧ (d.acknowledged v).store.ackSeq = if d.store.buffer.length < 256 ∧ d.ackNewer v = true then some v else d.store.ackSeq := by
  have hl := d.ledger_ack_store (toBytes 4 v)
  unfold Dev.acknowledged
  by_cases h : d.store.buffer.length < 256
  · rw [if_pos h] at hl
    by_cases hn : d.ackNewer v = true
    · simp only [h, hn, and_self, if_true, Dev.setAck, hl, forall_const]
    · simp only [h, hn, and_false, Bool.false_eq_true, if_false, hl, forall_const, and_self]
  · rw [if_neg h] at hl
    simp only [h, false_and, if_false, hl, IsEmpty.forall_iff, true_and]

/-- The fourth part of O60: acknowledgements. -/
theorem acknowledgements_follow (who : Requester) (v : Word) (s : State) (hg : s.dev.Grants who 0x9010 0xD) :
    let c : Instr := .ledgerAck who v
    let x := s.dev.store
    let ahead := serialNewer 32 v.toNat ((x.nextSeq + 2 ^ 32 - 1) % 2 ^ 32) = true
    (ahead → Declined c who s 0x9010 0xD)
    ∧ (¬ ahead → ∃ t, Does c s t 0x9010 0xD
        ∧ (x.buffer.length < 256 → t.dev.store.buffer = x.buffer ++ [⟨s.dev.ht, x.nextSeq, 2, toBytes 4 v.toNat⟩]
            ∧ t.dev.store.nextSeq = (x.nextSeq + 1) % 2 ^ 32)
        ∧ (x.buffer.length < 256 → (∀ a, x.ackSeq = some a → serialNewer 32 v.toNat a = true) → t.dev.store.ackSeq = some v.toNat)
        ∧ (256 ≤ x.buffer.length ∨ (∃ a, x.ackSeq = some a ∧ serialNewer 32 v.toNat a = false) → t.dev.store.ackSeq = x.ackSeq)) := by
  intro c x ahead
  have hv : v.toNat % 2 ^ (8 * entrySize 0x9010 0xD) = v.toNat := Nat.mod_eq_of_lt v.isLt
  have ho : (s.dev.asked who).actingEntry s.fuse true 0x9010 0xD (v.toNat % 2 ^ (8 * entrySize 0x9010 0xD))
      = some (.of (s.dev.asked who) ((s.dev.asked who).ledgerAck v.toNat)) := by
    rw [hv]
    rfl
  obtain ⟨hno, hyes⟩ := granted_write (c := c) rfl (by decide) (by decide) (by decide) (by decide) (by decide) hg ho
  rw [Dev.ledgerAck_eq, Dev.asked_store] at hno hyes
  refine ⟨fun ha => hno (if_pos ha), fun ha => ?_⟩
  have hdoes := (hyes _ (if_neg ha)).does
  obtain ⟨hbuf, hack⟩ := (s.dev.asked who).acknowledged_store v.toNat
  rw [Dev.asked_store, Dev.asked_ht] at hbuf
  rw [Dev.asked_store] at hack
  have hn : (s.dev.asked who).ackNewer v.toNat = true ↔ ∀ a, x.ackSeq = some a → serialNewer 32 v.toNat a = true := by
    unfold Dev.ackNewer
    rw [Dev.asked_store]
    cases hx : x.ackSeq with
    | none => exact ⟨fun _ _ h => absurd h (by simp), fun _ => rfl⟩
    | some a => exact ⟨fun h _ ha => by cases ha; exact h, fun h => h a rfl⟩
  refine ⟨_, hdoes, hbuf, fun h1 h2 => ?_, fun h => ?_⟩
  · exact hack.trans (if_pos ⟨h1, hn.2 h2⟩)
  · refine hack.trans (if_neg fun ⟨h1, h2⟩ => ?_)
    obtain h | ⟨a, ha, hs⟩ := h
    · exact absurd h1 (Nat.not_lt.2 h)
    · rw [hn.1 h2 a ha] at hs
      cases hs

/-! ## Lifetime records (19 R570) -/

/-- What an accepted write of `CALENDAR` and the counts of the lifetime leave: what neither events nor other entries change. -/
@[simp] theorem Dev.life_mute (d : Dev) (sub w n : Nat) : (d.life sub w n).mute = d.mute := by
  unfold Dev.life
  dsimp only
  split
  · rw [Dev.raise_mute]
    rfl
  · rfl

theorem Dev.life_get (d : Dev) (sub w n : Nat) {i j : Nat} (h : odKey i j ∉ noticeKeys) (hs : odKey i j ≠ odKey 0xA010 sub) :
    (d.life sub w n).get i j = d.get i j := by
  unfold Dev.life
  dsimp only
  split
  · rw [Dev.raise_get _ h, Dev.addSat_get_ne _ _ _ _ _ _ _ hs]
  · exact Dev.addSat_get_ne _ _ _ _ _ _ _ hs

/-- The number of the next lifetime record. -/
def Dev.lifeSeq (d : Dev) : Nat :=
  match d.store.life with
  | some l => (l.seq + 1) % 2 ^ 32
  | none => 0

/-- The device with `FLASH_ERASES_MAX` brought up to date (19 R569). -/
def Dev.rotated (d : Dev) : Dev :=
  let rot := max ((d.store.erases + 1023) / 1024) (d.lifeSeq / 4096 + 1)
  if d.get 0xA010 8 < rot then d.life 8 32 (rot - d.get 0xA010 8) else d

/-- The lifetime record that a device writes. -/
def Dev.lifeRecord (d : Dev) (seq : Nat) : LifeRec :=
  ⟨seq, d.lifeCounters, [d.store.onRem, d.store.runRem, d.store.hotRem, d.store.energyRem], d.get 0xA000 1, d.store.retired⟩

theorem Dev.writeLife_eq (d : Dev) : d.writeLife = { d.rotated with store := { d.rotated.store with
    life := some (d.rotated.lifeRecord d.lifeSeq), lifeOld := (d.rotated.store.life.toList ++ d.rotated.store.lifeOld).take 4095
    lastLife := d.rotated.now } } := rfl

theorem Dev.rotated_mute (d : Dev) : d.rotated.mute = d.mute := by
  unfold Dev.rotated
  dsimp only
  split
  · exact d.life_mute _ _ _
  · rfl

theorem Dev.rotated_get (d : Dev) {i j : Nat} (h : odKey i j ∉ noticeKeys) (hs : odKey i j ≠ odKey 0xA010 8) : d.rotated.get i j = d.get i j := by
  unfold Dev.rotated
  dsimp only
  split
  · exact d.life_get _ _ _ h hs
  · rfl

/-- The newest lifetime record of `d` is one of number `seq`, written at `now` from the counters as they stand. -/
def Dev.LifeWritten (d : Dev) (seq now : Nat) : Prop :=
  ∃ r, d.store.life = some r ∧ r.seq = seq ∧ r.counters = d.lifeCounters ∧ r.calendar = d.get 0xA000 1 ∧ d.store.lastLife = now

theorem Dev.writeLife_written (d : Dev) : d.writeLife.LifeWritten d.lifeSeq d.now := by
  have hnow := Dev.of_mute_now d.rotated_mute
  rw [Dev.writeLife_eq]
  generalize d.rotated = x at hnow
  exact ⟨x.lifeRecord d.lifeSeq, rfl, rfl, rfl, rfl, hnow⟩

theorem Dev.writeLife_get (d : Dev) {i j : Nat} (h : odKey i j ∉ noticeKeys) (hs : odKey i j ≠ odKey 0xA010 8) :
    d.writeLife.get i j = d.get i j := by
  rw [← d.rotated_get h hs, Dev.writeLife_eq]
  rfl

theorem Dev.writeLife_tb (d : Dev) : d.writeLife.tb = d.tb := by
  rw [← Dev.of_mute_tb d.rotated_mute, Dev.writeLife_eq]

theorem Dev.lifeSeq_of_mute {a b : Dev} (h : a.mute = b.mute) : a.lifeSeq = b.lifeSeq := by
  unfold Dev.lifeSeq
  rw [Store.life_of_flash (Dev.flash_of_mute h)]

/-- Where the next lifetime record lies among the 4,096 places. -/
def Dev.lifePlace (d : Dev) : Nat :=
  match d.store.life with
  | some l => (l.seq + 1) % 4096
  | none => 0

/-- LIFETIME_RECORD_WRITE before its record: a failing sector is reported (19 R551). -/
def Dev.lifeSector (d : Dev) (ok : Bool) : Dev := if ok then d else d.raise 0x2F07 (0x100000 + 256 * d.lifePlace) 1

theorem exec_lifetimeRecordWrite (ok : Bool) (s : State) : exec (.lifetimeRecordWrite ok) s
    = run s (fun _ d => if d.now < d.store.lastLife + 900000000000 then d else (d.lifeSector ok).writeLife) := rfl

theorem Dev.lifeSector_mute (d : Dev) (ok : Bool) : (d.lifeSector ok).mute = d.mute := by
  unfold Dev.lifeSector
  split
  · rfl
  · exact d.raise_mute _ _ _

theorem Dev.lifeSector_get (d : Dev) (ok : Bool) {i j : Nat} (h : odKey i j ∉ noticeKeys) : (d.lifeSector ok).get i j = d.get i j := by
  unfold Dev.lifeSector
  split
  · rfl
  · exact d.raise_get h _ _ _

/-- The first half of the sixth part of O60: lifetime records. -/
theorem lifetime_follows (ok : Bool) (s : State) :
    (s.dev.now < s.dev.store.lastLife + 900000000000 → Effect (.lifetimeRecordWrite ok) s s.dev)
    ∧ (s.dev.store.lastLife + 900000000000 ≤ s.dev.now → ∃ t, Answers (.lifetimeRecordWrite ok) s t
      ∧ t.dev.LifeWritten s.dev.lifeSeq s.dev.now ∧ t.dev.get 0xA000 1 = s.dev.get 0xA000 1) := by
  refine ⟨fun h => ?_, fun h => ?_⟩
  · rw [Effect, exec_lifetimeRecordWrite, run, if_pos h]
  · have hx : Effect (.lifetimeRecordWrite ok) s (s.dev.lifeSector ok).writeLife := by
      rw [Effect, exec_lifetimeRecordWrite, run, if_neg (by omega)]
    have hm := s.dev.lifeSector_mute ok
    have hw := (s.dev.lifeSector ok).writeLife_written
    rw [Dev.lifeSeq_of_mute hm, Dev.of_mute_now hm] at hw
    refine ⟨_, hx.answers, hw, ?_⟩
    dsimp only
    rw [Dev.writeLife_get _ (by decide) (by decide), Dev.lifeSector_get _ _ (by decide)]

/-! ## The calendar (19 R568) -/

/-- The calendar set, and its change in the ledger. -/
def Dev.calendarSet (d : Dev) (v : Nat) : Dev :=
  ((d.put 0xA000 1 v).put 0xA000 2 1).ledger 6 (toBytes 8 (d.get 0xA000 1) ++ toBytes 8 v)

theorem Dev.calendarWrite_eq (d : Dev) (v : Nat) : d.calendarWrite v = if d.timeState = 2 then none else some (d.calendarSet v).writeLife := rfl

theorem Dev.calendarSet_mute (d : Dev) (v : Nat) : (d.calendarSet v).mute = d.mute := Dev.ledger_mute _ _ _

theorem Dev.calendarSet_get (d : Dev) {v : Nat} (hv : v < 2 ^ 64) :
    (d.calendarSet v).get 0xA000 1 = v ∧ (d.calendarSet v).get 0xA000 2 = 1 := by
  unfold Dev.calendarSet
  rw [Dev.ledger_get_ne _ _ _ (by decide), Dev.ledger_get_ne _ _ _ (by decide), Dev.put_get_same, Dev.put_get_ne _ _ _ _ _ _ (by decide),
    Dev.put_get_same]
  exact ⟨Nat.mod_eq_of_lt hv, rfl⟩

/-- The second half of the sixth part of O60: the calendar. -/
theorem calendar_follows (who : Requester) (v : DWord) (s : State) (hg : s.dev.Grants who 0xA000 1) :
    (s.dev.timeState = 2 → Declined (.calendarWrite who v) who s 0xA000 1)
    ∧ (s.dev.timeState ≠ 2 → ∃ t, Does (.calendarWrite who v) s t 0xA000 1 ∧ t.dev.get 0xA000 1 = v.toNat
      ∧ t.dev.get 0xA000 2 = 1 ∧ t.dev.LifeWritten s.dev.lifeSeq s.dev.now ∧ t.dev.tb = s.dev.tb) := by
  have hv : v.toNat % 2 ^ (8 * entrySize 0xA000 1) = v.toNat := Nat.mod_eq_of_lt v.isLt
  have ho : (s.dev.asked who).actingEntry s.fuse true 0xA000 1 (v.toNat % 2 ^ (8 * entrySize 0xA000 1))
      = some (.of (s.dev.asked who) ((s.dev.asked who).calendarWrite v.toNat)) := by
    rw [hv]
    rfl
  obtain ⟨hno, hyes⟩ := granted_write (c := .calendarWrite who v) rfl (by decide) (by decide) (by decide) (by decide) (by decide) hg ho
  have ht : (s.dev.asked who).timeState = s.dev.timeState := s.dev.asked_get_ne who (by decide)
  rw [Dev.calendarWrite_eq, ht] at hno hyes
  refine ⟨fun h => hno (if_pos h), fun h => ?_⟩
  have hdoes := (hyes _ (if_neg h)).does
  have hm := ((s.dev.asked who).calendarSet_mute v.toNat).trans (s.dev.asked_mute who)
  obtain ⟨h1, h2⟩ := (s.dev.asked who).calendarSet_get v.isLt
  have hw := ((s.dev.asked who).calendarSet v.toNat).writeLife_written
  rw [Dev.lifeSeq_of_mute hm, Dev.of_mute_now hm] at hw
  have htb := (((s.dev.asked who).calendarSet v.toNat).writeLife_tb).trans (Dev.of_mute_tb hm)
  have hg1 := (((s.dev.asked who).calendarSet v.toNat).writeLife_get (i := 0xA000) (j := 1) (by decide) (by decide)).trans h1
  have hg2 := (((s.dev.asked who).calendarSet v.toNat).writeLife_get (i := 0xA000) (j := 2) (by decide) (by decide)).trans h2
  generalize ((s.dev.asked who).calendarSet v.toNat).writeLife = x at hdoes hw htb hg1 hg2
  exact ⟨_, hdoes, hg1, hg2, hw, htb⟩

/-! ## The test port (18 R543; 20 R588) -/

/-- The seventh part of O60: the test port. -/
theorem testPort_follows (code : Nat) (i : TestInstr) (s : State) :
    let scans := s.dev.power.pstate = .standby ∧ s.dev.pins.stopN = true
    Effect (.testPortAccess .mandatory) s (s.dev.emit (.testPort 0))
    ∧ (i = .extest ∨ i = .clamp → scans → Effect (.testPortAccess i) s (s.dev.emit (.testPort 0)))
    ∧ (i = .extest ∨ i = .clamp → ¬ scans → Effect (.testPortAccess i) s (s.dev.emit (.testPort (Config.scanEffect s.dev.draws))).draw)
    ∧ (i = .shepherdDebug ∨ i = .privateTest code → s.dev.sec.unlocked = false → Effect (.testPortAccess i) s s.dev)
    ∧ (i = .shepherdDebug ∨ i = .privateTest code → s.dev.sec.unlocked = true →
        exec (.testPortAccess i) s = .refused (.privateTestInstruction (if i = .shepherdDebug then 0 else code))) := by
  intro scans
  have hscan : i = .extest ∨ i = .clamp → exec (.testPortAccess i) s = run s (fun _ d =>
      if d.power.pstate = .standby ∧ d.pins.stopN then d.emit (.testPort 0)
      else (d.emit (.testPort (Config.scanEffect d.draws))).draw) := by
    rintro (rfl | rfl) <;> rfl
  have hlocked : i = .shepherdDebug ∨ i = .privateTest code → exec (.testPortAccess i) s =
      if s.dev.sec.unlocked then .refused (.privateTestInstruction (if i = .shepherdDebug then 0 else code)) else .next s := by
    rintro (rfl | rfl) <;> rfl
  refine ⟨rfl, fun h hs => ?_, fun h hs => ?_, fun h hu => ?_, fun h hu => ?_⟩
  · rw [Effect, hscan h, run, if_pos hs]
  · rw [Effect, hscan h, run, if_neg hs]
  · rw [Effect, hlocked h, if_neg (by simp [hu])]
  · rw [hlocked h, if_pos hu]

/-- Settles O60: each event of the pins, the ledger, the lifetime area, the calendar and the test port has a lemma of its own. -/
theorem storeAndPinsFollowTheirEvents : Obligations.StoreAndPinsFollowTheirEvents := by
  unfold Obligations.StoreAndPinsFollowTheirEvents
  refine ⟨straps_follow, stopN_follows, ledger_commits, acknowledgements_follow, compaction_reports, fun ok who v s => ?_, testPort_follows⟩
  obtain ⟨h1, h2⟩ := lifetime_follows ok s
  exact ⟨h1, h2, fun hg => (calendar_follows who v s hg).1, fun hg => (calendar_follows who v s hg).2⟩

end Sys2Proof.Machine
end

section
/-! PROOF. A sweep under way (05 R159, R160; 08 R245, R246, R255): its four commands, O34. -/

namespace Sys2Proof.Machine

/-! ## What the errors of a read leave of the state-ready map (08 R243) -/

/-- The bytes of memory, and where the state-ready map lies in them. -/
def Dev.mapped (d : Dev) : SMap Byte × Nat := (d.mem.cells, d.readyBase)

section
variable (d : Dev)

theorem Dev.readyBit_of_mapped {a b : Dev} (h : a.mapped = b.mapped) (k : Nat) : a.readyBit k = b.readyBit k := by
  obtain ⟨hcells, hbase⟩ := Prod.mk.inj h
  rw [Dev.readyBit, Dev.readyBit, hbase, Dev.num, Dev.num, Mem.num, Mem.num, Mem.read_of_cells hcells]

theorem Dev.put_mapped (i k v : Nat) (h : odKey 0x50A0 1 ≠ odKey i k) : (d.put i k v).mapped = d.mapped :=
  congrArg (Prod.mk d.mem.cells) (d.put_get_ne i k v 0x50A0 1 h)

theorem Dev.raiseRec_mapped (c r : Nat) : (d.raiseRec c r).mapped = d.mapped :=
  Prod.ext (congrArg Mem.cells (Dev.of_mute_mem (d.raiseRec_mute c r))) (d.raise_get (by decide) _ _ _)

theorem Dev.errLog_mapped (e : Nat) : (d.errLog e).mapped = d.mapped :=
  (Dev.put_mapped _ _ _ _ (by decide)).trans (foldl_keeps (g := Dev.mapped)
    (f := fun d i => d.put 0x4033 (32 - i) (d.get 0x4033 (31 - i))) (fun d i => d.put_mapped _ _ _ (by unfold odKey; omega)) (below 31) d)

theorem errSub_lt (m : Nat) : errSub m < 256 := by unfold errSub; split <;> [omega; (split <;> omega)]

theorem Dev.errCount_mapped (m : Nat) (u : Bool) : (d.errCount m u).mapped = d.mapped := by
  have hm := errSub_lt m
  unfold Dev.errCount
  extract_lets i x
  have hx : x.mapped = d.mapped := d.put_mapped _ _ _ (by simp only [i, odKey]; split <;> omega)
  split
  · exact (x.put_mapped _ _ _ (by decide)).trans hx
  · exact hx

theorem Dev.eccFound_mapped (a : Nat) (u : Bool) : (d.eccFound a u).mapped = d.mapped := by
  have hlog : ∀ (d : Dev) (e m : Nat) (u : Bool), ((d.errLog e).errCount m u).mapped = d.mapped := fun d e m u =>
    (Dev.errCount_mapped _ m u).trans (d.errLog_mapped e)
  unfold Dev.eccFound
  dsimp only
  split
  · generalize (if d.memdev a = 36 then _ else _ : Bool) = marked
    split
    · rfl
    · rw [Dev.raiseRec_mapped, hlog]
      split <;> rfl
  · have hx := hlog d (errRecord d.ht 0 (d.memdev a) a) (d.memdev a) false
    unfold Dev.oncePerSecond
    dsimp only
    split
    · exact (Dev.raiseRec_mapped _ _ _).trans hx
    · exact hx

theorem Dev.eccRead_readyBit (tiles : List Nat) (ecc : List EccHit) (k : Nat) : (d.eccRead tiles ecc).readyBit k = d.readyBit k := by
  refine Dev.readyBit_of_mapped (foldl_keeps (g := Dev.mapped) (fun d h => ?_) _ d) k
  split
  · exact d.eccFound_mapped _ _
  · rfl

/-- The errors that a read finds make no entry eligible, nor take one back. -/
theorem Dev.eccRead_eligible (tiles : List Nat) (ecc : List EccHit) (r : SweepRun) : (d.eccRead tiles ecc).eligible r = d.eligible r := by
  funext i
  simp only [Dev.eligible, Dev.eccRead_readyBit]

end

/-! ## The course of a sweep (08 R245, R255) -/

section
variable (d : Dev)

theorem Dev.setVring_entry (n v id : Nat) : (d.setVring n v).entry id = d.entry id := rfl

theorem Dev.finish_cmp (id : Nat) (done : Done) : (d.finish id done).cmp = d.cmp := by unfold Dev.finish; split <;> rfl

/-- A sweep that has ended has left the sequencer. -/
theorem Dev.endSweep_sweep (r : SweepRun) : (d.endSweep r).cmp.sweep = none := by rw [Dev.endSweep, Dev.finish_cmp]; rfl

/-- A sweep that has ended has given its descriptor its outcome. -/
theorem Dev.endSweep_entry {r : SweepRun} {e : Entry} (h : d.entry r.id = some e) :
    (d.endSweep r).entry r.id = some { e with done := some { r.done with result := r.result } } :=
  (Dev.finish_entry (d := (d.setSweep none).addSat 0x50A0 7 64 r.idleUs) h _).1

/-- `q` is sweep `r` after some of its turns: it waits for its claim just if `r` does, was idle as long, and has no more entries left. -/
structure SweepRun.Later (r q : SweepRun) : Prop where
  claiming : q.claiming = r.claiming
  idle : q.idle = r.idle
  left : q.left.length ≤ r.left.length

theorem SweepRun.Later.trans {r q p : SweepRun} (h : r.Later q) (h' : q.Later p) : r.Later p :=
  ⟨h'.claiming.trans h.claiming, h'.idle.trans h.idle, h'.left.trans h.left⟩

/-- One turn of a sweep that goes on: it has ended, waits as it is with no entry eligible, or has visited an eligible entry, which is then
no longer left. -/
theorem Dev.sweepOn_turn {r : SweepRun} {e : Entry} (sh : List ShadowRec) (fuel : Nat) {q : SweepRun}
    (h : (d.sweepOn r e sh (fuel + 1)).cmp.sweep = some q) :
    (r.Later q ∧ ∀ i ∈ r.left, d.eligible r i = false)
      ∨ ∃ d' r', r.Later r' ∧ r'.left.length < r.left.length ∧ (Dev.sweepOn d' r' e sh fuel).cmp.sweep = some q := by
  rw [Dev.sweepOn] at h
  split at h
  · simp [Dev.endSweep_sweep] at h
  split at h
  · simp [Dev.endSweep_sweep] at h
  extract_lets r₁ at h
  split at h
  next hnone =>
    obtain rfl : { r₁ with idleFrom := some d.now } = q := Option.some.inj h
    refine .inl ⟨⟨rfl, rfl, le_rfl⟩, fun i hi => ?_⟩
    have hi' : ¬ d.eligible r i = true := List.find?_eq_none.1 hnone i hi
    simpa using hi'
  next i hsome =>
    have hi : i ∈ r.left := List.mem_of_find?_eq_some hsome
    have hlt : (r.left.filter (fun k => k != i)).length < r.left.length :=
      List.length_filter_lt_length_iff_exists.2 ⟨i, hi, by simp⟩
    split at h
    extract_lets j r₂ at h
    split at h
    · simp [Dev.endSweep_sweep] at h
    · refine .inr ⟨_, _, ?_, ?_, h⟩
      · exact ⟨rfl, rfl, hlt.le⟩
      · exact hlt

/-- What is left of a sweep that went on is the sweep after some of its turns. -/
theorem Dev.sweepOn_later {r : SweepRun} {e : Entry} (sh : List ShadowRec) (fuel : Nat) {q : SweepRun}
    (h : (d.sweepOn r e sh fuel).cmp.sweep = some q) : r.Later q := by
  induction fuel generalizing d r with
  | zero => simp [Dev.sweepOn, Dev.endSweep_sweep] at h
  | succ fuel ih =>
    obtain ⟨hlater, -⟩ | ⟨d', r', hr, -, h'⟩ := d.sweepOn_turn sh fuel h
    · exact hlater
    · exact hr.trans (ih d' h')

/-- A sweep that goes on with an eligible entry has ended or has fewer entries left. -/
theorem Dev.sweepOn_shrinks {r : SweepRun} {e : Entry} (sh : List ShadowRec) (fuel : Nat) {q : SweepRun} {i : Nat} (hi : i ∈ r.left)
    (he : d.eligible r i = true) (h : (d.sweepOn r e sh (fuel + 1)).cmp.sweep = some q) : q.left.length < r.left.length ∧ q.idle = r.idle := by
  obtain ⟨-, hnone⟩ | ⟨d', r', hr, hlt, h'⟩ := d.sweepOn_turn sh fuel h
  · simp [hnone i hi] at he
  · have hq := d'.sweepOn_later sh fuel h'
    exact ⟨hq.left.trans_lt hlt, hq.idle.trans hr.idle⟩

/-- A sweep with entries left whose step is abandoned ends with `STEP_ABANDONED`, unless it has a code (08 R255). -/
theorem Dev.sweepOn_abandoned {r : SweepRun} {e : Entry} (sh : List ShadowRec) (hl : r.left ≠ [])
    (hf : e.step ∈ d.disp.fatalSteps) (hc : r.done.code = 0) :
    d.sweepOn r e sh 1 = d.endSweep { r with done := { r.done with code := ccAbandoned } } := by
  show d.sweepOn r e sh (0 + 1) = _
  rw [Dev.sweepOn, if_neg (by simpa using hl), if_pos (by simpa using hf), if_pos hc]

end

/-! ## The four commands -/

theorem Job.raise_d (j : Job) (c a b : Nat) : (j.raise c a b).d = j.d.raise c a b := by rw [Job.raise, Job.noteEvent_d, Job.dev_d]

@[simp] theorem Dev.setSweep_mem (d : Dev) (q : Option SweepRun) : (d.setSweep q).mem = d.mem := rfl
@[simp] theorem Dev.setSweep_disp (d : Dev) (q : Option SweepRun) : (d.setSweep q).disp = d.disp := rfl
@[simp] theorem Dev.setSweep_get (d : Dev) (q : Option SweepRun) (i k : Nat) : (d.setSweep q).get i k = d.get i k := rfl

/-- An event of a sweep under way changes nothing of memory and of the dispatcher, and counts once (14 R429). -/
theorem Dev.raise_setSweep (d : Dev) (c a b : Nat) (q : Option SweepRun) :
    ((d.raise c a b).setSweep q).mem = d.mem ∧ ((d.raise c a b).setSweep q).disp = d.disp
      ∧ ((d.raise c a b).setSweep q).get 0x1300 3 = (d.get 0x1300 3 + 1) % 2 ^ 32 := by
  rw [Dev.setSweep_mem, Dev.setSweep_disp, Dev.setSweep_get]
  exact ⟨d.raise_mem c a b, d.raise_disp c a b, d.raise_counts c a b⟩

/-- The sweep once its claim is decided. -/
def SweepRun.unclaimed (r : SweepRun) : SweepRun := { r with claiming := false }

/-- The sweep once it looks at the map again, idle since `t` until `now` (08 R246). -/
def SweepRun.woken (r : SweepRun) (t now : Nat) : SweepRun := { r with idleFrom := none, idle := r.idle + (now - t) }

/-- Without a sweep under way none of them changes anything. -/
theorem sweepCommands_rest {l : List ShadowRec} {ecc : List EccHit} {n : Nat} {s : State} (h : s.dev.sweeping = none) {c : Instr}
    (hc : c = .vringClaim l ecc ∨ c = .vringClaimWait ∨ c = .sweepShardEligible l ecc ∨ c = .sweepResidencyWait n) : Effect c s s.dev := by
  obtain rfl | rfl | rfl | rfl := hc
  · show execVringClaim l ecc s = _; simp only [execVringClaim, run, h]
  · show execVringClaimWait s = _; simp only [execVringClaimWait, run, h]
  · show execSweepShardEligible l ecc s = _; simp only [execSweepShardEligible, run, h]
  · show execSweepResidencyWait n s = _; simp only [execSweepResidencyWait, run, h]

theorem Dev.entry_of_sweeping {d : Dev} {r : SweepRun} {e : Entry} (h : d.sweeping = some (r, e)) : d.entry r.id = some e := by
  unfold Dev.sweeping at h
  split at h
  · obtain ⟨e', he, hp⟩ := Option.map_eq_some_iff.1 h
    obtain ⟨rfl, rfl⟩ := Prod.mk.inj hp
    exact he
  · cases h

section
variable {s : State} {r : SweepRun} {e : Entry} (h : s.dev.sweeping = some (r, e)) (l : List ShadowRec) (ecc : List EccHit)
include h

/-- VRING_CLAIM: the sweep rests, ends with its step, or goes on with its slot claimed (05 R159, R160; 08 R255). -/
theorem vringClaim_cases :
    let n := swVring e.desc
    let v := s.dev.vring n
    let us := (s.dev.now - r.since) / 1000
    (r.claiming = false ∨ s.dev.disp.fatal = true ∨ (e.step ∉ s.dev.disp.fatalSteps ∧ ¬ claimReady v (swNewVersion e.desc) = true) →
        Effect (.vringClaim l ecc) s s.dev)
    ∧ (r.claiming = true → ¬ s.dev.disp.fatal = true → e.step ∈ s.dev.disp.fatalSteps →
        Effect (.vringClaim l ecc) s ((s.dev.setVring n (claimStall v us)).sweepOn r.unclaimed e l 1))
    ∧ (r.claiming = true → ¬ s.dev.disp.fatal = true → e.step ∉ s.dev.disp.fatalSteps → claimReady v (swNewVersion e.desc) = true →
        Effect (.vringClaim l ecc) s
          (((s.dev.eccRead [] ecc).setVring n (claimStall (claimed v (swNewVersion e.desc)) us)).sweepOn r.unclaimed e l (r.left.length + 1))) := by
  intro n v us
  have hx : exec (.vringClaim l ecc) s = run s (fun _ _ =>
      if !r.claiming || s.dev.disp.fatal then s.dev
      else if s.dev.disp.fatalSteps.contains e.step then
        (s.dev.setVring n (claimStall v us)).sweepOn r.unclaimed e l 1
      else if !claimReady v (swNewVersion e.desc) then s.dev
      else ((s.dev.eccRead [] ecc).setVring n (claimStall (claimed v (swNewVersion e.desc)) us)).sweepOn r.unclaimed e l (r.left.length + 1)) := by
    show execVringClaim l ecc s = _
    simp only [execVringClaim, run, h] <;> rfl
  simp only [Effect, hx, run]
  refine ⟨fun hrest => ?_, fun hc hd hf => ?_, fun hc hd hf hr => ?_⟩
  · by_cases hgo : (!r.claiming || s.dev.disp.fatal) = true
    · rw [if_pos hgo]
    · obtain hc | hd | ⟨hf, hr⟩ := hrest
      · simp [hc] at hgo
      · simp [hd] at hgo
      · rw [if_neg hgo, if_neg (by simpa using hf), if_pos (by simpa using hr)]
  · rw [if_neg (by simpa [hc] using hd), if_pos (by simpa using hf)]
  · rw [if_neg (by simpa [hc] using hd), if_neg (by simpa using hf), if_neg (by simpa using hr)]

/-- VRING_CLAIM_WAIT: a wait longer than `WAIT_WATCH` is reported once (05 R160). -/
theorem vringClaimWait_cases :
    let due := r.claiming = true ∧ r.raised = false ∧ r.watch ≠ 0 ∧ r.watch * 1000000 < s.dev.now - r.since
    let slot := vrSlot (s.dev.vring (swVring e.desc)) (swNewVersion e.desc)
    let q := { r with raised := true, done := ((⟨s.dev, r.done⟩ : Job).raise 0x0532 (swVring e.desc) slot).done }
    (¬ due → Effect .vringClaimWait s s.dev)
    ∧ (due → Effect .vringClaimWait s ((s.dev.raise 0x0532 (swVring e.desc) slot).setSweep (some q))) := by
  intro due slot q
  have hx : exec .vringClaimWait s = run s (fun _ _ =>
      if !r.claiming || r.raised || r.watch == 0 || decide (s.dev.now - r.since ≤ r.watch * 1000000) then s.dev
      else (s.dev.raise 0x0532 (swVring e.desc) slot).setSweep (some q)) := by
    show execVringClaimWait s = _
    simp only [execVringClaimWait, run, h, Job.raise_d] <;> rfl
  have hc : (!r.claiming || r.raised || r.watch == 0 || decide (s.dev.now - r.since ≤ r.watch * 1000000)) = true ↔ ¬ due := by
    simp only [due, not_and_or, ne_eq, not_not, Bool.not_eq_false]
    simp [or_assoc]
  simp only [Effect, hx, run]
  exact ⟨fun hdue => by rw [if_pos (hc.2 hdue)], fun hdue => by rw [if_neg (mt hc.1 (not_not.2 hdue))]⟩

/-- SWEEP_SHARD_ELIGIBLE: the sweep rests, or goes on with the time counted for which it was idle (08 R245, R246, R255). -/
theorem sweepShardEligible_cases :
    (r.idleFrom = none ∨ s.dev.disp.fatal = true ∨ (e.step ∉ s.dev.disp.fatalSteps ∧ ∀ i ∈ r.left, s.dev.eligible r i = false) →
        Effect (.sweepShardEligible l ecc) s s.dev)
    ∧ ∀ t i, r.idleFrom = some t → i ∈ r.left → s.dev.eligible r i = true → ¬ s.dev.disp.fatal = true →
        Effect (.sweepShardEligible l ecc) s ((s.dev.eccRead [] ecc).sweepOn (r.woken t s.dev.now) e l (r.left.length + 1)) := by
  have hx : exec (.sweepShardEligible l ecc) s = run s (fun _ _ =>
      match r.idleFrom with
      | none => s.dev
      | some t =>
        if s.dev.disp.fatal || (!s.dev.disp.fatalSteps.contains e.step && !r.left.any (s.dev.eligible r)) then s.dev
        else (s.dev.eccRead [] ecc).sweepOn (r.woken t s.dev.now) e l (r.left.length + 1)) := by
    show execSweepShardEligible l ecc s = _
    simp only [execSweepShardEligible, run, h] <;> rfl
  simp only [Effect, hx, run]
  refine ⟨fun hrest => ?_, fun t i ht hi he hd => ?_⟩
  · cases ht : r.idleFrom with
    | none => rfl
    | some t =>
      obtain hn | hd | ⟨hf, hno⟩ := hrest
      · cases ht.symm.trans hn
      · simp only [hd, Bool.true_or, if_true]
      · have hany : r.left.any (s.dev.eligible r) = false := by simpa using hno
        have hcont : s.dev.disp.fatalSteps.contains e.step = false := by simpa using hf
        simp only [hany, hcont, Bool.not_false, Bool.and_self, Bool.or_true, if_true]
  · have hany : r.left.any (s.dev.eligible r) = true := List.any_eq_true.2 ⟨i, hi, he⟩
    simp only [ht, hany]
    rw [if_neg (by simpa using hd)]

/-- SWEEP_RESIDENCY_WAIT: an entry that waits longer than `WAIT_WATCH` is reported once (08 R246). -/
theorem sweepResidencyWait_cases {n : Nat} {w : Visit} (hw : r.seen.find? (fun w => w.entry == n) = some w) :
    let due := n ∈ r.left ∧ w.raised = false ∧ w.watch ≠ 0 ∧ s.dev.eligible r n = false ∧ w.watch * 1000000 < s.dev.now - w.since
    let shard := shId ((r.table[n]?).getD 0)
    let q := { r with
      done := ((⟨s.dev, r.done⟩ : Job).raise 0x0545 shard 0).done
      seen := r.seen.map (fun w => if w.entry = n then { w with raised := true } else w) }
    (¬ due → Effect (.sweepResidencyWait n) s s.dev)
    ∧ (due → Effect (.sweepResidencyWait n) s ((s.dev.raise 0x0545 shard 0).setSweep (some q))) := by
  intro due shard q
  have hx : exec (.sweepResidencyWait n) s = run s (fun _ _ =>
      if !r.left.contains n || w.raised || w.watch == 0 || s.dev.eligible r n || decide (s.dev.now - w.since ≤ w.watch * 1000000) then s.dev
      else (s.dev.raise 0x0545 shard 0).setSweep (some q)) := by
    show execSweepResidencyWait n s = _
    simp only [execSweepResidencyWait, run, h, hw, Job.raise_d] <;> rfl
  have hc : (!r.left.contains n || w.raised || w.watch == 0 || s.dev.eligible r n || decide (s.dev.now - w.since ≤ w.watch * 1000000)) = true
      ↔ ¬ due := by
    simp only [due, not_and_or, ne_eq, not_not, Bool.not_eq_false]
    simp [or_assoc]
  simp only [Effect, hx, run]
  exact ⟨fun hdue => by rw [if_pos (hc.2 hdue)], fun hdue => by rw [if_neg (mt hc.1 (not_not.2 hdue))]⟩

end

/-- Settles O34: each command has its cases, and `Dev.sweepOn` leaves the sweep after some of its turns. -/
theorem sweepsUnderWayGoOn : Obligations.SweepsUnderWayGoOn := by
  unfold Obligations.SweepsUnderWayGoOn
  intro l ecc n s
  refine ⟨fun h c hc => sweepCommands_rest h hc, ?_⟩
  intro r e h v fatal free dead
  obtain ⟨hclaimRests, hclaimEnds, hclaimGoes⟩ := vringClaim_cases h l ecc
  obtain ⟨hwaitRests, hwaitRaises⟩ := vringClaimWait_cases h
  obtain ⟨heligibleRests, heligibleGoes⟩ := sweepShardEligible_cases h l ecc
  refine ⟨hclaimRests, fun hc hd hf hr => ⟨_, (hclaimGoes hc hd hf hr).answers, fun q hq => (Dev.sweepOn_later _ l _ hq).claiming⟩,
    fun hc hd hf hl hok => ?_, ⟨hwaitRests, fun hdue => ?_⟩, heligibleRests, fun t i ht hi he hf hd => ?_, fun w hw => ?_⟩
  · have hends := hclaimEnds hc hd hf
    rw [Dev.sweepOn_abandoned (s.dev.setVring _ _) (r := r.unclaimed) l hl hf hok] at hends
    have hentry : ∀ n v, (s.dev.setVring n v).entry r.id = some e := fun n v =>
      (s.dev.setVring_entry n v r.id).trans (Dev.entry_of_sweeping h)
    exact ⟨_, _, hends.answers, Dev.endSweep_sweep _ _, Dev.endSweep_entry _ (hentry _ _), rfl⟩
  · obtain ⟨hmem, hdisp, hcount⟩ := s.dev.raise_setSweep 0x0532 (swVring e.desc) (vrSlot v (swNewVersion e.desc)) (some _)
    exact ⟨_, _, (hwaitRaises hdue).answers, rfl, rfl, rfl, hdue.1, rfl, hmem, hdisp, hcount⟩
  · refine ⟨_, (heligibleGoes t i ht hi he hd).answers, fun q hq => ?_⟩
    exact Dev.sweepOn_shrinks (s.dev.eccRead [] ecc) (r := r.woken t s.dev.now) l _ hi
      ((congrFun (s.dev.eccRead_eligible [] ecc _) i).trans he) hq
  · obtain ⟨hrests, hraises⟩ := sweepResidencyWait_cases h hw
    refine ⟨hrests, fun hdue => ?_⟩
    obtain ⟨hmem, -, hcount⟩ := s.dev.raise_setSweep 0x0545 (shId ((r.table[n]?).getD 0)) 0 (some _)
    refine ⟨_, _, (hraises hdue).answers, rfl, rfl, hmem, rfl, fun y hy hn => ?_, hcount⟩
    obtain ⟨w', -, rfl⟩ := List.mem_map.1 hy
    by_cases hw' : w'.entry = n
    · rw [if_pos hw']
    · rw [if_neg hw'] at hn
      exact absurd hn hw'

end Sys2Proof.Machine
end

section
/-! PROOF. Tap flushes (06 R173, R177, R179, R180; O24): bit fields of a header read back, what the errors that stand leave, what
the work of a flush leaves alone, and the header it writes. -/

namespace Sys2Proof.Machine

/-! ## Bit fields read back (00 R4) -/

theorem testBit_bits (n lo w i : Nat) : (bits n lo w).testBit i = (decide (i < w) && n.testBit (lo + i)) := by
  rw [bits, Nat.testBit_mod_two_pow, Nat.testBit_shiftRight]

theorem testBit_setBits (n lo w v i : Nat) :
    (setBits n lo w v).testBit i = if lo ≤ i ∧ i < lo + w then v.testBit (i - lo) else n.testBit i := by
  have hsplit : setBits n lo w v = 2 ^ lo * (2 ^ w * (n >>> (lo + w)) + v % 2 ^ w) + n % 2 ^ lo := by
    rw [setBits, Nat.shiftLeft_eq, Nat.shiftLeft_eq, pow_add]; ring
  rw [hsplit, Nat.testBit_two_pow_mul_add _ (Nat.mod_lt _ (by positivity)), Nat.testBit_two_pow_mul_add _ (Nat.mod_lt _ (by positivity)),
    Nat.testBit_mod_two_pow, Nat.testBit_mod_two_pow, Nat.testBit_shiftRight]
  by_cases hlo : i < lo
  · simp [hlo, show ¬ lo ≤ i by omega]
  · by_cases hw : i < lo + w
    · simp [hlo, hw, show lo ≤ i by omega, show i - lo < w by omega]
    · simp [hlo, hw, show ¬ i - lo < w by omega, show lo + w + (i - lo - w) = i by omega]

/-- A field just set. -/
theorem bits_setBits_same (n lo w v : Nat) : bits (setBits n lo w v) lo w = v % 2 ^ w := by
  refine Nat.eq_of_testBit_eq fun i => ?_
  rw [testBit_bits, testBit_setBits, Nat.testBit_mod_two_pow]
  by_cases hi : i < w
  · rw [if_pos (by omega), Nat.add_sub_cancel_left]
  · simp [hi]

/-- A field apart from the one that was set. -/
theorem bits_setBits_ne {lo w lo' w' : Nat} (h : lo' + w' ≤ lo ∨ lo + w ≤ lo') (n v : Nat) :
    bits (setBits n lo w v) lo' w' = bits n lo' w' := by
  refine Nat.eq_of_testBit_eq fun i => ?_
  rw [testBit_bits, testBit_bits, testBit_setBits]
  by_cases hi : i < w'
  · rw [if_neg (by omega)]
  · simp [hi]

/-- A field of the low bits. -/
theorem bits_mod_two_pow {m lo w : Nat} (h : lo + w ≤ m) (n : Nat) : bits (n % 2 ^ m) lo w = bits n lo w := by
  refine Nat.eq_of_testBit_eq fun i => ?_
  rw [testBit_bits, testBit_bits, Nat.testBit_mod_two_pow]
  by_cases hi : i < w
  · simp [show lo + i < m by omega]
  · simp [hi]

/-- A number stays as wide as it was when a field of it is set. -/
theorem setBits_lt {n lo w m : Nat} (hn : n < 2 ^ m) (h : lo + w ≤ m) (v : Nat) : setBits n lo w v < 2 ^ m := by
  refine Nat.lt_pow_two_of_testBit _ fun i hi => ?_
  rw [testBit_setBits, if_neg (by omega)]
  exact Nat.testBit_lt_two_pow (hn.trans_le (Nat.pow_le_pow_right (by omega) hi))

theorem ofBytes_lt (l : List Byte) : ofBytes l < 2 ^ (8 * l.length) := by
  induction l with
  | nil => simp [ofBytes]
  | cons b t ih =>
    have hb := b.isLt
    rw [ofBytes, List.length_cons, show 8 * (t.length + 1) = 8 * t.length + 8 by omega, pow_add]
    omega

theorem Mem.read_length (m : Mem) (a n : Nat) : (m.read a n).length = n := by
  induction n generalizing a with
  | zero => rfl
  | succ n ih => rw [Mem.read, List.length_cons, ih]

theorem Dev.num_lt (d : Dev) (a n : Nat) : d.num a n < 2 ^ (8 * n) := by
  have h := ofBytes_lt (d.mem.read a n)
  rwa [Mem.read_length] at h

/-- The number just written. -/
theorem Dev.wr_num (d : Dev) (a n v : Nat) (p : Bool) : (d.wr a (toBytes n v) p).num a n = v % 2 ^ (8 * n) := by
  have h := d.mem.store_read a (toBytes n v) p
  rw [toBytes_length] at h
  rw [Dev.num, Dev.wr_mem, Mem.num, h, ofBytes_toBytes]

theorem Dev.num_of_mem {a b : Dev} (h : a.mem = b.mem) (x n : Nat) : a.num x n = b.num x n := congrArg (fun m => Mem.num m x n) h

/-! ## What the errors that stand leave (09 R272, R273) -/

/-- An entry that neither the notices nor the records of memory errors change. -/
abbrev Spared (k : Nat) : Prop := k ∉ noticeKeys ∧ ¬ (odKey 0x4030 0 ≤ k ∧ k < odKey 0x4034 0)

section
variable (d : Dev)

theorem Dev.errLog_get (er : Nat) {i k : Nat} (h : Spared (odKey i k)) : (d.errLog er).get i k = d.get i k := by
  have hput : ∀ (d : Dev) (s v : Nat), s < 256 → (d.put 0x4033 s v).get i k = d.get i k := fun d s v hs =>
    d.put_get_ne _ _ _ _ _ fun e => h.2 (by rw [e]; unfold odKey; omega)
  exact (hput _ _ _ (by omega)).trans (foldl_keeps (g := fun d : Dev => d.get i k)
    (f := fun d n => d.put 0x4033 (32 - n) (d.get 0x4033 (31 - n))) (fun d n => hput d _ _ (by omega)) (below 31) d)

theorem Dev.errCount_get (m : Nat) (u : Bool) {i k : Nat} (h : Spared (odKey i k)) : (d.errCount m u).get i k = d.get i k := by
  have hm := errSub_lt m
  have hput : ∀ (d : Dev) (x s v : Nat), 0x4030 ≤ x → x ≤ 0x4032 → s < 256 → (d.put x s v).get i k = d.get i k := fun d x s v _ _ _ =>
    d.put_get_ne _ _ _ _ _ fun e => h.2 (by rw [e]; unfold odKey; omega)
  unfold Dev.errCount
  extract_lets x y
  have hx : 0x4030 ≤ x ∧ x ≤ 0x4032 := by simp only [x]; split <;> omega
  have hy : y.get i k = d.get i k := hput d _ _ _ hx.1 hx.2 hm
  split
  · exact (hput y _ _ _ (by omega) (by omega) (by omega)).trans hy
  · exact hy

theorem Dev.eccFound_get (a : Nat) (u : Bool) {i k : Nat} (h : Spared (odKey i k)) : (d.eccFound a u).get i k = d.get i k := by
  have hlog : ∀ (d : Dev) (e m : Nat) (u : Bool), ((d.errLog e).errCount m u).get i k = d.get i k := fun d e m u =>
    ((d.errLog e).errCount_get m u h).trans (d.errLog_get e h)
  unfold Dev.eccFound
  dsimp only
  split
  · generalize (if d.memdev a = 36 then _ else _ : Bool) = marked
    split
    · rfl
    · rw [Dev.raiseRec, Dev.raise_get _ h.1, hlog]
      split <;> rfl
  · unfold Dev.oncePerSecond
    dsimp only
    split
    · exact (Dev.raise_get _ h.1 _ _ _).trans (hlog d _ _ _)
    · exact hlog d _ _ _

/-- Errors count nowhere but in their own entries. -/
theorem Dev.readFlaws_get {i k : Nat} (h : Spared (odKey i k)) : d.readFlaws.get i k = d.get i k := by
  refine (foldl_keeps (g := fun d : Dev => d.get i k) (fun d (x : EccHit) => ?_) _ d : (d.eccRead [] d.flaws).get i k = d.get i k)
  split
  · exact d.eccFound_get _ _ h
  · rfl

/-- Errors mark memory and leave its bytes. -/
theorem Dev.readFlaws_num (a n : Nat) : d.readFlaws.num a n = d.num a n := by
  have hcells : d.readFlaws.mem.cells = d.mem.cells := by
    refine congrArg Prod.fst (foldl_keeps (g := Dev.mapped) (fun d (x : EccHit) => ?_) _ d : (d.eccRead [] d.flaws).mapped = d.mapped)
    split
    · exact d.eccFound_mapped _ _
    · rfl
  rw [Dev.num, Dev.num, Mem.num, Mem.num, Mem.read_of_cells hcells]

end

/-! ## What the work of a flush leaves alone -/

/-- What the work of a flush changes nothing of: control, the compute units, and, but for the one place where it counts, the count of flushes. -/
def Dev.beside (d : Dev) := (d.steering, d.cmp, d.get 0x6110 1)

section
variable (d : Dev)

theorem Dev.beside_eq_iff {a b : Dev} : a.beside = b.beside ↔ a.steering = b.steering ∧ a.cmp = b.cmp ∧ a.get 0x6110 1 = b.get 0x6110 1 := by
  simp only [Dev.beside, Prod.mk.injEq]

theorem Dev.put_beside {i k : Nat} (v : Nat) (h : odKey 0x6110 1 ≠ odKey i k) : (d.put i k v).beside = d.beside :=
  Dev.beside_eq_iff.2 ⟨rfl, rfl, d.put_get_ne _ _ _ _ _ h⟩

theorem Dev.addSat_beside {i k : Nat} (w n : Nat) (h : odKey 0x6110 1 ≠ odKey i k) : (d.addSat i k w n).beside = d.beside :=
  d.put_beside _ h

@[simp] theorem Dev.wr_beside (a : Nat) (l : List Byte) (p : Bool) : (d.wr a l p).beside = d.beside := rfl
@[simp] theorem Dev.withFatalSteps_beside (l : List Nat) :
    ({ d with disp := { d.disp with fatalSteps := l } } : Dev).beside = d.beside := rfl
@[simp] theorem Dev.setEntry_beside (e : Entry) : (d.setEntry e).beside = d.beside := rfl
@[simp] theorem Dev.setA32_beside (a : Nat) (x : Fp) (p : Bool) : (d.setA32 a x p).beside = d.beside := rfl

@[simp] theorem Dev.note_beside (k c a : Nat) : (d.note k c a).beside = d.beside :=
  Dev.beside_eq_iff.2 ⟨d.note_steering k c a, d.note_cmp k c a, d.note_get (by decide) k c a⟩

@[simp] theorem Dev.raise_beside (c a b : Nat) : (d.raise c a b).beside = d.beside :=
  Dev.beside_eq_iff.2 ⟨d.raise_steering c a b, d.raise_cmp c a b, d.raise_get (by decide) c a b⟩

@[simp] theorem Dev.errLog_beside (er : Nat) : (d.errLog er).beside = d.beside :=
  Dev.beside_eq_iff.2 ⟨d.errLog_steering er, Dev.of_mute_cmp (d.errLog_mute er), d.errLog_get er (by decide)⟩

theorem Dev.howlOn_beside (f : Flit) {p : Nat} (hp : p < 6) : (d.howlOn f p).beside = d.beside := by
  unfold Dev.howlOn
  split
  · rfl
  · split
    · exact d.addSat_beside _ _ (by decide)
    · split
      · exact Dev.put_beside ((d.setPort p _).emit _) _ (by unfold odKey; omega)
      · rfl

@[simp] theorem Dev.howl_beside (kind port subject event step : Nat) (v : Bool) :
    (d.howl kind port subject v event step).beside = d.beside := by
  unfold Dev.howl
  split
  · rfl
  · extract_lets seq x y w f
    have hx : x.beside = d.beside :=
      (Dev.note_beside _ _ _ _).trans ((Dev.addSat_beside _ _ _ (by decide)).trans (d.put_beside seq (by decide)))
    exact (foldl_keeps_of_mem (g := Dev.beside) (below 6) (fun d p hp => d.howlOn_beside f (mem_below.1 hp)) y).trans hx

@[simp] theorem Dev.raiseStep_beside (code a b s : Nat) : (d.raiseStep code a b s).beside = d.beside := by
  unfold Dev.raiseStep
  extract_lets x disp y z
  have hx : x.beside = d.beside := d.raise_beside code a b
  have hy : y.beside = x.beside := x.withFatalSteps_beside _
  have hz : z.beside = d.beside := (y.put_beside _ (by decide)).trans (hy.trans hx)
  split
  · exact (z.howl_beside _ _ _ _ _ _).trans hz
  · exact hz

@[simp] theorem Dev.clearCovered_beside (l : List Ext) : (d.clearCovered l).beside = d.beside :=
  foldl_keeps (g := Dev.beside) (fun d u => by split <;> rfl) _ d

theorem Dev.foldl_setA32_beside {α : Type} (a : α → Nat) (x : Dev → α → Fp) (p : Bool) (l : List α) :
    (l.foldl (fun d q => d.setA32 (a q) (x d q) p) d).beside = d.beside :=
  foldl_keeps (g := Dev.beside) (f := fun d q => d.setA32 (a q) (x d q) p) (fun _ _ => rfl) l d

@[simp] theorem Dev.addSums_beside (t : TapFlush) : (d.addSums t).beside = d.beside := by
  unfold Dev.addSums
  refine foldl_keeps (g := Dev.beside) (fun d b => ?_) _ d
  dsimp only
  refine foldl_keeps (g := Dev.beside) (fun d q => ?_) _ d
  exact d.setA32_beside _ _ _

@[simp] theorem Dev.mergeBlock_beside (t : TapFlush) (factor : Nat) (valid : Bool) (beta w omb : Fp) (b : Nat) :
    (d.mergeBlock t factor valid beta w omb b).beside = d.beside := by
  unfold Dev.mergeBlock
  extract_lets n x
  have hx : x.beside = d.beside := by
    simp only [x]
    split
    · rfl
    · exact d.foldl_setA32_beside (fun i => factor + 4 * (n * b + i)) _ _ _
  exact (x.foldl_setA32_beside _ _ _ _).trans hx

@[simp] theorem Dev.finish_beside (id : Nat) (done : Done) : (d.finish id done).beside = d.beside := by
  unfold Dev.finish; split <;> rfl

@[simp] theorem Dev.finish_mem (id : Nat) (done : Done) : (d.finish id done).mem = d.mem := by
  unfold Dev.finish; split <;> rfl

end

section
variable (j : Job) (t : TapFlush)

@[simp] theorem Job.raise_beside (c a b : Nat) : (j.raise c a b).d.beside = j.d.beside := by rw [Job.raise_d, Dev.raise_beside]

@[simp] theorem Job.poisonedAt_beside (s a : Nat) : (j.poisonedAt s a).d.beside = j.d.beside := by
  simp [Job.poisonedAt, Job.poisoned, Job.raiseStep]

/-- Reading poisoned data changes nothing beside a flush, and of the flush no more than its mark. -/
theorem Job.tapReads_keeps (s : Nat) (l : List Ext) :
    (j.tapReads t s l).1.d.beside = j.d.beside ∧ (j.tapReads t s l).2.addr = t.addr ∧ (j.tapReads t s l).2.tokens = t.tokens := by
  unfold Job.tapReads
  split
  · split
    · exact ⟨j.poisonedAt_beside s _, rfl, rfl⟩
    · exact ⟨rfl, rfl, rfl⟩
  · exact ⟨rfl, rfl, rfl⟩

/-- A merge writes a header whose operation count is 0 (06 R179, R180), and changes nothing beside. -/
theorem Job.merge_keeps_and_restarts : (j.merge t).d.beside = j.d.beside ∧ thOps ((j.merge t).d.num t.addr 64) = 0 := by
  unfold Job.merge
  extract_lets h w beta omb blocks skipped j₁ j₂ h₁ h₂ j₃
  split
  · rw [Job.raise_d, Dev.num_of_mem (Dev.raise_mem _ _ _ _)]
    refine ⟨by simp, ?_⟩
    rw [Job.dev_d, Dev.wr_num, thOps, bits_mod_two_pow (by omega), bits_setBits_same, Nat.zero_mod]
  · have hblocks : j₂.d.beside = j.d.beside := by
      refine (foldl_keeps (g := Dev.beside) (fun d b => d.mergeBlock_beside t _ _ _ _ _ b) _ _).trans ?_
      simp only [j₁]
      split <;> simp
    have hbeside : j₃.d.beside = j.d.beside :=
      ((Dev.addSat_beside _ _ _ (by decide)).trans (Dev.addSat_beside _ _ _ (by decide))).trans hblocks
    have hops : thOps (j₃.d.num t.addr 64) = 0 := by
      rw [show j₃.d.num t.addr 64 = _ from Dev.wr_num j₂.d t.addr 64 h₂ t.poison, thOps, bits_mod_two_pow (by omega)]
      simp only [h₂, h₁]
      rw [bits_setBits_ne (by omega), bits_setBits_ne (by omega), bits_setBits_ne (by omega), bits_setBits_same, Nat.zero_mod]
    split
    · exact ⟨hbeside, hops⟩
    · rw [Job.raise_d, Dev.num_of_mem (Dev.raise_mem _ _ _ _), Dev.raise_beside]
      exact ⟨hbeside, hops⟩

end

/-! ## The flush -/

/-- Whether a flush on a header triggers a merge (06 R177). -/
abbrev thMergesNext (h : Nat) : Prop := thMergeOps h ≠ 0 ∧ thOps h + 1 = thMergeOps h

theorem thAfterFlush_lt {h : Nat} (hh : h < 2 ^ (8 * 64)) (tokens : Nat) : thAfterFlush h tokens < 2 ^ (8 * 64) :=
  setBits_lt (setBits_lt hh (by omega) _) (by omega) _

/-- What a flush on a device leaves: the count of flushes grown by one, the tile's header grown or, after a merge, its operation count
at 0, control and the compute units as they were. -/
structure Dev.Flushed (d : Dev) (t : TapFlush) (x : Dev) : Prop where
  steering : x.steering = d.steering
  cmp : x.cmp = d.cmp
  counts : x.get 0x6110 1 = (d.get 0x6110 1 + 1) % 2 ^ 64
  header : ¬ thMergesNext (d.num t.addr 64) → x.num t.addr 64 = thAfterFlush (d.num t.addr 64) t.tokens
  restarts : thMergesNext (d.num t.addr 64) → thOps (x.num t.addr 64) = 0

/-- The flush before any merge: its sums are added, its header is written, and it is counted. -/
def Job.flushed (j : Job) (t : TapFlush) (h : Nat) : Job :=
  j.dev (fun d => ((d.addSums t).wr t.addr (toBytes 64 (thAfterFlush h t.tokens)) t.poison).addWrap 0x6110 1 1)

theorem Job.flushed_flushes (j : Job) (t : TapFlush) {h : Nat} (hh : h < 2 ^ (8 * 64)) :
    (j.flushed t h).d.steering = j.d.steering ∧ (j.flushed t h).d.cmp = j.d.cmp
      ∧ (j.flushed t h).d.get 0x6110 1 = (j.d.get 0x6110 1 + 1) % 2 ^ 64
      ∧ (j.flushed t h).d.num t.addr 64 = thAfterFlush h t.tokens := by
  obtain ⟨hsteering, hcmp, hget⟩ := Dev.beside_eq_iff.1 (j.d.addSums_beside t)
  refine ⟨hsteering, hcmp, ?_, ?_⟩
  · rw [← hget]
    exact Dev.put_get_same _ _ _ _
  · exact (Dev.wr_num _ _ _ _ _).trans (Nat.mod_eq_of_lt (thAfterFlush_lt hh _))

/-- A flush, with its parts named (06 R173, R177). -/
theorem Job.flushTap_eq (j : Job) (t : TapFlush) (s : Nat) : j.flushTap t s =
    let h := j.d.num t.addr 64
    let p := j.tapReads t s [(t.addr, 64 + t.bytes)]
    let k := p.1.flushed p.2 h
    let q := k.tapReads p.2 s (k.d.mergeReads p.2)
    if thMergesNext h then q.1.merge q.2 else k := by
  have hbool : (!(thMergeOps (j.d.num t.addr 64) != 0 && thOps (j.d.num t.addr 64) + 1 == thMergeOps (j.d.num t.addr 64))) = true
      ↔ ¬ thMergesNext (j.d.num t.addr 64) := by
    simp [thMergesNext, imp_iff_not_or]
  unfold Job.flushTap
  dsimp only
  by_cases hm : thMergesNext (j.d.num t.addr 64)
  · rw [if_pos hm, if_neg (mt hbool.1 (not_not.2 hm))]; rfl
  · rw [if_neg hm, if_pos (hbool.2 hm)]; rfl

theorem Job.flushTap_flushed (j : Job) (t : TapFlush) (s : Nat) : j.d.Flushed t (j.flushTap t s).d := by
  obtain ⟨hbeside, haddr, htokens⟩ := j.tapReads_keeps t s [(t.addr, 64 + t.bytes)]
  obtain ⟨hsteering₀, hcmp₀, hget₀⟩ := Dev.beside_eq_iff.1 hbeside
  rw [Job.flushTap_eq]
  extract_lets h p k q
  obtain ⟨hsteering, hcmp, hcount, hnum⟩ := p.1.flushed_flushes p.2 (j.d.num_lt t.addr 64)
  replace hsteering : k.d.steering = j.d.steering := hsteering.trans hsteering₀
  replace hcmp : k.d.cmp = j.d.cmp := hcmp.trans hcmp₀
  replace hcount : k.d.get 0x6110 1 = (j.d.get 0x6110 1 + 1) % 2 ^ 64 := by rw [← hget₀]; exact hcount
  split
  · next hmerges =>
    obtain ⟨hq, hqaddr, -⟩ := k.tapReads_keeps p.2 s (k.d.mergeReads p.2)
    obtain ⟨hmerge, hops⟩ := q.1.merge_keeps_and_restarts q.2
    obtain ⟨hsteering', hcmp', hget'⟩ := Dev.beside_eq_iff.1 (hmerge.trans hq)
    rw [show q.2.addr = t.addr from hqaddr.trans haddr] at hops
    exact ⟨hsteering'.trans hsteering, hcmp'.trans hcmp, hget'.trans hcount, fun hm => absurd hmerges hm, fun _ => hops⟩
  · next hmerges =>
    rw [show p.2.addr = t.addr from haddr, show p.2.tokens = t.tokens from htokens] at hnum
    exact ⟨hsteering, hcmp, hcount, fun _ => hnum, fun hm => absurd hm hmerges⟩

/-- The outcome that a flush gives its descriptor changes nothing of what it leaves. -/
theorem Dev.Flushed.finish {d x : Dev} {t : TapFlush} (h : d.Flushed t x) (id : Nat) (done : Done) : d.Flushed t (x.finish id done) := by
  obtain ⟨hsteering, hcmp, hget⟩ := Dev.beside_eq_iff.1 (x.finish_beside id done)
  have hnum := Dev.num_of_mem (x.finish_mem id done) t.addr 64
  exact ⟨hsteering.trans h.steering, hcmp.trans h.cmp, hget.trans h.counts, fun hm => hnum.trans (h.header hm),
    fun hm => (congrArg thOps hnum).trans (h.restarts hm)⟩

/-- The device on which the first flush runs: the errors that stand are found, and the flush has left the queue. -/
def Dev.unqueued (d : Dev) (rest : List TapFlush) : Dev := { d.readFlaws with cmp := { d.cmp with taps := rest } }

/-- No flush runs from an empty queue (log entry 2), nor after a device-fatal event (log entry 85). -/
theorem tapFlush_rests {s : State} (h : s.dev.cmp.taps = [] ∨ s.dev.disp.fatal = true) : Effect .tapFlush s s.dev := by
  show execTapFlush s = _
  unfold execTapFlush run
  dsimp only
  split
  · rfl
  · next htaps => rw [if_pos (h.resolve_left (by rw [htaps]; exact List.cons_ne_nil _ _))]

theorem tapFlush_runs {s : State} {t : TapFlush} {rest : List TapFlush} (h : s.dev.cmp.taps = t :: rest) (hf : s.dev.disp.fatal = false) :
    ∃ x, Effect .tapFlush s x ∧ (s.dev.unqueued rest).Flushed t x := by
  have hx : exec .tapFlush s = run s (fun _ _ =>
      match (s.dev.unqueued rest).entry t.id with
      | none => ((Job.start (s.dev.unqueued rest)).flushTap t 0).d
      | some e =>
        let j := (⟨s.dev.unqueued rest, e.done.getD Done.init⟩ : Job).flushTap t e.step
        j.d.finish t.id j.done) := by
    show execTapFlush s = _
    simp only [execTapFlush, Dev.unqueued, run, h, hf, Bool.false_eq_true, if_false] <;> rfl
  simp only [Effect, hx, run]
  cases (s.dev.unqueued rest).entry t.id with
  | none => exact ⟨_, rfl, Job.flushTap_flushed (Job.start _) t 0⟩
  | some e => exact ⟨_, rfl, (Job.flushTap_flushed ⟨_, e.done.getD Done.init⟩ t e.step).finish _ _⟩

/-- Settles O24: a flush runs on `Dev.unqueued`, which leaves its header and its count as they were, and leaves `Dev.Flushed`. -/
theorem tapFlushRunsTheFirst : Obligations.TapFlushRunsTheFirst := by
  unfold Obligations.TapFlushRunsTheFirst
  refine ⟨fun s => tapFlush_rests, fun t rest s htaps hf => ?_⟩
  obtain ⟨x, hx, hflushed⟩ := tapFlush_runs htaps hf
  have hnum : (s.dev.unqueued rest).num t.addr 64 = s.dev.num t.addr 64 := s.dev.readFlaws_num t.addr 64
  have hcount : (s.dev.unqueued rest).get 0x6110 1 = s.dev.get 0x6110 1 := s.dev.readFlaws_get (by decide)
  have hsteering : x.steering = s.dev.steering := hflushed.steering.trans (s.dev.eccRead_steering [] s.dev.flaws)
  obtain ⟨-, hcmp, hcounts, hheader, hrestarts⟩ := hflushed
  rw [hnum] at hheader hrestarts
  rw [hcount] at hcounts
  simp only [Dev.steering, Prod.mk.injEq] at hsteering
  obtain ⟨⟨hpower, -⟩, -, -, -, hrings, -, hcounters⟩ := hsteering
  exact ⟨_, hx.answers, hcmp, hcounts, hheader, hrestarts, hpower, hrings, hcounters⟩

end Sys2Proof.Machine
end

section
/-! PROOF. How solver jobs end (04 R106; 07 R194-R221): what the parts of a job leave of its code, of the count of jobs and of what the
job reads; its course, split by the first thing that stops it; O29. -/

namespace Sys2Proof.Machine

/-! ## What the parts of a job leave -/

/-- A solver job's code so far, and the count of jobs (`CE_JOBS`). -/
def Job.tally (j : Job) : Nat × Nat := (j.done.code, j.d.get 0x6010 1)

theorem Job.tally_eq_iff {i j : Job} : i.tally = j.tally ↔ i.done.code = j.done.code ∧ i.d.get 0x6010 1 = j.d.get 0x6010 1 := by
  simp only [Job.tally, Prod.mk.injEq]

/-- What a solver job reads of the device beside its descriptor: memory, and the engine's settings (07 R195, R213). -/
def Dev.ceSource (d : Dev) : Mem × (Fin 256 → Nat) := (d.mem, fun k => d.get 0x6000 k)

theorem Dev.ceSource_eq_iff {a b : Dev} : a.ceSource = b.ceSource ↔ a.mem = b.mem ∧ ∀ k < 256, a.get 0x6000 k = b.get 0x6000 k := by
  simp only [Dev.ceSource, Prod.mk.injEq, funext_iff, Fin.forall_iff]

section
variable (d : Dev)

/-- A counter of the engine other than `CE_JOBS`. -/
theorem Dev.addSat_jobs {k : Nat} (w n : Nat) (h : k ≠ 1) : (d.addSat 0x6010 k w n).get 0x6010 1 = d.get 0x6010 1 :=
  d.addSat_get_ne _ _ _ _ _ _ (by unfold odKey; omega)

@[simp] theorem Dev.storeRoot_get (x : Nat) (l : List Byte) (e : Int) (m n r i k : Nat) :
    (d.storeRoot x l e m n r).get i k = d.get i k := by
  unfold Dev.storeRoot; simp

@[simp] theorem Dev.withDraws_get (n i k : Nat) : ({ d with draws := n } : Dev).get i k = d.get i k := rfl

/-- An event counts nowhere among the engine's settings. -/
theorem Dev.raise_ceSource (c a b : Nat) : (d.raise c a b).ceSource = d.ceSource := by
  refine Dev.ceSource_eq_iff.2 ⟨d.raise_mem c a b, fun k hk => d.raise_get (fun hn => ?_) c a b⟩
  simp only [noticeKeys, odKey, List.mem_cons, List.not_mem_nil, or_false] at hn
  omega

theorem Dev.addSat_ceSource {k : Nat} (w n : Nat) (h : k < 256) : (d.addSat 0x6010 k w n).ceSource = d.ceSource :=
  Dev.ceSource_eq_iff.2 ⟨rfl, fun i hi => d.addSat_get_ne _ _ _ _ _ _ (by unfold odKey; omega)⟩

end

section
variable (j : Job)

theorem Job.dev_tally {f : Dev → Dev} (h : (f j.d).get 0x6010 1 = j.d.get 0x6010 1) : (j.dev f).tally = j.tally :=
  Job.tally_eq_iff.2 ⟨j.dev_code f, h⟩

@[simp] theorem Job.flag_tally (b : Nat) : (j.flag b).tally = j.tally := rfl
@[simp] theorem Job.flagIf_tally (c : Bool) (b : Nat) : (j.flagIf c b).tally = j.tally := by unfold Job.flagIf; split <;> rfl
@[simp] theorem Job.result_tally (r : Nat) : (j.result r).tally = j.tally := Job.tally_eq_iff.2 ⟨j.result_code r, rfl⟩

@[simp] theorem Job.raise_tally (c a b : Nat) : (j.raise c a b).tally = j.tally :=
  Job.tally_eq_iff.2 ⟨by rw [Job.raise, Job.noteEvent_code, Job.dev_code], by rw [Job.raise_d, Dev.raise_get _ (by decide)]⟩

@[simp] theorem Job.ceEvent_tally (q : Bool) (c a b : Nat) : (j.ceEvent q c a b).tally = j.tally := by
  unfold Job.ceEvent; split <;> simp

@[simp] theorem Job.ceSat_tally (q s : Bool) : (j.ceSat q s).tally = j.tally := by
  unfold Job.ceSat
  split
  · rw [Job.dev_tally _ (Dev.addSat_jobs _ _ _ (by decide)), Job.ceEvent_tally, Job.flag_tally]
  · rfl

@[simp] theorem Job.ceClamp_tally (q : Bool) (pl : Plan) : (j.ceClamp q pl).tally = j.tally := by
  unfold Job.ceClamp; split <;> simp

@[simp] theorem Job.cePivots_tally (f : Factor) : (j.cePivots f).tally = j.tally := by
  unfold Job.cePivots
  split
  · rfl
  · rw [Job.dev_tally _ (Dev.addSat_jobs _ _ _ (by decide)), Job.raise_tally, Job.flag_tally]

@[simp] theorem Job.useScratch_tally (x : Nat) : (j.useScratch x).tally = j.tally :=
  j.dev_tally (by rw [Dev.withDraws_get, Dev.wr_get])
@[simp] theorem Job.ceWrite_tally (x : Nat) (w : Bool) (l : List Byte) : (j.ceWrite x w l).tally = j.tally :=
  j.dev_tally (by rw [Dev.withDraws_get, Dev.wr_get])

@[simp] theorem Job.ceStore_tally (x : Nat) (w : Bool) (a : Mat) (e : Int) (m i r : Nat) : (j.ceStore x w a e m i r).tally = j.tally := by
  unfold Job.ceStore
  split
  · rfl
  · exact j.dev_tally (by rw [Dev.withDraws_get, Dev.storeRoot_get])

@[simp] theorem Job.ceEvent_ceSource (q : Bool) (c a b : Nat) : (j.ceEvent q c a b).d.ceSource = j.d.ceSource := by
  unfold Job.ceEvent
  split
  · rfl
  · rw [Job.raise_d, Dev.raise_ceSource]

@[simp] theorem Job.ceSat_ceSource (q s : Bool) : (j.ceSat q s).d.ceSource = j.d.ceSource := by
  unfold Job.ceSat
  split
  · rw [Job.dev_d, Dev.addSat_ceSource _ _ _ (by decide), Job.ceEvent_ceSource, Job.flag_d]
  · rfl

@[simp] theorem Job.ceClamp_ceSource (q : Bool) (pl : Plan) : (j.ceClamp q pl).d.ceSource = j.d.ceSource := by
  unfold Job.ceClamp; split <;> simp

end

/-! ## A job is counted as it starts (log entry 36), and by nothing that it does -/

theorem Job.code_of_tally {i j : Job} (h : i.tally = j.tally) : i.done.code = j.done.code := (Job.tally_eq_iff.1 h).1
theorem Job.jobs_of_tally {i j : Job} (h : i.tally = j.tally) : i.d.get 0x6010 1 = j.d.get 0x6010 1 := (Job.tally_eq_iff.1 h).2

section
variable (j : Job)

theorem Job.ceLate_jobs (x len bound damped first : Nat) (sat : Bool) :
    (j.ceLate x len bound damped first sat).d.get 0x6010 1 = j.d.get 0x6010 1 := by
  unfold Job.ceLate
  extract_lets n k p j₁ j₂ j₃
  have h₁ : j₁.tally = j.tally := j.dev_tally (by rw [Dev.withDraws_get, Dev.wr_get])
  have h₂ : j₂.tally = j₁.tally := (Job.dev_tally _ (Dev.addSat_jobs _ _ _ (by decide))).trans (j₁.flagIf_tally _ _)
  rw [Job.result_d, Job.fail_d]
  exact Job.jobs_of_tally ((j₂.ceSat_tally _ _).trans (h₂.trans h₁))

/-- Poison found late in scratch (07 R220) counts no job; without it the job has come to `i`. -/
theorem Job.lateOr_jobs {i : Job} (hi : i.d.get 0x6010 1 = j.d.get 0x6010 1) (late : Bool) (x len bound damped first : Nat) (sat : Bool) :
    (if late = true then j.ceLate x len bound damped first sat else i).d.get 0x6010 1 = j.d.get 0x6010 1 := by
  split
  · exact j.ceLate_jobs x len bound damped first sat
  · exact hi

/-- A job that fails keeps the count of what it failed on. -/
theorem Job.failed_jobs {i : Job} (hi : i.tally = j.tally) (c r : Nat) : ((i.fail c).result r).d.get 0x6010 1 = j.d.get 0x6010 1 := by
  rw [Job.result_d, Job.fail_d, Job.jobs_of_tally hi]

theorem Job.ceRootRun_jobs (e : Entry) (ecc : List EccHit) (pl : Plan) :
    (j.ceRootRun e ecc pl).d.get 0x6010 1 = j.d.get 0x6010 1 := by
  unfold Job.ceRootRun
  extract_lets x n frac a i start f
  clear_value start
  split
  next k x0 m0 hk =>
  have h : k.tally = j.tally := by
    split at hk <;> cases hk
    · split
      · exact j.dev_tally (Dev.addSat_jobs _ _ _ (by decide))
      · rfl
    · exact (j.flag _).dev_tally (Dev.addSat_jobs _ _ _ (by split <;> decide))
  rw [← Job.jobs_of_tally h, ← Job.jobs_of_tally (k.useScratch_tally x)]
  extract_lets r late wild k' rPat k₁ k₂
  have h₂ : k₂.tally = k'.tally := by simp [k₂, k₁]
  refine k'.lateOr_jobs ?_ late _ _ _ _ _ _
  rw [← Job.jobs_of_tally h₂]
  split
  · rw [Job.fail_d]
  · exact Job.jobs_of_tally (k₂.ceStore_tally _ _ _ _ _ _ _)

theorem Job.ceCholRun_jobs (e : Entry) (ecc : List EccHit) (pl : Plan) :
    (j.ceCholRun e ecc pl).d.get 0x6010 1 = j.d.get 0x6010 1 := by
  rw [← Job.jobs_of_tally (j.useScratch_tally e.desc)]
  unfold Job.ceCholRun
  dsimp only
  split
  · exact Job.lateOr_jobs _ (Job.failed_jobs _ (by simp) _ _) _ _ _ _ _ _ _
  · exact Job.lateOr_jobs _ (Job.jobs_of_tally (by simp)) _ _ _ _ _ _ _

theorem Job.ceLsqRun_jobs (e : Entry) (ecc : List EccHit) (l : Lsq) (pl : Plan) :
    (j.ceLsqRun e ecc l pl).d.get 0x6010 1 = j.d.get 0x6010 1 := by
  rw [← Job.jobs_of_tally (j.useScratch_tally e.desc)]
  unfold Job.ceLsqRun
  dsimp only
  split
  · exact Job.lateOr_jobs _ (Job.failed_jobs _ (by simp) _ _) _ _ _ _ _ _ _
  · exact Job.lateOr_jobs _ (Job.jobs_of_tally (by simp)) _ _ _ _ _ _ _

theorem Job.cePlan_jobs (e : Entry) (ecc : List EccHit) (sat : Bool) (pl : Option Plan) {f : Job → Plan → Job}
    (h : ∀ i pl, (f i pl).d.get 0x6010 1 = i.d.get 0x6010 1) : (j.cePlan e ecc sat pl f).d.get 0x6010 1 = j.d.get 0x6010 1 := by
  unfold Job.cePlan
  extract_lets x c
  split
  · rw [Job.ceStop_d, Job.jobs_of_tally (j.ceSat_tally _ _)]
  next pl =>
  extract_lets warm quiet i
  have hi : i.tally = j.tally := by simp [i]
  rw [← Job.jobs_of_tally hi]
  split
  · rw [Job.ceStop_d]
  · split
    · rw [Job.ceStop_d]
    · exact h i pl

end

/-! ## The course of a job -/

/-- Whether the input of a job of opcode `op` is finite (07 R198). -/
def Dev.ceFinite (d : Dev) (op x : Nat) : Bool :=
  if op = 0x52 then (grid (ceDim x) (ceNcols x)).all (fun p => (d.lsqD x p.1 p.2).isFinite)
    && (below (ceDim x)).all (fun t => (d.lsqY x t).isFinite)
  else d.squareFinite x

/-- The plan of a job of opcode `op` (07 R199, R212). -/
def Dev.ceJobPlan (d : Dev) (op x : Nat) : Option Plan :=
  if op = 0x52 then lsqPlan x (d.lsq x) else d.squarePlan x (if op = 0x50 then 2 ^ cePCode x else 1)

/-- A job of opcode `op` after its plan, on the least-squares problem `l` formed before. -/
def Job.ceWork (j : Job) (op : Nat) (e : Entry) (ecc : List EccHit) (l : Lsq) (pl : Plan) : Job :=
  if op = 0x50 then j.ceRootRun e ecc pl else if op = 0x51 then j.ceCholRun e ecc pl else j.ceLsqRun e ecc l pl

/-- A job of opcode `op` on the device on which it begins. -/
def Dev.ceJob (d : Dev) (op : Nat) (e : Entry) (ecc : List EccHit) : Job :=
  let x := e.desc
  let j := Job.start d
  if (d.firstPoison (ceInput x)).isSome then j.ceStop ccPoisoned noResid
  else if !d.ceFinite op x then j.ceStop ccNonfinite noResid
  else j.cePlan e ecc (op == 0x52 && (d.lsq x).sat) (d.ceJobPlan op x) (fun j pl => j.ceWork op e ecc (d.lsq x) pl)

/-- Every solver command runs the job of its opcode. -/
theorem exec_solver {c : Instr} {id op : Nat} (h : startedBy c = some (id, op)) (h1 : 0x50 ≤ op) (h2 : op ≤ 0x52) (s : State) :
    exec c s = run s (fun _ d => d.startWith id op (fun d e =>
      ((d.eccRead [] (eccOf c)).addWrap 0x6010 1 1).ceJob op e (eccOf c))) := by
  unfold startedBy at h
  split at h <;> cases h
  case h_18 => rfl
  case h_19 => rfl
  case h_20 => rfl
  all_goals omega

section
variable {d : Dev} {op : Nat} {e : Entry} {ecc : List EccHit}

theorem Job.ceWork_jobs (j : Job) (l : Lsq) (pl : Plan) : (j.ceWork op e ecc l pl).d.get 0x6010 1 = j.d.get 0x6010 1 := by
  unfold Job.ceWork
  split
  · exact j.ceRootRun_jobs e ecc pl
  · split
    · exact j.ceCholRun_jobs e ecc pl
    · exact j.ceLsqRun_jobs e ecc l pl

theorem Dev.ceJob_jobs : (d.ceJob op e ecc).d.get 0x6010 1 = d.get 0x6010 1 := by
  unfold Dev.ceJob
  dsimp only
  split
  · rw [Job.ceStop_d, Job.start_d]
  · split
    · rw [Job.ceStop_d, Job.start_d]
    · exact Job.cePlan_jobs _ _ _ _ _ fun j pl => j.ceWork_jobs _ pl

/-- The errors that a read finds count nowhere but in their own entries. -/
theorem Dev.eccRead_get (l : List Nat) (ecc : List EccHit) {i k : Nat} (h : Spared (odKey i k)) :
    (d.eccRead l ecc).get i k = d.get i k := by
  refine foldl_keeps (g := fun d : Dev => d.get i k) (fun d x => ?_) _ d
  split
  · exact d.eccFound_get _ _ h
  · rfl

/-- A solver descriptor has no tile to read, so that its command begins with the errors of its reads alone. -/
theorem Dev.begun_solver (h1 : 0x50 ≤ hdOpcode e.desc) (h2 : hdOpcode e.desc ≤ 0x52) :
    d.begun e ecc = (d.markStarted e).eccRead [] ecc := by
  have h : d.accReads e.desc = [] := by
    unfold Dev.accReads
    split
    · omega
    · omega
    · omega
    · exact if_neg (by unfold opClass; omega)
  rw [Dev.begun, h]

theorem Dev.begun_jobs : ((d.begun e ecc).addWrap 0x6010 1 1).get 0x6010 1 = (d.get 0x6010 1 + 1) % 2 ^ 64 := by
  have h : (d.begun e ecc).get 0x6010 1 = d.get 0x6010 1 := Dev.eccRead_get _ _ (by decide)
  rw [← h]
  exact Dev.put_get_same _ _ _ _

end

/-- A solver command ends its descriptor's work with the outcome of its job, leaves memory as the job does, and has counted the job. -/
theorem Starts.solved {c : Instr} {op : Nat} {s : State} {e : Entry} (hc : startedBy c = some (e.id, op)) (h1 : 0x50 ≤ op) (h2 : op ≤ 0x52)
    (h : Starts c s e) :
    let k := ((s.dev.begun e (eccOf c)).addWrap 0x6010 1 1).ceJob op (s.dev.startedEntry e) (eccOf c)
    ∃ t, Ended c s t e k.done ∧ t.dev.mem = k.d.mem ∧ t.dev.get 0x6010 1 = (s.dev.get 0x6010 1 + 1) % 2 ^ 64 := by
  intro k
  have ho := h.opcode hc
  obtain ⟨pin, hx⟩ := h.effect hc (exec_solver hc h1 h2 s)
  rw [← Dev.begun_solver (by omega) (by omega)] at hx
  exact ⟨_, ⟨hx.answers, pin, rfl⟩, rfl, Dev.ceJob_jobs.trans Dev.begun_jobs⟩

/-! ## Where a job stops before it computes: poison, finiteness, the plan, the room (07 R221; within the room check: log entry 34) -/

theorem Job.ceStop_code {j : Job} (h : j.done.code = 0) (code r : Nat) : (j.ceStop code r).done.code = code := by
  rw [Job.ceStop, Job.result_code, Job.fail_code h]

theorem Dev.mem_of_ceSource {a b : Dev} (h : a.ceSource = b.ceSource) : a.mem = b.mem := (Dev.ceSource_eq_iff.1 h).1

/-- A job that ends with a code, memory being as it was. -/
def Dev.StopsWith (d : Dev) (code : Nat) (k : Job) : Prop := k.done.code = code ∧ k.d.mem = d.mem

theorem Dev.stopsWith_ceStop {d : Dev} {j : Job} (hc : j.done.code = 0) (hm : j.d.mem = d.mem) (code r : Nat) :
    d.StopsWith code (j.ceStop code r) := ⟨Job.ceStop_code hc code r, by rw [Job.ceStop_d, hm]⟩

section
variable {j : Job} {e : Entry} {ecc : List EccHit} {sat : Bool} {f : Job → Plan → Job}

/-- The saturation before the plan, and the clamped ratio, as a job reports them once it has its plan (07 R203, R204). -/
def Job.ceReported (j : Job) (quiet sat : Bool) (pl : Plan) : Job := (j.ceSat quiet sat).ceClamp quiet pl

theorem Job.ceReported_tally (q : Bool) (pl : Plan) : (j.ceReported q sat pl).tally = j.tally := by simp [Job.ceReported]
theorem Job.ceReported_ceSource (q : Bool) (pl : Plan) : (j.ceReported q sat pl).d.ceSource = j.d.ceSource := by simp [Job.ceReported]

theorem Job.cePlan_none (hc : j.done.code = 0) : j.d.StopsWith ccRange (j.cePlan e ecc sat none f) :=
  Dev.stopsWith_ceStop ((Job.code_of_tally (j.ceSat_tally _ _)).trans hc) (Dev.mem_of_ceSource (j.ceSat_ceSource _ _)) _ _

theorem Job.cePlan_cramped (hc : j.done.code = 0) (pl : Plan) (h : j.d.ceRoom e.desc ≠ 0) :
    j.d.StopsWith (j.d.ceRoom e.desc) (j.cePlan e ecc sat (some pl) f) := by
  unfold Job.cePlan
  dsimp only
  rw [if_pos (by simpa using h)]
  exact Dev.stopsWith_ceStop ((Job.code_of_tally (Job.ceReported_tally _ _)).trans hc)
    (Dev.mem_of_ceSource (Job.ceReported_ceSource _ _)) _ _

theorem Job.cePlan_runs {pl : Plan} (h : j.d.ceRoom e.desc = 0) (hw : j.d.warmPoison e.desc pl = false)
    (hs : j.d.scratchBad e.desc ecc = false) : j.cePlan e ecc sat (some pl) f = f (j.ceReported false sat pl) pl := by
  simp [Job.cePlan, Job.ceReported, h, hw, hs, ccPoisoned]

end

section
variable {d : Dev} {op : Nat} {e : Entry} {ecc : List EccHit}

theorem Dev.ceJob_poisoned (h : (d.firstPoison (ceInput e.desc)).isSome = true) : d.StopsWith ccPoisoned (d.ceJob op e ecc) := by
  rw [Dev.ceJob, if_pos h]
  exact Dev.stopsWith_ceStop rfl rfl _ _

variable (hp : ¬ (d.firstPoison (ceInput e.desc)).isSome = true)
include hp

theorem Dev.ceJob_nonfinite (h : ¬ d.ceFinite op e.desc = true) : d.StopsWith ccNonfinite (d.ceJob op e ecc) := by
  rw [Dev.ceJob, if_neg hp, if_pos (by simpa using h)]
  exact Dev.stopsWith_ceStop rfl rfl _ _

variable (hf : d.ceFinite op e.desc = true)
include hf

/-- A job on clean and finite input goes on to its plan. -/
theorem Dev.ceJob_finite : d.ceJob op e ecc = (Job.start d).cePlan e ecc (op == 0x52 && (d.lsq e.desc).sat) (d.ceJobPlan op e.desc)
    (fun j pl => j.ceWork op e ecc (d.lsq e.desc) pl) := by
  rw [Dev.ceJob, if_neg hp, if_neg (by simpa using hf)]

theorem Dev.ceJob_unplanned (h : d.ceJobPlan op e.desc = none) : d.StopsWith ccRange (d.ceJob op e ecc) := by
  rw [Dev.ceJob_finite hp hf, h]
  exact Job.cePlan_none rfl

theorem Dev.ceJob_cramped (h : d.ceJobPlan op e.desc ≠ none) (hr : d.ceRoom e.desc ≠ 0) :
    d.StopsWith (d.ceRoom e.desc) (d.ceJob op e ecc) := by
  obtain ⟨pl, hpl⟩ := Option.ne_none_iff_exists'.1 h
  rw [Dev.ceJob_finite hp hf, hpl]
  exact Job.cePlan_cramped (j := Job.start d) rfl pl hr

/-- A job that nothing stops reports what came before its plan, and does its work. -/
theorem Dev.ceJob_runs {pl : Plan} (hpl : d.ceJobPlan op e.desc = some pl) (hr : d.ceRoom e.desc = 0)
    (hw : d.warmPoison e.desc pl = false) (hs : d.scratchBad e.desc ecc = false) : d.ceJob op e ecc
      = ((Job.start d).ceReported false (op == 0x52 && (d.lsq e.desc).sat) pl).ceWork op e ecc (d.lsq e.desc) pl := by
  rw [Dev.ceJob_finite hp hf, hpl]
  exact Job.cePlan_runs hr hw hs

end

/-! ## A job that runs to its end -/

theorem ceUnitOf_lt (x : Nat) : ceUnitOf x < 8 := by
  unfold ceUnitOf ceUnit bits; split <;> omega

section
variable {a b : Dev} (h : a.ceSource = b.ceSource)
include h

theorem Dev.ceSquare_of_ceSource (x : Nat) : a.ceSquare x = b.ceSquare x := by
  funext i k
  rw [Dev.ceSquare, Dev.ceSquare, Dev.a32At, Dev.a32At, Dev.num_of_mem (Dev.mem_of_ceSource h)]

theorem Dev.scratch_of_ceSource (x : Nat) : a.scratch x = b.scratch x := by
  have hu := ceUnitOf_lt x
  rw [Dev.scratch, Dev.scratch, (Dev.ceSource_eq_iff.1 h).2 _ (by omega)]

theorem Dev.scratchBad_of_ceSource (x : Nat) (ecc : List EccHit) : a.scratchBad x ecc = b.scratchBad x ecc := by
  simp only [Dev.scratchBad, Dev.scratch_of_ceSource h, Dev.mem_of_ceSource h]

theorem Dev.ceWild_of_ceSource (x : Nat) : a.ceWild x = b.ceWild x := by
  obtain ⟨hm, hg⟩ := Dev.ceSource_eq_iff.1 h
  have hs := Dev.scratch_of_ceSource h x
  have hroot : a.rootAddr x = b.rootAddr x := by rw [Dev.rootAddr, Dev.rootAddr, hg 2 (by decide)]
  have hrec : a.rootRec x = b.rootRec x := by rw [Dev.rootRec, Dev.rootRec, hroot, Dev.num_of_mem hm]
  have ht : a.ceTouched x = b.ceTouched x := by rw [Dev.ceTouched, Dev.ceTouched, Dev.ceStored, Dev.ceStored, hroot, hrec]
  simp [Dev.ceWild, hs, ht, hg, below, upFrom]

end

/-- The iteration of a root job without a warm start (07 R205-R207). -/
def Dev.ceColdRoot (d : Dev) (x : Nat) (pl : Plan) : RootRun :=
  let a := normalised (ceDim x) pl (d.ceSquare x)
  rootLoop (ceDim x) (cePCode x) (35 - pl.m) (ceTolExp x) (ceMaxIter x) (Mat.make (ceDim x) (ceDim x) (unitQ (35 - pl.m))) a.1 0 a.2

/-- The result of a root job in G16, row by row (07 R207). -/
def rootOutput (x : Nat) (pl : Plan) (r : RootRun) : List Byte :=
  g16Bytes (ceDim x) (fun p q => rne64 (fpMul (qValue (35 - pl.m) (r.x.at p q)) (phi pl.e (2 ^ cePCode x))))

/-- The factorisation of a job of opcode `op` (07 R208, R212). -/
def Dev.ceFactor (d : Dev) (op x : Nat) (pl : Plan) : Factor :=
  if op = 0x52
  then factorise (ceNcols x) (normalised (ceNcols x) pl (fun i k => qValue 34 ((d.lsq x).h.at i k))).1 (pivotTau pl.rho) (cePivotPolicy x)
  else factorise (ceDim x) (normalised (ceDim x) pl (d.ceSquare x)).1 (pivotTau pl.rho) (cePivotPolicy x)

theorem Dev.ceFactor_of_ceSource {a b : Dev} (h : a.ceSource = b.ceSource) {op : Nat} (ho : op ≠ 0x52) (x : Nat) (pl : Plan) :
    a.ceFactor op x pl = b.ceFactor op x pl := by
  rw [Dev.ceFactor, Dev.ceFactor, if_neg ho, if_neg ho, Dev.ceSquare_of_ceSource h]

theorem rootOutput_length (x : Nat) (pl : Plan) (r : RootRun) : (rootOutput x pl r).length = 2 * ceDim x * ceDim x := by
  simp only [rootOutput, g16Bytes, List.length_flatMap, toBytes_length, List.map_const', List.sum_replicate, length_grid, smul_eq_mul]
  ring

/-- What a job writes at `OUT_ADDR`, its scratch overlapping nothing else (07 R196), reads back. -/
theorem Job.ceWrite_read (j : Job) (x : Nat) (l : List Byte) : (j.ceWrite x false l).d.mem.read (ceOutAddr x) l.length = l :=
  j.d.mem.store_read (ceOutAddr x) l false

section
variable (j : Job) {e : Entry} {ecc : List EccHit} {pl : Plan} (hl : j.d.scratchBad e.desc ecc = false)
include hl

/-- A root job without warm start and store that converges writes its result, and reports its iterations and residual. -/
theorem Job.ceRootRun_converged (hw : ceWarmEn e.desc = false) (hs : ceStoreRoot e.desc = false) {r : RootRun}
    (hr : j.d.ceColdRoot e.desc pl = r) (hc : r.converged = true) : j.ceRootRun e ecc pl
      = (((j.useScratch e.desc).ceSat false r.sat).ceWrite e.desc (j.d.ceWild e.desc) (rootOutput e.desc pl r)).result
        (ceResult r.k 0 0xFFF (fmtA32.enc r.r)) := by
  subst hr
  unfold Dev.ceColdRoot at hc
  unfold Job.ceRootRun
  simp only [hw, Bool.false_eq_true, if_false, hl, hc, Bool.not_true, Job.ceStore, hs, Bool.not_false, if_true]
  rfl

/-- A Cholesky inverse that no pivot stops fixes no code. -/
theorem Job.ceCholRun_code (hf : (j.d.ceFactor 0x51 e.desc pl).stop = none) : (j.ceCholRun e ecc pl).done.code = j.done.code := by
  replace hf : (factorise (ceDim e.desc) (normalised (ceDim e.desc) pl (j.d.ceSquare e.desc)).1 (pivotTau pl.rho)
    (cePivotPolicy e.desc)).stop = none := hf
  unfold Job.ceCholRun
  dsimp only
  rw [hf, hl, if_neg (by decide)]
  exact Job.code_of_tally (by simp)

/-- A least-squares job that no pivot stops fixes no code. -/
theorem Job.ceLsqRun_code {d : Dev} (hf : (d.ceFactor 0x52 e.desc pl).stop = none) :
    (j.ceLsqRun e ecc (d.lsq e.desc) pl).done.code = j.done.code := by
  replace hf : (factorise (ceNcols e.desc) (normalised (ceNcols e.desc) pl (fun i k => qValue 34 ((d.lsq e.desc).h.at i k))).1
    (pivotTau pl.rho) (cePivotPolicy e.desc)).stop = none := hf
  unfold Job.ceLsqRun
  dsimp only
  rw [hf, hl, if_neg (by decide)]
  exact Job.code_of_tally (by simp)

end

section
variable {d : Dev} {j : Job} {e : Entry} {ecc : List EccHit} {pl : Plan} (hj : j.d.ceSource = d.ceSource)
  (hl : d.scratchBad e.desc ecc = false)
include hj hl

/-- How a root job without warm start and store ends on a device that holds what `d` holds. -/
theorem Job.ceRootRun_ends (hw : ceWarmEn e.desc = false) (hs : ceStoreRoot e.desc = false) {r : RootRun}
    (hr : d.ceColdRoot e.desc pl = r) (hc : r.converged = true) :
    (j.ceRootRun e ecc pl).done.code = j.done.code ∧ (j.ceRootRun e ecc pl).done.result = ceResult r.k 0 0xFFF (fmtA32.enc r.r)
      ∧ (d.ceWild e.desc = false →
        (j.ceRootRun e ecc pl).d.mem.read (ceOutAddr e.desc) (2 * ceDim e.desc * ceDim e.desc) = rootOutput e.desc pl r) := by
  have hr' : j.d.ceColdRoot e.desc pl = r := by rw [← hr, Dev.ceColdRoot, Dev.ceColdRoot, Dev.ceSquare_of_ceSource hj]
  rw [j.ceRootRun_converged (by rw [Dev.scratchBad_of_ceSource hj, hl]) hw hs hr' hc, Dev.ceWild_of_ceSource hj]
  refine ⟨Job.code_of_tally (by simp), Job.result_result _ _, fun hwild => ?_⟩
  rw [hwild, Job.result_d, ← rootOutput_length e.desc pl r]
  exact Job.ceWrite_read _ _ _

/-- A job that runs to its end, a root job within its tolerance, the others past every pivot, fixes no code. -/
theorem Job.ceWork_code {op : Nat} (h1 : 0x50 ≤ op) (h2 : op ≤ 0x52) (hw : ceWarmEn e.desc = false) (hs : ceStoreRoot e.desc = false)
    (hc : op = 0x50 → (d.ceColdRoot e.desc pl).converged = true) (hf : op ≠ 0x50 → (d.ceFactor op e.desc pl).stop = none) :
    (j.ceWork op e ecc (d.lsq e.desc) pl).done.code = j.done.code := by
  have hl' : j.d.scratchBad e.desc ecc = false := by rw [Dev.scratchBad_of_ceSource hj, hl]
  obtain rfl | rfl | rfl : op = 0x50 ∨ op = 0x51 ∨ op = 0x52 := by omega
  · exact (Job.ceRootRun_ends hj hl hw hs rfl (hc rfl)).1
  · exact j.ceCholRun_code hl' (by rw [Dev.ceFactor_of_ceSource hj (by decide)]; exact hf (by decide))
  · exact j.ceLsqRun_code hl' (hf (by decide))

end

/-! ## O29 -/

theorem Dev.ceFinite_iff (d : Dev) (op x : Nat) : d.ceFinite op x = true ↔
    if op = 0x52 then (∀ p ∈ grid (ceDim x) (ceNcols x), (d.lsqD x p.1 p.2).isFinite = true) ∧ (∀ t < ceDim x, (d.lsqY x t).isFinite = true)
    else d.squareFinite x = true := by
  unfold Dev.ceFinite
  split
  · simp only [Bool.and_eq_true, List.all_eq_true, mem_below]
  · exact Iff.rfl

/-- Settles O29: the command is the job of its opcode (`Starts.solved`), which is split by the first thing that stops it; a job that
nothing stops is read off its own run. -/
theorem solverJobsEnd : Obligations.SolverJobsEnd := by
  unfold Obligations.SolverJobsEnd
  refine ⟨fun c op s e hc h1 h2 h => ?_, fun c op s e pl hc h1 h2 h => ?_⟩
  · intro x d bad finite plan
    obtain ⟨t, hended, hmem, hjobs⟩ := h.solved hc h1 h2
    have hfin := d.ceFinite_iff op x
    have hstops : ∀ {code}, d.StopsWith code (d.ceJob op (s.dev.startedEntry e) (eccOf c)) →
        (d.ceJob op (s.dev.startedEntry e) (eccOf c)).done.code = code ∧ t.dev.mem = d.mem :=
      fun ⟨hcode, hd⟩ => ⟨hcode, hmem.trans hd⟩
    exact ⟨t, _, hended, hjobs, fun hb => hstops (Dev.ceJob_poisoned (e := s.dev.startedEntry e) hb),
      fun hb hf => hstops (Dev.ceJob_nonfinite (e := s.dev.startedEntry e) hb (mt hfin.1 hf)),
      fun hb hf hp => hstops (Dev.ceJob_unplanned (e := s.dev.startedEntry e) hb (hfin.2 hf) hp),
      fun hb hf hp hr => hstops (Dev.ceJob_cramped (e := s.dev.startedEntry e) hb (hfin.2 hf) hp hr)⟩
  · intro x d finite plan a hh i root f hb hf hp hr hwarm hl hw hs hroot hfactor
    obtain ⟨t, hended, hmem, -⟩ := h.solved hc h1 h2
    have hk := Dev.ceJob_runs (e := s.dev.startedEntry e) (ne_true_of_eq_false hb) ((d.ceFinite_iff op x).2 hf) hp hr hwarm hl
    have hj := Job.ceReported_ceSource (j := Job.start d) (sat := op == 0x52 && (d.lsq x).sat) false pl
    have hcode := Job.code_of_tally (Job.ceReported_tally (j := Job.start d) (sat := op == 0x52 && (d.lsq x).sat) false pl)
    refine ⟨t, _, hended, ?_, fun hop => ?_⟩
    · rw [hk]
      exact (Job.ceWork_code (e := s.dev.startedEntry e) hj hl h1 h2 hw hs hroot hfactor).trans hcode
    · subst hop
      obtain ⟨-, hres, hread⟩ := Job.ceRootRun_ends (e := s.dev.startedEntry e) hj hl hw hs rfl (hroot rfl)
      rw [hmem, hk]
      exact ⟨hres, hread⟩

end Sys2Proof.Machine
end

section
/-! PROOF. The start and the end of a sweep descriptor (08 R229, R256; 09 R274): what its command begins on, its checks, and the entry of the
scoreboard that its end leaves. -/

namespace Sys2Proof.Machine

/-! ## What a step-fatal event leaves of the dispatcher (00 R10) -/

section
variable (d : Dev)

theorem Dev.howlOn_disp (f : Flit) (p : Nat) : (d.howlOn f p).disp = d.disp := by
  unfold Dev.howlOn
  split
  · rfl
  · split
    · rfl
    · split <;> rfl

theorem Dev.howl_disp (kind port subject event step : Nat) (v : Bool) : (d.howl kind port subject v event step).disp = d.disp := by
  unfold Dev.howl
  split
  · rfl
  · exact (foldl_keeps (g := Dev.disp) (fun d p => d.howlOn_disp _ p) _ _).trans (Dev.note_disp _ _ _ _)

theorem mem_marked (l : List Nat) (s : Nat) : s ∈ if l.contains s = true then l else s :: l := by
  split
  · next h => simpa using h
  · exact List.mem_cons_self

/-- A step-fatal event leaves the scoreboard, and marks its step. -/
theorem Dev.raiseStep_marks (code a b s : Nat) :
    (d.raiseStep code a b s).disp.board = d.disp.board ∧ s ∈ (d.raiseStep code a b s).disp.fatalSteps := by
  unfold Dev.raiseStep
  extract_lets x disp y z
  have hx : x.disp.board = d.disp.board := congrArg Disp.board (d.raise_disp code a b)
  have hmark : s ∈ y.disp.fatalSteps := mem_marked _ s
  have hz : z.disp = y.disp := y.put_disp _ _ _
  split
  · rw [Dev.howl_disp, hz]; exact ⟨hx, hmark⟩
  · rw [hz]; exact ⟨hx, hmark⟩

end

/-- Consuming poisoned data leaves the scoreboard. -/
theorem Job.poisonedAt_board (j : Job) (s a : Nat) : (j.poisonedAt s a).d.disp.board = j.d.disp.board := by
  unfold Job.poisonedAt Job.poisoned Job.raiseStep
  simp only [Job.fail_d, Job.noteEvent_d, Job.dev_d]
  exact ((Dev.raiseStep_marks _ _ _ _ _).1).trans (congrArg Disp.board (Dev.of_mute_disp (j.d.errLog_mute _)))

/-! ## The device that the work begins on, and the one that its end leaves -/

section
variable {d : Dev} {e : Entry} {ecc : List EccHit}

/-- A sweep descriptor has no tile to read, so that its command begins with the errors of its reads alone. -/
theorem Dev.begun_sweep (h : opClass (hdOpcode e.desc) = 6) : d.begun e ecc = (d.markStarted e).eccRead [] ecc := by
  have hreads : d.accReads e.desc = [] := by
    unfold Dev.accReads
    split <;> simp_all [opClass]
  rw [Dev.begun, hreads]

theorem Dev.begun_disp : (d.begun e ecc).disp = (d.markStarted e).disp := Dev.eccRead_disp _ _ _

theorem Dev.begun_board : (d.begun e ecc).disp.board = boardWith d.disp.board e.id (d.startedEntry e) := congrArg Disp.board Dev.begun_disp

theorem Dev.begun_get {i k : Nat} (h : Spared (odKey i k)) : (d.begun e ecc).get i k = d.get i k := Dev.eccRead_get _ _ h

/-- The errors that a read finds mark memory and leave its bytes. -/
theorem Dev.begun_byte (a : Nat) : (d.begun e ecc).mem.byte a = d.mem.byte a := by
  have hcells : (d.begun e ecc).mem.cells = d.mem.cells := by
    refine congrArg Prod.fst (foldl_keeps (g := Dev.mapped) (fun d (x : EccHit) => ?_) _ _ : (d.begun e ecc).mapped = (d.markStarted e).mapped)
    split
    · exact d.eccFound_mapped _ _
    · rfl
  exact congrArg (fun c => sget memDefault c a) hcells

/-- The entry of a descriptor whose work has begun, on a device that kept the scoreboard since. -/
theorem Dev.entry_of_begun {x : Dev} (he : d.entry e.id = some e) (hb : x.disp.board = (d.begun e ecc).disp.board) :
    x.entry e.id = some (d.startedEntry e) := by
  rw [Dev.entry, hb, Dev.begun_board]
  exact findEntry_with _ _ _ rfl (Option.isSome_iff_exists.2 ⟨e, he⟩)

/-- The work of a begun descriptor ends: in the scoreboard, which the work kept, its entry has its outcome, and nothing else changes. -/
theorem Dev.finish_begun {x : Dev} (he : d.entry e.id = some e) (hb : x.disp.board = (d.begun e ecc).disp.board) (done : Done) :
    x.finish e.id done = { x with disp := { x.disp with board := d.boardAfter e e.pinned done } } := by
  have hboard : boardWith x.disp.board e.id { d.startedEntry e with done := some done } = d.boardAfter e e.pinned done := by
    rw [hb, Dev.begun_board]
    exact boardWith_twice _ _ _ _ rfl
  rw [Dev.finish_eq _ _ _ _ (Dev.entry_of_begun he hb), ← hboard]
  rfl

/-- A command that ends the work of a begun descriptor. -/
theorem Effect.ended_begun {c : Instr} {s : State} {x : Dev} {done : Done} (he : s.dev.entry e.id = some e)
    (hb : x.disp.board = (s.dev.begun e ecc).disp.board) (h : Effect c s (x.finish e.id done)) :
    Ended c s { s with dev := x.finish e.id done } e done :=
  ⟨h.answers, e.pinned, by rw [Dev.finish_begun he hb]⟩

end

/-! ## The checks -/

section
variable {d : Dev} {e : Entry} {f : Job → List Nat → Dev}

theorem Dev.sweepCheck_poisoned {a : Nat} (h : d.firstPoison (Dev.sweepControl e.desc d) = some a) :
    d.sweepCheck e f = ((Job.start d).poisonedAt e.step a).d.finish e.id ((Job.start d).poisonedAt e.step a).done := by
  simp only [Dev.sweepCheck, h]

variable (h : d.firstPoison (Dev.sweepControl e.desc d) = none)
include h

theorem Dev.sweepCheck_refused (hc : d.tableCheck e.desc (d.shardTable e.desc) ≠ 0) :
    d.sweepCheck e f = d.finish e.id { Done.init with code := d.tableCheck e.desc (d.shardTable e.desc) } := by
  simp only [Dev.sweepCheck, h]
  exact if_pos (by simpa using hc)

theorem Dev.sweepCheck_passed (hc : d.tableCheck e.desc (d.shardTable e.desc) = 0) :
    d.sweepCheck e f = f (Job.start d) (d.shardTable e.desc) := by
  simp only [Dev.sweepCheck, h]
  exact if_neg (by simp [hc])

end

/-- A sweep descriptor that may start begins, and is checked. -/
theorem Dev.startSweep_eq {d : Dev} {e : Entry} {op : Nat} (he : d.entry e.id = some e) (ho : hdOpcode e.desc = op) (h6 : opClass op = 6)
    (hm : d.mayStart e = true) (ecc : List EccHit) (f : Job → Entry → List Nat → Dev) :
    d.startSweep e.id op ecc f = (d.begun e ecc).sweepCheck (d.startedEntry e) (fun j t => f j (d.startedEntry e) t) := by
  subst ho
  have hgo : ¬ (hdOpcode e.desc != hdOpcode e.desc || !d.mayStart e) = true := by simp [hm]
  have hstep : ((d.markStarted e).eccRead [] ecc).stepOf e.desc = d.stepOf e.desc :=
    congrArg (fun n => stepFrom n (hdStepTag e.desc)) (Dev.eccRead_get (d := d.markStarted e) [] ecc (i := 0x5080) (k := 4) (by decide))
  rw [Dev.begun_sweep h6, Dev.startedEntry, ← hstep]
  simp only [Dev.startSweep, he]
  exact if_neg hgo

end Sys2Proof.Machine
end

section
/-! PROOF. The works of a norm check and of a verification (08 R233, R252, R253, R256). -/

namespace Sys2Proof.Machine

/-! ## Two numbers written side by side (00 R5) -/

theorem Mem.read_add (m : Mem) (a n k : Nat) : m.read a (n + k) = m.read a n ++ m.read (a + n) k := by
  induction n generalizing a with
  | zero => simp [Mem.read]
  | succ n ih => rw [show n + 1 + k = n + k + 1 by omega, Mem.read, Mem.read, ih, show a + 1 + n = a + (n + 1) by omega, List.cons_append]

theorem Dev.wr_num_pair (d : Dev) (a n k v w : Nat) (p : Bool) :
    (d.wr a (toBytes n v ++ toBytes k w) p).num a n = v % 2 ^ (8 * n)
      ∧ (d.wr a (toBytes n v ++ toBytes k w) p).num (a + n) k = w % 2 ^ (8 * k) := by
  have hread := d.mem.store_read a (toBytes n v ++ toBytes k w) p
  rw [List.length_append, toBytes_length, toBytes_length, Mem.read_add] at hread
  obtain ⟨hv, hw⟩ := List.append_inj hread (by rw [Mem.read_length, toBytes_length])
  simp only [Dev.num, Dev.wr_mem, Mem.num, hv, hw, ofBytes_toBytes, and_self]

/-! ## The norm check (08 R233, R256) -/

/-- A fold that counts its members, and stops at the first for which a mark is set, has counted them all where none is set. -/
theorem foldl_counts_or_stops {α β γ : Type} {f : β × Nat × Option γ → α → β × Nat × Option γ}
    (hstops : ∀ a x, a.2.2 ≠ none → f a x = a) (hcounts : ∀ a x, (f a x).2.2 = none → (f a x).2.1 = a.2.1 + 1) (l : List α)
    (a : β × Nat × Option γ) (h : (l.foldl f a).2.2 = none) : a.2.2 = none ∧ (l.foldl f a).2.1 = a.2.1 + l.length := by
  induction l generalizing a with
  | nil => exact ⟨h, rfl⟩
  | cons x t ih =>
    obtain ⟨hnone, hcount⟩ := ih (f a x) h
    have ha : a.2.2 = none := by
      by_contra ha
      exact ha (by rw [← hstops a x ha]; exact hnone)
    refine ⟨ha, ?_⟩
    rw [List.foldl_cons, hcount, hcounts a x hnone, List.length_cons]
    omega

/-- A sum without poisoned gradients is over the whole table. -/
theorem Dev.normSum_counts {d : Dev} {table : List Nat} (h : (d.normSum table).2.2 = none) : (d.normSum table).2.1 = table.length := by
  refine (foldl_counts_or_stops (fun a x ha => ?_) (fun a x hx => ?_) table _ h).2.trans (Nat.zero_add _)
  · exact if_pos (Option.isSome_iff_ne_none.2 ha)
  · split at hx
    · next ha => rw [hx] at ha; cases ha
    · next ha =>
      split at hx
      · cases hx
      · next hp => rw [if_neg ha, if_neg hp]

/-- What the norm check of a table does. -/
def Job.normCheck (j : Job) (e : Entry) (table : List Nat) : Job :=
  let r := j.d.normSum table
  match r.2.2 with
  | some x => (j.raiseStep 0x3548 (shId x) 0 e.step).fail ccPoisoned
  | none => j.dev (fun d => d.wr (swNormAddr e.desc) (toBytes 8 (fmtW64.enc r.1.1) ++ toBytes 8 (fmtW64.enc (fpNat r.1.2))) false)

theorem Job.normCheck_sums {j : Job} {e : Entry} {table : List Nat} (h : (j.d.normSum table).2.2 = none) :
    j.normCheck e table = j.dev (fun d => d.wr (swNormAddr e.desc)
      (toBytes 8 (fmtW64.enc (j.d.normSum table).1.1) ++ toBytes 8 (fmtW64.enc (fpNat (j.d.normSum table).1.2))) false) := by
  simp only [Job.normCheck, h]

/-- A poisoned gradient ends a norm check, and makes its step fatal. -/
theorem Job.normCheck_poisoned {j : Job} {e : Entry} {table : List Nat} (hc : j.done.code = 0) (h : (j.d.normSum table).2.2 ≠ none) :
    (j.normCheck e table).done.code = ccPoisoned ∧ (j.normCheck e table).d.disp.board = j.d.disp.board
      ∧ e.step ∈ (j.normCheck e table).d.disp.fatalSteps ∧ (j.normCheck e table).d.mem = j.d.mem := by
  obtain ⟨x, hx⟩ := Option.ne_none_iff_exists'.1 h
  obtain ⟨hboard, hmark⟩ := j.d.raiseStep_marks 0x3548 (shId x) 0 e.step
  have hk : j.normCheck e table = (j.raiseStep 0x3548 (shId x) 0 e.step).fail ccPoisoned := by simp only [Job.normCheck, hx]
  have hd : (j.normCheck e table).d = j.d.raiseStep 0x3548 (shId x) 0 e.step := by
    rw [hk, Job.fail_d, Job.raiseStep, Job.noteEvent_d, Job.dev_d]
  refine ⟨?_, by rw [hd, hboard], by rw [hd]; exact hmark, ?_⟩
  · rw [hk]
    exact Job.fail_code (by rw [Job.raiseStep, Job.noteEvent_code, Job.dev_code, hc]) _
  · rw [hd]
    exact (Dev.contents_eq_iff.1 (j.d.raiseStep_contents _ _ _ _)).2

/-! ## A verification (08 R252, R253) -/

section
variable {a b : Dev} (h : a.mem = b.mem)
include h

theorem Dev.firstPoison_of_mem (l : List Ext) : a.firstPoison l = b.firstPoison l := by
  induction l with
  | nil => rfl
  | cons x t ih => rw [Dev.firstPoison, Dev.firstPoison, ih, h]

theorem Dev.shardGood_of_mem (kind x off fp p : Nat) : a.shardGood kind x off fp p = b.shardGood kind x off fp p := by
  have hnums : ∀ p n z, a.nums p n z = b.nums p n z := fun p n z => List.map_congr_left fun i _ => Dev.num_of_mem h _ _
  simp only [Dev.shardGood, Dev.readState, Dev.firstPoison_of_mem h, hnums]

end

/-- The record of shard `x` at `p` is stale, or matches what its bank at `off` holds. -/
def Dev.RecordFine (d : Dev) (kind x off version p : Nat) : Prop :=
  let r := d.num p 32
  fpValid r = false ∨ fpVersion r ≠ version ∨ fpEpoch r ≠ shEpoch x ∨ fpShard r ≠ shId x ∨ d.shardGood kind x off r p = true

theorem Dev.recordFine_of_mem {a b : Dev} (h : a.mem = b.mem) {kind x off version p : Nat} (hb : b.RecordFine kind x off version p) :
    a.RecordFine kind x off version p := by
  unfold Dev.RecordFine at *
  simpa only [Dev.num_of_mem h, Dev.shardGood_of_mem h] using hb

/-- The check of a stored shard whose record is fine is counted, and nothing more. -/
theorem Job.verifyShard_fine {j : Job} {kind x off version p : Nat} (h : j.d.RecordFine kind x off version p) (s : Nat) (l : List ShadowRec) :
    ∃ k w, j.verifyShard s kind x off version p l = j.dev (fun d => d.addSat 0x50A0 k w 1) := by
  unfold Job.verifyShard
  extract_lets fp j₁ j₂
  split
  · exact ⟨5, 32, rfl⟩
  · next hcurrent =>
    simp only [Bool.or_eq_true, not_or, Bool.not_eq_true, Bool.not_eq_false', bne_eq_false_iff_eq] at hcurrent
    obtain ⟨⟨⟨hvalid, hversion⟩, hepoch⟩, hshard⟩ := hcurrent
    have hgood : j.d.shardGood kind x off fp p = true := by
      obtain hn | hn | hn | hn | hn := h
      · exact absurd hvalid (by rw [show fpValid fp = false from hn]; exact Bool.false_ne_true)
      · exact absurd hversion hn
      · exact absurd hepoch hn
      · exact absurd hshard hn
      · exact hn
    exact ⟨4, 64, if_pos ((Dev.shardGood_of_mem (a := j₁.d) (b := j.d) rfl _ _ _ _ _).trans hgood)⟩

/-- One turn of a verification: entry `q.2` of the table, shard `q.1`, where none has failed. -/
def verifyTurn (e : Entry) (l : List ShadowRec) (a : Job × Nat) (q : Nat × Nat) : Job × Nat :=
  if a.1.done.code != 0 then a
  else
    let x := e.desc
    let j := a.1.verifyShard e.step (swOptKind x) q.1 (shBank q.1 (swNewVersion x)) (swNewVersion x) (swFprintAddr x + 32 * q.2) l
    (j, if j.done.code = 0 then a.2 + 1 else a.2)

/-- What the verification of a table does, and how many shards it has checked. -/
def Job.verifyTable (j : Job) (e : Entry) (table : List Nat) (l : List ShadowRec) : Job × Nat := table.zipIdx.foldl (verifyTurn e l) (j, 0)

/-- What checks that find nothing leave of a job. -/
def Job.stands (j : Job) : Mem × Disp × Done := (j.d.mem, j.d.disp, j.done)

theorem Job.stands_eq_iff {i j : Job} : i.stands = j.stands ↔ i.d.mem = j.d.mem ∧ i.d.disp = j.d.disp ∧ i.done = j.done := by
  simp only [Job.stands, Prod.mk.injEq]

/-- Turns over fine records keep all that stands, and count each. -/
theorem foldl_verifyTurn (e : Entry) (l : List ShadowRec) (qs : List (Nat × Nat)) (a : Job × Nat) (hc : a.1.done.code = 0)
    (h : ∀ q ∈ qs, a.1.d.RecordFine (swOptKind e.desc) q.1 (shBank q.1 (swNewVersion e.desc)) (swNewVersion e.desc)
      (swFprintAddr e.desc + 32 * q.2)) :
    (qs.foldl (verifyTurn e l) a).1.stands = a.1.stands ∧ (qs.foldl (verifyTurn e l) a).2 = a.2 + qs.length := by
  induction qs generalizing a with
  | nil => exact ⟨rfl, rfl⟩
  | cons q t ih =>
    obtain ⟨k, w, hturn⟩ := Job.verifyShard_fine (h q List.mem_cons_self) e.step l
    have hq : verifyTurn e l a q = (a.1.dev (fun d => d.addSat 0x50A0 k w 1), a.2 + 1) := by
      unfold verifyTurn
      rw [if_neg (by simp [hc])]
      simp only [hturn, Job.dev_code, hc, if_true]
    rw [List.foldl_cons, hq]
    obtain ⟨hstands, hcount⟩ := ih (a.1.dev (fun d => d.addSat 0x50A0 k w 1), a.2 + 1) ((Job.dev_code _ _).trans hc)
      fun q hq => Dev.recordFine_of_mem (b := a.1.d) (Dev.addSat_mem _ _ _ _ _) (h q (List.mem_cons_of_mem _ hq))
    refine ⟨hstands.trans (Job.stands_eq_iff.2 ⟨Dev.addSat_mem _ _ _ _ _, Dev.addSat_disp _ _ _ _ _, rfl⟩), ?_⟩
    rw [hcount, List.length_cons]
    omega

/-- A verification whose records are all fine keeps memory, the dispatcher and the outcome, and has checked the whole table. -/
theorem Job.verifyTable_fine {j : Job} {e : Entry} {table : List Nat} (hc : j.done.code = 0) (l : List ShadowRec)
    (h : ∀ i v, table[i]? = some v → j.d.RecordFine (swOptKind e.desc) v (shBank v (swNewVersion e.desc)) (swNewVersion e.desc)
      (swFprintAddr e.desc + 32 * i)) :
    (j.verifyTable e table l).1.stands = j.stands ∧ (j.verifyTable e table l).2 = table.length := by
  obtain ⟨hstands, hcount⟩ := foldl_verifyTurn e l table.zipIdx (j, 0) hc fun q hq => h q.2 q.1 (List.mem_zipIdx_iff_getElem?.1 hq)
  rw [List.length_zipIdx, Nat.zero_add] at hcount
  exact ⟨hstands, hcount⟩

end Sys2Proof.Machine
end

section
/-! PROOF. A sweep that meets no poison (08 R236-R245; 12 R380-R383): what its visits leave, and its course over shards that are all eligible. -/

namespace Sys2Proof.Machine

theorem nodup_below (n : Nat) : (below n).Nodup := by
  suffices h : ∀ a, (upFrom a n).Nodup from h 0
  induction n with
  | zero => exact fun _ => List.nodup_nil
  | succ n ih => exact fun a => List.nodup_cons.2 ⟨fun h => by have := (mem_upFrom.1 h).1; omega, ih (a + 1)⟩

/-! ## Writes over memory without poison (09 R276) -/

theorem Mem.write_poison (m : Mem) (a : Nat) (l : List Byte) : (m.write a l).poison = m.poison := by
  induction l generalizing m a with
  | nil => rfl
  | cons b t ih => rw [Mem.write, ih]; rfl

theorem Mem.store_unpoisoned {m : Mem} (h : m.poison = []) (a : Nat) (l : List Byte) : (m.store a l false).poison = [] := by
  refine List.foldlRecOn (motive := fun m : Mem => m.poison = []) _ _ ((Mem.write_poison m a l).trans h) fun m hm u _ => ?_
  simp only [Bool.false_eq_true, if_false]
  split
  · simp [Mem.mark, hm, sset, serase]
  · exact hm

/-- The dispatcher stands as `b`, and nothing in memory is poisoned. -/
structure Dev.Clean (b : Disp) (d : Dev) : Prop where
  disp : d.disp = b
  poison : d.mem.poison = []

section
variable {b : Disp} {d : Dev} (h : d.Clean b)
include h

theorem Dev.Clean.of_eq {d' : Dev} (hdisp : d'.disp = d.disp) (hmem : d'.mem = d.mem) : d'.Clean b :=
  ⟨hdisp.trans h.disp, (congrArg Mem.poison hmem).trans h.poison⟩

theorem Dev.Clean.of_apart {d' : Dev} (ha : d'.apart = d.apart) : d'.Clean b := by
  obtain ⟨hdisp, hmem, -⟩ := Dev.apart_eq_iff.1 ha
  exact h.of_eq hdisp hmem

theorem Dev.Clean.firstPoison (l : List Ext) : d.firstPoison l = none := by
  have hclean : ∀ u, d.mem.poisoned u = false := fun u => by rw [Mem.poisoned, h.poison]; rfl
  induction l with
  | nil => rfl
  | cons x t ih =>
    rw [Dev.firstPoison, ih, List.find?_eq_none.2 fun u _ => by simp [hclean]]

theorem Dev.Clean.wr (a : Nat) (l : List Byte) : (d.wr a l false).Clean b := ⟨h.disp, Mem.store_unpoisoned h.poison a l⟩

theorem Dev.Clean.put (i k v : Nat) : (d.put i k v).Clean b := h.of_eq (d.put_disp i k v) (d.put_mem i k v)

theorem Dev.Clean.addSat (i k w n : Nat) : (d.addSat i k w n).Clean b := h.put _ _ _

theorem Dev.Clean.raise (c x y : Nat) : (d.raise c x y).Clean b := h.of_eq (d.raise_disp c x y) (d.raise_mem c x y)

theorem Dev.Clean.withCmp (c : Compute) : ({ d with cmp := c } : Dev).Clean b := h.of_eq rfl rfl

theorem Dev.Clean.withDraws (n : Nat) : ({ d with draws := n } : Dev).Clean b := h.of_eq rfl rfl

theorem Dev.Clean.withShadow (x : Shadow) : ({ d with shadow := x } : Dev).Clean b := h.of_eq rfl rfl

theorem Dev.Clean.setTile (t : Nat) (x : Tile) : (d.setTile t x).Clean b := h.withCmp _

theorem Dev.Clean.tear (t : Nat) (p : Bool) : (d.tear t p).Clean b := by
  unfold Dev.tear
  refine Dev.Clean.setTile ?_ _ _
  exact List.foldlRecOn (motive := Dev.Clean b) _ _ (h.withDraws _) fun d hd q _ => (hd.withCmp _).wr _ _

theorem Dev.Clean.scramble (t : Nat) : (d.scramble t).Clean b := ((h.tear t false).setTile _ _).withDraws _

theorem Dev.Clean.setReady (k : Nat) (on : Bool) : (d.setReady k on).Clean b := h.wr _ _

theorem Dev.Clean.writeState (kind x off : Nat) (s : ShardState) : (d.writeState kind x off s).Clean b := by
  have hwcm := ((h.wr (shW x + off) (bytesOf 2 s.w)).wr (shC x + off) (bytesOf 2 s.c)).wr (shState x + off) (bytesOf 4 s.m)
  unfold Dev.writeState
  extract_lets d₁
  split
  · exact hwcm.wr _ _
  · exact hwcm

theorem Dev.Clean.queueShadow (step shard : Nat) (runs : List (Nat × Marked)) (off record : Nat) :
    (d.queueShadow step shard runs off record).Clean b := by
  unfold Dev.queueShadow
  extract_lets x
  split
  · exact h
  · split
    · exact h
    · exact ((h.withShadow _).put _ _ _).of_apart (Dev.launch_apart _ _ _ _ _)

theorem Dev.Clean.publish (r : SweepRun) (step desc i x bad : Nat) (s : ShardState) : (d.publish r step desc i x bad s).Clean b := by
  unfold Dev.publish
  extract_lets kind version d₁ fp record d₂ d₃ d₄ d₅ q
  have h₂ : d₂.Clean b := (h.wr _ _).wr _ _
  have h₃ : d₃.Clean b := by
    simp only [d₃]
    split
    · exact h₂.wr _ _
    · exact h₂
  have h₅ : d₅.Clean b := by
    simp only [d₅]
    split
    · exact (h₃.wr _ _).setReady _ _
    · exact h₃.wr _ _
  exact (h₅.queueShadow _ _ _ _ _).addSat _ _ _ _

end

/-! ## One shard (08 R238) -/

theorem Job.dev_clean {i j : Job} {b : Disp} {f : Dev → Dev} (h : (f j.d).Clean b) (hdone : j.done = i.done) :
    (j.dev f).d.Clean b ∧ (j.dev f).done = i.done := ⟨h, hdone⟩

/-- Without poison and without a verification, a visit updates its shard and gives no code. -/
theorem Job.visit_clean {j : Job} {b : Disp} (h : j.d.Clean b) (hc : j.done.code = 0) {r : SweepRun} (hv : r.verify = false) (e : Entry)
    (i x : Nat) (l : List ShadowRec) : (j.visit r e i x l).1.d.Clean b ∧ (j.visit r e i x l).1.done = j.done := by
  unfold Job.visit
  extract_lets desc kind version rd wr j₁ roots old new j₂ j₃
  have hj : j₁ = j := if_neg (by simp [hv])
  have h₁ : j₁.d.Clean b ∧ j₁.done = j.done := by rw [hj]; exact ⟨h, rfl⟩
  have h₂ : j₂.d.Clean b ∧ j₂.done = j.done := by
    simp only [j₂]
    split
    · exact h₁
    · exact Job.dev_clean (h₁.1.writeState _ _ _ _) h₁.2
  have h₃ : j₃.d.Clean b ∧ j₃.done = j.done := by
    simp only [j₃]
    split
    · exact h₂
    · exact Job.dev_clean ((h₂.1.scramble _).scramble _) h₂.2
  rw [if_neg (by simp [h₁.2, hc])]
  simp only [h₁.1.firstPoison, Option.isSome_none, Bool.and_false, Bool.false_eq_true, if_false]
  exact Job.dev_clean (h₃.1.publish _ _ _ _ _ _ _) h₃.2

theorem Job.noteNonfinite_clean {j : Job} {b : Disp} (h : j.d.Clean b) (r : SweepRun) (e : Entry) (bad : Nat) :
    (j.noteNonfinite r e bad).d.Clean b ∧ (j.noteNonfinite r e bad).done.code = j.done.code := by
  unfold Job.noteNonfinite
  split
  · exact ⟨h, rfl⟩
  · rw [Job.raise_d]
    exact ⟨h.raise _ _ _, Job.noteEvent_code _ _⟩

/-! ## The course over shards that are all eligible (08 R245) -/

/-- A sweep that has no code, verifies nothing, and waits for none of its shards. -/
structure SweepRun.Free (r : SweepRun) : Prop where
  code : r.done.code = 0
  verify : r.verify = false
  eligible : ∀ i ∈ r.left, ∃ x, r.table[i]? = some x ∧ shResident x = false

/-- `q` is sweep `r` with `n` more shards updated. -/
structure SweepRun.Went (r : SweepRun) (n : Nat) (q : SweepRun) : Prop where
  id : q.id = r.id
  idle : q.idle = r.idle
  code : q.done.code = 0
  processed : q.processed = r.processed + n

theorem SweepRun.Went.trans {r q p : SweepRun} {n k : Nat} (h : r.Went n q) (h' : q.Went k p) : r.Went (n + k) p :=
  ⟨h'.id.trans h.id, h'.idle.trans h.idle, h'.code, by rw [h'.processed, h.processed, Nat.add_assoc]⟩

theorem SweepRun.Free.eligible_of_left {r : SweepRun} (hr : r.Free) (d : Dev) {i : Nat} (hi : i ∈ r.left) : d.eligible r i = true := by
  obtain ⟨x, hx, hfree⟩ := hr.eligible i hi
  simp [Dev.eligible, hx, hfree]

/-- A turn of a free sweep updates its first entry, which is then no longer left. -/
theorem Dev.sweepOn_updates {b : Disp} {d : Dev} (h : d.Clean b) {r : SweepRun} (hr : r.Free) {e : Entry} (hf : e.step ∉ b.fatalSteps)
    {i : Nat} {t : List Nat} (hl : r.left = i :: t) (hi : i ∉ t) (l : List ShadowRec) (fuel : Nat) :
    ∃ (x : Dev) (q : SweepRun), d.sweepOn r e l (fuel + 1) = x.sweepOn q e l fuel ∧ x.Clean b ∧ q.Free ∧ q.left = t ∧ r.Went 1 q := by
  have hlen : ¬ r.left.isEmpty = true := by rw [hl]; exact Bool.false_ne_true
  have hstep : ¬ d.disp.fatalSteps.contains e.step = true := by rw [h.disp]; simpa using hf
  rw [Dev.sweepOn, if_neg hlen, if_neg hstep]
  extract_lets r₁
  have hr₁ : r₁.Free := ⟨hr.code, hr.verify, hr.eligible⟩
  have hl₁ : r₁.left = i :: t := hl
  have hwent : r.Went 0 r₁ := ⟨rfl, rfl, hr.code, rfl⟩
  have hfirst : r₁.left.find? (d.eligible r₁) = some i := by
    rw [hl₁]
    exact List.find?_cons_of_pos (hr₁.eligible_of_left d (by rw [hl₁]; exact List.mem_cons_self))
  have hrest : r₁.left.filter (fun k => k != i) = t := by
    rw [hl₁, List.filter_cons_of_neg (by simp)]
    exact List.filter_eq_self.2 fun k hk => by simpa using fun e : k = i => hi (e ▸ hk)
  simp only [hfirst]
  obtain ⟨hvisit, hdone⟩ := Job.visit_clean (j := ⟨d, r₁.done⟩) h hr₁.code hr₁.verify e i ((r₁.table[i]?).getD 0) l
  generalize Job.visit ⟨d, r₁.done⟩ r₁ e i ((r₁.table[i]?).getD 0) l = v at *
  obtain ⟨hx, hkept⟩ := Job.noteNonfinite_clean hvisit r₁ e v.2
  have hcode : (v.1.noteNonfinite r₁ e v.2).done.code = 0 := hkept.trans ((congrArg Done.code hdone).trans hr₁.code)
  rw [if_neg (by simp [hcode])]
  exact ⟨_, _, rfl, hx, ⟨hcode, hr₁.verify, fun k hk => hr₁.eligible k (List.mem_of_mem_filter hk)⟩, hrest,
    hwent.id, hwent.idle, hcode, congrArg (· + 1) hwent.processed⟩

/-- A free sweep updates all that is left of it, and ends. -/
theorem Dev.sweepOn_all {b : Disp} {e : Entry} (hf : e.step ∉ b.fatalSteps) (l : List ShadowRec) (left : List Nat) {d : Dev} {r : SweepRun}
    (h : d.Clean b) (hr : r.Free) (hl : r.left = left) (hn : left.Nodup) :
    ∃ (x : Dev) (q : SweepRun), d.sweepOn r e l (left.length + 1) = x.endSweep q ∧ x.Clean b ∧ r.Went left.length q := by
  induction left generalizing d r with
  | nil => exact ⟨d, r, if_pos (by rw [hl]; rfl), h, rfl, rfl, hr.code, rfl⟩
  | cons i t ih =>
    obtain ⟨hi, ht⟩ := List.nodup_cons.1 hn
    obtain ⟨x, q, hturn, hx, hq, hleft, hwent⟩ := Dev.sweepOn_updates h hr hf hl hi l (t.length + 1)
    obtain ⟨y, p, hrest, hy, hwent'⟩ := ih hx hq hleft ht
    rw [List.length_cons, Nat.add_comm t.length 1]
    exact ⟨y, p, (Nat.add_comm 1 _ ▸ hturn).trans hrest, hy, hwent.trans hwent'⟩

end Sys2Proof.Machine
end

section
/-! PROOF. How sweep descriptors end (05 R159, R160; 08 R229-R256; 12 R383): the start of SWEEP_SHARDS, and O33. -/

namespace Sys2Proof.Machine

/-! ## The start of SWEEP_SHARDS (08 R235-R237; 12 R383) -/

/-- From `d` to `x`, events were raised and bookkeeping of decisions and shadows was done: the dispatcher, memory and every entry of the
dictionary stand but those that count events and the waits for commits. -/
structure Dev.Stood (d x : Dev) : Prop where
  disp : x.disp = d.disp
  mem : x.mem = d.mem
  get : ∀ i k, odKey i k ∉ noticeKeys → odKey i k ≠ odKey 0x7200 8 → x.get i k = d.get i k

theorem Dev.Stood.refl (d : Dev) : d.Stood d := ⟨rfl, rfl, fun _ _ _ _ => rfl⟩

theorem Dev.Stood.trans {d x y : Dev} (h : d.Stood x) (h' : x.Stood y) : d.Stood y :=
  ⟨h'.disp.trans h.disp, h'.mem.trans h.mem, fun i k hn hw => (h'.get i k hn hw).trans (h.get i k hn hw)⟩

section
variable (d : Dev)

theorem Dev.stood_raise (c a b : Nat) : d.Stood (d.raise c a b) :=
  ⟨d.raise_disp c a b, d.raise_mem c a b, fun _ _ hn _ => d.raise_get hn c a b⟩

theorem Dev.stood_withCmp (c : Compute) : d.Stood { d with cmp := c } := ⟨rfl, rfl, fun _ _ _ _ => rfl⟩

theorem Dev.stood_withShadow (x : Shadow) : d.Stood { d with shadow := x } := ⟨rfl, rfl, fun _ _ _ _ => rfl⟩

theorem Dev.stood_shadowStart (s : Nat) : d.Stood (d.shadowStart s) := by
  unfold Dev.shadowStart
  split
  · exact .refl d
  · split
    · exact d.stood_withShadow _
    · exact d.stood_withShadow _

theorem Dev.stood_waitOver (id : Nat) : d.Stood (d.waitOver id) := by
  have hcounted : ∀ n, d.Stood (d.addWrap 0x7200 8 n) := fun n =>
    ⟨d.addWrap_disp _ _ _, d.addWrap_mem _ _ _, fun i k _ hw => d.put_get_ne _ _ _ _ _ hw⟩
  unfold Dev.waitOver
  split
  · split
    · exact (hcounted _).trans (Dev.stood_withShadow _ _)
    · exact .refl d
  · exact .refl d

end

/-- Noting a step's decision gives no code. -/
theorem Job.noteDecision_stood (j : Job) (s ring index : Nat) (skip : Bool) :
    j.d.Stood (j.noteDecision s ring index skip).d ∧ (j.noteDecision s ring index skip).done.code = j.done.code := by
  unfold Job.noteDecision
  extract_lets k₁ k mixed j₁
  have h₁ : j.d.Stood j₁.d := j.d.stood_withCmp _
  split
  · rw [Job.raise_d]
    exact ⟨h₁.trans (Dev.stood_raise _ _ _ _), Job.noteEvent_code _ _⟩
  · exact ⟨h₁, rfl⟩

/-- The device `x` and the sweep `r` once the decision of the sweep of entry `e` is written: sweep `r` is at its beginning. -/
structure Job.Decided (j : Job) (e : Entry) (shards : List Nat) (x : Dev) (r : SweepRun) : Prop where
  disp : x.disp = j.d.disp
  unpoisoned : j.d.mem.poison = [] → x.mem.poison = []
  byte : ∀ a, a < swNormAddr e.desc ∨ swNormAddr e.desc + 45 ≤ a → x.mem.byte a = j.d.mem.byte a
  get : ∀ i k, odKey i k ∉ noticeKeys → odKey i k ≠ odKey 0x7200 8 → x.get i k = j.d.get i k
  id : r.id = e.id
  table : r.table = shards
  left : r.left = below shards.length
  idle : r.idle = 0
  processed : r.processed = 0
  code : r.done.code = j.done.code
  verify : x.get 0x50A0 2 = 0 → r.verify = false

theorem Job.sweepStart_decides (j : Job) (e : Entry) (table : List Nat) (l : List ShadowRec) :
    ∃ x r, j.Decided e table x r ∧ j.sweepStart e table l =
      let v := x.vring (swVring e.desc)
      let version := swNewVersion e.desc
      if swVring e.desc = 0xFFF then x.sweepOn r e l (table.length + 1)
      else if claimReady v version then (x.setVring (swVring e.desc) (claimed v version)).sweepOn r e l (table.length + 1)
      else (x.addSat 0x5090 2 32 1).setSweep (some { r with claiming := true }) := by
  unfold Job.sweepStart
  extract_lets x ped c clip j₁ j₂ j₃ d every r
  have h₂ : j₁.d.Stood j₂.d ∧ j₂.done.code = j₁.done.code := by
    simp only [j₂]
    split
    · rw [Job.flag_d, Job.raise_d]
      exact ⟨Dev.stood_raise _ _ _ _, Job.noteEvent_code (j₁.dev (fun d => d.raise 0x0540 e.ring e.index)) 0x0540⟩
    · exact ⟨.refl _, rfl⟩
  obtain ⟨h₃, hcode⟩ := j₂.noteDecision_stood e.step e.ring e.index c.skip
  have hd : j₁.d.Stood d := (h₂.1.trans h₃).trans (j₃.d.stood_shadowStart e.step)
  have hlen : (toBytes 8 (fmtW64.enc c.norm) ++ toBytes 4 clip ++ [BitVec.ofNat 8 (b2n c.skip)]).length = 13 := by
    simp [toBytes_length]
  refine ⟨d, r, ?_, rfl⟩
  exact {
    disp := hd.disp
    unpoisoned := fun h => (congrArg Mem.poison hd.mem).trans (Mem.store_unpoisoned h _ _)
    byte := fun a ha => (congrArg (fun m => Mem.byte m a) hd.mem).trans (Mem.store_byte_out _ _ _ _ _ (by rw [hlen]; simp only [x]; omega))
    get := hd.get
    id := rfl
    table := rfl
    left := rfl
    idle := rfl
    processed := rfl
    code := hcode.trans h₂.2
    verify := fun h => by simp [r, every, h] }

/-! ## The three commands -/

/-- The work `j` of the descriptor of number `id` ends with a result. -/
def Job.conclude (j : Job) (id r : Nat) : Dev := j.d.finish id (j.result r).done

theorem exec_sweepNormCheck (id : Nat) (ecc : List EccHit) (s : State) :
    exec (.sweepNormCheck id ecc) s = run s (fun _ d => d.startSweep id 0x60 ecc
      (fun j e t => (j.normCheck e t).conclude e.id ((j.d.normSum t).2.1 <<< 32))) := rfl

theorem exec_sweepVerify (id : Nat) (l : List ShadowRec) (ecc : List EccHit) (s : State) :
    exec (.sweepVerify id l ecc) s = run s (fun _ d => d.startSweep id 0x62 ecc
      (fun j e t => (j.verifyTable e t l).1.conclude e.id ((j.verifyTable e t l).2 <<< 32))) := rfl

theorem exec_sweepShards (id : Nat) (l : List ShadowRec) (ecc : List EccHit) (s : State) :
    exec (.sweepShards id l ecc) s = run s (fun _ d => if d.awaitsCommit id then d.waitCommit id else
      d.startSweep id 0x61 ecc (fun j e t => (j.dev (fun d => d.waitOver id)).sweepStart e t l)) := rfl

/-- A sweep descriptor that may start begins, is checked, and does the work of its opcode; a SWEEP_SHARDS that awaits a commit does not. -/
theorem sweep_effect {c : Instr} {op : Nat} {ecc : List EccHit} {l : List ShadowRec} {s : State} {e : Entry}
    (hc : (c = .sweepNormCheck e.id ecc ∧ op = 0x60) ∨ (c = .sweepShards e.id l ecc ∧ op = 0x61 ∧ s.dev.awaitsCommit e.id = false)
      ∨ (c = .sweepVerify e.id l ecc ∧ op = 0x62))
    (he : s.dev.entry e.id = some e) (ho : hdOpcode e.desc = op) (hm : s.dev.mayStart e = true) :
    ∃ work : Job → List Nat → Dev, Effect c s ((s.dev.begun e ecc).sweepCheck (s.dev.startedEntry e) work)
      ∧ (op = 0x60 → ∀ j t, work j t = (j.normCheck (s.dev.startedEntry e) t).conclude e.id ((j.d.normSum t).2.1 <<< 32))
      ∧ (op = 0x61 → ∀ j t, work j t = (j.dev (fun d => d.waitOver e.id)).sweepStart (s.dev.startedEntry e) t l)
      ∧ (op = 0x62 → ∀ j t, work j t =
          (j.verifyTable (s.dev.startedEntry e) t l).1.conclude e.id ((j.verifyTable (s.dev.startedEntry e) t l).2 <<< 32)) := by
  have hstart := fun h6 => s.dev.startSweep_eq he ho h6 hm ecc
  obtain ⟨rfl, rfl⟩ | ⟨rfl, rfl, hwait⟩ | ⟨rfl, rfl⟩ := hc
  · refine ⟨_, ?_, fun _ _ _ => rfl, fun h => absurd h (by decide), fun h => absurd h (by decide)⟩
    rw [Effect, exec_sweepNormCheck, run, hstart rfl]
    rfl
  · refine ⟨_, ?_, fun h => absurd h (by decide), fun _ _ _ => rfl, fun h => absurd h (by decide)⟩
    rw [Effect, exec_sweepShards, run, hwait, if_neg Bool.false_ne_true, hstart rfl]
  · refine ⟨_, ?_, fun h => absurd h (by decide), fun h => absurd h (by decide), fun _ _ _ => rfl⟩
    rw [Effect, exec_sweepVerify, run, hstart rfl]
    rfl

/-- A sweep of a step after a shadowed one that is not committed waits, and the wait is noted once (12 R383). -/
theorem sweepShards_waits {id : Nat} {s : State} (h : s.dev.awaitsCommit id = true) (l : List ShadowRec) (ecc : List EccHit) :
    (∀ t, s.dev.shadow.waitFrom = some (id, t) → Effect (.sweepShards id l ecc) s s.dev)
    ∧ ((∀ t, s.dev.shadow.waitFrom ≠ some (id, t)) →
        Effect (.sweepShards id l ecc) s { s.dev with shadow := { s.dev.shadow with waitFrom := some (id, s.dev.now) } }) := by
  have hx : Effect (.sweepShards id l ecc) s (s.dev.waitCommit id) := by
    rw [Effect, exec_sweepShards, run, if_pos h]
  unfold Dev.waitCommit at hx
  refine ⟨fun t ht => ?_, fun hnone => ?_⟩
  · simpa only [ht, if_true] using hx
  · split at hx
    · next i t hi =>
      rwa [if_neg fun hid : i = id => hnone t (by rw [hi, hid])] at hx
    · exact hx

/-- The start of SWEEP_SHARDS on the device on which it begins. -/
theorem shards_decides {c : Instr} {l : List ShadowRec} {s : State} {e : Entry} {d : Dev} {table : List Nat}
    (hx : Effect c s (((Job.start d).dev (fun d => d.waitOver e.id)).sweepStart (s.dev.startedEntry e) table l)) :
    ∃ x r, (Job.start d).Decided (s.dev.startedEntry e) table x r ∧ Effect c s (
      let v := x.vring (swVring e.desc)
      let version := swNewVersion e.desc
      if swVring e.desc = 0xFFF then x.sweepOn r (s.dev.startedEntry e) l (table.length + 1)
      else if claimReady v version then
        (x.setVring (swVring e.desc) (claimed v version)).sweepOn r (s.dev.startedEntry e) l (table.length + 1)
      else (x.addSat 0x5090 2 32 1).setSweep (some { r with claiming := true })) := by
  obtain ⟨x, r, hr, heq⟩ := ((Job.start d).dev (fun d => d.waitOver e.id)).sweepStart_decides (s.dev.startedEntry e) table l
  have hwait := d.stood_waitOver e.id
  refine ⟨x, r, { hr with
    disp := hr.disp.trans hwait.disp
    unpoisoned := fun h => hr.unpoisoned ((congrArg Mem.poison hwait.mem).trans h)
    byte := fun a ha => (hr.byte a ha).trans (congrArg (fun m => Mem.byte m a) hwait.mem)
    get := fun i k hn hw => (hr.get i k hn hw).trans (hwait.get i k hn hw) }, ?_⟩
  rwa [heq] at hx

/-- The `RESULT` of a sweep that was never idle (04 R106). -/
theorem SweepRun.result_of_busy {q : SweepRun} {n : Nat} (hidle : q.idle = 0) (hn : q.processed = n) (hlt : n < 2 ^ 32) :
    q.result = n * 2 ^ 32 := by
  rw [SweepRun.result, SweepRun.idleUs, hidle, hn, Nat.shiftLeft_eq, Nat.min_eq_left (by omega), Nat.zero_div, Nat.zero_min, Nat.add_zero]

theorem Dev.shardTable_length (d : Dev) (x : Nat) : (d.shardTable x).length < 2 ^ 24 := by
  rw [Dev.shardTable, List.length_map, below, length_upFrom]
  exact bits_lt _ _ _

/-! ## O33 -/

section
variable {c : Instr} {ecc : List EccHit} {l : List ShadowRec} {s : State} {e : Entry} (he : s.dev.entry e.id = some e)
include he

section
variable {work : Job → List Nat → Dev} (hx : Effect c s ((s.dev.begun e ecc).sweepCheck (s.dev.startedEntry e) work))
include hx

/-- Poisoned control data end a sweep descriptor. -/
theorem sweep_poisoned (hp : (s.dev.begun e ecc).firstPoison (Dev.sweepControl e.desc (s.dev.begun e ecc)) ≠ none) :
    ∃ t done, Ended c s t e done ∧ done.code = ccPoisoned := by
  obtain ⟨a, ha⟩ := Option.ne_none_iff_exists'.1 hp
  rw [Dev.sweepCheck_poisoned (e := s.dev.startedEntry e) ha] at hx
  exact ⟨_, _, Effect.ended_begun he (Job.poisonedAt_board _ _ _) hx, Job.poisonedAt_code rfl _ _⟩

/-- A check that fails ends a sweep descriptor, and nothing else changes. -/
theorem sweep_refused (hp : (s.dev.begun e ecc).firstPoison (Dev.sweepControl e.desc (s.dev.begun e ecc)) = none)
    (hc : (s.dev.begun e ecc).tableCheck e.desc ((s.dev.begun e ecc).shardTable e.desc) ≠ 0) :
    Effect c s ((s.dev.begun e ecc).endedAs s.dev e ((s.dev.begun e ecc).tableCheck e.desc ((s.dev.begun e ecc).shardTable e.desc))) := by
  rw [Dev.sweepCheck_refused (e := s.dev.startedEntry e) hp hc] at hx
  exact (congrArg (Effect c s) (Dev.finish_begun (ecc := ecc) he rfl _)).mp hx

end

/-- A descriptor concludes whose work kept the scoreboard. -/
theorem Effect.concluded {j : Job} {r : Nat} (hx : Effect c s (j.conclude e.id r)) (hb : j.d.disp.board = (s.dev.begun e ecc).disp.board) :
    ∃ t, Ended c s t e (j.result r).done ∧ t.dev.mem = j.d.mem ∧ t.dev.disp.fatalSteps = j.d.disp.fatalSteps :=
  ⟨_, Effect.ended_begun he hb hx, Dev.finish_mem _ _ _, by rw [Dev.finish_begun he hb]⟩

variable {table : List Nat}

section
variable (hx : Effect c s (((Job.start (s.dev.begun e ecc)).normCheck (s.dev.startedEntry e) table).conclude e.id
  (((s.dev.begun e ecc).normSum table).2.1 <<< 32)))
include hx

/-- A norm check without poisoned gradients writes its sums (08 R233). -/
theorem normCheck_ends (hn : ((s.dev.begun e ecc).normSum table).2.2 = none) :
    let sum := (s.dev.begun e ecc).normSum table
    let a := swNormAddr e.desc
    ∃ t done, Ended c s t e done ∧ done.code = 0 ∧ done.result = table.length * 2 ^ 32
      ∧ t.dev.num a 8 = fmtW64.enc sum.1.1 % 2 ^ 64 ∧ t.dev.num (a + 8) 8 = fmtW64.enc (fpNat sum.1.2) % 2 ^ 64
      ∧ ∀ b, b < a ∨ a + 16 ≤ b → t.dev.mem.byte b = s.dev.mem.byte b := by
  intro sum a
  rw [Job.normCheck_sums (j := Job.start (s.dev.begun e ecc)) hn, Dev.normSum_counts hn, Nat.shiftLeft_eq] at hx
  obtain ⟨t, hended, hmem, -⟩ := hx.concluded (ecc := ecc) he (by rw [Job.dev_d, Job.start_d, Dev.wr_disp])
  obtain ⟨hsum, hcount⟩ := (s.dev.begun e ecc).wr_num_pair a 8 8 (fmtW64.enc sum.1.1) (fmtW64.enc (fpNat sum.1.2)) false
  refine ⟨t, _, hended, ?_, Job.result_result _ _, (Dev.num_of_mem hmem _ _).trans hsum, (Dev.num_of_mem hmem _ _).trans hcount,
    fun b hb => ?_⟩
  · rw [Job.result_code, Job.dev_code, Job.start_code]
  · rw [hmem, Job.dev_d, Job.start_d, Dev.wr_mem, Mem.store_byte_out, Dev.begun_byte]
    rw [List.length_append, toBytes_length, toBytes_length]
    exact hb

/-- A norm check with a poisoned gradient makes its step fatal (08 R256). -/
theorem normCheck_fails (hn : ((s.dev.begun e ecc).normSum table).2.2 ≠ none) :
    ∃ t done, Ended c s t e done ∧ done.code = ccPoisoned ∧ s.dev.stepOf e.desc ∈ t.dev.disp.fatalSteps
      ∧ ∀ a, t.dev.mem.byte a = s.dev.mem.byte a := by
  obtain ⟨hcode, hboard, hmark, hkept⟩ := Job.normCheck_poisoned (j := Job.start (s.dev.begun e ecc)) (e := s.dev.startedEntry e) rfl hn
  obtain ⟨t, hended, hmem, hfatal⟩ := hx.concluded (ecc := ecc) he hboard
  exact ⟨t, _, hended, (Job.result_code _ _).trans hcode, hfatal ▸ hmark, fun a => by rw [hmem, hkept, Job.start_d, Dev.begun_byte]⟩

end

/-- A verification whose records are stale, or match, changes no byte of memory (08 R252, R253). -/
theorem verify_ends (hx : Effect c s (((Job.start (s.dev.begun e ecc)).verifyTable (s.dev.startedEntry e) table l).1.conclude e.id
      (((Job.start (s.dev.begun e ecc)).verifyTable (s.dev.startedEntry e) table l).2 <<< 32)))
    (hfine : ∀ i v, table[i]? = some v → (s.dev.begun e ecc).RecordFine (swOptKind e.desc) v (shBank v (swNewVersion e.desc))
      (swNewVersion e.desc) (swFprintAddr e.desc + 32 * i)) :
    ∃ t done, Ended c s t e done ∧ done.code = 0 ∧ done.result = table.length * 2 ^ 32 ∧ ∀ a, t.dev.mem.byte a = s.dev.mem.byte a := by
  obtain ⟨hstands, hcount⟩ :=
    Job.verifyTable_fine (j := Job.start (s.dev.begun e ecc)) (e := s.dev.startedEntry e) (table := table) rfl l hfine
  obtain ⟨hmem, hdisp, hdone⟩ := Job.stands_eq_iff.1 hstands
  rw [hcount, Nat.shiftLeft_eq] at hx
  obtain ⟨t, hended, hmem', -⟩ := hx.concluded (ecc := ecc) he (congrArg Disp.board hdisp)
  refine ⟨t, _, hended, ?_, Job.result_result _ _, fun a => ?_⟩
  · rw [Job.result_code, hdone, Job.start_code]
  · rw [hmem', hmem, Job.start_d, Dev.begun_byte]

section
variable (hx : Effect c s (((Job.start (s.dev.begun e ecc)).dev (fun d => d.waitOver e.id)).sweepStart (s.dev.startedEntry e) table l))
include hx

/-- A sweep outside version rings over shards that are all eligible, without poison and verification, updates all of them. -/
theorem shards_end (hring : swVring e.desc = 0xFFF) (hp : (s.dev.begun e ecc).mem.poison = []) (hv : (s.dev.begun e ecc).get 0x50A0 2 = 0)
    (hf : s.dev.stepOf e.desc ∉ s.dev.disp.fatalSteps) (hfree : ∀ v ∈ table, shResident v = false) (hlen : table.length < 2 ^ 24) :
    ∃ t done, Ended c s t e done ∧ done.code = 0 ∧ done.result = table.length * 2 ^ 32 ∧ t.dev.cmp.sweep = none := by
  obtain ⟨x, r, hr, heffect⟩ := shards_decides hx
  rw [if_pos hring] at heffect
  have hclean : x.Clean (s.dev.begun e ecc).disp := ⟨hr.disp, hr.unpoisoned hp⟩
  have hgo : r.Free := ⟨hr.code, hr.verify ((hr.get _ _ (by decide) (by decide)).trans hv), fun i hi => by
    rw [hr.left, mem_below] at hi
    exact ⟨table[i], by rw [hr.table, List.getElem?_eq_getElem hi], hfree _ (List.getElem_mem hi)⟩⟩
  have hstep : (s.dev.startedEntry e).step ∉ (s.dev.begun e ecc).disp.fatalSteps := by rw [Dev.begun_disp]; exact hf
  obtain ⟨y, q, hcourse, hy, hq⟩ := Dev.sweepOn_all hstep l (below table.length) hclean hgo hr.left (nodup_below _)
  rw [below, length_upFrom] at hcourse hq
  rw [hcourse, Dev.endSweep, hq.id.trans hr.id] at heffect
  have hprocessed : q.processed = table.length := by rw [hq.processed, hr.processed, Nat.zero_add]
  have hboard : ((y.setSweep none).addSat 0x50A0 7 64 q.idleUs).disp.board = (s.dev.begun e ecc).disp.board := congrArg Disp.board hy.disp
  refine ⟨_, _, Effect.ended_begun he hboard heffect, hq.code,
    SweepRun.result_of_busy (hq.idle.trans hr.idle) hprocessed (by omega), ?_⟩
  rw [Dev.finish_cmp]
  rfl

/-- A sweep whose version slot is still referred to waits for its claim, which is counted (05 R159, R160). -/
theorem shards_claim (hring : swVring e.desc ≠ 0xFFF)
    (hready : claimReady ((s.dev.begun e ecc).vring (swVring e.desc)) (swNewVersion e.desc) = false)
    (happart : swNormAddr e.desc + 45 ≤ (s.dev.begun e ecc).vringAddr (swVring e.desc)
      ∨ (s.dev.begun e ecc).vringAddr (swVring e.desc) + 64 ≤ swNormAddr e.desc) :
    ∃ t r, Answers c s t ∧ t.dev.entry e.id = some (s.dev.startedEntry e) ∧ t.dev.cmp.sweep = some r ∧ r.id = e.id ∧ r.claiming = true
      ∧ t.dev.get 0x5090 2 = min (s.dev.get 0x5090 2 + 1) 0xFFFFFFFF := by
  obtain ⟨x, r, hr, heffect⟩ := shards_decides hx
  have hbase : x.vringBase = (s.dev.begun e ecc).vringBase := hr.get _ _ (by decide) (by decide)
  have hvring : x.vring (swVring e.desc) = (s.dev.begun e ecc).vring (swVring e.desc) := by
    have haddr : x.vringAddr (swVring e.desc) = (s.dev.begun e ecc).vringAddr (swVring e.desc) := by rw [Dev.vringAddr, hbase, Dev.vringAddr]
    rw [Dev.vring, Dev.vring, haddr]
    exact congrArg ofBytes (Mem.read_congr fun i hi => hr.byte _ (by simp only [Dev.startedEntry_desc]; omega))
  have hcount : x.get 0x5090 2 = s.dev.get 0x5090 2 := (hr.get _ _ (by decide) (by decide)).trans (Dev.begun_get (by decide))
  rw [hvring, if_neg hring, hready, if_neg Bool.false_ne_true] at heffect
  refine ⟨_, _, heffect.answers, Dev.entry_of_begun he (congrArg Disp.board hr.disp), rfl, hr.id, rfl, ?_⟩
  rw [← hcount]
  exact (Dev.put_get_same _ _ _ _).trans (Nat.mod_eq_of_lt (lt_of_le_of_lt (min_le_right _ _) (by decide)))

end

end

/-- Settles O33: a sweep command comes to its checks (`sweep_effect`), and past them to the work of its opcode, which ends as the lemmas above say. -/
theorem sweepDescriptorsEnd : Obligations.SweepDescriptorsEnd := by
  unfold Obligations.SweepDescriptorsEnd
  refine ⟨fun c op ecc l s e hc he ho hm => ?_, fun id l ecc s h => sweepShards_waits h l ecc⟩
  obtain ⟨work, hx, hnorm, hshards, hverify⟩ := sweep_effect hc he ho hm
  intro x d table
  refine ⟨sweep_poisoned he hx, sweep_refused he hx, fun hp hcheck => ?_⟩
  have hlen : table.length < 2 ^ 24 := d.shardTable_length x
  rw [Dev.sweepCheck_passed (e := s.dev.startedEntry e) hp hcheck] at hx
  refine ⟨fun h60 => ?_, fun h60 => ?_, fun h62 => ?_, fun h61 => ?_, fun h61 => ?_⟩
  · rw [hnorm h60] at hx
    exact normCheck_ends he hx
  · rw [hnorm h60] at hx
    exact normCheck_fails he hx
  · rw [hverify h62] at hx
    exact verify_ends he hx
  · rw [hshards h61] at hx
    exact fun hring hpoison hv hf hfree => shards_end he hx hring hpoison hv hf hfree hlen
  · rw [hshards h61] at hx
    exact shards_claim he hx

end Sys2Proof.Machine
end

section
/-! PROOF. What the parts of the memory commands do (09 R271-R277): counters that stop, bytes at addresses in order, the errors that a read finds. -/

namespace Sys2Proof.Machine

/-- A 32-bit counter that stops at its largest value (15 R454). -/
theorem Dev.addSat_get_same (d : Dev) {i k : Nat} (h : odSize (odKey i k) = 4) (n : Nat) :
    (d.addSat i k 32 n).get i k = min (d.get i k + n) 0xFFFFFFFF := by
  rw [Dev.addSat, Dev.put_get_same, h]
  exact Nat.mod_eq_of_lt (lt_of_le_of_lt (min_le_right _ _) (by decide))

theorem upFrom_eq_range' (a n : Nat) : upFrom a n = List.range' a n := by
  induction n generalizing a with
  | zero => rfl
  | succ n ih => rw [upFrom, ih, List.range'_succ]

theorem Mem.read_eq_map (m : Mem) (a n : Nat) : m.read a n = (upFrom a n).map m.byte := by
  induction n generalizing a with
  | zero => rfl
  | succ n ih => rw [Mem.read, upFrom, List.map_cons, ih]

/-- The errors that a read finds mark memory and leave its bytes (09 R272, R273). -/
theorem Dev.eccRead_byte (d : Dev) (tiles : List Nat) (ecc : List EccHit) (a : Nat) : (d.eccRead tiles ecc).mem.byte a = d.mem.byte a := by
  have hmapped : (d.eccRead tiles ecc).mapped = d.mapped := by
    refine foldl_keeps (g := Dev.mapped) (fun d (x : EccHit) => ?_) _ d
    split
    · exact d.eccFound_mapped _ _
    · rfl
  exact congrArg (fun q : SMap Byte × Nat => sget memDefault q.1 a) hmapped

end Sys2Proof.Machine
end

section
/-! PROOF. BAR2 (14 R422; 09 R262, R276): O36. -/

namespace Sys2Proof.Machine

/-! ## Holes -/

section
variable (d : Dev) (offset : Nat)

/-- The errors that a read finds open and close no hole. -/
theorem Dev.eccRead_inHole (ecc : List EccHit) : (d.eccRead [] ecc).inHole = d.inHole := by
  have hpower : (d.eccRead [] ecc).power = d.power := d.eccAll_power _
  have hsize : (d.eccRead [] ecc).kennelSize = d.kennelSize := d.eccRead_get [] ecc (i := 0x4010) (k := 4) (by decide)
  funext a
  rw [Dev.inHole, Dev.inHole, hpower, hsize]

/-- What an access to a hole does is its count and its event: whatever counts, events and their marks leave, it leaves. -/
theorem Dev.holeAccess_keeps {β : Type} (g : Dev → β) (hc : ∀ d : Dev, g (d.addSat 0x1300 1 32 1) = g d)
    (hl : ∀ (d : Dev) l, g { d with limits := l } = g d) (hr : ∀ (d : Dev) c a b, g (d.raise c a b) = g d) :
    g (d.holeAccess offset) = g d := by
  rw [Dev.holeAccess, Dev.oncePerSecond_keeps g hl hr, hc]

theorem Dev.holeAccess_mem : (d.holeAccess offset).mem = d.mem :=
  d.holeAccess_keeps offset Dev.mem (fun _ => rfl) (fun _ _ => rfl) fun d => d.raise_mem
theorem Dev.holeAccess_disp : (d.holeAccess offset).disp = d.disp :=
  d.holeAccess_keeps offset Dev.disp (fun _ => rfl) (fun _ _ => rfl) fun d => d.raise_disp
theorem Dev.holeAccess_power : (d.holeAccess offset).power = d.power :=
  d.holeAccess_keeps offset Dev.power (fun _ => rfl) (fun _ _ => rfl) fun d => d.raise_power

/-- An access to a hole counts once. -/
theorem Dev.holeAccess_counts : (d.holeAccess offset).get 0x1300 1 = min (d.get 0x1300 1 + 1) 0xFFFFFFFF := by
  rw [Dev.holeAccess, Dev.oncePerSecond_keeps (fun d => d.get 0x1300 1) (fun _ _ => rfl) fun d => d.raise_get (by decide)]
  exact d.addSat_get_same (by decide) 1

end

/-! ## Reads -/

/-- The bytes that a read of BAR2 answers. -/
def Dev.bar2Bytes (d : Dev) (offset n : Nat) : List Byte := (upFrom offset n).map (fun a => if d.inHole a then 0xFF#8 else d.mem.byte a)

theorem Dev.bar2Bytes_getElem (d : Dev) (offset n i : Nat) (hi : i < (d.bar2Bytes offset n).length) :
    (d.bar2Bytes offset n)[i] = if d.inHole (offset + i) then 0xFF#8 else d.mem.byte (offset + i) := by
  simp [Dev.bar2Bytes, upFrom_eq_range']

/-- Outside the holes a read answers the stored bytes. -/
theorem Dev.bar2Bytes_eq_rd {d : Dev} {offset n : Nat} (h : (upFrom offset n).any d.inHole = false) : d.bar2Bytes offset n = d.rd offset n := by
  rw [Dev.rd, Mem.read_eq_map]
  exact List.map_congr_left fun a ha => if_neg (List.any_eq_false.1 h a ha)

/-- Outside the holes the EP bit is that of every byte of the read. -/
theorem any_outside_holes {l : List Nat} {hole bad : Nat → Bool} (h : l.any hole = false) : l.any (fun a => !hole a && bad a) = l.any bad := by
  induction l with
  | nil => rfl
  | cons a t ih =>
    obtain ⟨ha, ht⟩ := Bool.or_eq_false_iff.1 (List.any_cons.symm.trans h)
    rw [List.any_cons, List.any_cons, ih ht, ha, Bool.not_false, Bool.true_and]

theorem exec_bar2Read (offset : Nat) (read : BarRead) (s : State) : exec (.bar2Read offset read) s = execBar2Read offset read s := rfl

/-- A read outside BAR2. -/
theorem bar2Read_outside {offset length : Nat} (ecc : List EccHit) {s : State} (h : s.dev.inBar2 offset length = false) :
    Effect (.bar2Read offset ⟨length, ecc⟩) s s.dev := by
  rw [Effect, exec_bar2Read, execBar2Read, run]
  simp [h]

/-- A read inside BAR2: the errors that it finds, the count of an access to a hole, the completion. -/
theorem bar2Read_effect {offset length : Nat} (ecc : List EccHit) {s : State} (h : s.dev.inBar2 offset length = true) :
    Effect (.bar2Read offset ⟨length, ecc⟩) s
      ((if (upFrom offset length).any s.dev.inHole then (s.dev.eccRead [] ecc).holeAccess offset else s.dev.eccRead [] ecc).emit
        (.readCompletion (s.dev.bar2Bytes offset length)
          ((upFrom offset length).any (fun a => !s.dev.inHole a && (s.dev.eccRead [] ecc).mem.poisoned a)))) := by
  rw [Effect, exec_bar2Read, execBar2Read, run]
  simp only [h, Bool.not_true, Bool.false_eq_true, if_false, Dev.holesIn, Dev.bar2Bytes, Dev.eccRead_inHole, Dev.eccRead_byte]

/-! ## Writes -/

/-- The bytes of an access are stored where no hole is. -/
theorem foldl_setByte_byte (hole : Nat → Bool) (m : Mem) (a x : Nat) (l : List Byte) :
    ((l.zip (upFrom a l.length)).foldl (fun (m : Mem) q => if hole q.2 then m else m.setByte q.2 q.1) m).byte x
      = if hole x = false ∧ a ≤ x ∧ x < a + l.length then l.getD (x - a) 0#8 else m.byte x := by
  induction l generalizing m a with
  | nil => simp [upFrom]
  | cons b t ih =>
    have hset : (if hole a then m else m.setByte a b).byte x = if hole x = false ∧ x = a then b else m.byte x := by
      by_cases hx : x = a
      · subst hx
        cases hole x <;> simp [Mem.setByte_byte]
      · split <;> simp [Mem.setByte_byte, hx]
    rw [List.length_cons, upFrom, List.zip_cons_cons, List.foldl_cons, ih, hset]
    by_cases hx : x = a
    · subst hx
      simp
    · by_cases hin : hole x = false ∧ a + 1 ≤ x ∧ x < a + 1 + t.length
      · rw [if_pos hin, if_pos ⟨hin.1, by omega, by omega⟩, show x - a = x - (a + 1) + 1 by omega, List.getD_cons_succ]
      · rw [if_neg hin, if_neg (fun q => hx q.2), if_neg (fun q => hin ⟨q.1, by omega, by omega⟩)]

section
variable (d : Dev) (offset : Nat) (bytes : List Byte)

/-- A write changes memory alone. -/
theorem Dev.bar2Store_eq : d.bar2Store offset bytes = { d with mem := (d.bar2Store offset bytes).mem } := by
  unfold Dev.bar2Store
  split <;> rfl

/-- What a write stores: every byte of the access that is in no hole. -/
theorem Dev.bar2Store_byte (x : Nat) : (d.bar2Store offset bytes).mem.byte x
    = if d.inHole x = false ∧ offset ≤ x ∧ x < offset + bytes.length then bytes.getD (x - offset) 0#8 else d.mem.byte x := by
  unfold Dev.bar2Store
  split
  · rw [← foldl_setByte_byte]
    refine foldl_keeps (g := fun m : Mem => m.byte x) (fun m u => ?_) _ _
    split <;> rfl
  · next h =>
    rw [Dev.wr_mem, Mem.store_byte]
    have hhole : offset ≤ x ∧ x < offset + bytes.length → d.inHole x = false := fun hx =>
      Bool.eq_false_iff.2 (List.any_eq_false.1 (Bool.eq_false_iff.2 h) x (mem_upFrom.2 hx))
    exact if_congr ⟨fun hx => ⟨hhole hx, hx⟩, And.right⟩ rfl rfl

end

theorem exec_bar2Write (offset : Nat) (bytes : List Byte) (s : State) : exec (.bar2Write offset bytes) s = execBar2Write offset bytes s := rfl

/-- A write outside BAR2. -/
theorem bar2Write_outside {offset : Nat} {bytes : List Byte} {s : State} (h : s.dev.inBar2 offset bytes.length = false) :
    Effect (.bar2Write offset bytes) s s.dev := by
  rw [Effect, exec_bar2Write, execBar2Write, run]
  simp [h]

/-- The device after a write inside BAR2: the bytes are stored, and an access to a hole has counted. -/
def Dev.bar2Written (d : Dev) (offset : Nat) (bytes : List Byte) : Dev :=
  if (upFrom offset bytes.length).any d.inHole then (d.bar2Store offset bytes).holeAccess offset else d.bar2Store offset bytes

theorem bar2Write_effect {offset : Nat} {bytes : List Byte} {s : State} (h : s.dev.inBar2 offset bytes.length = true) :
    Effect (.bar2Write offset bytes) s (s.dev.bar2Written offset bytes) := by
  rw [Effect, exec_bar2Write, execBar2Write, run]
  simp only [h, Bool.not_true, Bool.false_eq_true, if_false]
  rfl

section
variable (d : Dev) (offset : Nat) (bytes : List Byte)

theorem Dev.bar2Written_mem : (d.bar2Written offset bytes).mem = (d.bar2Store offset bytes).mem := by
  unfold Dev.bar2Written
  split
  · exact Dev.holeAccess_mem _ _
  · rfl

theorem Dev.bar2Written_control : (d.bar2Written offset bytes).disp = d.disp ∧ (d.bar2Written offset bytes).power = d.power := by
  rw [Dev.bar2Written, d.bar2Store_eq]
  split
  · exact ⟨Dev.holeAccess_disp _ _, Dev.holeAccess_power _ _⟩
  · exact ⟨rfl, rfl⟩

theorem Dev.bar2Written_counts : (d.bar2Written offset bytes).get 0x1300 1
    = if (upFrom offset bytes.length).any d.inHole then min (d.get 0x1300 1 + 1) 0xFFFFFFFF else d.get 0x1300 1 := by
  rw [Dev.bar2Written, d.bar2Store_eq]
  split
  · exact Dev.holeAccess_counts _ _
  · rfl

end

/-- Settles O36: a read and a write inside BAR2 by their effects, each with a hole and without one. -/
theorem bar2ReadsAndWrites : Obligations.Bar2ReadsAndWrites := by
  unfold Obligations.Bar2ReadsAndWrites
  intro offset length bytes ecc s d hit
  refine ⟨bar2Read_outside ecc, bar2Write_outside, fun h => ?_, fun h => ?_⟩
  · have hread := bar2Read_effect ecc h
    refine ⟨fun hh => ?_, fun hh => ?_⟩
    · have hclean : (upFrom offset length).any s.dev.inHole = false := hh
      rw [hclean, if_neg Bool.false_ne_true, any_outside_holes hclean, Dev.bar2Bytes_eq_rd hclean] at hread
      exact hread
    · have hhole : (upFrom offset length).any s.dev.inHole = true := hh
      rw [if_pos hhole] at hread
      refine ⟨_, hread.answers, d.holeAccess_mem offset, ?_, s.dev.bar2Bytes offset length, rfl, ?_, s.dev.bar2Bytes_getElem offset length⟩
      · rw [← s.dev.eccRead_get [] ecc (i := 0x1300) (k := 1) (by decide)]
        exact d.holeAccess_counts offset
      · rw [Dev.bar2Bytes, List.length_map, length_upFrom]
  · have hwrite := bar2Write_effect h
    obtain ⟨hdisp, hpower⟩ := s.dev.bar2Written_control offset bytes
    refine ⟨_, hwrite.answers, fun i hi => ?_, fun a ha => ?_, s.dev.bar2Written_counts offset bytes, hdisp, hpower⟩
    · rw [Dev.bar2Written_mem, Dev.bar2Store_byte, Nat.add_sub_cancel_left, List.getD_eq_getElem _ _ hi]
      cases s.dev.inHole (offset + i) <;> simp [hi]
    · rw [Dev.bar2Written_mem, Dev.bar2Store_byte, if_neg (by omega)]

end Sys2Proof.Machine
end

section
/-! PROOF. Remote Retriever requests (09 R275, R276, R286, R287; 12 R388): what a write with poison marks leaves, the three ways in which a
request ends, and O28. -/

namespace Sys2Proof.Machine

/-! ## Writes with marks -/

theorem Mem.mark_poisoned (m : Mem) (a x : Nat) (p : Bool) : (m.mark a p).poisoned x = if x / 64 = a / 64 then p else m.poisoned x :=
  sget_sset _ _ _ _ _

section
variable (d : Dev) (a : Nat) (l : Marked)

/-- A write with marks changes memory alone. -/
theorem Dev.wrMarked_eq : d.wrMarked a l = { d with mem := (d.wrMarked a l).mem } := by
  have hkept : ({ d.wrMarked a l with mem := (d.wrMarked a l).mem } : Dev) = { d with mem := (d.wrMarked a l).mem } :=
    foldl_keeps (g := fun x : Dev => ({ x with mem := (d.wrMarked a l).mem } : Dev)) (fun d q => by split <;> rfl) _ _
  exact hkept

theorem Dev.wrMarked_byte (x : Nat) :
    (d.wrMarked a l).mem.byte x = if a ≤ x ∧ x < a + l.length then (l.map Prod.fst).getD (x - a) 0#8 else d.mem.byte x := by
  have hmarks : (d.wrMarked a l).mem.byte x = (d.wr a (l.map Prod.fst) false).mem.byte x :=
    foldl_keeps (g := fun d : Dev => d.mem.byte x) (fun d q => by split <;> rfl) _ _
  rw [hmarks, Dev.wr_mem, Mem.store_byte, List.length_map]

/-- The marks that a list of marked bytes sets: the unit of each of them takes its own. -/
theorem foldl_mark_poisoned (qs : List ((Byte × Bool) × Nat)) (d : Dev) {x : Nat}
    (h : d.mem.poisoned x = true ∨ ∃ q ∈ qs, q.1.2 = true ∧ a + q.2 = x) :
    (qs.foldl (fun d q => if q.1.2 then { d with mem := d.mem.mark (a + q.2) true } else d) d).mem.poisoned x = true := by
  induction qs generalizing d with
  | nil => exact h.resolve_right (by simp)
  | cons q qs ih =>
    rw [List.foldl_cons]
    refine ih _ ?_
    obtain h | ⟨q', hq', hmark, hx⟩ := h
    · left
      split
      · rw [Mem.mark_poisoned, h, ite_self]
      · exact h
    · obtain rfl | hq' := List.mem_cons.1 hq'
      · left
        rw [if_pos hmark, Mem.mark_poisoned, hx, if_pos rfl]
      · exact .inr ⟨q', hq', hmark, hx⟩

theorem Dev.wrMarked_poisoned {i : Nat} (hi : i < l.length) (h : l[i].2 = true) : (d.wrMarked a l).mem.poisoned (a + i) = true :=
  foldl_mark_poisoned a l.zipIdx _ (.inr ⟨(l[i], i), List.mem_zipIdx_iff_getElem?.2 (List.getElem?_eq_getElem hi), h, rfl⟩)

end

theorem withMarks_length (bytes : List Byte) (marks : List Bool) : (withMarks bytes marks).length = bytes.length := by simp [withMarks]

theorem withMarks_bytes (bytes : List Byte) (marks : List Bool) : (withMarks bytes marks).map Prod.fst = bytes := by
  rw [withMarks, List.map_map]
  exact List.zipIdx_map_fst 0 bytes

theorem withMarks_mark (bytes : List Byte) (marks : List Bool) {i : Nat} (hi : i < (withMarks bytes marks).length) :
    (withMarks bytes marks)[i].2 = marks.getD i false := by simp [withMarks]

/-! ## The answer -/

section
variable (d : Dev) (source : Nat) (served : Bool) (bytes : List Byte) (marks : List Bool)

theorem Dev.answerRemote_mem : (d.answerRemote source served bytes marks).mem = d.mem := by
  unfold Dev.answerRemote; split <;> rfl

theorem Dev.answerRemote_get {i k : Nat} (h : odKey i k ≠ odKey 0x3410 1) :
    (d.answerRemote source served bytes marks).get i k = d.get i k := by
  unfold Dev.answerRemote
  split
  · rfl
  · exact d.addSat_get_ne _ _ _ _ _ _ h

end

/-! ## Where a request is served -/

/-- What a hold slot serves a restore from: its committed generation, for its owner, and no further than it goes (12 R388). -/
theorem Dev.heldAt_some {d : Dev} {source a n b : Nat} (h : d.heldAt source a n = some b) :
    ∃ k < 4, d.get (0x7210 + k) 1 = 0x8000 + source ∧ d.get (0x7210 + k) 5 ≠ 0
      ∧ b = d.get (0x7210 + k) 2 + d.get (0x7210 + k) 4 % 2 * d.get (0x7210 + k) 3 + a ∧ a + n ≤ d.get (0x7210 + k) 3 := by
  obtain ⟨k, hk, hb⟩ := List.exists_of_findSome?_eq_some h
  simp only [Option.ite_none_right_eq_some, Bool.and_eq_true, beq_iff_eq, bne_iff_ne, decide_eq_true_eq, Option.some.injEq] at hb
  obtain ⟨⟨⟨howner, hheld⟩, hend⟩, rfl⟩ := hb
  exact ⟨k, mem_below.1 hk, howner, hheld, rfl, hend⟩

/-! ## How a request ends -/

section
variable {p : Fin 6} {source : BitVec 14} {addr : Nat} {body : RetrBody} {ecc : List EccHit} {s : State}

theorem exec_remoteRetrieverRequest (write : Bool) : exec (.remoteRetrieverRequest p source write addr body ecc) s
    = execRemoteRetrieverRequest p source write addr body ecc s := rfl

/-- A request that the fence of its port keeps out. -/
theorem remoteRequest_fenced (write : Bool) (h : s.dev.fencedOut p source.toNat = true) :
    Effect (.remoteRetrieverRequest p source write addr body ecc) s s.dev := by
  rw [Effect, exec_remoteRetrieverRequest, execRemoteRetrieverRequest, run]
  simp [h]

variable (hm : s.dev.memoryOn = true) (h : s.dev.fencedOut p source.toNat = false)
include hm h

/-- A request that is served nowhere. -/
theorem remoteRequest_refused {write : Bool}
    (hs : s.dev.serves source.toNat write body.restore addr (if write then body.bytes.length else body.length) = none) :
    Effect (.remoteRetrieverRequest p source write addr body ecc) s (s.dev.refuseRequest.answerRemote source.toNat false [] []) := by
  rw [Effect, exec_remoteRetrieverRequest, execRemoteRetrieverRequest, run]
  simp [hm, h, hs]

/-- A write that is served. -/
theorem remoteRequest_written {a : Nat} (hs : s.dev.serves source.toNat true body.restore addr body.bytes.length = some a) :
    Effect (.remoteRetrieverRequest p source true addr body ecc) s
      ((s.dev.wrMarked a (withMarks body.bytes body.marks)).answerRemote source.toNat true [] []) := by
  rw [Effect, exec_remoteRetrieverRequest, execRemoteRetrieverRequest, run]
  simp [hm, h, hs]

/-- A read that is served: the stored bytes, and the marks after the errors that it finds. -/
theorem remoteRequest_read {a : Nat} (hs : s.dev.serves source.toNat false body.restore addr body.length = some a) :
    Effect (.remoteRetrieverRequest p source false addr body ecc) s ((s.dev.eccRead [] ecc).answerRemote source.toNat true
      (s.dev.rd a body.length) ((s.dev.eccRead [] ecc).marksOf a body.length)) := by
  have hbytes : (s.dev.eccRead [] ecc).rd a body.length = s.dev.rd a body.length := Mem.read_congr fun i _ => s.dev.eccRead_byte [] ecc _
  rw [Effect, exec_remoteRetrieverRequest, execRemoteRetrieverRequest, run, ← hbytes]
  simp [hm, h, hs]

end

/-- Settles O28: a request is kept out, refused, written or read, each by its effect. -/
theorem remoteRequestsAreServedInsideApertures : Obligations.RemoteRequestsAreServedInsideApertures := by
  unfold Obligations.RemoteRequestsAreServedInsideApertures
  refine ⟨fun p source write addr body ecc s hm => ?_, fun d source a n write => ⟨rfl, rfl, fun b hb => Dev.heldAt_some hb⟩,
    fun d source served bytes marks => rfl⟩
  intro bytes n from_ c
  refine ⟨remoteRequest_fenced write, fun hf => ?_⟩
  cases hs : from_ with
  | none =>
    have hx := remoteRequest_refused (ecc := ecc) hm hf hs
    refine ⟨_, hx.answers, fun a ha => ?_, fun a ha => ?_, fun _ => ⟨?_, ?_, rfl⟩⟩
    · cases ha
    · cases ha
    · refine (Dev.answerRemote_get _ _ _ _ _ (by decide)).trans ((Dev.raise_get _ (by decide) _ _ _).trans ?_)
      exact s.dev.addSat_get_same (by decide) 1
    · exact (Dev.answerRemote_mem _ _ _ _ _).trans (Dev.raise_mem _ _ _ _)
  | some a =>
    cases write with
    | true =>
      have hx := remoteRequest_written (ecc := ecc) hm hf hs
      have hmem := (s.dev.wrMarked a (withMarks body.bytes body.marks)).answerRemote_mem source.toNat true [] []
      have hbyte := s.dev.wrMarked_byte a (withMarks body.bytes body.marks)
      rw [withMarks_length, withMarks_bytes] at hbyte
      refine ⟨_, hx.answers, fun a' ha => ?_, fun a' _ hw => ?_, fun h => ?_⟩
      · obtain rfl : a = a' := by simpa using ha
        refine fun _ => ⟨fun i hi => ?_, fun i hi hmark => ?_, fun b hb => ?_, ?_⟩
        · rw [hmem, hbyte, if_pos ⟨Nat.le_add_right a i, Nat.add_lt_add_left hi a⟩, Nat.add_sub_cancel_left, List.getD_eq_getElem _ _ hi]
        · have hl : i < (withMarks body.bytes body.marks).length := (withMarks_length _ _).symm ▸ hi
          exact (congrArg (fun m => Mem.poisoned m (a + i)) hmem).trans (Dev.wrMarked_poisoned _ _ _ hl ((withMarks_mark _ _ hl).trans hmark))
        · rw [hmem, hbyte, if_neg fun q => hb.elim (Nat.not_lt.2 q.1) (Nat.not_le.2 q.2)]
        · dsimp only
          rw [hmem, ← Dev.wrMarked_eq]
      · cases hw
      · cases h
    | false =>
      have hx := remoteRequest_read (ecc := ecc) hm hf hs
      refine ⟨_, hx.answers, fun a' _ hw => ?_, fun a' ha => ?_, fun h => ?_⟩
      · cases hw
      · obtain rfl : a = a' := by simpa using ha
        refine fun _ => ⟨rfl, fun b => ?_⟩
        exact (congrArg (fun m => Mem.byte m b) (Dev.answerRemote_mem _ _ _ _ _)).trans (s.dev.eccRead_byte [] ecc b)
      · cases h

end Sys2Proof.Machine
end

section
/-! PROOF. Memory errors on record, and the device-fatal event (09 R272, R273, R280, R281; 10 R298; 12 R374): what they count, log and leave. -/

namespace Sys2Proof.Machine

/-! ## The error log and the error counters (09 R280, R281) -/

theorem errRecord_lt (ht kind md a : Nat) : errRecord ht kind md a < 2 ^ 128 := by
  have hht := bits_lt ht 0 64
  have hkind := bits_lt kind 0 2
  have hmd := bits_lt md 0 6
  have ha := bits_lt a 0 48
  simp only [errRecord, Nat.shiftLeft_eq]
  omega

section
variable (d : Dev)

/-- The newest record of the log. -/
theorem Dev.errLog_newest {er : Nat} (h : er < 2 ^ 128) : (d.errLog er).get 0x4033 1 = er := by
  have hsize : odSize (odKey 0x4033 1) = 16 := by decide
  refine (Dev.put_get_same _ _ _ _).trans ?_
  rw [hsize]
  exact Nat.mod_eq_of_lt h

theorem Dev.errLog_get_apart (er : Nat) {i k : Nat} (h : ∀ n < 256, odKey i k ≠ odKey 0x4033 n) : (d.errLog er).get i k = d.get i k :=
  (Dev.put_get_ne _ _ _ _ _ _ (h 1 (by decide))).trans (foldl_keeps (g := fun d : Dev => d.get i k)
    (f := fun d n => d.put 0x4033 (32 - n) (d.get 0x4033 (31 - n))) (fun d n => d.put_get_ne _ _ _ _ _ (h _ (by omega))) (below 31) d)

/-- The dictionary index of an error counter. -/
def errIndex (unc : Bool) : Nat := if unc then 0x4031 else 0x4030

theorem odSize_errCounter (unc : Bool) (md : Nat) : odSize (odKey (errIndex unc) (errSub md)) = 4 := by
  have hall : ∀ unc : Bool, ∀ s < 35, 0 < s → odSize (odKey (errIndex unc) s) = 4 := by decide +kernel
  refine hall unc _ ?_ ?_ <;> unfold errSub <;> split_ifs <;> omega

theorem Dev.errCount_counts (md : Nat) (unc : Bool) :
    (d.errCount md unc).get (errIndex unc) (errSub md) = min (d.get (errIndex unc) (errSub md) + 1) 0xFFFFFFFF := by
  have hsub := errSub_lt md
  have hcount := d.addSat_get_same (odSize_errCounter unc md) 1
  unfold Dev.errCount
  extract_lets i x
  split
  · refine (x.put_get_ne _ _ _ _ _ ?_).trans hcount
    unfold odKey errIndex
    split <;> omega
  · exact hcount

theorem Dev.errCount_get_apart (md : Nat) (unc : Bool) {i k : Nat} (h : ∀ j n, j < 0x4033 → n < 256 → odKey i k ≠ odKey j n) :
    (d.errCount md unc).get i k = d.get i k := by
  unfold Dev.errCount
  extract_lets j x
  have hx : x.get i k = d.get i k := d.addSat_get_ne _ _ _ _ _ _ (h _ _ (by simp only [j]; split <;> omega) (errSub_lt md))
  split
  · exact (x.put_get_ne _ _ _ _ _ (h _ _ (by decide) (by decide))).trans hx
  · exact hx

/-- An error on record has counted, and stands first in the log. -/
theorem Dev.errCount_errLog (md ht kind a : Nat) (unc : Bool) :
    let x := (d.errLog (errRecord ht kind md a)).errCount md unc
    x.get (errIndex unc) (errSub md) = min (d.get (errIndex unc) (errSub md) + 1) 0xFFFFFFFF ∧ x.get 0x4033 1 = errRecord ht kind md a := by
  have hsub := errSub_lt md
  refine ⟨?_, ?_⟩
  · rw [Dev.errCount_counts, d.errLog_get_apart _ fun n hn => ?_]
    unfold odKey errIndex
    split <;> omega
  · rw [Dev.errCount_get_apart _ _ _ fun j n hj hn => by unfold odKey; omega]
    exact d.errLog_newest (errRecord_lt _ _ _ _)

/-! ## An error that a read finds outside the accumulator buffer -/

/-- An uncorrectable error of a unit without a mark. -/
theorem Dev.eccFound_uncorrectable {a : Nat} (hmd : d.memdev a ≠ 36) (hp : d.mem.poisoned a = false) :
    d.eccFound a true = ((({ d with mem := d.mem.mark a true } : Dev).errLog (errRecord d.ht 1 (d.memdev a) a)).errCount (d.memdev a) true).raiseRec
      0x2702 (errRecord d.ht 1 (d.memdev a) a) := by
  simp [Dev.eccFound, hmd, hp, Dev.ht]

/-- A corrected error. -/
theorem Dev.eccFound_corrected (a : Nat) :
    d.eccFound a false = ((d.errLog (errRecord d.ht 0 (d.memdev a) a)).errCount (d.memdev a) false).oncePerSecond (0x1701 * 64 + d.memdev a)
      (fun x => x.raiseRec 0x1701 (errRecord d.ht 0 (d.memdev a) a)) := rfl

/-- The error counters and the log are apart from the notices of an event. -/
theorem errKey_not_notice {i k : Nat} (h1 : 0x4030 ≤ i) (h2 : i ≤ 0x4033) (hk : k < 256) : odKey i k ∉ noticeKeys := by
  simp only [noticeKeys, odKey, List.mem_cons, List.not_mem_nil, or_false]
  omega

/-- What an error found outside the accumulator buffer leaves: a count, a record, and the mark of an uncorrectable one. -/
theorem Dev.eccFound_records {a : Nat} {unc : Bool} (hmd : d.memdev a ≠ 36) (hp : unc = true → d.mem.poisoned a = false) :
    let t := d.eccFound a unc
    t.get (errIndex unc) (errSub (d.memdev a)) = min (d.get (errIndex unc) (errSub (d.memdev a)) + 1) 0xFFFFFFFF
      ∧ t.get 0x4033 1 = errRecord d.ht (if unc then 1 else 0) (d.memdev a) a ∧ t.mem = if unc then d.mem.mark a true else d.mem := by
  have hcounter : odKey (errIndex unc) (errSub (d.memdev a)) ∉ noticeKeys :=
    errKey_not_notice (by unfold errIndex; split <;> omega) (by unfold errIndex; split <;> omega) (errSub_lt _)
  have hlog : odKey 0x4033 1 ∉ noticeKeys := by decide
  have hmute : ∀ (x : Dev) (kind : Nat), ((x.errLog (errRecord d.ht kind (d.memdev a) a)).errCount (d.memdev a) unc).mem = x.mem := fun x kind =>
    Dev.of_mute_mem ((Dev.errCount_mute _ _ _).trans (x.errLog_mute _))
  cases unc with
  | true =>
    obtain ⟨hcount, hrecord⟩ := ({ d with mem := d.mem.mark a true } : Dev).errCount_errLog (d.memdev a) d.ht 1 a true
    rw [d.eccFound_uncorrectable hmd (hp rfl)]
    exact ⟨(Dev.raise_get _ hcounter _ _ _).trans hcount, (Dev.raise_get _ hlog _ _ _).trans hrecord, (Dev.raise_mem _ _ _ _).trans (hmute _ _)⟩
  | false =>
    obtain ⟨hcount, hrecord⟩ := d.errCount_errLog (d.memdev a) d.ht 0 a false
    rw [d.eccFound_corrected]
    refine ⟨?_, ?_, ?_⟩
    · exact (Dev.oncePerSecond_keeps (fun d => d.get _ _) (fun _ _ => rfl) (fun d => d.raise_get hcounter) _ _ _ _ _).trans hcount
    · exact (Dev.oncePerSecond_keeps (fun d => d.get _ _) (fun _ _ => rfl) (fun d => d.raise_get hlog) _ _ _ _ _).trans hrecord
    · exact (Dev.oncePerSecond_keeps Dev.mem (fun _ _ => rfl) (fun d => d.raise_mem) _ _ _ _ _).trans (hmute _ _)

end

/-! ## A Howl, and a fatal event -/

/-- The dictionary entries that a fatal event may change: those of its notices, of its Howl, and of the ports that it parks. -/
def fatalKeys : List Nat := noticeKeys ++ [odKey 0x7200 5, odKey 0x7300 3, odKey 0x7300 4, odKey 0x3410 2]
  ++ (below 6).flatMap (fun p => [odKey (0x3020 + p) 1, odKey 0x3013 (p + 1), odKey 0x3014 (p + 1)])

theorem not_notice_of_not_fatal {k : Nat} (h : k ∉ fatalKeys) : k ∉ noticeKeys := fun hk =>
  h (List.mem_append_left _ (List.mem_append_left _ hk))

theorem ne_portKey_of_not_fatal {k p : Nat} (h : k ∉ fatalKeys) (hp : p < 6) :
    k ≠ odKey (0x3020 + p) 1 ∧ k ≠ odKey 0x3013 (p + 1) ∧ k ≠ odKey 0x3014 (p + 1) := by
  have hmem : ∀ x ∈ [odKey (0x3020 + p) 1, odKey 0x3013 (p + 1), odKey 0x3014 (p + 1)], k ≠ x := fun x hx e =>
    h (List.mem_append_right _ (List.mem_flatMap.2 ⟨p, mem_below.2 hp, e ▸ hx⟩))
  exact ⟨hmem _ (by simp), hmem _ (by simp), hmem _ (by simp)⟩

theorem ne_howlKey_of_not_fatal {k : Nat} (h : k ∉ fatalKeys) :
    k ≠ odKey 0x7200 5 ∧ k ≠ odKey 0x7300 3 ∧ k ≠ odKey 0x7300 4 ∧ k ≠ odKey 0x3410 2 := by
  have hmem : ∀ x ∈ [odKey 0x7200 5, odKey 0x7300 3, odKey 0x7300 4, odKey 0x3410 2], k ≠ x := fun x hx e =>
    h (List.mem_append_left _ (List.mem_append_right _ (e ▸ hx)))
  exact ⟨hmem _ (by simp), hmem _ (by simp), hmem _ (by simp), hmem _ (by simp)⟩

/-- A port as `parkPorts` leaves it: DISABLED, and without its link state (10 R298). -/
def Dev.parkOne (d : Dev) (p : Nat) : Dev :=
  let d := d.setLink p .disabled
  let d := (d.put 0x3013 (p + 1) 0).put 0x3014 (p + 1) 0
  d.setPort p { Port.init with since := (d.port p).since }

/-- The device without its queued DATA flits. -/
def Dev.withoutFlits (d : Dev) : Dev := { d with waiting := [], slots := { d.slots with midway := [] } }

section
variable (d : Dev)

theorem Dev.withoutFlits_keeps :
    d.withoutFlits.mem = d.mem ∧ d.withoutFlits.clocks = d.clocks ∧ d.withoutFlits.disp = d.disp ∧ d.withoutFlits.waiting = [] :=
  ⟨rfl, rfl, rfl, rfl⟩
theorem Dev.withoutFlits_port (p : Nat) : d.withoutFlits.port p = d.port p := rfl
theorem Dev.withoutFlits_get (i k : Nat) : d.withoutFlits.get i k = d.get i k := rfl

theorem Dev.parkPorts_eq : d.parkPorts = ((below 6).foldl Dev.parkOne d).withoutFlits := by
  unfold Dev.parkPorts
  extract_lets port x
  have hx : x = (below 6).foldl Dev.parkOne d := rfl
  rw [← hx]
  rfl

theorem Dev.unqualify_keeps (p : Nat) : (d.unqualify p).mem = d.mem ∧ (d.unqualify p).clocks = d.clocks ∧ (d.unqualify p).disp = d.disp
    ∧ (∀ q, (d.unqualify p).port q = d.port q) ∧ ∀ i k, (d.unqualify p).get i k = d.get i k := by
  unfold Dev.unqualify; split <;> exact ⟨rfl, rfl, rfl, fun _ => rfl, fun _ _ => rfl⟩

theorem Dev.setLink_keeps (p : Nat) (st : LinkState) :
    (d.setLink p st).mem = d.mem ∧ (d.setLink p st).clocks = d.clocks ∧ (d.setLink p st).disp = d.disp
      ∧ (∀ q, q ≠ p → (d.setLink p st).port q = d.port q) ∧ ∀ i k, odKey i k ∉ noticeKeys → (d.setLink p st).get i k = d.get i k := by
  unfold Dev.setLink
  dsimp only
  split
  · exact ⟨rfl, rfl, rfl, fun _ _ => rfl, fun _ _ _ => rfl⟩
  · obtain ⟨hmem, hclocks, hdisp, hport, hget⟩ := (d.setPort p { d.port p with state := st, since := d.now }).unqualify_keeps p
    refine ⟨(Dev.note_mem _ _ _ _).trans hmem, (Dev.note_clocks _ _ _ _).trans hclocks, (Dev.note_disp _ _ _ _).trans hdisp, fun q hq => ?_,
      fun i k h => (Dev.note_get _ h _ _ _).trans (hget i k)⟩
    rw [Dev.note_port_at, hport, Dev.setPort_port, if_neg hq]

theorem Dev.parkOne_keeps (p : Nat) : (d.parkOne p).mem = d.mem ∧ (d.parkOne p).clocks = d.clocks ∧ (d.parkOne p).disp = d.disp := by
  obtain ⟨hmem, hclocks, hdisp, -, -⟩ := d.setLink_keeps p .disabled
  exact ⟨hmem, hclocks, hdisp⟩

theorem Dev.parkOne_get {p : Nat} (hp : p < 6) {i k : Nat} (h : odKey i k ∉ fatalKeys) : (d.parkOne p).get i k = d.get i k := by
  obtain ⟨-, h13, h14⟩ := ne_portKey_of_not_fatal h hp
  obtain ⟨-, -, -, -, hget⟩ := d.setLink_keeps p .disabled
  exact (Dev.put_get_ne _ _ _ _ _ _ h14).trans ((Dev.put_get_ne _ _ _ _ _ _ h13).trans (hget i k (not_notice_of_not_fatal h)))

theorem Dev.parkOne_parks (p : Nat) : ((d.parkOne p).port p).state = .disabled := congrArg Port.state (Dev.setPort_port_same _ _ _)

theorem Dev.parkOne_port_ne {p q : Nat} (h : q ≠ p) : (d.parkOne p).port q = d.port q := by
  obtain ⟨-, -, -, hport, -⟩ := d.setLink_keeps p .disabled
  refine (Dev.setPort_port _ _ _ _).trans ((if_neg h).trans (hport q h))

theorem foldl_parkOne_parks (l : List Nat) {q : Nat} (h : (d.port q).state = .disabled ∨ q ∈ l) :
    ((l.foldl Dev.parkOne d).port q).state = .disabled := by
  induction l generalizing d with
  | nil => exact h.resolve_right (by simp)
  | cons p l ih =>
    rw [List.foldl_cons]
    refine ih _ ?_
    by_cases hq : q = p
    · exact .inl (hq ▸ d.parkOne_parks p)
    · rw [d.parkOne_port_ne hq]
      exact h.imp_right fun hl => (List.mem_cons.1 hl).resolve_left hq

/-- What parking the ports leaves. -/
theorem Dev.parkPorts_keeps : d.parkPorts.mem = d.mem ∧ d.parkPorts.clocks = d.clocks ∧ d.parkPorts.disp = d.disp := by
  have hfold := foldl_keeps (g := fun d : Dev => (d.mem, d.clocks, d.disp)) (f := Dev.parkOne) (fun d p => by
    obtain ⟨hmem, hclocks, hdisp⟩ := d.parkOne_keeps p
    rw [hmem, hclocks, hdisp]) (below 6) d
  obtain ⟨hmem, hclocks, hdisp, -⟩ := ((below 6).foldl Dev.parkOne d).withoutFlits_keeps
  rw [Dev.parkPorts_eq, hmem, hclocks, hdisp]
  simpa only [Prod.mk.injEq] using hfold

theorem Dev.parkPorts_get {i k : Nat} (h : odKey i k ∉ fatalKeys) : d.parkPorts.get i k = d.get i k := by
  rw [Dev.parkPorts_eq, Dev.withoutFlits_get]
  exact foldl_keeps_of_mem (g := fun d : Dev => d.get i k) (below 6) (fun d p hp => d.parkOne_get (mem_below.1 hp) h) d

theorem Dev.parkPorts_parks {p : Nat} (hp : p < 6) : (d.parkPorts.port p).state = .disabled := by
  rw [Dev.parkPorts_eq, Dev.withoutFlits_port]
  exact foldl_parkOne_parks d (below 6) (.inr (mem_below.2 hp))

theorem Dev.parkPorts_waiting : d.parkPorts.waiting = [] := by
  obtain ⟨-, -, -, hwaiting⟩ := ((below 6).foldl Dev.parkOne d).withoutFlits_keeps
  rw [Dev.parkPorts_eq, hwaiting]

theorem Dev.howlOn_get (f : Flit) {p : Nat} (hp : p < 6) {i k : Nat} (h : odKey i k ∉ fatalKeys) : (d.howlOn f p).get i k = d.get i k := by
  obtain ⟨h20, -, -⟩ := ne_portKey_of_not_fatal h hp
  obtain ⟨-, -, -, hdrop⟩ := ne_howlKey_of_not_fatal h
  unfold Dev.howlOn
  split
  · rfl
  · split
    · exact d.addSat_get_ne _ _ _ _ _ _ hdrop
    · split
      · exact Dev.addWrap_get_ne _ _ _ _ _ _ h20
      · rfl

theorem Dev.howl_get (kind port subject event step : Nat) (v : Bool) {i k : Nat} (h : odKey i k ∉ fatalKeys) :
    (d.howl kind port subject v event step).get i k = d.get i k := by
  obtain ⟨-, hseq, hcount, -⟩ := ne_howlKey_of_not_fatal h
  unfold Dev.howl
  split
  · rfl
  · extract_lets seq x y w f
    have hx : x.get i k = d.get i k := (Dev.note_get _ (not_notice_of_not_fatal h) _ _ _).trans
      ((Dev.addSat_get_ne _ _ _ _ _ _ _ hcount).trans (Dev.put_get_ne _ _ _ _ _ _ hseq))
    exact (foldl_keeps_of_mem (g := fun d : Dev => d.get i k) (below 6) (fun d p hp => d.howlOn_get f (mem_below.1 hp) h) y).trans hx

theorem Dev.withDisp_get (x : Disp) (i k : Nat) : ({ d with disp := x } : Dev).get i k = d.get i k := rfl
theorem Dev.withDisp_mem (x : Disp) : ({ d with disp := x } : Dev).mem = d.mem := rfl
theorem Dev.withDisp_clocks (x : Disp) : ({ d with disp := x } : Dev).clocks = d.clocks := rfl

/-- A step-fatal event changes no entry but those of its notices, its Howl and its attempt. -/
theorem Dev.raiseStep_get (code a b s : Nat) {i k : Nat} (h : odKey i k ∉ fatalKeys) : (d.raiseStep code a b s).get i k = d.get i k := by
  obtain ⟨hattempt, -, -, -⟩ := ne_howlKey_of_not_fatal h
  unfold Dev.raiseStep
  extract_lets x disp y z
  have hx : x.get i k = d.get i k := d.report_get (not_notice_of_not_fatal h) _ _ _ _
  have hy : y.get i k = x.get i k := x.withDisp_get _ i k
  have hz : z.get i k = d.get i k := (y.put_get_ne _ _ _ _ _ hattempt).trans (hy.trans hx)
  split
  · exact (z.howl_get _ _ _ _ _ _ h).trans hz
  · exact hz

/-- Compute has stopped, every port is DISABLED, and no flit waits (00 R10; 10 R298). -/
def Dev.dead (d : Dev) : Prop := d.disp.fatal = true ∧ (∀ p < 6, (d.port p).state = .disabled) ∧ d.waiting = []

theorem Dev.raiseFatal_dead (code a b kind : Nat) : (d.raiseFatal code a b kind).dead := by
  unfold Dev.raiseFatal
  extract_lets x y disp z
  obtain ⟨-, -, hdisp⟩ := z.parkPorts_keeps
  exact ⟨congrArg Disp.fatal hdisp, fun p hp => z.parkPorts_parks hp, z.parkPorts_waiting⟩

theorem Dev.raiseFatal_keeps (code a b kind : Nat) :
    (d.raiseFatal code a b kind).mem = d.mem ∧ (d.raiseFatal code a b kind).clocks = d.clocks := by
  unfold Dev.raiseFatal
  extract_lets x y disp z
  obtain ⟨hmem, hclocks, -⟩ := z.parkPorts_keeps
  have hxmem : x.mem = d.mem := d.raise_mem code a b
  have hxclocks : x.clocks = d.clocks := d.raise_clocks code a b
  have hymem : y.mem = x.mem := (Dev.contents_eq_iff.1 (x.howl_contents kind 7 0 code x.step false)).2
  have hyclocks : y.clocks = x.clocks := congrArg (fun q => q.1.2.1) (x.howl_steering kind 7 0 code x.step false)
  exact ⟨hmem.trans ((y.withDisp_mem _).trans (hymem.trans hxmem)), hclocks.trans ((y.withDisp_clocks _).trans (hyclocks.trans hxclocks))⟩

theorem Dev.raiseFatal_get (code a b kind : Nat) {i k : Nat} (h : odKey i k ∉ fatalKeys) :
    (d.raiseFatal code a b kind).get i k = d.get i k := by
  unfold Dev.raiseFatal
  extract_lets x y disp z
  have hx : x.get i k = d.get i k := d.report_get (not_notice_of_not_fatal h) _ _ _ _
  have hy : y.get i k = x.get i k := x.howl_get _ _ _ _ _ _ h
  have hz : z.get i k = y.get i k := y.withDisp_get _ i k
  exact (z.parkPorts_get h).trans (hz.trans (hy.trans hx))

/-! ## A memory device fails (09 R279, R280) -/

theorem Dev.memFailed_dead (md a : Nat) : (d.memFailed md a).dead := Dev.raiseFatal_dead _ _ _ _ _

theorem Dev.memFailed_keeps (md a : Nat) : (d.memFailed md a).mem = d.mem ∧ (d.memFailed md a).clocks = d.clocks := by
  have hmute := d.errLog_mute (errRecord d.ht 3 md a)
  obtain ⟨hmem, hclocks⟩ := (d.errLog (errRecord d.ht 3 md a)).raiseFatal_keeps 0x4704 (bits (errRecord d.ht 3 md a) 0 64)
    (bits (errRecord d.ht 3 md a) 64 64) 2
  exact ⟨hmem.trans (Dev.of_mute_mem hmute), hclocks.trans (Dev.of_mute_clocks hmute)⟩

theorem Dev.memFailed_logs (md a : Nat) : (d.memFailed md a).get 0x4033 1 = errRecord d.ht 3 md a :=
  (Dev.raiseFatal_get _ _ _ _ _ (by decide)).trans (d.errLog_newest (errRecord_lt _ _ _ _))

end

end Sys2Proof.Machine
end

section
/-! PROOF. Scrubbing and failure of memory (09 R277-R279; 17 R516): O35. -/

namespace Sys2Proof.Machine

/-! ## Where the scrubber goes (09 R277) -/

/-- Where the scrubber goes, the unit of an address lies in a tier or in the tile store: none of them begins within a unit. -/
theorem Dev.region_of_scrubbed {d : Dev} {a : Nat} (h : d.scrubPeriod a ≠ 0) :
    d.region (a / 64 * 64) = some .near ∨ d.region (a / 64 * 64) = some .kennel ∨ d.region (a / 64 * 64) = some .tile := by
  have ha : a < nearSize ∨ (kennelBase ≤ a ∧ a < kennelBase + d.kennelSize) ∨ (tileBase ≤ a ∧ a < tileBase + tileSize) := by
    unfold Dev.scrubPeriod Dev.region at h
    by_contra hn
    obtain ⟨h1, h2, h3⟩ : ¬ a < nearSize ∧ ¬ (kennelBase ≤ a ∧ a < kennelBase + d.kennelSize) ∧ ¬ (tileBase ≤ a ∧ a < tileBase + tileSize) := by
      simpa only [not_or] using hn
    rw [if_neg h1, if_neg h2, if_neg h3] at h
    split at h <;> split_ifs at * <;> simp_all
  unfold nearSize kennelBase tileBase tileSize at ha
  unfold Dev.region nearSize kennelBase tileBase tileSize
  split
  · exact .inl rfl
  · split
    · exact .inr (.inl rfl)
    · rw [if_pos (by omega)]
      exact .inr (.inr rfl)

/-- The scrubber does not go into the accumulator buffer. -/
theorem Dev.memdev_of_scrubbed {d : Dev} {a : Nat} (h : d.scrubPeriod a ≠ 0) : d.memdev (a / 64 * 64) ≠ 36 := by
  have hchannel : ∀ m < 8, ([0, 1, 2, 3, 8, 9, 10, 11][m]?).getD 0 < 16 := by decide
  unfold Dev.memdev
  obtain hr | hr | hr := Dev.region_of_scrubbed h
  · rw [hr]
    dsimp only
    omega
  · rw [hr]
    dsimp only
    split
    · have := hchannel _ (Nat.mod_lt ((a / 64 * 64 - kennelBase) / 4096) (by decide))
      omega
    · omega
  · rw [hr]
    dsimp only
    omega

theorem Mem.poisoned_unit (m : Mem) (a : Nat) : m.poisoned (a / 64 * 64) = m.poisoned a := by
  rw [Mem.poisoned, Mem.poisoned, Nat.mul_div_cancel _ (by decide)]

/-! ## O35 -/

theorem exec_patrolScrub (addr : Nat) (found : ScrubFind) (s : State) : exec (.patrolScrub addr found) s = execPatrolScrub addr found s := rfl

/-- The scrubber rests, or finds nothing. -/
theorem patrolScrub_rests {addr : Nat} {found : ScrubFind} {s : State}
    (h : ¬ (s.dev.memoryOn = true ∧ s.dev.scrubPeriod addr ≠ 0) ∨ found.error = none) :
    Effect (.patrolScrub addr found) s { s.dev with flaws := s.dev.flaws ++ found.later } := by
  have hon : ∀ l, ({ s.dev with flaws := l } : Dev).memoryOn = s.dev.memoryOn := fun _ => rfl
  have hperiod : ∀ l, ({ s.dev with flaws := l } : Dev).scrubPeriod addr = s.dev.scrubPeriod addr := fun _ => rfl
  rw [Effect, exec_patrolScrub, execPatrolScrub, run]
  simp only [hon, hperiod]
  split
  · rfl
  next hgo =>
    rw [h.resolve_left (not_not.2 (by simpa using hgo))]

/-- The scrubber finds an error. -/
theorem patrolScrub_finds {addr : Nat} {found : ScrubFind} {unc : Bool} {s : State} (hon : s.dev.memoryOn = true)
    (hperiod : s.dev.scrubPeriod addr ≠ 0) (h : found.error = some unc) :
    Effect (.patrolScrub addr found) s (({ s.dev with flaws := s.dev.flaws ++ found.later } : Dev).eccFound (addr / 64 * 64) unc) := by
  have hrun : ¬ (!s.dev.memoryOn || s.dev.scrubPeriod addr == 0) = true := by simp [hon, hperiod]
  rw [Effect, exec_patrolScrub, execPatrolScrub, run, h]
  exact congrArg (fun d => Host.Outcome.next { s with dev := d }) (if_neg hrun)

theorem exec_memDeviceFailed (device : Fin 32) (s : State) : exec (.memDeviceFailed device) s = execMemDeviceFailed device s := rfl
theorem exec_kennelClockStopTimeout (half : Fin 2) (s : State) :
    exec (.kennelClockStopTimeout half) s = execKennelClockStopTimeout half s := rfl

/-- The clock of a Kennel half has been stopped for more than 1 ms in READY or RUN, with channels in use (17 R516). -/
def Dev.kennelStopDue (d : Dev) (k : Nat) : Prop :=
  ∃ from_, (d.domain k).stoppedAt = some from_ ∧ from_ + 1000000 < d.now ∧ d.memoryOn = true ∧ d.power.trained ≠ 0

/-- What KENNEL_CLOCK_STOP_TIMEOUT does. -/
theorem exec_kennelClockStopTimeout_eq (half : Fin 2) (s : State) [Decidable (s.dev.kennelStopDue (8 + half.val))] :
    exec (.kennelClockStopTimeout half) s = .next { s with dev := if s.dev.kennelStopDue (8 + half.val) then
      (s.dev.setDomain (8 + half.val) { s.dev.domain (8 + half.val) with stoppedAt := none }).memFailed (16 + 8 * half.val) 0 else s.dev } := by
  rw [exec_kennelClockStopTimeout, execKennelClockStopTimeout, run]
  refine congrArg (fun d => Host.Outcome.next { s with dev := d }) ?_
  dsimp only
  cases hstop : (s.dev.domain (8 + half.val)).stoppedAt with
  | none =>
    refine (if_neg fun hdue => ?_).symm
    obtain ⟨from_, hfrom, -⟩ := hdue
    rw [hstop] at hfrom
    cases hfrom
  | some from_ =>
    refine if_congr ?_ rfl rfl
    simp only [Dev.kennelStopDue, Dev.memoryOn, hstop, Bool.and_eq_true, decide_eq_true_eq, bne_iff_ne, Option.some.injEq, exists_eq_left']
    tauto

/-- Settles O35: what the scrubber finds is `eccFound_records`; a failure is `memFailed`. -/
theorem memoryIsScrubbedAndFails : Obligations.MemoryIsScrubbedAndFails := by
  unfold Obligations.MemoryIsScrubbedAndFails
  refine ⟨fun addr found s => ⟨patrolScrub_rests, fun unc hon herr hclean => ?_⟩, fun device s => ⟨fun h => ?_, fun h => ?_⟩,
    fun half s => ⟨fun h => ?_, fun h => ?_⟩⟩
  · obtain ⟨hon, hperiod⟩ := hon
    have hx := patrolScrub_finds hon hperiod herr
    have hmark : ∀ p : Bool, s.dev.mem.mark (addr / 64 * 64) p = s.dev.mem.mark addr p := fun p => by
      rw [Mem.mark, Mem.mark, Nat.mul_div_cancel _ (by decide)]
    obtain ⟨hcount, hrecord, hmem⟩ := Dev.eccFound_records { s.dev with flaws := s.dev.flaws ++ found.later }
      (a := addr / 64 * 64) (unc := unc) (Dev.memdev_of_scrubbed hperiod) fun hu => (s.dev.mem.poisoned_unit addr).trans (hclean hu)
    have hhush := Dev.eccFound_hush { s.dev with flaws := s.dev.flaws ++ found.later } (addr / 64 * 64) unc
    rw [hmark] at hmem
    refine ⟨_, hx.answers, fun a => ?_, ?_, hcount, hrecord, ?_, ?_⟩
    · rw [hmem]
      split <;> rfl
    · rw [hmem]
      split
      · rw [Mem.mark_poisoned, if_pos rfl]
      · rfl
    · have hdisp := congrArg Dev.disp hhush
      exact hdisp
    · have hflaws := congrArg Dev.flaws hhush
      exact hflaws
  · rw [Effect, exec_memDeviceFailed, execMemDeviceFailed, run, if_neg (by simpa using h)]
  · have hx : Effect (.memDeviceFailed device) s (s.dev.memFailed device 0) := by
      rw [Effect, exec_memDeviceFailed, execMemDeviceFailed, run, if_pos (by simpa using h)]
    obtain ⟨hmem, -⟩ := s.dev.memFailed_keeps device 0
    exact ⟨_, hx.answers, s.dev.memFailed_dead device 0, s.dev.memFailed_logs device 0, hmem⟩
  · classical
    exact (exec_kennelClockStopTimeout_eq half s).trans (by rw [if_neg (show ¬ s.dev.kennelStopDue _ from h)])
  · have hx : Effect (.kennelClockStopTimeout half) s
        ((s.dev.setDomain (8 + half.val) { s.dev.domain (8 + half.val) with stoppedAt := none }).memFailed (16 + 8 * half.val) 0) := by
      classical
      exact (exec_kennelClockStopTimeout_eq half s).trans (by rw [if_pos (show s.dev.kennelStopDue _ from h)])
    have hdead := (s.dev.setDomain (8 + half.val) { s.dev.domain (8 + half.val) with stoppedAt := none }).memFailed_dead (16 + 8 * half.val) 0
    obtain ⟨hmem, hclocks⟩ :=
      (s.dev.setDomain (8 + half.val) { s.dev.domain (8 + half.val) with stoppedAt := none }).memFailed_keeps (16 + 8 * half.val) 0
    refine ⟨_, hx.answers, hdead, ?_, hmem⟩
    have hdomain := congrArg (fun c : Clocks => (sget Domain.init c.domains (8 + half.val)).stoppedAt) hclocks
    exact hdomain.trans (congrArg Domain.stoppedAt (Dev.setDomain_domain_same _ _ _))

end Sys2Proof.Machine
end

section
/-! PROOF. Retriever descriptors (08 R243, R244, R250; 09 R274, R275, R283-R289; log entries 30, 33, 120): the parts of a transfer, the
fetch and its repeat, the three other opcodes, and O27. -/

namespace Sys2Proof.Machine

/-! ## What the parts of a transfer leave of the dictionary -/

section
variable (d : Dev) (i k : Nat)

theorem Dev.setAcc_get (t r c v : Nat) : (d.setAcc t r c v).get i k = d.get i k := rfl

theorem Dev.setWinByte_get (a : Nat) (b : Byte) : (d.setWinByte a b).get i k = d.get i k := by
  unfold Dev.setWinByte Dev.setAccAt
  exact d.setAcc_get i k _ _ _ _

theorem Dev.setWinBytes_get (m : MoveElem) :
    ((m.bytes.zipIdx).foldl (fun d q => d.setWinByte (m.dst + q.2) q.1) d).get i k = d.get i k :=
  foldl_keeps (g := fun d : Dev => d.get i k) (f := fun d (q : Byte × Nat) => d.setWinByte (m.dst + q.2) q.1)
    (fun d q => d.setWinByte_get i k _ q.1) _ d

theorem Dev.writeWindow_get (l : List MoveElem) : (d.writeWindow l).get i k = d.get i k := by
  unfold Dev.writeWindow
  refine (foldl_keeps (g := fun d : Dev => d.get i k) (fun d t => ?_) _ _).trans
    (foldl_keeps (g := fun d : Dev => d.get i k)
      (f := fun d m => (m.bytes.zipIdx).foldl (fun d q => d.setWinByte (m.dst + q.2) q.1) d) (fun d m => d.setWinBytes_get i k m) l d)
  dsimp only
  split <;> rfl

theorem Dev.clearCovered_get (l : List Ext) : (d.clearCovered l).get i k = d.get i k :=
  foldl_keeps (g := fun d : Dev => d.get i k) (fun d u => by split <;> rfl) _ d

theorem Dev.writeElems_get (l : List MoveElem) : (d.writeElems l).get i k = d.get i k := by
  unfold Dev.writeElems
  split
  · exact d.writeWindow_get i k l
  · exact (foldl_keeps (g := fun d : Dev => d.get i k) (f := fun d m => d.wr m.dst m.bytes m.poison) (fun _ _ => rfl) l _).trans
      (d.clearCovered_get i k _)

theorem Dev.snBegin_get (u id : Nat) (l : List (Byte × Bool)) : (d.snBegin u id l).get i k = d.get i k := by
  unfold Dev.snBegin; dsimp only; split <;> rfl

end

section
variable (j : Job) (e : Entry)

theorem Job.sniff_done (on : Bool) (u id : Nat) (l : List (Byte × Bool)) : (j.sniff on u id l).done = j.done := by
  unfold Job.sniff; split <;> rfl

theorem Job.sniff_get (on : Bool) (u id : Nat) (l : List (Byte × Bool)) (i k : Nat) : (j.sniff on u id l).d.get i k = j.d.get i k := by
  unfold Job.sniff
  split
  · exact j.d.snBegin_get i k u id l
  · rfl

theorem Job.moveOut_done (l : List MoveElem) (put : Dev → List MoveElem → Dev) :
    (j.moveOut e l put).done = { j.done with result := (elemBytes l).length } := by
  unfold Job.moveOut Job.result
  dsimp only
  rw [Job.sniff_done]
  rfl

theorem Job.moveOut_get (l : List MoveElem) {put : Dev → List MoveElem → Dev} {i k : Nat} (h : ∀ d l, (put d l).get i k = d.get i k) :
    (j.moveOut e l put).d.get i k = j.d.get i k := (Job.sniff_get _ _ _ _ _ _ _).trans (h _ _)

/-- Consuming poisoned data changes no entry but the error log and those of a step-fatal event (09 R274). -/
theorem Job.poisonedAt_get (s a : Nat) {i k : Nat} (h : odKey i k ∉ fatalKeys) (hs : Spared (odKey i k)) :
    (j.poisonedAt s a).d.get i k = j.d.get i k := by
  unfold Job.poisonedAt Job.poisoned Job.raiseStep
  simp only [Job.fail_d, Job.noteEvent_d, Job.dev_d]
  exact (Dev.raiseStep_get _ _ _ _ _ h).trans (Dev.errLog_get _ _ hs)

/-- `RETR_BYTES` grows by the bytes moved (log entry 120). -/
theorem Job.retrCount_counts (x : Nat) : (j.retrCount x).d.get 0x4050 3 = (j.d.get 0x4050 3 + moveBytes x) % 2 ^ 64 := by
  have hsize : odSize (odKey 0x4050 3) = 8 := by decide
  refine (Dev.put_get_same _ _ _ _).trans ?_
  rw [hsize]

end

/-- The bytes that a descriptor moves, by the format of its source. -/
theorem moveBytes_eq (d : Dev) {x : Nat} (h : slFmt (mvSrc x) < 7) : moveBytes x = mvRows x * mvCols x * (d.view (mvSrc x)).fmt.size := by
  have hsize : ∀ f < 7, fmtBytes f = ((DFmt.ofCode f).getD .fb8).size := by decide
  rw [moveBytes, hsize _ h, Nat.mul_assoc]
  rfl

/-! ## A transfer that runs -/

/-- The outcome of a transfer that has moved its bytes and met no poison. -/
def Dev.retrDone (d : Dev) (x : Nat) : Done := { Done.init with result := mvRows x * mvCols x * (d.view (mvDst x)).fmt.size }

/-- What a transfer is that the device `d` comes to at its end: its bytes moved and counted, and the end of it. -/
def Dev.Retrieves (d : Dev) (x : Nat) (lost : Prop) (k : Job) : Prop :=
  ∃ j : Job, j.done = d.retrDone x ∧ j.d.get 0x4050 3 = (d.get 0x4050 3 + moveBytes x) % 2 ^ 64 ∧ MoveEnd lost j k

section
variable {d : Dev} {x : Nat} {lost : Prop} {k : Job} (h : d.Retrieves x lost k)
include h

theorem Dev.Retrieves.poisoned (hl : lost) : k.done.code = ccPoisoned := by
  obtain ⟨j, hdone, -, hend⟩ := h
  exact hend.poisoned (by rw [hdone]; rfl) hl

theorem Dev.Retrieves.done (hl : ¬ lost) : k.done = d.retrDone x := by
  obtain ⟨j, hdone, -, hend⟩ := h
  rw [hend.whole hl, hdone]

theorem Dev.Retrieves.counts (hl : ¬ lost) (hf : slFmt (mvSrc x) < 7) :
    k.d.get 0x4050 3 = (d.get 0x4050 3 + mvRows x * mvCols x * (d.view (mvSrc x)).fmt.size) % 2 ^ 64 := by
  obtain ⟨j, -, hcount, hend⟩ := h
  rw [hend.whole hl, hcount, moveBytes_eq d hf]

end

/-- Elements written by `put`, which leaves the dictionary, and counted. -/
theorem Job.moved_retrieves {j : Job} (hj : j.done = Done.init) (e : Entry) (pats : List Nat) (bad : Nat × Nat → Bool)
    (hp : pats.length = mvRows e.desc * mvCols e.desc) {put : Dev → List MoveElem → Dev} (hput : ∀ d l, (put d l).get 0x4050 3 = d.get 0x4050 3)
    {lost : Prop} {k : Job}
    (h : MoveEnd lost ((j.moveOut e (moveElems e.desc (j.d.view (mvDst e.desc)) pats bad) put).retrCount e.desc) k) :
    j.d.Retrieves e.desc lost k := by
  refine ⟨_, ?_, ?_, h⟩
  · refine (Job.moveOut_done _ _ _ _).trans ?_
    rw [elemBytes_length _ _ hp, hj, Dev.retrDone]
  · rw [Job.retrCount_counts, Job.moveOut_get _ _ _ hput]

/-- A copy from local memory into local memory. -/
theorem Job.retrLocal_retrieves {j : Job} (hj : j.done = Done.init) (e : Entry) :
    j.d.Retrieves e.desc (∃ p ∈ grid (mvRows e.desc) (mvCols e.desc), j.d.localBad (j.d.view (mvSrc e.desc)) p = true) (j.retrLocal e) :=
  Job.moved_retrieves hj e _ _ (by rw [List.length_map, length_grid]) (fun d l => d.writeElems_get _ _ l) (Job.endLocal_moveEnd _ e _ _)

theorem firstRemoteBad_eq_none_iff (x : Nat) (v : View) (marks : List Bool) :
    firstRemoteBad x v marks = none ↔ ¬ ∃ p ∈ grid (mvRows x) (mvCols x), remoteBad v marks p = true := by
  unfold firstRemoteBad
  split
  next p hp => simpa using ⟨p.1, p.2, List.mem_of_find?_eq_some hp, List.find?_some hp⟩
  next hp => simpa using List.find?_eq_none.1 hp

/-- A copy from a reply into local memory. -/
theorem Job.retrIn_retrieves {j : Job} (hj : j.done = Done.init) (e : Entry) (r : RemoteReply) :
    j.d.Retrieves e.desc (∃ p ∈ grid (mvRows e.desc) (mvCols e.desc), remoteBad (j.d.view (mvSrc e.desc)) r.marks p = true) (j.retrIn e r) := by
  refine Job.moved_retrieves hj e ((grid (mvRows e.desc) (mvCols e.desc)).map (remoteRaw (j.d.view (mvSrc e.desc)) r.bytes))
    (remoteBad (j.d.view (mvSrc e.desc)) r.marks) (by rw [List.length_map, length_grid]) (fun d l => d.writeElems_get _ _ l) ?_
  have hcode : ∀ l, ((j.moveOut e l Dev.writeElems).retrCount e.desc).done.code = 0 := fun l => by
    rw [Job.retrCount, Job.dev_code, Job.moveOut_code, hj]
    rfl
  have hnone := firstRemoteBad_eq_none_iff e.desc (j.d.view (mvSrc e.desc)) r.marks
  unfold Job.retrIn
  dsimp only
  split
  next a ha =>
    have hlost : ∃ p ∈ grid (mvRows e.desc) (mvCols e.desc), remoteBad (j.d.view (mvSrc e.desc)) r.marks p = true := by
      by_contra hn
      rw [hnone.2 hn] at ha
      cases ha
    exact ⟨fun hn => absurd (hcode _) hn, fun hn => absurd hlost hn, fun _ _ => Job.poisonedAt_code (hcode _) _ _, Job.poisonedAt_result _ _ _⟩
  next ha => exact ⟨fun _ => rfl, fun _ => rfl, fun _ hl => absurd hl (hnone.1 ha), rfl⟩

/-- Whether or not it met poison, a copy from a reply leaves the entries that neither it nor poison counts in. -/
theorem Job.retrIn_get (j : Job) (e : Entry) (r : RemoteReply) {i k : Nat} (h : odKey i k ∉ fatalKeys) (hs : Spared (odKey i k))
    (hc : odKey i k ≠ odKey 0x4050 3) : (j.retrIn e r).d.get i k = j.d.get i k := by
  have hmoved : ∀ l, ((j.moveOut e l Dev.writeElems).retrCount e.desc).d.get i k = j.d.get i k := fun l =>
    (Dev.addWrap_get_ne _ _ _ _ _ _ hc).trans (Job.moveOut_get _ _ _ fun d l => d.writeElems_get i k l)
  unfold Job.retrIn
  dsimp only
  split
  · exact (Job.poisonedAt_get _ _ _ h hs).trans (hmoved _)
  · exact hmoved _

/-! ## The requests of a fetch, and its own answer (09 R285, R287) -/

theorem foldl_emit {α : Type} (f : α → Out) (l : List α) (d : Dev) :
    l.foldl (fun d a => d.emit (f a)) d = { d with out := (l.map f).reverse ++ d.out } := by
  induction l generalizing d with
  | nil => rfl
  | cons a t ih =>
    rw [List.foldl_cons, ih]
    simp [Dev.emit]

section
variable (d : Dev) (x : Nat) (r : RemoteReply)

/-- A fetch from another device asks it, and takes its answer. -/
theorem Dev.fetched_remote (h : mvRemote x ≠ d.self) : d.fetched x r = (d.askRemote x, r) := if_neg h

theorem Dev.askRemote_eq : d.askRemote x = { d with out := ((d.remoteReads x).map (fun q =>
    Out.retrieverRequest (mvRemote x) (retrTc x) false q.1 [] q.2 false false)).reverse ++ d.out } := foldl_emit _ _ d

/-- A fetch from the device itself is served where every read lies in an aperture. -/
theorem Dev.fetched_self (h : mvRemote x = d.self) :
    (d.fetched x r).2.served = true ↔ ∀ q ∈ d.remoteReads x, d.inAperture q.1 q.2 = true := by
  have hempty : ((d.remoteReads x).filter (fun q => !d.inAperture q.1 q.2)).isEmpty = true
      ↔ ∀ q ∈ d.remoteReads x, d.inAperture q.1 q.2 = true := by
    rw [List.isEmpty_iff, List.filter_eq_nil_iff]
    simp
  rw [Dev.fetched, if_pos h, Dev.serveSelf, ← hempty]
  split
  next hs => simp [hs]
  next hs => simp [hs]

theorem Dev.refuseRequest_mem : d.refuseRequest.mem = d.mem := (d.addSat 0x4050 2 32 1).raise_mem _ _ _

theorem Dev.refuseRequest_get {i k : Nat} (h : odKey i k ∉ noticeKeys) (hr : odKey i k ≠ odKey 0x4050 2) :
    d.refuseRequest.get i k = d.get i k := ((d.addSat 0x4050 2 32 1).raise_get h _ _ _).trans (d.addSat_get_ne _ _ _ _ _ _ hr)

/-- Fetching keeps what a sent and a refused request keep. -/
theorem Dev.fetched_keeps {β : Type} {g : Dev → β} (ho : ∀ (d : Dev) o, g (d.emit o) = g d) (hr : ∀ d : Dev, g d.refuseRequest = g d) :
    g (d.fetched x r).1 = g d := by
  unfold Dev.fetched Dev.serveSelf
  split
  · dsimp only
    split
    · rfl
    · exact foldl_keeps (f := fun d _ => d.refuseRequest) (fun d _ => hr d) _ d
  · exact foldl_keeps (g := g) (fun d _ => ho d _) (d.remoteReads x) d

/-- Fetching changes no byte and no mark. -/
theorem Dev.fetched_mem : (d.fetched x r).1.mem = d.mem := d.fetched_keeps x r (fun _ _ => rfl) Dev.refuseRequest_mem

/-- Fetching counts nowhere but in the refused requests. -/
theorem Dev.fetched_get {i k : Nat} (h : odKey i k ∉ noticeKeys) (hr : odKey i k ≠ odKey 0x4050 2) :
    (d.fetched x r).1.get i k = d.get i k :=
  d.fetched_keeps (g := fun d => d.get i k) x r (fun _ _ => rfl) fun d => d.refuseRequest_get h hr

end

/-! ## The fetch (08 R250) -/

/-- A reply brings a copy: it serves the whole source. -/
def Dev.brings (d : Dev) (x : Nat) (r : RemoteReply) : Prop := replyServes r (d.retrLength x) = true
/-- The copy carries poison. -/
def Dev.carries (d : Dev) (x : Nat) (r : RemoteReply) : Prop :=
  ∃ p ∈ grid (mvRows x) (mvCols x), remoteBad (d.view (mvSrc x)) r.marks p = true
/-- The copy matches its record. -/
def Dev.fits (d : Dev) (x : Nat) (r : RemoteReply) : Prop :=
  fpMatches (remoteBytes x (d.view (mvSrc x)) r.bytes) (ofBytes (r.record.take 32)) = true

theorem firstRemoteBad_isSome_iff (d : Dev) (x : Nat) (r : RemoteReply) :
    (firstRemoteBad x (d.view (mvSrc x)) r.marks).isSome = true ↔ d.carries x r := by
  rw [← not_iff_not, Bool.not_eq_true, Option.isSome_eq_false_iff, Option.isNone_iff_eq_none]
  exact firstRemoteBad_eq_none_iff _ _ _

/-- A fetch once the owner has answered `first`. -/
def Job.fetch (j : Job) (e : Entry) (first second : RemoteReply) : Job :=
  if !replyServes first (j.d.retrLength e.desc) then j.fail ccAddressRange
  else if (firstRemoteBad e.desc (j.d.view (mvSrc e.desc)) first.marks).isSome || mvHostAddr e.desc == 0 then j.retrIn e first
  else if fpMatches (remoteBytes e.desc (j.d.view (mvSrc e.desc)) first.bytes) (ofBytes (first.record.take 32)) then j.retrIn e first
  else j.refetch e second

section
variable {j : Job} {e : Entry} {first second : RemoteReply}

theorem Job.fetch_refused (h : ¬ j.d.brings e.desc first) : j.fetch e first second = j.fail ccAddressRange := by
  have hs : replyServes first (j.d.retrLength e.desc) = false := Bool.eq_false_iff.2 h
  unfold Job.fetch
  rw [hs]
  rfl

variable (h : j.d.brings e.desc first)
include h

theorem Job.fetch_taken (ht : j.d.carries e.desc first ∨ mvHostAddr e.desc = 0 ∨ j.d.fits e.desc first) :
    j.fetch e first second = j.retrIn e first := by
  have hs : replyServes first (j.d.retrLength e.desc) = true := h
  unfold Job.fetch
  rw [if_neg (by simp [hs])]
  split
  next => rfl
  next hn =>
    have hclean : ¬ j.d.carries e.desc first ∧ mvHostAddr e.desc ≠ 0 := by
      simpa only [Bool.or_eq_true, not_or, firstRemoteBad_isSome_iff, beq_iff_eq] using hn
    exact if_pos ((ht.resolve_left hclean.1).resolve_left hclean.2)

theorem Job.fetch_repeated (hc : ¬ j.d.carries e.desc first) (ha : mvHostAddr e.desc ≠ 0) (hf : ¬ j.d.fits e.desc first) :
    j.fetch e first second = j.refetch e second := by
  have hs : replyServes first (j.d.retrLength e.desc) = true := h
  have hn : ¬ ((firstRemoteBad e.desc (j.d.view (mvSrc e.desc)) first.marks).isSome || mvHostAddr e.desc == 0) = true := by
    simpa only [Bool.or_eq_true, not_or, firstRemoteBad_isSome_iff, beq_iff_eq] using ⟨hc, ha⟩
  unfold Job.fetch
  rw [if_neg (by simp [hs]), if_neg hn]
  exact if_neg hf

end

/-- The repeat of a fetch has asked again, and is counted. -/
def Job.asked (j : Job) (x : Nat) (second : RemoteReply) : Job := j.dev (fun d => (d.fetched x second).1.addSat 0x50A0 8 32 1)

/-- The length of a source, and what a reply carries, do not depend on the device. -/
theorem Dev.retrLength_eq (a b : Dev) (x : Nat) : a.retrLength x = b.retrLength x := rfl
theorem Dev.view_stride (d : Dev) (w : Nat) : (d.view w).stride = slStride w := rfl
theorem Dev.view_fmt (d : Dev) (w : Nat) : (d.view w).fmt = (DFmt.ofCode (slFmt w)).getD .fb8 := rfl
theorem Dev.carries_iff (a b : Dev) (x : Nat) (r : RemoteReply) : a.carries x r ↔ b.carries x r := by
  simp only [Dev.carries, remoteBad, Dev.view_stride, Dev.view_fmt]

section
variable {j : Job} {e : Entry} {second : RemoteReply}

theorem Job.refetch_refused (h : ¬ j.d.brings e.desc (j.d.fetched e.desc second).2) :
    j.refetch e second = (j.asked e.desc second).fail ccAddressRange := by
  unfold Job.refetch
  dsimp only
  rw [Dev.retrLength_eq _ j.d, if_pos (by simpa [Dev.brings] using h)]
  rfl

variable (h : j.d.brings e.desc (j.d.fetched e.desc second).2)
include h

theorem Job.refetch_poisoned (hc : j.d.carries e.desc (j.d.fetched e.desc second).2) :
    j.refetch e second = (j.asked e.desc second).retrIn e (j.d.fetched e.desc second).2 := by
  unfold Job.refetch
  dsimp only
  rw [Dev.retrLength_eq _ j.d, if_neg (by simpa [Dev.brings] using h), if_pos ((firstRemoteBad_isSome_iff _ _ _).2 hc)]
  rfl

variable (hc : ¬ j.d.carries e.desc (j.d.fetched e.desc second).2)
include hc

theorem Job.refetch_matching (hf : j.d.fits e.desc (j.d.fetched e.desc second).2) :
    j.refetch e second = (((j.asked e.desc second).retrIn e (j.d.fetched e.desc second).2).flag sfRefetched).raise 0x1541
      (fpShard (ofBytes ((j.d.fetched e.desc second).2.record.take 32))) 0 := by
  unfold Job.refetch
  dsimp only
  rw [Dev.retrLength_eq _ j.d, if_neg (by simpa [Dev.brings] using h), if_neg (mt (firstRemoteBad_isSome_iff _ _ _).1 hc)]
  exact if_pos hf

theorem Job.refetch_mismatching (hf : ¬ j.d.fits e.desc (j.d.fetched e.desc second).2) :
    j.refetch e second = (((j.asked e.desc second).retrJunk e).raise 0x2542
      (fpShard (ofBytes ((j.d.fetched e.desc second).2.record.take 32))) 0).fail ccFetchMismatch := by
  unfold Job.refetch
  dsimp only
  rw [Dev.retrLength_eq _ j.d, if_neg (by simpa [Dev.brings] using h), if_neg (mt (firstRemoteBad_isSome_iff _ _ _).1 hc)]
  exact if_neg hf

end

/-- Writing junk leaves the entries but `RETR_BYTES`. -/
theorem Job.retrJunk_get (j : Job) (e : Entry) {i k : Nat} (hc : odKey i k ≠ odKey 0x4050 3) : (j.retrJunk e).d.get i k = j.d.get i k := by
  unfold Job.retrJunk
  dsimp only
  refine (Dev.addWrap_get_ne _ _ _ _ _ _ hc).trans ((Job.sniff_get _ _ _ _ _ _ _).trans ?_)
  exact Dev.writeElems_get _ _ _ _

theorem Job.retrJunk_done (j : Job) (e : Entry) : (j.retrJunk e).done = j.done := by
  unfold Job.retrJunk Job.retrCount
  exact (Job.sniff_done _ _ _ _ _)

theorem Job.raise_done (j : Job) (c a b : Nat) : (j.raise c a b).done = { j.done with event := pickEvent j.done.event c } := by
  unfold Job.raise Job.noteEvent
  rfl

section
variable {j : Job} (e : Entry) (second : RemoteReply) (hj : j.done = Done.init)

/-- A repeat is counted, whatever comes of it. -/
theorem Job.refetch_counts : (j.refetch e second).d.get 0x50A0 8 = min (j.d.get 0x50A0 8 + 1) 0xFFFFFFFF := by
  have hask : (j.asked e.desc second).d.get 0x50A0 8 = min (j.d.get 0x50A0 8 + 1) 0xFFFFFFFF := by
    have hcount := (j.d.fetched e.desc second).1.addSat_get_same (i := 0x50A0) (k := 8) (by decide) 1
    rwa [Dev.fetched_get _ _ _ (by decide) (by decide)] at hcount
  have hin : ((j.asked e.desc second).retrIn e (j.d.fetched e.desc second).2).d.get 0x50A0 8 = (j.asked e.desc second).d.get 0x50A0 8 :=
    Job.retrIn_get _ _ _ (by decide) (by decide) (by decide)
  by_cases h : j.d.brings e.desc (j.d.fetched e.desc second).2
  · by_cases hc : j.d.carries e.desc (j.d.fetched e.desc second).2
    · rw [Job.refetch_poisoned h hc, hin, hask]
    · by_cases hf : j.d.fits e.desc (j.d.fetched e.desc second).2
      · rw [Job.refetch_matching h hc hf, Job.raise_d, Dev.raise_get _ (by decide), Job.flag_d, hin, hask]
      · rw [Job.refetch_mismatching h hc hf, Job.fail_d, Job.raise_d, Dev.raise_get _ (by decide), Job.retrJunk_get _ _ (by decide), hask]
  · rw [Job.refetch_refused h, Job.fail_d, hask]

include hj

theorem Job.asked_done : (j.asked e.desc second).done = Done.init := hj

theorem Job.refetch_refused_code (h : ¬ j.d.brings e.desc (j.d.fetched e.desc second).2) :
    (j.refetch e second).done.code = ccAddressRange := by
  rw [Job.refetch_refused h]
  exact Job.fail_code (congrArg Done.code (Job.asked_done e second hj)) _

variable (h : j.d.brings e.desc (j.d.fetched e.desc second).2)
include h

theorem Job.refetch_poisoned_code (hc : j.d.carries e.desc (j.d.fetched e.desc second).2) :
    (j.refetch e second).done.code = ccPoisoned := by
  rw [Job.refetch_poisoned h hc]
  exact (Job.retrIn_retrieves (Job.asked_done e second hj) e _).poisoned ((Dev.carries_iff _ _ _ _).1 hc)

variable (hc : ¬ j.d.carries e.desc (j.d.fetched e.desc second).2)
include hc

/-- A matching repeat ends with `OK`, the flag REFETCHED and event 0x1541 (08 R250). -/
theorem Job.refetch_matching_done (hf : j.d.fits e.desc (j.d.fetched e.desc second).2) :
    (j.refetch e second).done.code = 0 ∧ (j.refetch e second).done.status = 2 ^ sfRefetched ∧ (j.refetch e second).done.event = 0x1541 := by
  have hdone := (Job.retrIn_retrieves (Job.asked_done e second hj) e (j.d.fetched e.desc second).2).done
    (mt (Dev.carries_iff _ _ _ _).1 hc)
  rw [Job.refetch_matching h hc hf, Job.raise_done, Job.flag, hdone]
  exact ⟨rfl, Nat.zero_or _, rfl⟩

theorem Job.refetch_mismatching_done (hf : ¬ j.d.fits e.desc (j.d.fetched e.desc second).2) :
    (j.refetch e second).done.code = ccFetchMismatch ∧ (j.refetch e second).done.event = 0x2542 := by
  have hdone := (Job.retrJunk_done _ e).trans (Job.asked_done e second hj)
  rw [Job.refetch_mismatching h hc hf, Job.fail, Job.raise_done, hdone]
  exact ⟨rfl, rfl⟩

end

/-! ## The work of the four commands -/

/-- A Retriever command that starts a descriptor ends its work with what `f` leaves. -/
theorem Starts.retrieved {c : Instr} {s : State} {e : Entry} {op : Nat} {f : Dev → Entry → Job} (h : Starts c s e)
    (hc : startedBy c = some (e.id, op)) (hx : exec c s = run s (fun _ d => d.begins e.id op f)) :
    ∃ t pin, Ended c s t e (f (s.dev.markStarted e) (s.dev.startedEntry e)).done
      ∧ t.dev = s.dev.worked e pin (f (s.dev.markStarted e) (s.dev.startedEntry e)) := by
  obtain ⟨id, op', hb, he, -, -, hs, hr⟩ := id h
  obtain ⟨rfl, rfl⟩ : e.id = id ∧ op = op' := by simpa [hc] using hb
  obtain ⟨pin, ht⟩ := h.effect hc (by rw [hx, run, run, Dev.begins_eq f he hs hr])
  exact ⟨_, pin, ⟨ht.answers, pin, rfl⟩, rfl⟩

/-- The work of RETRIEVE_FETCH. -/
def fetchWork (first second : RemoteReply) (d : Dev) (e : Entry) : Job :=
  (Job.start (d.fetched e.desc first).1).fetch e (d.fetched e.desc first).2 second

theorem exec_retrieveFetch (id : Nat) (first second : RemoteReply) (s : State) :
    exec (.retrieveFetch id first second) s = run s (fun _ d => d.begins id 0x34 (fetchWork first second)) := by
  simp only [Dev.begins_retr (.inl rfl)]
  rfl

/-- The work of RETRIEVE_PREFETCH, RETRIEVE_OFFLOAD and RETRIEVE_RESTORE once their sources have been read. -/
def Job.prefetch (j : Job) (e : Entry) : Job :=
  if (j.retrLocal e).done.code = 0 then (j.retrLocal e).dev (fun d => d.setReady (mvShard e.desc) true) else j.retrLocal e

/-- The write requests of an offload leave. -/
def Dev.sendElems (x : Nat) (d : Dev) (l : List MoveElem) : Dev :=
  (gather l).foldl (fun d m => d.emit (.retrieverRequest (mvRemote x) (retrTc x) true m.dst m.bytes m.bytes.length m.poison false)) d

/-- The elements that a descriptor copies from local memory. -/
def Dev.localElems (d : Dev) (x : Nat) : List MoveElem :=
  moveElems x (d.view (mvDst x)) ((grid (mvRows x) (mvCols x)).map (d.localRaw (d.view (mvSrc x)))) (d.localBad (d.view (mvSrc x)))

def Job.offload (j : Job) (e : Entry) (remote : RemoteReply) : Job :=
  if mvRemote e.desc = j.d.self then j.retrLocal e
  else if !remote.served && !(j.d.localElems e.desc).isEmpty then
    (j.moveOut e (j.d.localElems e.desc) (Dev.sendElems e.desc)).fail ccAddressRange
  else ((j.moveOut e (j.d.localElems e.desc) (Dev.sendElems e.desc)).retrCount e.desc).endLocal e (j.d.view (mvSrc e.desc))
    (j.d.localBad (j.d.view (mvSrc e.desc)))

def Job.restore (j : Job) (e : Entry) (remote : RemoteReply) : Job :=
  if mvRemote e.desc = j.d.self then j.retrLocal e
  else if !replyServes remote (j.d.retrLength e.desc) then (j.dev (fun d => d.askRemote e.desc)).fail ccAddressRange
  else (j.dev (fun d => d.askRemote e.desc)).retrIn e remote

/-- Work that begins once the accumulators a descriptor reads have been read. -/
def onceRead (ecc : List EccHit) (f : Job → Entry → Job) (d : Dev) (e : Entry) : Job := f (Job.start (d.eccRead (d.accReads e.desc) ecc)) e

section
variable (id : Nat) (remote : RemoteReply) (ecc : List EccHit) (s : State)

theorem exec_retrievePrefetch :
    exec (.retrievePrefetch id ecc) s = run s (fun _ d => d.begins id 0x35 (onceRead ecc Job.prefetch)) := by
  simp only [Dev.begins_move (op := 0x35) rfl (by decide)]
  rfl

theorem exec_retrieveOffload :
    exec (.retrieveOffload id remote ecc) s = run s (fun _ d => d.begins id 0x36 (onceRead ecc (fun j e => j.offload e remote))) := by
  simp only [Dev.begins_retr (.inr (.inl rfl))]
  rfl

theorem exec_retrieveRestore :
    exec (.retrieveRestore id remote ecc) s = run s (fun _ d => d.begins id 0x37 (onceRead ecc (fun j e => j.restore e remote))) := by
  simp only [Dev.begins_retr (.inr (.inr rfl))]
  rfl

end

/-- How a Retriever descriptor ends on the device `d`. -/
structure Dev.RetrEnds (d : Dev) (x : Nat) (refused bad : Prop) (k : Job) : Prop where
  refuses : refused → k.done.code = ccAddressRange
  poisoned : ¬ refused → bad → k.done.code = ccPoisoned
  done : ¬ refused → ¬ bad → k.done = d.retrDone x
  counts : ¬ refused → ¬ bad → slFmt (mvSrc x) < 7 →
    k.d.get 0x4050 3 = (d.get 0x4050 3 + mvRows x * mvCols x * (d.view (mvSrc x)).fmt.size) % 2 ^ 64

theorem Dev.Retrieves.ends {d : Dev} {x : Nat} {refused bad : Prop} {k : Job} (h : d.Retrieves x bad k) (hr : ¬ refused) :
    d.RetrEnds x refused bad k := ⟨fun q => absurd q hr, fun _ => h.poisoned, fun _ => h.done, fun _ => h.counts⟩

theorem Dev.RetrEnds.of_refused {d : Dev} {x : Nat} {refused bad : Prop} {k : Job} (h : k.done.code = ccAddressRange) (hr : refused) :
    d.RetrEnds x refused bad k := ⟨fun _ => h, fun q => absurd hr q, fun q => absurd hr q, fun q => absurd hr q⟩

theorem Dev.setReady_get (d : Dev) (n : Nat) (on : Bool) (i k : Nat) : (d.setReady n on).get i k = d.get i k := by
  unfold Dev.setReady
  rfl

theorem Dev.setReady_readyBit (d : Dev) (n : Nat) : (d.setReady n true).readyBit n = true := by
  have hbase : (d.setReady n true).readyBase = d.readyBase := d.setReady_get n true 0x50A0 1
  have hnum : (d.setReady n true).num (d.readyBase + n / 8) 1 = setBits (d.num (d.readyBase + n / 8) 1) (n % 8) 1 1 % 2 ^ 8 := by
    unfold Dev.setReady
    exact Dev.wr_num _ _ _ _ _
  rw [Dev.readyBit, hbase, hnum, bit, bits_mod_two_pow (by omega), bits_setBits_same]
  rfl

/-- The work of RETRIEVE_PREFETCH (08 R244). -/
theorem Job.prefetch_ends {j : Job} (hj : j.done = Done.init) (e : Entry) {refused : Prop} (hr : ¬ refused) :
    j.d.RetrEnds e.desc refused (∃ p ∈ grid (mvRows e.desc) (mvCols e.desc), j.d.localBad (j.d.view (mvSrc e.desc)) p = true) (j.prefetch e)
      ∧ ((j.prefetch e).done.code = 0 → (j.prefetch e).d.readyBit (mvShard e.desc) = true) := by
  have hlocal := (Job.retrLocal_retrieves hj e).ends hr
  unfold Job.prefetch
  split
  next h0 =>
    refine ⟨⟨hlocal.refuses, hlocal.poisoned, hlocal.done, fun hn hl hf => ?_⟩, fun _ => Dev.setReady_readyBit _ _⟩
    exact (Dev.setReady_get _ _ _ _ _).trans (hlocal.counts hn hl hf)
  next h0 => exact ⟨hlocal, fun h => absurd h h0⟩

theorem Dev.sendElems_get (x : Nat) (d : Dev) (l : List MoveElem) (i k : Nat) : (Dev.sendElems x d l).get i k = d.get i k :=
  foldl_keeps (g := fun d : Dev => d.get i k)
    (f := fun d (m : MoveElem) => d.emit (.retrieverRequest (mvRemote x) (retrTc x) true m.dst m.bytes m.bytes.length m.poison false))
    (fun _ _ => rfl) _ d

theorem Dev.localElems_isEmpty (d : Dev) (x : Nat) : (d.localElems x).isEmpty = true ↔ mvRows x * mvCols x = 0 := by
  rw [List.isEmpty_iff_length_eq_zero, Dev.localElems, moveElems, List.length_map, List.length_zip, List.length_map, length_grid, min_self]

/-- The work of RETRIEVE_OFFLOAD: a destination that serves no element at all refuses nothing. -/
theorem Job.offload_ends {j : Job} (hj : j.done = Done.init) (e : Entry) (remote : RemoteReply) :
    j.d.RetrEnds e.desc (¬ mvRemote e.desc = j.d.self ∧ remote.served = false ∧ mvRows e.desc * mvCols e.desc ≠ 0)
      (∃ p ∈ grid (mvRows e.desc) (mvCols e.desc), j.d.localBad (j.d.view (mvSrc e.desc)) p = true) (j.offload e remote) := by
  have hrefused : (!remote.served && !(j.d.localElems e.desc).isEmpty) = true
      ↔ remote.served = false ∧ mvRows e.desc * mvCols e.desc ≠ 0 := by
    rw [Bool.and_eq_true, Bool.not_eq_true', Bool.not_eq_true', Bool.eq_false_iff (b := List.isEmpty _), Ne, Dev.localElems_isEmpty]
  unfold Job.offload
  split
  next hs => exact (Job.retrLocal_retrieves hj e).ends fun q => q.1 hs
  next hs =>
    split
    next hn => exact .of_refused (Job.fail_code ((Job.moveOut_code _ _ _ _).trans (congrArg Done.code hj)) _) ⟨hs, hrefused.1 hn⟩
    next hn =>
      refine (Job.moved_retrieves hj e _ _ ?_ (fun d l => Dev.sendElems_get e.desc d l _ _) (Job.endLocal_moveEnd _ e _ _)).ends
        fun q => hn (hrefused.2 q.2)
      rw [List.length_map, length_grid]

/-- Asking leaves the entries. -/
theorem Dev.askRemote_get (d : Dev) (x i k : Nat) : (d.askRemote x).get i k = d.get i k := by
  rw [Dev.askRemote_eq]
  rfl

/-- A transfer may be said to begin on any device with the same `RETR_BYTES`. -/
theorem Dev.Retrieves.of_get {a b : Dev} {x : Nat} {lost : Prop} {k : Job} (h : a.Retrieves x lost k) (hg : a.get 0x4050 3 = b.get 0x4050 3) :
    b.Retrieves x lost k := by
  obtain ⟨j, hdone, hcount, hend⟩ := h
  exact ⟨j, hdone, by rw [hcount, hg], hend⟩

/-- The work of RETRIEVE_RESTORE. -/
theorem Job.restore_ends {j : Job} (hj : j.done = Done.init) (e : Entry) (remote : RemoteReply) :
    j.d.RetrEnds e.desc (¬ mvRemote e.desc = j.d.self ∧ replyServes remote (j.d.retrLength e.desc) = false)
      (∃ p ∈ grid (mvRows e.desc) (mvCols e.desc), if mvRemote e.desc = j.d.self
        then j.d.localBad (j.d.view (mvSrc e.desc)) p = true else remoteBad (j.d.view (mvSrc e.desc)) remote.marks p = true)
      (j.restore e remote) := by
  unfold Job.restore
  by_cases hs : mvRemote e.desc = j.d.self
  · simp only [if_pos hs]
    exact (Job.retrLocal_retrieves hj e).ends fun q => q.1 hs
  · have hask : (j.dev (fun d => d.askRemote e.desc)).done = Done.init := hj
    simp only [if_neg hs]
    split
    next hn => exact .of_refused (Job.fail_code (congrArg Done.code hask) _) ⟨hs, by simpa using hn⟩
    next hn =>
      have hin := (Job.retrIn_retrieves hask e remote).of_get (b := j.d) (j.d.askRemote_get e.desc _ _)
      simp only [remoteBad, Dev.view_stride, Dev.view_fmt] at hin ⊢
      exact hin.ends fun q => hn (by simpa using q.2)

/-! ## O27 -/

/-- Each of the three commands ends as its work does. -/
theorem Starts.retrieving {remote : RemoteReply} {ecc : List EccHit} {c : Instr} {s : State} {e : Entry}
    (hc : c = .retrievePrefetch e.id ecc ∨ c = .retrieveOffload e.id remote ecc ∨ c = .retrieveRestore e.id remote ecc) (h : Starts c s e) :
    let x := e.desc
    let d := s.dev.begun e ecc
    let here := c = .retrievePrefetch e.id ecc ∨ mvRemote x = d.self
    let refused := ¬ here ∧ (if c = .retrieveOffload e.id remote ecc then remote.served = false ∧ mvRows x * mvCols x ≠ 0
      else replyServes remote (d.retrLength x) = false)
    let bad := ∃ p ∈ grid (mvRows x) (mvCols x), if ¬ here ∧ c = .retrieveRestore e.id remote ecc
      then remoteBad (d.view (mvSrc x)) remote.marks p = true else d.localBad (d.view (mvSrc x)) p = true
    ∃ t pin k, Ended c s t e k.done ∧ t.dev = s.dev.worked e pin k ∧ d.RetrEnds x refused bad k
      ∧ (c = .retrievePrefetch e.id ecc → k.done.code = 0 → k.d.readyBit (mvShard x) = true) := by
  intro x d here refused bad
  have hd : (s.dev.markStarted e).eccRead ((s.dev.markStarted e).accReads (s.dev.startedEntry e).desc) ecc = d :=
    s.dev.eccRead_markStarted e ecc
  have hj : (Job.start d).done = Done.init := rfl
  obtain rfl | rfl | rfl := hc
  · obtain ⟨t, pin, hended, hkept⟩ := h.retrieved rfl (exec_retrievePrefetch _ _ _)
    rw [onceRead, hd] at hended hkept
    obtain ⟨hends, hready⟩ := Job.prefetch_ends hj (s.dev.startedEntry e) (refused := refused) fun q => q.1 (.inl rfl)
    refine ⟨t, pin, _, hended, hkept, ?_, fun _ => hready⟩
    simpa [bad, here] using hends
  · obtain ⟨t, pin, hended, hkept⟩ := h.retrieved rfl (exec_retrieveOffload _ _ _ _)
    rw [onceRead, hd] at hended hkept
    have hends := Job.offload_ends hj (s.dev.startedEntry e) remote
    refine ⟨t, pin, _, hended, hkept, ?_, fun q => by cases q⟩
    simpa [refused, bad, here] using hends
  · obtain ⟨t, pin, hended, hkept⟩ := h.retrieved rfl (exec_retrieveRestore _ _ _ _)
    rw [onceRead, hd] at hended hkept
    have hends := Job.restore_ends hj (s.dev.startedEntry e) remote
    refine ⟨t, pin, _, hended, hkept, ?_, fun q => by cases q⟩
    by_cases hs : mvRemote e.desc = d.self
    · simpa [refused, bad, here, x, hs] using hends
    · simpa [refused, bad, here, x, hs] using hends

/-- Settles O27: a fetch by what its first reply brings (`Job.fetch_refused`, `Job.fetch_taken`, `Job.fetch_repeated`), the other three by
`Starts.retrieving`. -/
theorem retrieverDescriptorsEnd : Obligations.RetrieverDescriptorsEnd := by
  unfold Obligations.RetrieverDescriptorsEnd
  refine ⟨?_, fun d x r => ⟨fun hn => ?_, d.fetched_self x r⟩, ?_⟩
  · intro first second s e h x q d r1 r2 v ok bad fits bytes
    obtain ⟨t, pin, hended, hdev⟩ := h.retrieved rfl (exec_retrieveFetch _ _ _ _)
    let j := Job.start d
    let e' := s.dev.startedEntry e
    have hj : j.done = Done.init := rfl
    have hin := Job.retrIn_retrieves hj e' r1
    change Ended _ s t e (j.fetch e' r1 second).done at hended
    change t.dev = s.dev.worked e pin (j.fetch e' r1 second) at hdev
    refine ⟨t, _, hended, fun ho => ?_, fun ho hb => ?_, fun ho hb hm => ?_, fun ho hb ha hf => ?_⟩
    · rw [Job.fetch_refused (j := j) (e := e') ho] at hdev ⊢
      refine ⟨rfl, ?_, ?_⟩
      · rw [hdev]
        exact Dev.fetched_mem _ _ _
      · rw [hdev]
        rfl
    · rw [Job.fetch_taken (j := j) (e := e') ho (.inl hb)]
      exact hin.poisoned hb
    · rw [Job.fetch_taken (j := j) (e := e') ho (.inr hm), hin.done hb]
      exact ⟨rfl, rfl⟩
    · rw [Job.fetch_repeated (j := j) (e := e') ho hb ha hf] at hdev ⊢
      have hcount := Job.refetch_counts (j := j) e' second
      rw [Job.start_d, Dev.fetched_get _ _ _ (by decide) (by decide)] at hcount
      refine ⟨?_, fun ho2 => ?_, fun ho2 hb2 => ?_, fun ho2 hb2 hf2 => ?_, fun ho2 hb2 hf2 => ?_⟩
      · rw [hdev]
        exact hcount
      · exact Job.refetch_refused_code e' second hj ho2
      · exact Job.refetch_poisoned_code e' second hj ho2 hb2
      · exact Job.refetch_matching_done e' second hj ho2 hb2 hf2
      · exact Job.refetch_mismatching_done e' second hj ho2 hb2 hf2
  · rw [Dev.fetched_remote d x r hn, Dev.askRemote_eq]
    exact ⟨rfl, rfl⟩
  · intro remote ecc c s e hc h x d here moved refused bad
    obtain ⟨t, pin, k, hended, hdev, hends, hready⟩ := h.retrieving hc
    refine ⟨t, _, hended, hends.refuses, hends.poisoned, fun hn hb => ?_⟩
    have hdone := hends.done hn hb
    refine ⟨by rw [hdone]; rfl, by rw [hdone]; rfl, fun hf => ?_, fun hp => ?_⟩
    · rw [hdev]
      exact hends.counts hn hb hf
    · rw [hdev]
      exact hready hp (by rw [hdone]; rfl)

end Sys2Proof.Machine
end

section
/-! PROOF. What the sending of flits leaves of the ports (10 R298, R306, R307, R317, R320): their states, and the replay buffers of those that
carry no DATA flits. -/

namespace Sys2Proof.Machine

/-- The state of every port, and the replay buffer of each that carries no DATA flits. -/
def Dev.linkView (d : Dev) (q : Nat) : LinkState × List (Flit × Nat) :=
  ((d.port q).state, if (d.port q).state.carries then [] else (d.port q).txBuf)

/-- A port without a replay buffer (10 R320). -/
def Dev.unbuffered (d : Dev) (p : Nat) : Dev := d.setPort p { d.port p with txBuf := [] }

theorem Dev.unbuffered_port (d : Dev) (p q : Nat) :
    (d.unbuffered p).port q = if q = p then { d.port p with txBuf := [] } else d.port q := Dev.setPort_port _ _ _ _

theorem Dev.linkView_of_ports {a b : Dev} (h : a.ports = b.ports) : a.linkView = b.linkView := by
  funext q
  have hq : a.port q = b.port q := congrArg (fun m => sget (fun _ => Port.init) m q) h
  rw [Dev.linkView, Dev.linkView, hq]

theorem Dev.state_of_linkView {a b : Dev} (h : a.linkView = b.linkView) (q : Nat) : (a.port q).state = (b.port q).state :=
  congrArg (fun v => (v q).1) h

/-- A port that carries no DATA flits keeps its buffer. -/
theorem Dev.txBuf_of_linkView {a b : Dev} (h : a.linkView = b.linkView) {q : Nat} (hq : (b.port q).state.carries = false) :
    (a.port q).txBuf = (b.port q).txBuf := by
  have hv := congrArg (fun v => (v q).2) h
  simpa [Dev.linkView, Dev.state_of_linkView h, hq] using hv

section
variable (d : Dev)

/-- A port is replaced by one of the same state, with the same buffer where it carries no DATA flits. -/
theorem Dev.setPort_linkView {p : Nat} {x : Port} (hs : x.state = (d.port p).state) (hb : x.state.carries = true ∨ x.txBuf = (d.port p).txBuf) :
    (d.setPort p x).linkView = d.linkView := by
  funext q
  rw [Dev.linkView, Dev.linkView, Dev.setPort_port]
  split
  · next hq =>
    subst hq
    rw [← hs]
    obtain hc | hb := hb
    · rw [if_pos hc, if_pos hc]
    · rw [hb]
  · rfl

/-! ## Flits -/

@[simp] theorem Dev.control_ports (p t : Nat) (l : List Byte) : (d.control p t l).ports = d.ports := rfl
@[simp] theorem Dev.linkCtrl_ports (p : Nat) (nak : Option Nat) (credit : Nat → Nat) : (d.linkCtrl p nak credit).ports = d.ports := rfl

theorem Dev.giveCredit_linkView (p c : Nat) : (d.giveCredit p c).linkView = d.linkView := by
  unfold Dev.giveCredit
  dsimp only
  split
  · exact Dev.linkView_of_ports rfl
  · split
    · exact d.setPort_linkView rfl (.inr rfl)
    · rfl

theorem Dev.carries_of_canSend {p : Nat} {f : Flit} (h : d.canSend p f = true) : (d.port p).state.carries = true := by
  unfold Dev.canSend at h
  simp only [Bool.and_eq_true, Bool.or_eq_true, beq_iff_eq] at h
  obtain ⟨⟨⟨hs, -⟩, -⟩, -⟩ := h
  obtain hs | ⟨hs, -⟩ := hs <;> rw [hs] <;> rfl

/-- A flit leaves by a port that may send it. -/
theorem Dev.transmit_linkView {a : Dev} {p : Nat} {f g : Flit} (chunk : Nat) (hp : a.ports = d.ports) (h : d.canSend p g = true) :
    (a.transmit p f chunk).linkView = d.linkView := by
  have hport : a.port p = d.port p := congrArg (fun m => sget (fun _ => Port.init) m p) hp
  have hx : (a.transmit p f chunk).linkView = a.linkView :=
    (Dev.linkView_of_ports rfl).trans (a.setPort_linkView rfl (.inl (hport ▸ d.carries_of_canSend h)))
  exact hx.trans (Dev.linkView_of_ports hp)

theorem Dev.returnCredit_linkView (w : Waiting) : (d.returnCredit w).linkView = d.linkView := by
  unfold Dev.returnCredit
  dsimp only
  split
  · split
    · exact d.giveCredit_linkView _ _
    · rfl
  · rfl

/-- A flit that leaves by a port was one that the port may send. -/
theorem Dev.canSend_of_mem_heads {p : Nat} {x : Waiting × Flit} (h : x ∈ d.heads p) : d.canSend p x.2 = true := by
  unfold Dev.heads at h
  exact (List.mem_filter.1 h).2

theorem Dev.canSend_of_overdue {p : Nat} {x : Waiting × Flit} (h : d.overdue p = some x) : d.canSend p x.2 = true := by
  obtain ⟨w, -, hw⟩ := List.exists_of_findSome?_eq_some h
  split at hw
  · split at hw
    · next hc =>
      cases hw
      simp only [Bool.and_eq_true] at hc
      exact hc.2
    · cases hw
  · cases hw

theorem Dev.pumpBest_linkView {d d' : Dev} {p : Nat} (h : d.pumpBest p = some d') : d'.linkView = d.linkView := by
  unfold Dev.pumpBest at h
  dsimp only at h
  split at h
  · cases h
  · split at h
    · cases h
    · split at h
      · cases h
      · next hfind =>
        cases h
        have hmem := (List.mem_filter.1 (List.mem_of_find?_eq_some hfind)).1
        exact (Dev.returnCredit_linkView _ _).trans (d.transmit_linkView _ rfl (d.canSend_of_mem_heads hmem))

theorem Dev.pumpOnce_linkView {d d' : Dev} {p : Nat} (h : d.pumpOnce p = some d') : d'.linkView = d.linkView := by
  unfold Dev.pumpOnce at h
  split at h
  · cases h
  · split at h
    · next hdue =>
      cases h
      exact d.transmit_linkView _ rfl (d.canSend_of_overdue hdue)
    · exact Dev.pumpBest_linkView h

theorem Dev.pump_linkView (p n : Nat) : (d.pump p n).linkView = d.linkView := by
  induction n generalizing d with
  | zero => rfl
  | succ n ih =>
    rw [Dev.pump]
    split
    · next h => rw [ih, Dev.pumpOnce_linkView h]
    · rfl

theorem Dev.pumpAll_linkView : d.pumpAll.linkView = d.linkView :=
  foldl_keeps (g := Dev.linkView) (f := fun d p => d.pump p d.waiting.length) (fun d p => d.pump_linkView p _) (below 6) d

/-! ## Chunks handed over (10 R320; 11 R367) -/

theorem Dev.originate_ports (f : Flit) (chunk : Nat) : (d.originate f chunk).ports = d.ports := by
  unfold Dev.originate
  dsimp only
  split
  · rfl
  · split <;> rfl

theorem Dev.sendKept_linkView (k : Kept) (tc : Nat) (sched detour : Bool) : (d.sendKept k tc sched detour).linkView = d.linkView := by
  unfold Dev.sendKept
  rw [Dev.pumpAll_linkView]
  exact Dev.linkView_of_ports (foldl_keeps (g := Dev.ports) (fun d f => d.originate_ports f _) _ _)

theorem Dev.noteDetour_ports (owner : Option Nat) : (d.noteDetour owner).ports = d.ports := rfl

theorem Dev.detourChunk_linkView (key : Nat) : (d.detourChunk key).linkView = d.linkView := by
  unfold Dev.detourChunk
  split
  · split
    · exact (Dev.linkView_of_ports (Dev.noteDetour_ports _ _)).trans (d.sendKept_linkView _ _ _ _)
    · rfl
  · rfl

/-- After the hand-over the port's buffer is empty; nothing else of the ports changes that no port in use sends. -/
theorem Dev.handOver_linkView (p : Nat) : (d.handOver p).linkView = (d.unbuffered p).linkView := by
  unfold Dev.handOver
  extract_lets x keys others y z
  rw [Dev.pumpAll_linkView, foldl_keeps (g := Dev.linkView) (fun d k => d.detourChunk_linkView k)]
  have hz : z.linkView = y.linkView := Dev.linkView_of_ports rfl
  rw [hz]
  funext q
  rw [Dev.linkView, Dev.linkView, Dev.unbuffered_port, Dev.setPort_port]
  split <;> rfl

/-- A port whose state before was `a`'s, unbuffered. -/
theorem Dev.unbuffered_linkView {a b : Dev} (h : a.linkView = b.linkView) (p : Nat) : (a.unbuffered p).linkView = (b.unbuffered p).linkView := by
  funext q
  have hq := congrFun h q
  rw [Dev.linkView, Dev.linkView] at hq ⊢
  rw [a.unbuffered_port, b.unbuffered_port]
  split
  · next hp => rw [← hp, (Prod.mk.inj hq).1]
  · exact hq

theorem Dev.endStreams_ports (p : Nat) : (d.endStreams p).ports = d.ports := rfl

theorem Dev.freshLink_linkView (p : Nat) : (d.freshLink p).linkView = (d.unbuffered p).linkView := by
  unfold Dev.freshLink
  extract_lets x y
  rw [Dev.handOver_linkView]
  exact Dev.unbuffered_linkView ((Dev.linkView_of_ports (y.endStreams_ports p)).trans (d.setPort_linkView rfl (.inr rfl))) p

/-! ## Howls (12 R374, R375) -/

theorem Dev.howlOn_linkView (f : Flit) (p : Nat) : (d.howlOn f p).linkView = d.linkView := by
  unfold Dev.howlOn
  split
  · rfl
  · split
    · exact Dev.linkView_of_ports rfl
    · split
      · next hsend =>
        simp only [Bool.and_eq_true] at hsend
        exact d.transmit_linkView _ rfl hsend.1
      · exact Dev.linkView_of_ports rfl

theorem Dev.howl_linkView (kind port subject event step : Nat) (v : Bool) :
    (d.howl kind port subject v event step).linkView = d.linkView := by
  unfold Dev.howl
  split
  · rfl
  · extract_lets seq x y w f
    exact (foldl_keeps (g := Dev.linkView) (fun d p => d.howlOn_linkView f p) (below 6) y).trans
      (Dev.linkView_of_ports (Dev.note_ports _ _ _ _))

end

end Sys2Proof.Machine
end

section
/-! PROOF. How a port changes its state (10 R297, R319, R320, R322): the move itself, RETRAIN, DOWN, and O42. -/

namespace Sys2Proof.Machine

section
variable (d : Dev)

/-! ## A move to another state -/

theorem Dev.unqualify_ports (p : Nat) : (d.unqualify p).ports = d.ports := by unfold Dev.unqualify; split <;> rfl

theorem Dev.setLink_of_ne {p : Nat} {st : LinkState} (h : (d.port p).state ≠ st) :
    d.setLink p st = (d.moved p st).note 1 (p * 256 + st.code) (d.port p).nbLoc := by
  unfold Dev.setLink
  exact if_neg h

theorem Dev.setLink_sameButNotices {p : Nat} {st : LinkState} (h : (d.port p).state ≠ st) :
    (d.setLink p st).SameButNotices (d.moved p st) := by
  rw [d.setLink_of_ne h]
  exact ⟨Dev.note_mute _ _ _ _, fun i k hk => Dev.note_get _ hk _ _ _⟩

theorem Dev.moved_port (p q : Nat) (st : LinkState) :
    (d.moved p st).port q = if q = p then { d.port p with state := st, since := d.now } else d.port q := by
  have hq : (d.moved p st).port q = (d.setPort p { d.port p with state := st, since := d.now }).port q :=
    congrArg (fun m => sget (fun _ => Port.init) m q) (Dev.unqualify_ports _ p)
  rw [hq, Dev.setPort_port]

theorem Dev.setLink_port {p : Nat} {st : LinkState} (h : (d.port p).state ≠ st) :
    (d.setLink p st).port p = { d.port p with state := st, since := d.now } := by
  rw [d.setLink_of_ne h, Dev.note_port_at, Dev.moved_port, if_pos rfl]

theorem Dev.setLink_state (p : Nat) (st : LinkState) : ((d.setLink p st).port p).state = st := by
  by_cases h : (d.port p).state = st
  · unfold Dev.setLink
    rw [if_pos h, h]
  · rw [d.setLink_port h]

theorem Dev.setLink_port_ne (st : LinkState) {p q : Nat} (h : q ≠ p) : (d.setLink p st).port q = d.port q := by
  obtain ⟨-, -, -, hport, -⟩ := d.setLink_keeps p st
  exact hport q h

/-! ## The counters of a port (10 R323, R326) -/

/-- The saturating counters of a port hold 32 bits. -/
theorem odSize_portCount (p : Fin 6) {sub : Nat} (h : sub ∈ [3, 4, 5, 6, 7, 8]) : odSize (odKey (0x3020 + p) sub) = 4 := by
  have hall : ∀ p : Fin 6, ∀ sub ∈ [3, 4, 5, 6, 7, 8], odSize (odKey (0x3020 + p) sub) = 4 := by decide +kernel
  exact hall p sub h

theorem Dev.portCount_ports (p sub n : Nat) : (d.portCount p sub n).ports = d.ports := by
  unfold Dev.portCount
  dsimp only
  split <;> rfl

theorem Dev.portCount_counts (p : Fin 6) {sub : Nat} (n : Nat) (h : sub ∈ [3, 4, 5, 6, 7, 8]) :
    (d.portCount p sub n).get (0x3020 + p) sub = min (d.get (0x3020 + p) sub + n) 0xFFFFFFFF := by
  have hcount := d.addSat_get_same (odSize_portCount p h) n
  have hne : odKey (0x3020 + p) sub ≠ odKey 0x3015 1 := by
    have hp := p.isLt
    simp only [List.mem_cons, List.not_mem_nil, or_false] at h
    unfold odKey
    omega
  unfold Dev.portCount
  dsimp only
  split
  · exact (Dev.put_get_ne _ _ _ _ _ _ hne).trans hcount
  · exact hcount

/-! ## RETRAIN (10 R319) -/

/-- A port as it enters RETRAIN. -/
def Port.retrained (x : Port) (now : Nat) : Port :=
  { x with state := .retrain, since := now, retraining := some now, wasActive := x.state == .active, replaysInRow := 0, uncorr := [] }

theorem Dev.enterRetrain_port {p : Nat} (h : (d.port p).state ≠ .retrain) : (d.enterRetrain p).port p = (d.port p).retrained d.now := by
  unfold Dev.enterRetrain
  extract_lets x y
  have hy : y.port p = { x with retraining := some d.now, wasActive := x.state == .active, replaysInRow := 0, uncorr := [] } :=
    Dev.setPort_port_same _ _ _
  have hne : (y.port p).state ≠ .retrain := by rw [hy]; exact h
  have hcount : ((y.setLink p .retrain).portCount p 5 1).port p = (y.setLink p .retrain).port p :=
    congrArg (fun m => sget (fun _ => Port.init) m p) (Dev.portCount_ports _ p 5 1)
  rw [hcount, y.setLink_port hne, hy]
  rfl

theorem Dev.enterRetrain_port_ne {p q : Nat} (h : q ≠ p) : (d.enterRetrain p).port q = d.port q := by
  unfold Dev.enterRetrain
  extract_lets x y
  have hcount : ((y.setLink p .retrain).portCount p 5 1).port q = (y.setLink p .retrain).port q :=
    congrArg (fun m => sget (fun _ => Port.init) m q) (Dev.portCount_ports _ p 5 1)
  rw [hcount, y.setLink_port_ne _ h]
  exact (Dev.setPort_port _ _ _ _).trans (if_neg h)

/-- The count of RETRAINs of a port (10 R323). -/
theorem Dev.enterRetrain_counts (p : Fin 6) :
    (d.enterRetrain p).get (0x3020 + p) 5 = min (d.get (0x3020 + p) 5 + 1) 0xFFFFFFFF := by
  have hnotice : odKey (0x3020 + p) 5 ∉ noticeKeys := by
    have hp := p.isLt
    simp only [noticeKeys, odKey, List.mem_cons, List.not_mem_nil, or_false]
    omega
  unfold Dev.enterRetrain
  extract_lets x y
  obtain ⟨-, -, -, -, hget⟩ := y.setLink_keeps p .retrain
  rw [Dev.portCount_counts _ p 1 (by decide), hget _ _ hnotice]
  rfl

/-! ## DOWN (10 R320) -/

theorem Dev.lostHowl_linkView (p event : Nat) : (d.lostHowl p event).linkView = d.linkView := d.howl_linkView _ _ _ _ _ _

/-- DOWN, after the Howl and the hand-over: the port holds no flit, and no other port has changed its state. -/
theorem Dev.goDown_down (p : Nat) :
    ((d.goDown p).port p).state = .down ∧ ((d.goDown p).port p).txBuf = [] ∧ ((d.goDown p).port p).retraining = none
      ∧ ∀ q, q ≠ p → ((d.goDown p).port q).state = (d.port q).state := by
  unfold Dev.goDown
  extract_lets y z w
  have hz : z.linkView = y.linkView :=
    ((y.raise 0x2806 p 0).lostHowl_linkView p 0x2806).trans (Dev.linkView_of_ports (y.raise_ports _ _ _))
  have hw : w.linkView = (z.unbuffered p).linkView := z.freshLink_linkView p
  have hstate : (z.port p).state = .down := (Dev.state_of_linkView hz p).trans (d.setLink_state p .down)
  have hrest : ∀ q, q ≠ p → (z.port q).state = (d.port q).state := fun q hq =>
    (Dev.state_of_linkView hz q).trans (congrArg Port.state (d.setLink_port_ne .down hq))
  clear_value w z
  have hclosed : (z.unbuffered p).port p = { z.port p with txBuf := [] } := (z.unbuffered_port p p).trans (if_pos rfl)
  have hdown : (w.port p).state = .down := by
    rw [Dev.state_of_linkView hw p, hclosed]
    exact hstate
  have hempty : (w.port p).txBuf = [] := by
    rw [Dev.txBuf_of_linkView hw (by rw [hclosed, hstate]; rfl), hclosed]
  have hothers : ∀ q, q ≠ p → (w.port q).state = (d.port q).state := fun q hq => by
    rw [Dev.state_of_linkView hw q, z.unbuffered_port, if_neg hq, hrest q hq]
  rw [Dev.setPort_port_same]
  refine ⟨hdown, hempty, rfl, fun q hq => ?_⟩
  rw [Dev.setPort_port, if_neg hq]
  exact hothers q hq

/-! ## REDISCOVER (10 R318) -/

theorem Dev.rediscover_port (p : Nat) : ((d.rediscover p).port p).state = .discover
    ∧ ((d.port p).state ≠ .discover → ((d.rediscover p).port p).round1 = false
      ∧ ((d.rediscover p).port p).retraining = (d.port p).retraining) := by
  unfold Dev.rediscover
  extract_lets x y
  have hy : y.port p = { x with wasActive := x.state == .active, round1 := false, verdict := 0, discSent := none } :=
    Dev.setPort_port_same _ _ _
  refine ⟨y.setLink_state p .discover, fun h => ?_⟩
  rw [y.setLink_port (by rw [hy]; exact h), hy]
  exact ⟨rfl, rfl⟩

theorem Dev.rediscover_port_ne {p q : Nat} (h : q ≠ p) : (d.rediscover p).port q = d.port q := by
  unfold Dev.rediscover
  extract_lets x y
  rw [y.setLink_port_ne _ h]
  exact (Dev.setPort_port _ _ _ _).trans (if_neg h)

/-! ## `PORT_CTRL` (10 R322) -/

theorem LinkState.between_iff (st : LinkState) : st.between = true ↔ st ≠ .disabled ∧ st ≠ .down := by
  cases st <;> decide

/-- A write of `PORT_CTRL`, by rank. -/
theorem Dev.portCtrl_eq (p v : Nat) :
    let st := (d.port p).state
    let up := st = .active ∨ st = .quarantine
    d.portCtrl p v = if bit v 3 = true ∧ st ≠ .disabled ∧ st ≠ .down then some (d.goDown p)
      else if bit v 2 = true ∧ st = .down then some (d.setLink p .detect)
      else if bit v 1 = true ∧ up then some (d.enterRetrain p)
      else if bit v 0 = true ∧ up then some (d.rediscover p) else none := by
  simp only [Dev.portCtrl, Bool.and_eq_true, LinkState.between_iff, beq_iff_eq, Bool.or_eq_true]

theorem Dev.asked_port (who : Requester) (q : Nat) : (d.asked who).port q = d.port q := Dev.of_mute_port_at (d.asked_mute who) q
theorem Dev.asked_now (who : Requester) : (d.asked who).now = d.now := Dev.of_mute_now (d.asked_mute who)

end

/-- The four commands write `PORT_CTRL` (10 R322). -/
theorem exec_portCommand {who : Requester} {p : Fin 6} {also : BitVec 4} {c : Instr} {v : Nat}
    (h : (c = .forceDown who p also ∧ v = (also.toNat ||| 8)) ∨ (c = .rearm who p also ∧ v = (also.toNat ||| 4))
      ∨ (c = .retrain who p also ∧ v = (also.toNat ||| 2)) ∨ (c = .rediscover who p also ∧ v = (also.toNat ||| 1))) (s : State) :
    exec c s = runF s (fun fuse d => d.writeIn fuse who 0x3011 (p.val + 1) v true none) ∧ v < 16 := by
  have hlt : ∀ n < 16, also.toNat ||| n < 16 := fun n hn => Nat.or_lt_two_pow (n := 4) also.isLt hn
  obtain ⟨rfl, rfl⟩ | ⟨rfl, rfl⟩ | ⟨rfl, rfl⟩ | ⟨rfl, rfl⟩ := h
  · exact ⟨rfl, hlt 8 (by decide)⟩
  · exact ⟨rfl, hlt 4 (by decide)⟩
  · exact ⟨rfl, hlt 2 (by decide)⟩
  · exact ⟨rfl, hlt 1 (by decide)⟩

theorem Dev.actingEntry_portCtrl (d : Dev) (fuse : Nat) (flashOk : Bool) (p v : Nat) :
    d.actingEntry fuse flashOk 0x3011 (p + 1) v = some (.of d (d.portCtrl p v)) := by
  unfold Dev.actingEntry
  rw [if_neg (by omega), if_neg (by omega), if_pos rfl, Nat.add_sub_cancel]

theorem entrySize_portCtrl : ∀ p : Fin 6, entrySize 0x3011 (p.val + 1) = 1 := by decide +kernel

theorem portCtrl_value (p : Fin 6) {v : Nat} (hv : v < 16) : v % 2 ^ (8 * entrySize 0x3011 (p.val + 1)) = v := by
  rw [entrySize_portCtrl]
  exact Nat.mod_eq_of_lt (by omega)

/-- A granted write of `PORT_CTRL` is refused where no command applies, and else does what the command does. -/
theorem portCtrl_write {c : Instr} {who : Requester} {p : Fin 6} {v : Nat} {s : State}
    (hx : exec c s = runF s (fun fuse d => d.writeIn fuse who 0x3011 (p.val + 1) v true none)) (hv : v < 16)
    (hg : s.dev.Grants who 0x3011 (p.val + 1)) :
    ((s.dev.asked who).portCtrl p v = none → Declined c who s 0x3011 (p.val + 1))
      ∧ ∀ x, (s.dev.asked who).portCtrl p v = some x → Accepted c s 0x3011 (p.val + 1) x := by
  have hp := p.isLt
  refine granted_write hx (by decide) (by omega) (by omega) (by omega) (by omega) hg ?_
  rw [portCtrl_value p hv]
  exact Dev.actingEntry_portCtrl _ _ _ _ _

/-- The answer to a write changes no port and no entry. -/
theorem Accepted.leaves {c : Instr} {s : State} {i k : Nat} {x : Dev} (h : Accepted c s i k x) :
    ∃ t, Does c s t i k ∧ (∀ q, t.dev.port q = x.port q) ∧ (∀ j n, t.dev.get j n = x.get j n) ∧ t.dev.mute = x.mute :=
  ⟨_, h.does, fun _ => rfl, fun _ _ => rfl, rfl⟩

/-- Settles O42: the command is the one that `Dev.portCtrl_eq` ranks first, and each does to the ports what is said of it above. -/
theorem portCommandsMovePorts : Obligations.PortCommandsMovePorts := by
  unfold Obligations.PortCommandsMovePorts
  intro who p also c v s hc hg x up others down rearm
  obtain ⟨hexec, hv⟩ := exec_portCommand hc s
  obtain ⟨hno, hyes⟩ := portCtrl_write hexec hv hg
  have hnow := s.dev.asked_now who
  have hport := s.dev.asked_port who
  have hcount := s.dev.asked_get_ne who (i := 0x3020 + p) (j := 5) (by unfold odKey; omega)
  rw [Dev.portCtrl_eq, hport] at hno hyes
  generalize s.dev.asked who = a at *
  refine ⟨fun h => ?_, fun h1 h => ?_, fun h1 h2 hb hu => ?_, fun h1 h2 hb1 hb hu => ?_, fun h1 h2 h => ?_⟩
  · obtain ⟨t, hdoes, htport, -, -⟩ := (hyes _ (if_pos h)).leaves
    obtain ⟨hdown, hempty, hidle, hothers⟩ := a.goDown_down p
    refine ⟨t, hdoes, ?_, ?_, ?_, fun q hq => ?_⟩
    · rw [htport, hdown]
    · rw [htport, hempty]
    · rw [htport, hidle]
    · rw [htport, hothers q hq, hport]
  · have hne : (a.port p).state ≠ .detect := by
      rw [hport, h.2]
      decide
    obtain ⟨t, hdoes, htport, htget, htmute⟩ := (hyes _ ((if_neg h1).trans (if_pos h))).leaves
    obtain ⟨hmute, hget⟩ := a.setLink_sameButNotices hne
    refine ⟨t, hdoes, ?_, fun q hq => ?_, htmute.trans hmute, fun i k hk => (htget i k).trans (hget i k hk)⟩
    · rw [htport, a.setLink_port hne, hport, hnow]
    · rw [htport, a.setLink_port_ne .detect hq, hport]
  · have hne : (a.port p).state ≠ .retrain := by
      rw [hport]
      obtain hu | hu := hu <;> rw [hu] <;> decide
    obtain ⟨t, hdoes, htport, htget, -⟩ := (hyes _ ((if_neg h1).trans ((if_neg h2).trans (if_pos ⟨hb, hu⟩)))).leaves
    have hp := a.enterRetrain_port hne
    refine ⟨t, hdoes, ?_, ?_, ?_, fun q hq => ?_⟩
    · rw [htport, hp]
      rfl
    · rw [htport, hp, hnow]
      rfl
    · rw [htget, a.enterRetrain_counts p, hcount]
    · rw [htport, a.enterRetrain_port_ne hq, hport]
  · have hne : (a.port p).state ≠ .discover := by
      rw [hport]
      obtain hu | hu := hu <;> rw [hu] <;> decide
    obtain ⟨t, hdoes, htport, -, -⟩ :=
      (hyes _ ((if_neg h1).trans ((if_neg h2).trans ((if_neg (by simp [hb1])).trans (if_pos ⟨hb, hu⟩))))).leaves
    obtain ⟨hstate, hrest⟩ := a.rediscover_port p
    obtain ⟨hround, hretraining⟩ := hrest hne
    refine ⟨t, hdoes, ?_, ?_, ?_, fun q hq => ?_⟩
    · rw [htport, hstate]
    · rw [htport, hround]
    · rw [htport, hretraining, hport]
    · rw [htport, a.rediscover_port_ne hq, hport]
  · have hnot : ∀ b, bit v b = true ∧ up → b = 1 ∨ b = 0 → False := by
      rintro b ⟨hb, hu⟩ (rfl | rfl)
      · obtain h | ⟨h, -⟩ := h
        · exact h hu
        · rw [h] at hb; cases hb
      · obtain h | ⟨-, h⟩ := h
        · exact h hu
        · rw [h] at hb; cases hb
    exact hno ((if_neg h1).trans ((if_neg h2).trans ((if_neg fun hu => hnot 1 hu (.inl rfl)).trans (if_neg fun hu => hnot 0 hu (.inr rfl)))))

end Sys2Proof.Machine
end

section
/-! PROOF. Two claims about ports that fail, each with the state that refutes it (10 R306, R313; 14 R590): O53, O54. -/

namespace Sys2Proof.Machine

/-! ## O53: a count that a round-2 record leaves alone -/

/-- Port 0 is ACTIVE, nothing waits, and the entry that counts its sent flits holds 2^64, which no bound on `State` excludes. -/
def overcounted : Dev :=
  ({ Dev.init with od := [(odKey 0x3020 1, 2 ^ 64)] } : Dev).setPort 0 { Port.init with state := .active }

theorem exec_discoveryReceived (p : Fin 6) (round2 : Bool) (record : Carried 512) (s : State) :
    exec (.discoveryReceived p round2 record) s = execDiscoveryReceived p round2 record s := rfl

/-- A round-2 record that finds its port ACTIVE is not answered: no flit leaves, and the count of sent flits stands. -/
theorem overcounted_after_record {t : State} (h : exec (.discoveryReceived 0 true ⟨0, none⟩) ⟨[], 0, overcounted⟩ = .next t) :
    t.dev.get 0x3020 1 = 2 ^ 64 := by
  rw [exec_discoveryReceived, execDiscoveryReceived, run] at h
  cases h
  decide +kernel

/-- Refutes O53: in the clause on a record that finds its port up, the count of sent flits is to be the former one modulo 2^64 also after
round 2, where the port sends nothing and leaves an entry that holds 2^64 as it is. -/
theorem not_portStates : ¬ Obligations.PortStates := by
  unfold Obligations.PortStates
  intro h
  obtain ⟨-, -, -, -, -, -, -, hrecord, -⟩ := h 0 ⟨[], 0, overcounted⟩
  obtain ⟨-, -, hup, -, -⟩ := hrecord true 0 none
  obtain ⟨t, ⟨hexec, -, -⟩, -, -, -, -, hcalm⟩ := hup (by decide +kernel)
  obtain ⟨-, hsent⟩ := hcalm rfl
  have hmod : (overcounted.get 0x3020 1 + 0) % 2 ^ 64 = 0 := by decide +kernel
  have hzero : t.dev.get 0x3020 1 = 0 := hsent.trans hmod
  rw [overcounted_after_record hexec] at hzero
  exact absurd hzero (by decide)

/-! ## O54: a flit on its way leaves while its input port is in DISCOVER -/

/-- A DATA flit of class 3 for device 7 with the right link CRC. -/
def flitFor7 : Flit := ⟨withCrc (flitLow 1 0 0 false ⟨3, false, false, false, true, 63, 7, 5, 0, 32⟩) [], [], false⟩

/-- In RUN, port 0 is in DISCOVER on its way back from RETRAIN while a flit that it brought waits for port 1, which is ACTIVE and which the
route to device 7 names. -/
def backInDiscover : Dev :=
  { (Dev.init.setPort 0 { Port.init with state := .discover, retraining := some 0 }).setPort 1 { Port.init with state := .active } with
    power := { Power.init with pstate := .run }
    slots := { Slots.init with active := some ⟨[], [(7, 0x8001)], [(7, true)], 0, 0⟩ }
    waiting := [⟨2 ^ 20 + 3, 0, 0, flitFor7, false⟩] }

theorem exec_dataFlitReceived (p : Fin 6) (f : Flit) (s : State) :
    exec (.dataFlitReceived p f) s = execDataFlitReceived p f s := rfl

/-- The DATA flit that comes is not taken; the one that waits leaves by port 1, and port 0 owes the credit for it (10 R306). -/
theorem backInDiscover_owes {t : State} (h : exec (.dataFlitReceived 0 flitFor7) ⟨[], 0, backInDiscover⟩ = .next t) :
    (t.dev.port 0).owed = [(3, 1)] := by
  rw [exec_dataFlitReceived, execDataFlitReceived, run] at h
  cases h
  decide +kernel

/-- Refutes O54: a DATA flit on a port in DISCOVER is to leave the port as it was; but the flits that wait move on with the command, and
where one that the port brought leaves while the port retrains, the port takes note of the credit that it owes (10 R306). -/
theorem not_flitsAreSequencedAndReplayed : ¬ Obligations.FlitsAreSequencedAndReplayed := by
  unfold Obligations.FlitsAreSequencedAndReplayed
  intro h
  obtain ⟨hdata, -⟩ := h 0 ⟨[], 0, backInDiscover⟩
  obtain ⟨-, hdiscover, -⟩ := hdata flitFor7 (.dataFlitReceived 0 flitFor7)
  obtain ⟨t, ⟨hexec, -, -⟩, -, hport, -⟩ := hdiscover (by decide +kernel) (.inl ⟨rfl, .inl (by decide +kernel)⟩)
  have howed : (backInDiscover.port 0).owed = [(3, 1)] := (congrArg Port.owed hport).symm.trans (backInDiscover_owes hexec)
  exact absurd howed (by decide +kernel)

end Sys2Proof.Machine
end

section
/-! PROOF. A claim about clocks that fails, with the state that refutes it (17 R510, R515): O58. -/

namespace Sys2Proof.Machine

/-- FIO has started 20 μs ago and is not ready yet. Shepherd's domain, which runs from FIO, is both parked on it and in HOLD_CLOCK, where it
awaits XTA: `State` has domains that are both, and the claim speaks of every state. -/
def parkedInHold : Dev :=
  (({ Dev.init with now := 20000 } : Dev).setSource 1 ⟨false, false, 0⟩).setDomain 0xB
    { Domain.init 0xB with source := 1, hold := true, awaited := 2, parked := true }

theorem exec_clkSourceReady (n : Fin 32) (s : State) : exec (.clkSourceReady n) s = execClkSourceReady n s := rfl

/-- FIO's readiness ends the parking of the domain, though it goes on awaiting XTA. -/
theorem parkedInHold_unparked {t : State} (h : exec (.clkSourceReady 1) ⟨[], 0, parkedInHold⟩ = .next t) : (t.dev.domain 0xB).parked = false := by
  rw [exec_clkSourceReady, execClkSourceReady, runF] at h
  cases h
  decide +kernel

/-- Refutes O58: a domain in HOLD_CLOCK that awaits another source is to stay as it is when a source becomes ready; but one that is also
parked on that source is unparked, and its clock counted as running. -/
theorem not_clocksFollowTheirSources : ¬ Obligations.ClocksFollowTheirSources := by
  unfold Obligations.ClocksFollowTheirSources
  intro h
  obtain ⟨-, hready, -⟩ := h
  obtain ⟨-, hlive⟩ := hready 1 ⟨[], 0, parkedInHold⟩ (by decide +kernel)
  obtain ⟨t, ⟨hexec, -, -⟩, -, hdomains⟩ := hlive (by decide +kernel)
  obtain ⟨-, -, hheld, -⟩ := hdomains 0xB (by decide) (by decide)
  have hsame : t.dev.domain 0xB = parkedInHold.domain 0xB := hheld (by decide +kernel) (by decide +kernel)
  have hparked : (parkedInHold.domain 0xB).parked = false := hsame ▸ parkedInHold_unparked hexec
  exact absurd hparked (by decide +kernel)

end Sys2Proof.Machine
end

section
/-! PROOF. A claim about hall time that fails, with the state that refutes it (11 R330-R333): O56. -/

namespace Sys2Proof.Machine

/-- A follower in ACQUIRE, 10 ms into hall time, whose parent is to be port 0. The port is ACTIVE and has sent a mark for the period it is in,
which the mark that comes answers. -/
def aheadOfParent : Dev :=
  (({ Dev.init with od := [(odKey 0x3200 3, 1), (odKey 0x3210 2, 0)], tb := { TimeBase.init with htf := 10000000 * 65536 } } : Dev).setPort 0
    { Port.init with state := .active }).setPax 0 { PortAux.init with markPeriod := 9765, markSeq := 1, marksSent := [(0, 0)] }

/-- A mark of a LOCKED parent that left at hall time 0: all its time stamps are 0, and it answers mark 0. -/
def markAtZero : BitVec 384 := BitVec.ofNat 384 (2 <<< 108)

theorem exec_timeMarkReceived (p : Fin 6) (mark : Carried 384) (frac : BitVec 16) (s : State) :
    exec (.timeMarkReceived p mark frac) s = execTimeMarkReceived p mark frac s := rfl

/-- The mark steps hall time back from 10 ms to 5 ms, so that the marks from period 4,883 on are due again (11 R330). -/
theorem aheadOfParent_stepsBack {t : State}
    (h : exec (.timeMarkReceived 0 ⟨markAtZero, none⟩ 0) ⟨[], 0, aheadOfParent⟩ = .next t) : (t.dev.pax 0).markPeriod = 4882 := by
  rw [exec_timeMarkReceived, execTimeMarkReceived, run] at h
  cases h
  decide +kernel

/-- Refutes O56: a mark that the follower takes is to leave the records of the marks as the mark's arrival left them; but where its offset
steps hall time back, the periods that hall time is to pass a second time are due again, and the records change with that (11 R330, R333). -/
theorem not_hallTimeFollowsItsReference : ¬ Obligations.HallTimeFollowsItsReference := by
  unfold Obligations.HallTimeFollowsItsReference
  intro h
  obtain ⟨-, hmark, -⟩ := h
  obtain ⟨-, -, -, htakes⟩ := hmark 0 markAtZero 0 none ⟨[], 0, aheadOfParent⟩
  obtain ⟨t, ⟨hexec, -, -⟩, -, -, -, -, -, haux, -⟩ := htakes (by decide +kernel) (by decide +kernel) (by decide +kernel)
  have hkept : (t.dev.pax 0).markPeriod = 9765 := by rw [Dev.pax, haux]; decide +kernel
  rw [aheadOfParent_stepsBack hexec] at hkept
  exact absurd hkept (by decide)

end Sys2Proof.Machine
end

section
/-! PROOF. What traffic leaves alone, said once for every view of the device that shows nothing of what flits change on their way: the
queues, the ports and their turns, the output log, and the counts of sent and unrouted flits (10 R300, R306, R307; 11 R349, R350). -/

namespace Sys2Proof.Machine

/-- A view of the device in which the course of flits does not show. -/
structure TrafficBlind {β : Type} (g : Dev → β) : Prop where
  waiting (d : Dev) (w : List Waiting) : g { d with waiting := w } = g d
  loop (d : Dev) (l : List Flit) : g { d with eng := { d.eng with loop := l } } = g d
  port (d : Dev) (p : Nat) (x : Port) : g (d.setPort p x) = g d
  pax (d : Dev) (p : Nat) (x : PortAux) : g (d.setPax p x) = g d
  out (d : Dev) (o : Out) : g (d.emit o) = g d
  sent (d : Dev) {p : Nat} : p < 6 → g (d.addWrap (0x3020 + p) 1 1) = g d
  unrouted (d : Dev) : g (d.addSat 0x3410 1 32 1) = g d

section
variable {β : Type} {g : Dev → β} (h : TrafficBlind g) (d : Dev)
include h

theorem TrafficBlind.control {p : Nat} (hp : p < 6) (t : Nat) (l : List Byte) : g (d.control p t l) = g d :=
  (h.sent _ hp).trans (h.out _ _)

theorem TrafficBlind.giveCredit {p : Nat} (hp : p < 6) (c : Nat) : g (d.giveCredit p c) = g d := by
  unfold Dev.giveCredit
  extract_lets x
  split
  · exact h.control d hp _ _
  · split
    · exact h.port d p _
    · rfl

theorem TrafficBlind.transmit {p : Nat} (hp : p < 6) (f : Flit) (chunk : Nat) : g (d.transmit p f chunk) = g d :=
  (h.sent _ hp).trans ((h.out _ _).trans (h.port _ _ _))

theorem TrafficBlind.returnCredit (w : Waiting) : g (d.returnCredit w) = g d := by
  unfold Dev.returnCredit
  split
  · extract_lets p
    split
    · next hp => exact h.giveCredit d hp _
    · rfl
  · rfl

theorem TrafficBlind.pumpBest {d d' : Dev} {p : Nat} (hp : p < 6) (hd : d.pumpBest p = some d') : g d' = g d := by
  unfold Dev.pumpBest at hd
  extract_lets hs at hd
  split at hd
  · cases hd
  · extract_lets hc at hd
    split at hd
    · cases hd
    · split at hd
      · cases hd
      · cases hd
        exact (h.returnCredit _ _).trans ((h.transmit _ hp _ _).trans ((h.waiting _ _).trans (h.pax _ _ _)))

theorem TrafficBlind.pumpOnce {d d' : Dev} {p : Nat} (hp : p < 6) (hd : d.pumpOnce p = some d') : g d' = g d := by
  unfold Dev.pumpOnce at hd
  split at hd
  · cases hd
  · split at hd
    · cases hd
      exact (h.transmit _ hp _ _).trans (h.waiting _ _)
    · exact h.pumpBest hp hd

theorem TrafficBlind.pump {p : Nat} (hp : p < 6) (n : Nat) : g (d.pump p n) = g d := by
  induction n generalizing d with
  | zero => rfl
  | succ n ih =>
    rw [Dev.pump]
    split
    · next hd => exact (ih _).trans (h.pumpOnce hp hd)
    · rfl

theorem TrafficBlind.pumpAll : g d.pumpAll = g d :=
  foldl_keeps_of_mem (below 6) (fun d _ hp => h.pump d (mem_below.1 hp) _) d

theorem TrafficBlind.originate (f : Flit) (chunk : Nat) : g (d.originate f chunk) = g d := by
  unfold Dev.originate
  extract_lets e lim hd fl
  split
  · exact h.loop d _
  · split
    · exact h.unrouted d
    · exact h.waiting d _

theorem TrafficBlind.sendKept (k : Kept) (tc : Nat) (sched detour : Bool) : g (d.sendKept k tc sched detour) = g d :=
  (h.pumpAll _).trans (foldl_keeps (fun d f => h.originate d f _) _ d)

theorem TrafficBlind.sendControl (dest tc epoch header : Nat) : g (d.sendControl dest tc epoch header) = g d :=
  (h.pumpAll _).trans (foldl_keeps (fun d f => h.originate d f _) _ d)

end

/-! ## The two views that the claims need -/

/-- The device with all that traffic changes blanked. -/
def Dev.atRest (d : Dev) : Dev := { d with od := [], out := [], ports := [], aux := [], waiting := [], eng := { d.eng with loop := [] } }

/-- What can be read off the device at rest does not show traffic. -/
theorem TrafficBlind.of_atRest {β : Type} {g : Dev → β} (h : ∀ d : Dev, g d.atRest = g d) : TrafficBlind g where
  waiting d _ := (h _).symm.trans (h d)
  loop d _ := (h _).symm.trans (h d)
  port d _ _ := (h _).symm.trans (h d)
  pax d _ _ := (h _).symm.trans (h d)
  out d _ := (h _).symm.trans (h d)
  sent d _ _ := (h _).symm.trans (h d)
  unrouted d := (h _).symm.trans (h d)

/-- An entry that counts neither sent nor unrouted flits. -/
def Untravelled (k : Nat) : Prop := k ≠ odKey 0x3410 1 ∧ ∀ p < 6, k ≠ odKey (0x3020 + p) 1

theorem trafficBlind_get {i k : Nat} (h : Untravelled (odKey i k)) : TrafficBlind (fun d => d.get i k) where
  waiting _ _ := rfl
  loop _ _ := rfl
  port _ _ _ := rfl
  pax _ _ _ := rfl
  out _ _ := rfl
  sent d p hp := d.addWrap_get_ne _ _ _ _ _ (h.2 p hp)
  unrouted d := d.addSat_get_ne _ _ _ _ _ _ h.1

/-- Entries outside the counts of the ports and of the routes. -/
theorem untravelled {i k : Nat} (hk : k < 256) (hi : i < 0x3020 ∨ 0x3025 < i) (hr : i ≠ 0x3410) : Untravelled (odKey i k) := by
  constructor
  · unfold odKey; omega
  · intro p hp; unfold odKey; omega

end Sys2Proof.Machine
end

section
/-! PROOF. Slot tables (11 R338-R347, R364): arming and loading, the swap, what a slot does, O48. -/

namespace Sys2Proof.Machine

/-! ## A write that acts -/

/-- A granted write of an entry that acts, accepted or refused, without a reset: the effect, and the answer. -/
theorem acting_write {c : Instr} {who : Requester} {s : State} {i k v : Nat} {w : Written}
    (hx : exec c s = runF s (fun fuse d => d.writeIn fuse who i k v true none)) (hi : i < 65536) (hs : k < 256)
    (hl : ¬ (i = 0x1100 ∧ k = 1)) (hb : ¬ (i = 0x9100 ∧ k = 3)) (hr : ¬ (i = 0x8000 ∧ k = 3)) (hg : s.dev.Grants who i k)
    (hw : (s.dev.asked who).actingEntry s.fuse true i k (v % 2 ^ (8 * entrySize i k)) = some w) (hn : w.reset = none) :
    Effect c s (w.d.emit (.odAnswer (if w.ok then 0 else 4) (entrySize i k) 0)) := by
  have hq := s.dev.writeIn_stays s.fuse who v true none hi hs hg hl (fun h => hb ⟨h.1, h.2.1⟩) hr (by rw [Dev.writeEntry, hw]) hn
  rw [Effect, hx, runF, hq]

/-- The two commands of `SWAP_CMD`. -/
theorem effect_swapCmd {c : Instr} {who : Requester} {s : State} {v : Nat} (hv : v < 256) (hg : s.dev.Grants who 0x3300 2)
    (hx : exec c s = runF s (fun fuse d => d.writeIn fuse who 0x3300 2 v true none)) (hn : ((s.dev.asked who).swapCmd v).reset = none) :
    Effect c s (((s.dev.asked who).swapCmd v).d.emit (.odAnswer (if ((s.dev.asked who).swapCmd v).ok then 0 else 4) 1 0)) := by
  refine acting_write hx (by decide) (by decide) (by decide) (by decide) (by decide) hg ?_ hn
  rw [show entrySize 0x3300 2 = 1 from rfl, show v % 2 ^ (8 * 1) = v from Nat.mod_eq_of_lt hv]
  rfl

/-- A write of ARM, by the state of the swap and the first check that fails (11 R340, R341). -/
theorem Dev.swapCmd_arm (d : Dev) : d.swapCmd 1 = if d.get 0x3300 3 = 1 ∨ d.get 0x3300 3 = 2 then ⟨false, d, none⟩
    else if d.get 0x3300 1 < d.ht + 100000 then ⟨false, (d.put 0x3300 3 0).put 0x3300 4 1, none⟩
    else if d.get 0x3200 3 = 0 then ⟨false, (d.put 0x3300 3 0).put 0x3300 4 2, none⟩
    else ⟨true, (d.put 0x3300 3 1).put 0x3300 4 0, none⟩ := by
  have hcmd : d.swapCmd 1 = ⟨d.arm.2, d.arm.1, none⟩ := rfl
  rw [hcmd, Dev.arm, Dev.swapState, Dev.timeState]
  split
  · rfl
  · split
    · rfl
    · split <;> rfl

/-- A request that is counted leaves the entries that the checks of ARM read. -/
theorem Dev.asked_swapCmd_arm (d : Dev) (who : Requester) : (d.asked who).swapCmd 1 =
    if d.get 0x3300 3 = 1 ∨ d.get 0x3300 3 = 2 then ⟨false, d.asked who, none⟩
    else if d.get 0x3300 1 < d.ht + 100000 then ⟨false, ((d.asked who).put 0x3300 3 0).put 0x3300 4 1, none⟩
    else if d.get 0x3200 3 = 0 then ⟨false, ((d.asked who).put 0x3300 3 0).put 0x3300 4 2, none⟩
    else ⟨true, ((d.asked who).put 0x3300 3 1).put 0x3300 4 0, none⟩ := by
  rw [Dev.swapCmd_arm, d.asked_get_ne who (i := 0x3300) (j := 3) (by decide), d.asked_get_ne who (i := 0x3300) (j := 1) (by decide),
    d.asked_get_ne who (i := 0x3200) (j := 3) (by decide), d.asked_ht]

/-- A granted write of ARM. -/
theorem effect_swapArm {who : Requester} {s : State} (hg : s.dev.Grants who 0x3300 2) {ok : Bool} {x : Dev}
    (hw : (s.dev.asked who).swapCmd 1 = ⟨ok, x, none⟩) : Effect (.swapArm who) s (x.emit (.odAnswer (if ok then 0 else 4) 1 0)) := by
  have h := effect_swapCmd (c := .swapArm who) (v := 1) (by decide) hg rfl (by rw [hw])
  rwa [hw] at h

/-- A granted write of DISARM. -/
theorem accepted_swapDisarm {who : Requester} {s : State} (hg : s.dev.Grants who 0x3300 2) :
    Accepted (.swapDisarm who) s 0x3300 2 { (s.dev.asked who).put 0x3300 3 0 with slots := { s.dev.slots with shadow := none } } := by
  have hslots : (s.dev.asked who).slots = s.dev.slots := Dev.of_mute_slots (s.dev.asked_mute who)
  rw [← hslots]
  exact effect_swapCmd (c := .swapDisarm who) (v := 2) (by decide) hg rfl rfl

/-- A granted write of the epoch of the tensor that `EPOCH_TENSOR` names (11 R364). -/
theorem accepted_epochValueWrite {who : Requester} {v : BitVec 16} {s : State} (hg : s.dev.Grants who 0x3520 2) :
    Accepted (.epochValueWrite who v) s 0x3520 2
      { s.dev.asked who with eng := { s.dev.eng with epochs := sset (fun _ => 0) s.dev.eng.epochs (s.dev.get 0x3520 1) v.toNat } } := by
  have heng : (s.dev.asked who).eng = s.dev.eng := Dev.of_mute_eng (s.dev.asked_mute who)
  have htensor : (s.dev.asked who).get 0x3520 1 = s.dev.get 0x3520 1 := s.dev.asked_get_ne who (by decide)
  rw [← heng, ← htensor]
  refine acting_write (c := .epochValueWrite who v) (w := ⟨true, _, none⟩) rfl (by decide) (by decide) (by decide) (by decide) (by decide) hg ?_ rfl
  rw [show entrySize 0x3520 2 = 2 from rfl, show v.toNat % 2 ^ (8 * 2) = v.toNat from Nat.mod_eq_of_lt v.isLt]
  rfl

/-! ## Loading (11 R340, R341) -/

theorem below_getElem? {n p : Nat} (h : p < n) : (below n)[p]? = some p := by
  rw [below, upFrom_eq_range', List.getElem?_range' h]
  simp

/-- A table read back: what was read into it. -/
theorem sget_tableOf {n i : Nat} (f : Nat → Nat) (h : i < n) : sget (fun _ => 0) (tableOf n f) i = f i := by
  have hfrom : ∀ m a, sget (fun _ => 0) ((upFrom a m).filterMap (fun j => if f j = 0 then none else some (j, f j))) i
      = if a ≤ i ∧ i < a + m then f i else 0 := by
    intro m
    induction m with
    | zero => intro a; rw [if_neg (by omega)]; rfl
    | succ m ih =>
      intro a
      by_cases hz : f a = 0
      · have hcases : (if a + 1 ≤ i ∧ i < a + 1 + m then f i else 0) = if a ≤ i ∧ i < a + (m + 1) then f i else 0 := by
          by_cases ha : a = i
          · subst ha; simp [hz]
          · exact if_congr (by omega) rfl rfl
        simp only [upFrom, List.filterMap_cons, hz, if_true, ih, hcases]
      · by_cases ha : a = i
        · subst ha
          simp only [upFrom, List.filterMap_cons, hz, if_false, sget, if_true]
          rw [if_pos (by omega)]
        · simp only [upFrom, List.filterMap_cons, hz, if_false, sget, ha, ih]
          exact if_congr (by omega) rfl rfl
  rw [tableOf, below, hfrom, if_pos (by omega)]

/-- The entries of a loaded bank are those of the images (11 R339). -/
theorem Dev.loadBank_entry (d : Dev) {p i : Nat} (hp : p < 6) (hi : i < d.cycleOf p) : d.loadBank.entry p i = d.slotEntry p i := by
  have hslots : d.loadBank.slots = (below 6).map fun p => (⟨d.cycleOf p, tableOf (d.cycleOf p) (d.slotEntry p)⟩ : SlotImage) := rfl
  have hslot : d.loadBank.slots[p]? = some ⟨d.cycleOf p, tableOf (d.cycleOf p) (d.slotEntry p)⟩ := by
    rw [hslots, List.getElem?_map, below_getElem? hp]
    rfl
  rw [Bank.entry, hslot]
  simp only [show d.cycleOf p ≠ 0 by omega, if_false, Nat.mod_eq_of_lt hi, sget_tableOf _ hi]

/-- What checks 4 and 5 of a load that passes say of every slot image. -/
theorem Dev.loadCheck_passed {d : Dev} (h : d.loadCheck = 0) {p : Nat} (hp : p < 6) :
    0 < d.cycleOf p ∧ d.cycleOf p ≤ 65536 ∧ ∀ i < d.cycleOf p, entryOk p (d.slotEntry p i) = true := by
  unfold Dev.loadCheck at h
  split at h
  · omega
  · split at h
    · omega
    · next h4 =>
      split at h
      · omega
      · next h5 =>
        simp only [Bool.not_eq_true', Bool.not_eq_false, List.all_eq_true, Bool.and_eq_true, decide_eq_true_eq] at h4 h5
        have hmem : p ∈ below 6 := mem_below.2 hp
        exact ⟨(h4 p hmem).1, (h4 p hmem).2, fun i hi => h5 p hmem i (mem_below.2 hi)⟩

theorem entryOk_forward {p e : Nat} (h : entryOk p e = true) :
    slotFlits e ≤ 64 ∧ (slotKind e = 2 → slotInPort e < 6 ∧ slotInPort e ≠ p) := by
  simp only [entryOk, Bool.and_eq_true, Bool.not_eq_true', decide_eq_true_eq, Bool.and_eq_false_iff, beq_eq_false_iff_ne, Bool.or_eq_false_iff,
    decide_eq_false_iff_not] at h
  obtain ⟨⟨hflits, hport⟩, -⟩ := h
  exact ⟨hflits, fun hk => hport.elim (absurd hk) fun hp => ⟨by omega, hp.2⟩⟩

/-! ## The swap (11 R342) -/

theorem trafficBlind_slots : TrafficBlind Dev.slots := .of_atRest fun _ => rfl

/-- What a missed swap stores before its event. -/
def Dev.swapMissed (d : Dev) : Dev := { d.put 0x3300 3 0 with slots := { d.slots with allFree := true } }

theorem Dev.missSwap_keeps {β : Type} {g : Dev → β} (h : TrafficBlind g) (d : Dev) : g d.missSwap = g (d.swapMissed.raise 0x2904 0 0) := by
  unfold Dev.missSwap
  exact h.pumpAll _

theorem Dev.missSwap_get (d : Dev) {k : Nat} (hk : k < 256) (hn : odKey 0x3300 k ∉ noticeKeys) :
    d.missSwap.get 0x3300 k = (d.put 0x3300 3 0).get 0x3300 k :=
  (Dev.missSwap_keeps (g := fun d => d.get 0x3300 k) (trafficBlind_get (untravelled hk (.inr (by decide)) (by decide))) d).trans
    (d.swapMissed.raise_get hn _ _ _)

/-- A missed swap leaves every slot FREE, and says so once. -/
theorem missed_missSwap (s : State) : Missed s { s with dev := s.dev.missSwap } := by
  refine ⟨?_, ?_, ?_, ?_⟩ <;> dsimp only
  · rw [Dev.missSwap_keeps trafficBlind_slots, Dev.raise_slots]
    rfl
  · rw [Dev.missSwap_get _ (by decide) (by decide), Dev.put_get_same]
    rfl
  · rw [Dev.missSwap_get _ (by decide) (by decide), Dev.put_get_ne _ _ _ _ _ _ (by decide)]
  · have hevents : s.dev.missSwap.get 0x1300 3 = (s.dev.swapMissed.raise 0x2904 0 0).get 0x1300 3 :=
      Dev.missSwap_keeps (g := fun d => d.get 0x1300 3) (trafficBlind_get (untravelled (by decide) (.inl (by decide)) (by decide))) s.dev
    have hbefore : s.dev.swapMissed.get 0x1300 3 = s.dev.get 0x1300 3 := s.dev.put_get_ne 0x3300 3 0 0x1300 3 (by decide)
    rw [hevents, Dev.raise_counts, hbefore]

theorem TrafficBlind.dropUnrouted {β : Type} {g : Dev → β} (h : TrafficBlind g) (d : Dev) : g d.dropUnrouted = g d := by
  unfold Dev.dropUnrouted
  extract_lets bad d'
  exact (foldl_keeps (fun d w => (h.returnCredit _ w).trans (h.unrouted d)) _ d').trans (h.waiting d _)

/-- The shadow bank in place of the active one. -/
def Dev.bankChanged (d : Dev) : Dev :=
  { d with slots := ⟨d.slots.shadow, none, false, [], d.slots.midway⟩ }

/-- What the swap stores: the state, the active bank, the count of swaps. -/
def Dev.swapNoted (d : Dev) : Dev :=
  ((d.put 0x3300 3 0).put 0x3300 5 (if d.get 0x3300 5 = 0 then 1 else 0)).addSat 0x3300 6 32 1

/-- After the bank has changed and its entries are stored, the Trail takes note and flits move on. -/
theorem Dev.swapNow_eq (d : Dev) :
    ∃ a b, d.swapNow = (((d.bankChanged.swapNoted).note 4 a b).dropUnrouted).pumpAll := ⟨_, _, rfl⟩

theorem Dev.swapNow_keeps {β : Type} {g : Dev → β} (h : TrafficBlind g) (hn : ∀ (d : Dev) k c a, g (d.note k c a) = g d) (d : Dev) :
    g d.swapNow = g d.bankChanged.swapNoted := by
  obtain ⟨a, b, hd⟩ := d.swapNow_eq
  rw [hd, h.pumpAll, h.dropUnrouted, hn]

theorem Dev.swapNow_get (d : Dev) {k : Nat} (hk : k < 256) (hn : odKey 0x3300 k ∉ noticeKeys) :
    d.swapNow.get 0x3300 k = d.swapNoted.get 0x3300 k :=
  Dev.swapNow_keeps (g := fun d => d.get 0x3300 k) (trafficBlind_get (untravelled hk (.inr (by decide)) (by decide)))
    (fun d k c a => d.note_get hn k c a) d

/-- What a swap leaves in the entries of the swap. -/
theorem Dev.swapNow_counts (d : Dev) : d.swapNow.get 0x3300 3 = 0 ∧ d.swapNow.get 0x3300 5 = (if d.get 0x3300 5 = 0 then 1 else 0)
    ∧ d.swapNow.get 0x3300 6 = min (d.get 0x3300 6 + 1) 0xFFFFFFFF := by
  refine ⟨(d.swapNow_get (by decide) (by decide)).trans ?_, (d.swapNow_get (by decide) (by decide)).trans ?_,
    (d.swapNow_get (by decide) (by decide)).trans ?_⟩
  · rw [Dev.swapNoted, Dev.addSat_get_ne _ _ _ _ _ _ _ (by decide), Dev.put_get_ne _ _ _ _ _ _ (by decide)]
    exact d.put_get_same _ _ _
  · rw [Dev.swapNoted, Dev.addSat_get_ne _ _ _ _ _ _ _ (by decide), Dev.put_get_same]
    split <;> rfl
  · rw [Dev.swapNoted, Dev.addSat_get_same _ (by decide), Dev.put_get_ne _ _ _ _ _ _ (by decide), Dev.put_get_ne _ _ _ _ _ _ (by decide)]

/-! ## Slots (11 R343, R344, R346, R347) -/

/-- Whether a slot of a stream is a slip: fewer flits are ready than it takes, though more wait or are still to come (11 R347). -/
def Dev.slipsAt (d : Dev) (p i e lead : Nat) : Bool :=
  let all := d.streamFlits p e
  let ready := (all.filter (fun w => decide (w.at_ + lead ≤ d.slotInstant i))).take (slotFlits e)
  decide (ready.length < slotFlits e) && (decide (ready.length < all.length) || d.expects p e)

theorem Dev.slipsAt_iff (d : Dev) (p i e lead : Nat) :
    let all := d.streamFlits p e
    let ready := (all.filter (fun w => decide (w.at_ + lead ≤ d.slotInstant i))).take (slotFlits e)
    d.slipsAt p i e lead = true ↔ ready.length < slotFlits e ∧ (ready.length < all.length ∨ d.expects p e = true) := by
  simp only [Dev.slipsAt, Bool.and_eq_true, Bool.or_eq_true, decide_eq_true_eq]

theorem Dev.nextSlotOf_get (d : Dev) (p i j k : Nat) : (d.nextSlotOf p i).get j k = d.get j k := by
  unfold Dev.get Dev.nextSlotOf
  rfl

/-- The flits of a slot leave, whatever shows neither them nor the count of displaced slots. -/
theorem TrafficBlind.sendSlot {β : Type} {g : Dev → β} (h : TrafficBlind g) (d : Dev) {p : Nat} (hp : p < 6)
    (hc : ∀ d : Dev, g (d.addWrap (0x3020 + p) 0xB 1) = g d) (l : List Waiting) : g (d.sendSlot p l) = g d := by
  unfold Dev.sendSlot
  extract_lets n late x y
  have hx : g x = g d := by
    simp only [x]
    split
    · exact hc d
    · rfl
  exact (foldl_keeps (fun d w => (h.transmit _ hp _ _).trans (h.waiting d _)) _ y).trans ((h.waiting x _).trans hx)

/-- A slot that runs does what shows of it besides the flits: it slips, or its slack is taken. -/
theorem Dev.runSlot_keeps {β : Type} {g : Dev → β} (h : TrafficBlind g) (d : Dev) {p : Nat} (hp : p < 6)
    (hc : ∀ d : Dev, g (d.addWrap (0x3020 + p) 0xB 1) = g d) (hs : ∀ (d : Dev) (v : Int), g (d.slack p v) = g d) (i e lead : Nat) :
    ∃ x : Dev, g x = g d ∧ g (d.runSlot p i e lead) = if d.slipsAt p i e lead = true then g (x.slip p) else g x := by
  unfold Dev.runSlot
  extract_lets t all ready short x y
  refine ⟨x, h.sendSlot d hp hc ready, (h.pumpAll y).trans ?_⟩
  simp only [y]
  rw [show d.slipsAt p i e lead = short from rfl]
  split
  · rfl
  · split
    · split
      · exact hs _ _
      · rfl
    · rfl

theorem Dev.slip_slots (d : Dev) (p : Nat) : (d.slip p).slots = d.slots :=
  Dev.oncePerSecond_keeps Dev.slots (fun _ _ => rfl) (fun d c a b => d.raise_slots c a b) _ _ _ _ _

theorem Dev.slip_get (d : Dev) (p : Nat) {i k : Nat} (h : odKey i k ∉ noticeKeys) :
    (d.slip p).get i k = (d.addWrap 0x3320 (p + 1) 1).get i k :=
  Dev.oncePerSecond_keeps (fun d => d.get i k) (fun _ _ => rfl) (fun d c a b => d.raise_get h c a b) _ _ _ _ _

theorem Dev.runSlot_slots (d : Dev) {p : Nat} (hp : p < 6) (i e lead : Nat) : (d.runSlot p i e lead).slots = d.slots := by
  obtain ⟨x, hx, hr⟩ := d.runSlot_keeps trafficBlind_slots hp (fun _ => rfl) (fun _ _ => rfl) i e lead
  rw [hr, Dev.slip_slots, hx, ite_self]

/-- An entry of the slot counters, seen through a slot that runs: a slip counts, and nothing else does. -/
theorem Dev.runSlot_get (d : Dev) {p : Nat} (hp : p < 6) (i e lead : Nat) {j : Nat} (hj : j = 0x3320 ∨ j = 0x3323) :
    (d.runSlot p i e lead).get j (p + 1) = if d.slipsAt p i e lead = true ∧ j = 0x3320 then (d.get j (p + 1) + 1) % 2 ^ 64 else d.get j (p + 1) := by
  have hblind : TrafficBlind (fun d => d.get j (p + 1)) := trafficBlind_get (untravelled (by omega) (by omega) (by omega))
  have hkey : ∀ {i k : Nat}, k < 256 → i ≠ j → odKey j (p + 1) ≠ odKey i k := fun hk hi => by unfold odKey; omega
  have hnotice : odKey j (p + 1) ∉ noticeKeys := by
    simp only [noticeKeys, odKey, List.mem_cons, List.not_mem_nil, or_false]
    omega
  obtain ⟨x, hx, hr⟩ := d.runSlot_keeps hblind hp (fun d => d.addWrap_get_ne _ _ _ _ _ (hkey (by omega) (by omega)))
    (fun d v => d.put_get_ne _ _ _ _ _ (hkey (by omega) (by omega))) i e lead
  rw [hr, Dev.slip_get _ _ hnotice, hx]
  obtain rfl | rfl := hj
  · have hsize : odSize (odKey 0x3320 (p + 1)) = 8 := by interval_cases p <;> decide
    have hcount : (x.addWrap 0x3320 (p + 1) 1).get 0x3320 (p + 1) = (d.get 0x3320 (p + 1) + 1) % 2 ^ 64 := by
      rw [← hx, Dev.addWrap, Dev.put_get_same, hsize]
    rw [hcount]
    exact if_congr (by simp) rfl rfl
  · rw [x.addWrap_get_ne _ _ _ _ _ (hkey (by omega) (by decide)), hx, ite_self, if_neg (by omega)]

/-- Whether a slot is the command's to run, and whether it carries no stream of its own. -/
def Dev.slotIsMine (d : Dev) (c : Instr) (p : Fin 6) (e : Nat) : Prop :=
  if c = .slotStart p then slotKind e ≠ 2 ∨ d.slots.allFree = true else slotKind e = 2 ∧ d.slots.allFree = false
def Dev.slotIsFree (d : Dev) (c : Instr) (p : Fin 6) (e : Nat) : Prop := c = .slotStart p ∧ (slotKind e ≠ 1 ∨ d.slots.allFree = true)

theorem exec_slotStart (p : Fin 6) (s : State) : exec (.slotStart p) s = execSlotStart p s := rfl
theorem exec_forwardSlot (p : Fin 6) (s : State) : exec (.forwardSlot p) s = execForwardSlot p s := rfl

/-- The course of the two commands that run slots. -/
theorem effect_slot {c : Instr} {p : Fin 6} {lead : Nat} (hc : c = .slotStart p ∧ lead = 8 ∨ c = .forwardSlot p ∧ lead = 0) (s : State) :
    (s.dev.dueSlot p = none → Effect c s s.dev)
    ∧ ∀ i e, s.dev.dueSlot p = some (i, e) → (¬ s.dev.slotIsMine c p e → Effect c s s.dev)
      ∧ (s.dev.slotIsMine c p e → s.dev.slotIsFree c p e → Effect c s (s.dev.nextSlotOf p i).pumpAll)
      ∧ (s.dev.slotIsMine c p e → ¬ s.dev.slotIsFree c p e → Effect c s ((s.dev.nextSlotOf p i).dueStream p i e lead)) := by
  obtain ⟨rfl, rfl⟩ | ⟨rfl, rfl⟩ := hc
  · have hmine : ∀ e, s.dev.slotIsMine (.slotStart p) p e ↔ ¬ (slotKind e = 2 ∧ (!s.dev.slots.allFree) = true) := fun e => by
      simp [Dev.slotIsMine, Decidable.imp_iff_not_or]
    have hfree : ∀ e, s.dev.slotIsFree (.slotStart p) p e ↔ slotKind e ≠ 1 ∨ s.dev.slots.allFree = true := fun e => by
      simp [Dev.slotIsFree]
    simp only [Effect, exec_slotStart, execSlotStart, run, hmine, hfree]
    refine ⟨fun h => by rw [h], fun i e h => ?_⟩
    rw [h]
    have hall : (s.dev.nextSlotOf p i).slots.allFree = s.dev.slots.allFree := rfl
    refine ⟨fun hm => ?_, fun hm hf => ?_, fun hm hf => ?_⟩ <;> dsimp only
    · rw [if_pos (not_not.1 hm)]
    · rw [if_neg hm, hall, if_pos hf]
    · rw [if_neg hm, hall, if_neg hf]
  · have hmine : ∀ e, s.dev.slotIsMine (.forwardSlot p) p e ↔ ¬ (slotKind e ≠ 2 ∨ s.dev.slots.allFree = true) := fun e => by
      simp [Dev.slotIsMine]
    have hfree : ∀ e, ¬ s.dev.slotIsFree (.forwardSlot p) p e := fun e h => nomatch h.1
    simp only [Effect, exec_forwardSlot, execForwardSlot, run, hmine]
    refine ⟨fun h => by rw [h], fun i e h => ?_⟩
    rw [h]
    refine ⟨fun hm => ?_, fun _ hf => absurd hf (hfree e), fun hm _ => ?_⟩ <;> dsimp only
    · rw [if_pos (not_not.1 hm)]
    · rw [if_neg hm]

/-! ## O48 -/

/-- The clause of O48 on slots. -/
theorem slotCommands (c : Instr) (p : Fin 6) (lead : Nat) (s : State) (hc : c = .slotStart p ∧ lead = 8 ∨ c = .forwardSlot p ∧ lead = 0)
    {i e : Nat} (hd : s.dev.dueSlot p = some (i, e)) :
    (s.dev.slotIsMine c p e → ¬ s.dev.slotIsFree c p e → (s.dev.port p).state ≠ .active →
        Effect c s ((s.dev.nextSlotOf p i).addWrap 0x3323 (p + 1) 1))
    ∧ (s.dev.slotIsMine c p e → ¬ s.dev.slotIsFree c p e → (s.dev.port p).state = .active → s.dev.dataOn = false →
        Effect c s (s.dev.nextSlotOf p i))
    ∧ (s.dev.slotIsMine c p e → ¬ s.dev.slotIsFree c p e → (s.dev.port p).state = .active → s.dev.dataOn = true →
        ∃ t, Answers c s t ∧ t.dev.slots = (s.dev.nextSlotOf p i).slots ∧ t.dev.get 0x3323 (p + 1) = s.dev.get 0x3323 (p + 1)
          ∧ (s.dev.slipsAt p i e lead = true → t.dev.get 0x3320 (p + 1) = (s.dev.get 0x3320 (p + 1) + 1) % 2 ^ 64)
          ∧ (¬ s.dev.slipsAt p i e lead = true → t.dev.get 0x3320 (p + 1) = s.dev.get 0x3320 (p + 1))) := by
  obtain ⟨-, -, hrun⟩ := (effect_slot hc s).2 i e hd
  have hstate : ((s.dev.nextSlotOf p i).port p).state = (s.dev.port p).state := rfl
  have hon : (s.dev.nextSlotOf p i).dataOn = s.dev.dataOn := rfl
  have hslips : (s.dev.nextSlotOf p i).slipsAt p i e lead = s.dev.slipsAt p i e lead := rfl
  have hcourse : (s.dev.nextSlotOf p i).dueStream p i e lead = if (s.dev.port p).state ≠ .active then (s.dev.nextSlotOf p i).addWrap 0x3323 (p + 1) 1
      else if s.dev.dataOn = true then (s.dev.nextSlotOf p i).runSlot p i e lead else s.dev.nextSlotOf p i := by
    rw [Dev.dueStream, hstate, hon]
  refine ⟨fun hm hf hp => ?_, fun hm hf hp hoff => ?_, fun hm hf hp hdata => ?_⟩
  · have h := hrun hm hf
    rwa [hcourse, if_pos hp] at h
  · have h := hrun hm hf
    rwa [hcourse, if_neg (not_not.2 hp), if_neg (by rw [hoff]; decide)] at h
  · have h := hrun hm hf
    rw [hcourse, if_neg (not_not.2 hp), if_pos hdata] at h
    have hslots : ((s.dev.nextSlotOf p i).runSlot p i e lead).slots = (s.dev.nextSlotOf p i).slots := Dev.runSlot_slots _ p.isLt _ _ _
    have hdead := (s.dev.nextSlotOf p i).runSlot_get p.isLt i e lead (.inr rfl)
    have hcount := (s.dev.nextSlotOf p i).runSlot_get p.isLt i e lead (.inl rfl)
    rw [hslips, Dev.nextSlotOf_get] at hdead hcount
    refine ⟨_, h.answers, hslots, ?_, fun hl => ?_, fun hl => ?_⟩
    all_goals dsimp only
    · exact hdead.trans (if_neg (by simp))
    · exact hcount.trans (if_pos ⟨hl, rfl⟩)
    · exact hcount.trans (if_neg fun h => hl h.1)

/-- The clause of O48 on loading. -/
theorem swapLoadCommand (ecc : List EccHit) (s : State) :
    let d := s.dev.eccRead [] ecc
    let c : Instr := .swapLoadComplete ecc
    let passed := s.dev.get 0x3300 1 ≤ s.dev.ht
    (s.dev.get 0x3300 3 ≠ 1 → Effect c s s.dev)
    ∧ (s.dev.get 0x3300 3 = 1 → passed → Effect c s s.dev.missSwap)
    ∧ (s.dev.get 0x3300 3 = 1 → ¬ passed → d.loadCheck ≠ 0 → Effect c s ((d.put 0x3300 3 3).put 0x3300 4 d.loadCheck))
    ∧ (s.dev.get 0x3300 3 = 1 → ¬ passed → d.loadCheck = 0 →
        Effect c s { d.put 0x3300 3 2 with slots := { d.slots with shadow := some d.loadBank } }) := by
  intro d c passed
  have hx : ∀ x, (if s.dev.get 0x3300 3 ≠ 1 then s.dev else if s.dev.get 0x3300 1 ≤ s.dev.ht then s.dev.missSwap
      else if d.loadCheck = 0 then { d.put 0x3300 3 2 with slots := { d.slots with shadow := some d.loadBank } }
      else (d.put 0x3300 3 3).put 0x3300 4 d.loadCheck) = x → Effect c s x := by
    rintro x rfl
    rfl
  refine ⟨fun h => hx _ (if_pos h), fun h hp => hx _ ?_, fun h hp hl => hx _ ?_, fun h hp hl => hx _ ?_⟩
  · rw [if_neg (not_not.2 h), if_pos hp]
  · rw [if_neg (not_not.2 h), if_neg hp, if_neg hl]
  · rw [if_neg (not_not.2 h), if_neg hp, if_pos hl]

/-- The clause of O48 on the swap. -/
theorem slotSwapCommand (s : State) :
    let st := s.dev.get 0x3300 3
    let due := s.dev.get 0x3300 1 ≤ s.dev.ht
    (¬ due ∨ (st ≠ 1 ∧ st ≠ 2) → Effect .slotSwap s s.dev)
    ∧ (due → st = 2 → Effect .slotSwap s s.dev.swapNow)
    ∧ (due → st = 1 → Effect .slotSwap s s.dev.missSwap) := by
  intro st due
  have hx : ∀ x, (if s.dev.ht < s.dev.get 0x3300 1 then s.dev else if s.dev.get 0x3300 3 = 2 then s.dev.swapNow
      else if s.dev.get 0x3300 3 = 1 then s.dev.missSwap else s.dev) = x → Effect .slotSwap s x := by
    rintro x rfl
    rfl
  refine ⟨fun h => hx _ ?_, fun hd h2 => hx _ ?_, fun hd h1 => hx _ ?_⟩
  · obtain hd | ⟨h1, h2⟩ := h
    · exact if_pos (not_le.1 hd)
    · rw [if_neg h2, if_neg h1, ite_self]
  · rw [if_neg (not_lt.2 hd), if_pos h2]
  · rw [if_neg (not_lt.2 hd), if_neg (by omega), if_pos h1]

/-- Settles O48: a granted write of `SWAP_CMD` acts as its checks say, loading and the swap store what they are to, and what flits change on
their way shows neither in the slots nor in their counts. -/
theorem slotTableCommands : Obligations.SlotTableCommands := by
  unfold Obligations.SlotTableCommands
  refine ⟨fun who s hg => ?_, fun ecc s => ?_, fun s => ?_, fun c p lead s hc => ?_, fun who v s hg => accepted_epochValueWrite hg⟩
  · have harm := s.dev.asked_swapCmd_arm who
    refine ⟨fun hst => ?_, fun h1 h2 he => ?_, fun h1 h2 he hl => ?_, fun h1 h2 he hl => ?_, accepted_swapDisarm hg⟩
    · rw [if_pos hst] at harm
      exact effect_swapArm hg harm
    · rw [if_neg (not_or.2 ⟨h1, h2⟩), if_pos he] at harm
      exact effect_swapArm hg harm
    · rw [if_neg (not_or.2 ⟨h1, h2⟩), if_neg he, if_pos hl] at harm
      exact effect_swapArm hg harm
    · rw [if_neg (not_or.2 ⟨h1, h2⟩), if_neg he, if_neg hl] at harm
      exact effect_swapArm hg harm
  · obtain ⟨hidle, hmissed, hfails, hloads⟩ := swapLoadCommand ecc s
    refine ⟨hidle, fun h hp => ⟨_, (hmissed h hp).answers, missed_missSwap s⟩, hfails, fun h hp hl => ?_⟩
    refine ⟨_, hloads h hp hl, rfl, rfl, fun a ha => sget_tableOf _ ha, fun p hp6 => ?_⟩
    obtain ⟨hpos, hle, hok⟩ := Dev.loadCheck_passed hl hp6
    refine ⟨hpos, hle, fun i hi => ?_⟩
    rw [Dev.loadBank_entry _ hp6 hi]
    exact ⟨rfl, entryOk_forward (hok i hi)⟩
  · obtain ⟨hidle, hswaps, hmissed⟩ := slotSwapCommand s
    have hslots : s.dev.swapNow.slots = s.dev.bankChanged.swapNoted.slots :=
      Dev.swapNow_keeps trafficBlind_slots (fun d k c a => d.note_slots k c a) s.dev
    have hcounts := s.dev.swapNow_counts
    refine ⟨hidle, fun hd h2 => ⟨_, (hswaps hd h2).answers, hslots, ?_⟩, fun hd h1 => ⟨_, (hmissed hd h1).answers, missed_missSwap s⟩⟩
    dsimp only
    exact hcounts
  · intro mine free
    obtain ⟨hnone, hdue⟩ := effect_slot hc s
    refine ⟨hnone, fun i e hd => ?_⟩
    obtain ⟨hother, hfree, -⟩ := hdue i e hd
    obtain ⟨hdead, hoff, hruns⟩ := slotCommands c p lead s hc hd
    refine ⟨hother, hfree, hdead, hoff, fun hm hf hp hon => ?_⟩
    obtain ⟨t, ht, hslots, hdeads, hlate, hintime⟩ := hruns hm hf hp hon
    have hslips := s.dev.slipsAt_iff p i e lead
    exact ⟨t, ht, hslots, hdeads, fun h => hlate (hslips.2 h), fun h => hintime fun hs => h (hslips.1 hs)⟩

end Sys2Proof.Machine
end

section
/-! PROOF. What the collectives engine leaves alone while it sends, receives and concludes (11 R353-R367): the segments but for their progress,
and what has been received. -/

namespace Sys2Proof.Machine

/-! ## Feeding the fabric (11 R355, R356) -/

/-- A view of the device that shows neither the course of flits nor how far each segment has been sent. -/
structure FeedBlind {β : Type} (g : Dev → β) : Prop extends TrafficBlind g where
  progress (d : Dev) (old new : Segment) : new.fixed = old.fixed → g (d.setSegment old new) = g d

/-- The device with other segments in its engine. -/
def Dev.withSegments (d : Dev) (l : List Segment) : Dev := { d with eng := { d.eng with segments := l } }

section
variable {β : Type} {g : Dev → β} (h : FeedBlind g) (d : Dev)
include h

theorem FeedBlind.feedOne (s : Segment) (k : Kept) : g (d.feedOne s k) = g d :=
  (h.sendKept _ k _ _ _).trans (h.progress d s _ rfl)

theorem FeedBlind.feed (n : Nat) : g (d.feed n) = g d := by
  induction n generalizing d with
  | zero => rfl
  | succ n ih =>
    rw [Dev.feed]
    split
    · exact (ih _).trans (h.feedOne d _ _)
    · rfl

theorem FeedBlind.feedAll : g d.feedAll = g d := h.feed d _

/-- Forgetting segments shows as the segments that are left. -/
theorem FeedBlind.forget (f : Segment → Bool) : g (d.forget f) = g (d.withSegments (d.eng.segments.filter (fun s => !f s))) := by
  unfold Dev.forget
  split
  · exact h.feedAll _
  · next hf =>
    have hnone : ∀ s ∈ d.eng.segments, (!f s) = true := by simpa using hf
    rw [List.filter_eq_self.2 hnone]
    rfl

end

theorem feedBlind_segs : FeedBlind Dev.segs where
  toTrafficBlind := .of_atRest fun _ => rfl
  progress d old new he := by
    unfold Dev.segs Dev.setSegment
    rw [List.map_map]
    refine List.map_congr_left fun x _ => ?_
    by_cases hx : x = old
    · simp [hx, he]
    · simp [hx]

/-! ## The start of a segment (11 R366) -/

/-- An event that the engine notes for a collective shows only in what shows its collectives. -/
theorem Dev.takeNumber_keeps {β : Type} {g : Engine → β} (h : ∀ e n x l, g { e with nextSegment := n, exhausted := x, flights := l } = g e)
    (d : Dev) (r : SegReq) : g (d.takeNumber r).eng = g d.eng := by
  unfold Dev.takeNumber
  extract_lets n
  split
  · have hraise : ∀ x : Dev, ((x.raise 0x2906 r.collId 0).noteEvent r.owner 0x2906).eng
        = { x.eng with flights := x.eng.flights.map fun c => if r.owner = some c.id then { c with event := pickEvent c.event 0x2906 } else c } := by
      intro x
      unfold Dev.noteEvent
      rw [Dev.raise_eng]
    rw [hraise]
    exact h d.eng n true _
  · exact h d.eng n d.eng.exhausted d.eng.flights

/-- A segment that starts shows in the segments alone, where it stands last. -/
theorem FeedBlind.startSegment {β : Type} {g : Dev → β} (h : FeedBlind g) (d : Dev) (r : SegReq) (hx : d.eng.exhausted = false)
    (hn : d.eng.nextSegment < 2 ^ 24) : ∃ s : Segment, s.fixed = (r.owner, r.dest, d.eng.nextSegment, r.keep d.eng.nextSegment d.eng.nextKey, 0)
      ∧ g (d.startSegment r) = g { d.takeNumber r with eng := { (d.takeNumber r).eng with
          segments := (d.takeNumber r).eng.segments ++ [s], nextKey := (d.takeNumber r).eng.nextKey + s.chunks.length } } := by
  have hroom : ¬ segmentLimit ≤ d.eng.nextSegment := not_le.2 hn
  unfold Dev.startSegment
  rw [if_neg (by simp [hx, hroom])]
  exact ⟨_, rfl, h.feedAll _⟩

/-- With a number to take, a segment stands last among those of the engine. -/
theorem Dev.startSegment_segs (d : Dev) (r : SegReq) (hx : d.eng.exhausted = false) (hn : d.eng.nextSegment < 2 ^ 24) :
    (d.startSegment r).segs = d.segs ++ [(r.owner, r.dest, d.eng.nextSegment, r.keep d.eng.nextSegment d.eng.nextKey, 0)] := by
  obtain ⟨s, hs, hstart⟩ := feedBlind_segs.startSegment d r hx hn
  rw [hstart, ← hs]
  have hsame : (d.takeNumber r).eng.segments = d.eng.segments := d.takeNumber_keeps (g := Engine.segments) (fun _ _ _ _ => rfl) r
  simp [Dev.segs, hsame]

/-! ## What has been received -/

/-- The chunks accepted so far and those that wait to be taken. -/
def Dev.arrivals (d : Dev) : List (Nat × Nat × Nat × Nat) × List Chunk := (d.eng.accepted, d.eng.inbox)

theorem feedBlind_arrivals : FeedBlind Dev.arrivals := ⟨.of_atRest fun _ => rfl, fun _ _ _ _ => rfl⟩

theorem Dev.arrivals_of_eng {a b : Dev} (h : a.eng = b.eng) : a.arrivals = b.arrivals := by unfold Dev.arrivals; rw [h]

theorem Dev.arrivals_of_steering {a b : Dev} (h : a.steering = b.steering) : a.arrivals = b.arrivals :=
  Dev.arrivals_of_eng (congrArg (fun x => x.2.1) h)

section
variable (d : Dev)

@[simp] theorem Dev.startSegment_arrivals (r : SegReq) : (d.startSegment r).arrivals = d.arrivals := by
  unfold Dev.startSegment
  split
  · rfl
  · exact (feedBlind_arrivals.feedAll _).trans (d.takeNumber_keeps (g := fun e => (e.accepted, e.inbox)) (fun _ _ _ _ => rfl) r)

@[simp] theorem Dev.collSend_arrivals (c : Coll) (rank stage : Nat) (data : Marked) (record : Option Nat) :
    (d.collSend c rank stage data record).arrivals = d.arrivals := by
  unfold Dev.collSend
  extract_lets x
  split
  · rfl
  · exact d.startSegment_arrivals _

@[simp] theorem Dev.wrMarked_steering (a : Nat) (l : Marked) : (d.wrMarked a l).steering = d.steering := by
  unfold Dev.wrMarked
  extract_lets d1
  exact (foldl_keeps (g := Dev.steering) (fun d q => by split <;> rfl) _ d1).trans (d.wr_steering _ _ _)

@[simp] theorem Dev.wrMarked_arrivals (a : Nat) (l : Marked) : (d.wrMarked a l).arrivals = d.arrivals :=
  Dev.arrivals_of_steering (d.wrMarked_steering a l)

theorem Dev.rsTake_arrivals (c : Coll) (n : Need) (data : Marked) : (d.rsTake c n data).1.arrivals = d.arrivals := by
  unfold Dev.rsTake
  extract_lets l l' c'
  split
  · rfl
  · exact d.collSend_arrivals _ _ _ _ _

theorem Dev.askPart_arrivals (c : Coll) (k : Nat) : (d.askPart c k).arrivals = d.arrivals := feedBlind_arrivals.sendControl d _ _ _ _

theorem Dev.checkPart_arrivals (c : Coll) (k : Nat) : (d.checkPart c k).1.arrivals = d.arrivals := by
  unfold Dev.checkPart
  split
  · rfl
  · dsimp only
    split
    · split
      · exact Dev.arrivals_of_steering (by rw [Dev.raise_steering, Dev.wr_steering])
      · exact Dev.arrivals_of_steering (by rw [Dev.raise_steering, Dev.withDraws_steering, Dev.wr_steering, Dev.wr_steering])
    · split
      · exact Dev.arrivals_of_steering (d.wr_steering _ _ _)
      · rw [Dev.askPart_arrivals]
        exact Dev.arrivals_of_steering (by rw [Dev.addSat_steering, Dev.wr_steering])

theorem Dev.agTake_arrivals (c : Coll) (n : Need) (data : Marked) : (d.agTake c n data).1.arrivals = d.arrivals := by
  unfold Dev.agTake
  extract_lets half a d1 c1 d2
  have h2 : d2.arrivals = d.arrivals := by
    simp only [d2]
    split
    · exact d.wrMarked_arrivals _ _
    · exact (d1.collSend_arrivals _ _ _ _ _).trans (d.wrMarked_arrivals _ _)
  split
  · exact (d2.checkPart_arrivals c1 _).trans h2
  · exact h2

theorem Dev.bcTake_arrivals (c : Coll) (data : Marked) : (d.bcTake c data).1.arrivals = d.arrivals := by
  unfold Dev.bcTake
  extract_lets d1 c1
  dsimp only
  split
  · exact (d1.collSend_arrivals _ _ _ _ _).trans (d.wrMarked_arrivals _ _)
  · exact d.wrMarked_arrivals _ _

theorem Dev.peTake_arrivals (c : Coll) (n : Need) (data : Marked) : (d.peTake c n data).1.arrivals = d.arrivals := by
  unfold Dev.peTake
  split
  · exact d.wrMarked_arrivals _ _
  · rfl

theorem Dev.erDeliver_arrivals (c : Coll) (v : List Nat) (levels : Nat) : (d.erDeliver c v levels).1.arrivals = d.arrivals := by
  unfold Dev.erDeliver
  extract_lets data d1 c1
  refine (foldl_keeps (g := Dev.arrivals) (fun d l => ?_) _ d1).trans (d.wrMarked_arrivals _ _)
  split
  · exact d.collSend_arrivals _ _ _ _ _
  · rfl

theorem Dev.erAdvance_arrivals (c : Coll) (fuel : Nat) : (d.erAdvance c fuel).1.arrivals = d.arrivals := by
  induction fuel generalizing c with
  | zero => rfl
  | succ fuel ih =>
    unfold Dev.erAdvance
    extract_lets l v
    split
    · rfl
    · split
      · exact d.erDeliver_arrivals _ _ _
      · split
        · exact d.collSend_arrivals _ _ _ _ _
        · split
          · exact ih _
          · split
            · rfl
            · exact ih _

theorem Dev.erTake_arrivals (c : Coll) (n : Need) (data : Marked) : (d.erTake c n data).1.arrivals = d.arrivals := by
  unfold Dev.erTake
  split
  · exact d.erDeliver_arrivals _ _ _
  · exact d.erAdvance_arrivals _ _

/-- A segment that a collective takes changes nothing of what has been received. -/
theorem Dev.collTake_arrivals (c : Coll) (n : Need) (data : Marked) : (d.collTake c n data).1.arrivals = d.arrivals := by
  unfold Dev.collTake
  split
  · exact d.rsTake_arrivals c n data
  · exact d.agTake_arrivals c n data
  · exact d.bcTake_arrivals c data
  · exact d.peTake_arrivals c n data
  · exact d.erTake_arrivals c n data

/-! ## The end of a collective (11 R363) -/

theorem Dev.noiseAdd_steering (c : Coll) : (d.noiseAdd c).steering = d.steering := by
  unfold Dev.noiseAdd
  split
  · extract_lets sl n sr a v v1 v2 v3 v4
    split <;> rfl
  · rfl

theorem Job.rsWrite_steering (j : Job) (c : Coll) : (j.rsWrite c).d.steering = j.d.steering := by
  unfold Job.rsWrite
  extract_lets v l vals
  generalize hp : (if v.fmt.isScaled = true then _ else _ : Job × List Nat) = p
  have hd : p.1.d.steering = j.d.steering := by
    rw [← hp]
    split
    · exact j.produce_steering _ _ _
    · rfl
  exact (p.1.d.wrMarked_steering _ _).trans hd

/-- The work of a collective's last acts before its Sniffer and its outcome, on the device that has dropped it. -/
def Job.lastActs (j : Job) (c : Coll) : Job :=
  let j := if c.op = 0x40 then j.rsWrite c else j
  let j := if c.bad = 0 then j else j.poisonedAt c.step (c.bad - 1)
  if c.op = 0x40 ∧ j.done.code = 0 then j.dev (fun d => d.noiseAdd c) else j

/-- The engine once a collective has left it. -/
def Dev.left (d : Dev) (c : Coll) : Dev :=
  { d with eng := { d.eng with
    flights := d.eng.flights.filter (fun x => x.id != c.id)
    past := if c.op = 0x41 then c :: d.eng.past else d.eng.past } }

/-- The epoch that a permutation that ends well leaves (11 R364). -/
def Job.advanceEpoch (j : Job) (c : Coll) : Job :=
  if c.op = 0x43 ∧ j.done.code = 0
  then j.dev (fun d => { d with eng := { d.eng with
    epochs := sset (fun _ => 0) d.eng.epochs (coTensor c.desc) (coEpoch c.desc) } }) else j

theorem Dev.conclude_eq (c : Coll) :
    d.conclude c =
      let j := ((⟨d.left c, ⟨c.code, c.status, c.event, 0⟩⟩ : Job).lastActs c).advanceEpoch c
      let j := j.sniff (coSniffEn c.desc) (coSniffUnit c.desc) c.id (j.d.recvBytes c)
      j.d.finish c.id (j.result c.result).done := rfl

theorem Job.lastActs_steering (j : Job) (c : Coll) : (j.lastActs c).d.steering = j.d.steering := by
  unfold Job.lastActs
  extract_lets j1 j2
  have h1 : j1.d.steering = j.d.steering := by
    simp only [j1]
    split
    · exact j.rsWrite_steering c
    · rfl
  have h2 : j2.d.steering = j.d.steering := by
    simp only [j2]
    split
    · exact h1
    · exact (j1.poisonedAt_steering _ _).trans h1
  split
  · exact (j2.d.noiseAdd_steering c).trans h2
  · exact h2

theorem Dev.finish_eng (id : Nat) (k : Done) : (d.finish id k).eng = d.eng := by
  unfold Dev.finish
  split <;> rfl

theorem Job.sniff_eng (j : Job) (on : Bool) (u id : Nat) (l : List (Byte × Bool)) : (j.sniff on u id l).d.eng = j.d.eng :=
  congrArg (fun x => x.2.1) (j.sniff_steering on u id l)

/-- The end of a collective shows in the engine's collectives and epochs alone. -/
theorem Dev.conclude_keeps {β : Type} {g : Engine → β} (h : ∀ e l p x, g { e with flights := l, past := p, epochs := x } = g e) (c : Coll) :
    g (d.conclude c).eng = g d.eng := by
  rw [Dev.conclude_eq]
  dsimp only
  rw [Dev.finish_eng, Job.sniff_eng]
  generalize hj : (⟨d.left c, ⟨c.code, c.status, c.event, 0⟩⟩ : Job).lastActs c = j
  have heng : j.d.eng = (d.left c).eng := by
    rw [← hj]
    exact congrArg (fun x => x.2.1) (Job.lastActs_steering _ c)
  have hleft : g (d.left c).eng = g d.eng := h d.eng _ _ d.eng.epochs
  unfold Job.advanceEpoch
  split
  · exact (h j.d.eng j.d.eng.flights j.d.eng.past _).trans ((congrArg g heng).trans hleft)
  · exact (congrArg g heng).trans hleft

theorem Dev.settle_keeps {β : Type} {g : Engine → β} (h : ∀ e l p x, g { e with flights := l, past := p, epochs := x } = g e) (id : Nat) :
    g (d.settle id).eng = g d.eng := by
  unfold Dev.settle
  split
  · split
    · exact d.conclude_keeps h _
    · rfl
  · rfl

theorem Dev.settle_arrivals (id : Nat) : (d.settle id).arrivals = d.arrivals :=
  d.settle_keeps (g := fun e => (e.accepted, e.inbox)) (fun _ _ _ _ => rfl) id

theorem Dev.settle_segs (id : Nat) : (d.settle id).segs = d.segs :=
  d.settle_keeps (g := fun e => e.segments.map Segment.fixed) (fun _ _ _ _ => rfl) id

/-! ## A chunk that is accepted (11 R354) -/

theorem Dev.ackSegment_keeps {β : Type} {g : Dev → β} (h : TrafficBlind g)
    (ha : ∀ (d : Dev) l, g { d with eng := { d.eng with ackedSegs := l } } = g d) (k : Chunk) : g (d.ackSegment k) = g d := by
  unfold Dev.ackSegment
  extract_lets x d1
  exact (h.sendControl d1 _ _ _ _).trans (ha d _)

theorem Dev.segmentDone_arrivals (c : Coll) (i : Nat) (n : Need) (k : Chunk) (data : Marked) :
    (d.segmentDone c i n k data).arrivals = d.arrivals := by
  unfold Dev.segmentDone
  extract_lets c1 d1
  have h1 : d1.arrivals = d.arrivals := d.ackSegment_keeps feedBlind_arrivals.toTrafficBlind (fun _ _ => rfl) k
  exact (Dev.settle_arrivals _ _).trans ((d1.collTake_arrivals c1 n data).trans h1)

/-- An accepted chunk is noted, first, and no other waits less. -/
theorem Dev.joinChunk_arrivals (c : Coll) (i : Nat) (n : Need) (k : Chunk) :
    (d.joinChunk c i n k).arrivals = (k.key :: d.eng.accepted, d.eng.inbox) := by
  unfold Dev.joinChunk
  extract_lets old pieces c1 c2 x d1 data
  split
  · exact d1.segmentDone_arrivals c2 i n k data
  · rfl

end

end Sys2Proof.Machine
end

section
/-! PROOF. The collectives engine acts on chunks and timers (11 R353-R356, R362, R363): O31. -/

namespace Sys2Proof.Machine

/-! ## The oldest chunk of a kind -/

section
variable {d : Dev} {kind : Nat} {f : Dev → Chunk → Dev}

theorem Dev.loopBack_of_empty (hl : d.eng.loop = []) : d.loopBack = d := by
  have heng : ({ d.eng with loop := [] } : Engine) = d.eng := by rw [← hl]
  unfold Dev.loopBack
  rw [hl, heng]
  rfl

theorem Dev.fromInbox_none (hl : d.eng.loop = []) (h : d.eng.inbox.find? (fun k => chKind k.header == kind) = none) :
    d.fromInbox kind f = d := by
  simp only [Dev.fromInbox, Dev.loopBack_of_empty hl, h]

theorem Dev.fromInbox_some {k : Chunk} (hl : d.eng.loop = []) (h : d.eng.inbox.find? (fun k => chKind k.header == kind) = some k) :
    d.fromInbox kind f = f (d.withoutChunk k) k := by
  simp only [Dev.fromInbox, Dev.loopBack_of_empty hl, h]
  rfl

end

section
variable {c : Instr} {kind : Nat} {f : Dev → Chunk → Dev} {s : State} {k : Chunk}

theorem effect_inbox_none (hx : exec c s = run s (fun _ d => d.fromInbox kind f)) (hl : s.dev.eng.loop = [])
    (h : s.dev.eng.inbox.find? (fun k => chKind k.header == kind) = none) : Effect c s s.dev := by
  rw [Effect, hx, run, Dev.fromInbox_none hl h]

theorem effect_inbox_some (hx : exec c s = run s (fun _ d => d.fromInbox kind f)) (hl : s.dev.eng.loop = [])
    (h : s.dev.eng.inbox.find? (fun k => chKind k.header == kind) = some k) : Effect c s (f (s.dev.withoutChunk k) k) := by
  rw [Effect, hx, run, Dev.fromInbox_some hl h]

theorem effect_inboxRead_fatal (hx : exec c s = run s (fun _ d => d.fromInboxRead kind f)) (hf : s.dev.disp.fatal = true) :
    Effect c s s.dev := by
  rw [Effect, hx, run, Dev.fromInboxRead, if_pos hf]

section
variable (hx : exec c s = run s (fun _ d => d.fromInboxRead kind f)) (hf : s.dev.disp.fatal = false) (hl : s.dev.eng.loop = [])
include hx hf hl

theorem effect_inboxRead_none (h : s.dev.eng.inbox.find? (fun k => chKind k.header == kind) = none) : Effect c s s.dev.readFlaws := by
  rw [← s.dev.readFlaws_eng] at hl h
  rw [Effect, hx, run, Dev.fromInboxRead, if_neg (by simp [hf]), Dev.fromInbox_none hl h]

theorem effect_inboxRead_some (h : s.dev.eng.inbox.find? (fun k => chKind k.header == kind) = some k) :
    Effect c s (f (s.dev.readFlaws.withoutChunk k) k) := by
  rw [← s.dev.readFlaws_eng] at hl h
  rw [Effect, hx, run, Dev.fromInboxRead, if_neg (by simp [hf]), Dev.fromInbox_some hl h]

end
end

/-! ## DATA and FINGERPRINT chunks (11 R354, R356, R363) -/

theorem serialNewer_self (e : Nat) : serialNewer 16 e e = false := by
  have h : (e + 2 ^ 16 - e % 2 ^ 16) % 2 ^ 16 = 0 := by omega
  unfold serialNewer
  rw [h]
  rfl

section
variable {d : Dev} {k : Chunk}

/-- A duplicate shows in its count, and in an answer to its sender. -/
theorem Dev.takeChunk_duplicate {β : Type} {g : Dev → β} (h : TrafficBlind g)
    (ha : ∀ (d : Dev) l, g { d with eng := { d.eng with ackedSegs := l } } = g d) (hk : k.key ∈ d.eng.accepted) :
    g (d.takeChunk k) = g (d.addWrap 0x3510 2 1) := by
  unfold Dev.takeChunk
  rw [if_pos (List.contains_iff_mem.2 hk)]
  dsimp only
  split
  · exact Dev.ackSegment_keeps _ h ha k
  · rfl

section
variable (hk : k.key ∉ d.eng.accepted)
include hk

theorem Dev.takeChunk_stale (ho : serialNewer 16 (d.epochOf (chTensor k.header)) k.epoch = true)
    (hc : d.eng.flights.find? (fun c => coCollId c.desc == chCollId k.header) = none) : d.takeChunk k = d.addWrap 0x3510 1 1 := by
  unfold Dev.takeChunk
  rw [if_neg (fun h => hk (List.contains_iff_mem.1 h))]
  simp only [ho, hc, if_true]
  rfl

variable (ho : serialNewer 16 (d.epochOf (chTensor k.header)) k.epoch = false)
include ho

theorem Dev.takeChunk_early (hc : d.eng.flights.find? (fun c => coCollId c.desc == chCollId k.header) = none) :
    d.takeChunk k = d.holdEarly k := by
  unfold Dev.takeChunk
  rw [if_neg (fun h => hk (List.contains_iff_mem.1 h))]
  simp only [ho, hc]
  rfl

theorem Dev.takeChunk_joins {c : Coll} {i : Nat} (hc : d.eng.flights.find? (fun c => coCollId c.desc == chCollId k.header) = some c)
    (he : coEpoch c.desc = k.epoch) (hn : c.needFor k = some i) (hi : i < c.need.length) :
    d.takeChunk k = d.joinChunk c i c.need[i] k := by
  unfold Dev.takeChunk
  rw [if_neg (fun h => hk (List.contains_iff_mem.1 h))]
  simp only [ho, hc, he, hn, serialNewer_self, List.getElem?_eq_getElem hi, bne_self_eq_false]
  rfl

end
end

/-- What a duplicate leaves. -/
def Dev.unmoved (d : Dev) : Mem × Disp × List Coll × List Chunk := (d.mem, d.disp, d.eng.flights, d.eng.inbox)

theorem trafficBlind_unmoved : TrafficBlind Dev.unmoved := .of_atRest fun _ => rfl

/-- What the two commands that take a chunk do with it. -/
theorem takeChunk_acts {c : Instr} {kind : Nat} {s : State} {k : Chunk} (hx : exec c s = run s (fun _ d => d.fromInboxRead kind Dev.takeChunk))
    (hf : s.dev.disp.fatal = false) (hl : s.dev.eng.loop = [])
    (hi : s.dev.eng.inbox.find? (fun k => chKind k.header == kind) = some k) :
    let b := s.dev.readFlaws
    let d := b.withoutChunk k
    let coll := d.eng.flights.find? (fun c => coCollId c.desc == chCollId k.header)
    let old := serialNewer 16 (d.epochOf (chTensor k.header)) k.epoch
    (k.key ∈ d.eng.accepted → ∃ t, Answers c s t ∧ t.dev.get 0x3510 2 = (s.dev.get 0x3510 2 + 1) % 2 ^ 64 ∧ t.dev.mem = b.mem
      ∧ t.dev.disp = s.dev.disp ∧ t.dev.eng.flights = s.dev.eng.flights ∧ t.dev.eng.inbox = d.eng.inbox)
    ∧ (k.key ∉ d.eng.accepted → old = true → coll = none → Effect c s (d.addWrap 0x3510 1 1))
    ∧ (k.key ∉ d.eng.accepted → old = false → coll = none →
        (d.eng.earlyBytes + k.data.length ≤ 8 * 2 ^ 20 →
          Effect c s { d with eng := { d.eng with early := d.eng.early ++ [(k, d.now + d.get 0x3500 3 * 1000)] } })
        ∧ (8 * 2 ^ 20 < d.eng.earlyBytes + k.data.length → Effect c s (d.addSat 0x3510 4 32 1)))
    ∧ (∀ f i, k.key ∉ d.eng.accepted → old = false → coll = some f → coEpoch f.desc = k.epoch → f.needFor k = some i →
        i < f.need.length → ∃ t, Answers c s t ∧ k.key ∈ t.dev.eng.accepted ∧ t.dev.eng.inbox = d.eng.inbox) := by
  intro b d coll old
  have h : Effect c s (d.takeChunk k) := effect_inboxRead_some hx hf hl hi
  refine ⟨fun hk => ?_, fun hk ho hc => ?_, fun hk ho hc => ⟨fun hroom => ?_, fun hfull => ?_⟩, fun f i hk ho hc he hn hlt => ?_⟩
  · have hcount : (d.takeChunk k).get 0x3510 2 = (s.dev.get 0x3510 2 + 1) % 2 ^ 64 := by
      have hb : d.get 0x3510 2 = s.dev.get 0x3510 2 := s.dev.readFlaws_get (by decide)
      have hg : TrafficBlind (fun x => x.get 0x3510 2) := trafficBlind_get (untravelled (by decide) (by decide) (by decide))
      rw [Dev.takeChunk_duplicate hg (fun _ _ => rfl) hk, Dev.addWrap, Dev.put_get_same, hb]
      rfl
    have hrest : (d.takeChunk k).unmoved = (b.mem, s.dev.disp, s.dev.eng.flights, d.eng.inbox) := by
      rw [Dev.takeChunk_duplicate trafficBlind_unmoved (fun _ _ => rfl) hk, ← s.dev.readFlaws_disp, ← s.dev.readFlaws_eng]
      rfl
    simp only [Dev.unmoved, Prod.mk.injEq] at hrest
    exact ⟨_, h.answers, hcount, hrest⟩
  · rwa [Dev.takeChunk_stale hk ho hc] at h
  · rwa [Dev.takeChunk_early hk ho hc, Dev.holdEarly, if_neg (not_lt.2 hroom)] at h
  · rwa [Dev.takeChunk_early hk ho hc, Dev.holdEarly, if_pos hfull] at h
  · rw [Dev.takeChunk_joins hk ho hc he hn hlt] at h
    have ha := d.joinChunk_arrivals f i f.need[i] k
    simp only [Dev.arrivals, Prod.mk.injEq] at ha
    exact ⟨_, h.answers, by rw [show _ = _ from ha.1]; exact List.mem_cons_self, ha.2⟩

/-! ## SEG_ACK (11 R355, R363) -/

theorem Dev.dropSegment_segs (d : Dev) (g : Segment) :
    (d.dropSegment g).segs = (d.eng.segments.filter (fun y => y != g)).map Segment.fixed := feedBlind_segs.forget d _

theorem Dev.commitAcked_segs (d : Dev) (g : Segment) : (d.commitAcked g).segs = d.segs := by
  unfold Dev.commitAcked
  split
  · split <;> rfl
  · rfl

section
variable {d : Dev} {k : Chunk}

theorem Dev.takeSegAck_none (h : d.segmentOf k = none) : d.takeSegAck k = d := by rw [Dev.takeSegAck, h]

variable {g : Segment} (h : d.segmentOf k = some g)
include h

theorem Dev.takeSegAck_segs : (d.takeSegAck k).segs = (d.eng.segments.filter (fun y => y != g)).map Segment.fixed := by
  rw [Dev.takeSegAck, h, ← d.dropSegment_segs]
  dsimp only
  split
  · exact Dev.settle_segs _ _
  · exact Dev.commitAcked_segs _ _

/-- A collective that waits for more goes on without the segment. -/
theorem Dev.takeSegAck_waits {id : Nat} {f : Coll} (ho : g.owner = some id) (hc : (d.dropSegment g).coll id = some f)
    (hw : (d.dropSegment g).collOver f = false) : d.takeSegAck k = d.dropSegment g := by
  rw [Dev.takeSegAck, h]
  simp only [ho, Dev.settle, hc, hw]
  rfl

end

/-! ## Chunks that are sent again (11 R355) -/

/-- A view that shows neither traffic, nor events and the collectives that note them, shows nothing of a chunk sent again. -/
theorem Dev.resendChunk_keeps {β : Type} {g : Dev → β} (h : TrafficBlind g) (hl : ∀ (d : Dev) l, g { d with limits := l } = g d)
    (hr : ∀ (d : Dev) c a b, g (d.raise c a b) = g d) (hn : ∀ (d : Dev) o c, g (d.noteEvent o c) = g d) (d : Dev) (owner : Option Nat)
    (k : Kept) : g (d.resendChunk owner k) = g d := by
  unfold Dev.resendChunk Dev.oncePerSecond
  dsimp only
  split
  · exact (hn _ _ _).trans ((hr _ _ _ _).trans ((hl _ _).trans (h.sendKept d k _ _ _)))
  · exact h.sendKept d k _ _ _

/-- The segments, with the dispatcher and the memory. -/
def Dev.staging (d : Dev) : List Segment × Disp × Mem := (d.eng.segments, d.disp, d.mem)

theorem Dev.resendChunk_staging (d : Dev) (owner : Option Nat) (k : Kept) : (d.resendChunk owner k).staging = d.staging :=
  Dev.resendChunk_keeps (.of_atRest fun _ => rfl) (fun _ _ => rfl)
    (fun d c a b => by rw [Dev.staging, d.raise_eng, d.raise_disp, d.raise_mem]; rfl) (fun _ _ _ => rfl) d owner k

/-- A segment that is replaced, and whose chunks, or some of them, are sent again. -/
theorem Dev.resend_staging (d : Dev) (old new : Segment) (n : Nat) (l : List Kept) :
    (l.foldl (fun d k => d.resendChunk old.owner k) ((d.setSegment old new).noteResent old.owner n)).staging
      = (d.eng.segments.map (fun y => if y = old then new else y), d.disp, d.mem) :=
  foldl_keeps (fun d k => d.resendChunk_staging _ k) l _

/-! ## Giving up (11 R355) -/

theorem Dev.discard_disp (d : Dev) (id : Nat) : (d.discard id).disp = d.disp := congrArg Prod.fst (Dev.forget_apart _ _)

section
variable {d : Dev} {g : Segment} {id : Nat} {f : Coll} (ho : g.owner = some id) (hc : d.coll id = some f)
include ho hc

theorem Dev.giveUpSegment_eq :
    d.giveUpSegment g = (d.raiseStep 0x390A (coCollId f.desc) 0 f.step).failColl (f.event' 0x390A) ccCollIntegrity := by
  unfold Dev.giveUpSegment
  rw [ho]
  dsimp only
  rw [hc]

/-- A collective that loses a segment ends with `COLL_INTEGRITY`, and its step is fatal. -/
theorem Dev.giveUpSegment_ends {e : Entry} (hcode : f.code = 0) (hid : f.id = id) (he : d.entry id = some e) :
    f.step ∈ (d.giveUpSegment g).disp.fatalSteps
      ∧ ∃ done, (d.giveUpSegment g).entry id = some { e with done := some done } ∧ done.code = ccCollIntegrity := by
  subst hid
  rw [Dev.giveUpSegment_eq ho hc]
  obtain ⟨hboard, hstep⟩ := d.raiseStep_marks 0x390A (coCollId f.desc) 0 f.step
  generalize d.raiseStep 0x390A (coCollId f.desc) 0 f.step = x at hboard hstep
  have hdisp : (x.discard f.id).disp = x.disp := x.discard_disp f.id
  have hentry : (x.discard f.id).entry f.id = some e := by rw [Dev.entry, hdisp, hboard]; exact he
  generalize hk : Done.mk f.code f.status (pickEvent f.event 0x390A) 0 = k
  have hfail : x.failColl (f.event' 0x390A) ccCollIntegrity
      = (x.discard f.id).finish f.id (((⟨x.discard f.id, k⟩ : Job).fail ccCollIntegrity).result f.result).done := by rw [← hk]; rfl
  rw [hfail]
  refine ⟨?_, _, (Dev.finish_entry hentry _).1, Job.fail_code (by rw [← hk]; exact hcode) _⟩
  rw [Dev.finish_eq _ _ _ _ hentry]
  rw [← hdisp] at hstep
  exact hstep

end

/-! ## CHUNK_NAK (11 R355) -/

section
variable {d : Dev} {k : Chunk} {g : Segment} {q : Kept}

theorem Dev.takeNak_none (h : d.segmentOf k = none) : d.takeNak k = d := by rw [Dev.takeNak, h]

variable (h : d.segmentOf k = some g) (hq : (g.chunks.take g.sent).find? (fun q => chChunk q.header == chChunk k.header) = some q)
include h hq

theorem Dev.takeNak_resends (hr : q.resends < g.limit) : (d.takeNak k).staging =
    (d.eng.segments.map (fun y => if y = g then g.bump (fun x => x.key == q.key) d.now (d.get 0x3500 1) else y), d.disp, d.mem) := by
  unfold Dev.takeNak
  simp only [h, hq, not_le.2 hr, if_false]
  have hs := d.resend_staging g (g.bump (fun x => x.key == q.key) d.now (d.get 0x3500 1)) 1 [q]
  rwa [List.foldl_cons, List.foldl_nil] at hs

theorem Dev.takeNak_givesUp (hr : g.limit ≤ q.resends) : d.takeNak k = d.giveUpSegment g := by
  unfold Dev.takeNak
  simp only [h, hq, hr, if_true]

end

/-! ## REFETCH_REQ (11 R362) -/

theorem Dev.markedAt_isEmpty (d : Dev) (a : Nat) {n : Nat} (h : 0 < n) : (d.markedAt a n).isEmpty = false := by
  obtain ⟨m, rfl⟩ : ∃ m, n = m + 1 := ⟨n - 1, by omega⟩
  rfl

/-- A segment of a collective, with bytes to send and a number to take, stands last in the engine. -/
theorem Dev.collSend_segs (d : Dev) (c : Coll) {rank dest : Nat} (stage : Nat) {data : Marked} (record : Option Nat)
    (hr : c.tree[rank]? = some dest) (hdata : data.isEmpty = false) (hx : d.eng.exhausted = false) (hn : d.eng.nextSegment < 2 ^ 24) :
    (d.collSend c rank stage data record).segs = d.segs ++ [(some c.id, dest, d.eng.nextSegment,
      SegReq.keep ⟨some c.id, dest, coTc c.desc, coSched c.desc, coEpoch c.desc, coCollId c.desc, coTensor c.desc, stage % 256, data, record⟩
        d.eng.nextSegment d.eng.nextKey, 0)] := by
  unfold Dev.collSend
  simp only [hdata, hr, Option.getD_some]
  exact d.startSegment_segs _ hx hn

theorem Dev.collSend_apart (d : Dev) (c : Coll) (rank stage : Nat) (data : Marked) (record : Option Nat) :
    (d.collSend c rank stage data record).apart = d.apart := by
  unfold Dev.collSend
  extract_lets x
  split
  · rfl
  · exact d.startSegment_apart _

theorem findIdx?_getElem? {l : List Nat} {a : Nat} (h : a ∈ l) : ∃ r, l.findIdx? (fun x => x == a) = some r ∧ l[r]? = some a := by
  obtain ⟨r, hr⟩ := Option.isSome_iff_exists.1 ((List.findIdx?_isSome (p := fun x => x == a)).trans (List.any_eq_true.2 ⟨a, h, beq_self_eq_true a⟩))
  obtain ⟨hlt, ha, -⟩ := List.findIdx?_eq_some_iff_getElem.1 hr
  exact ⟨r, hr, by rw [List.getElem?_eq_getElem hlt, eq_of_beq ha]⟩

theorem Dev.takeRefetch_some {d : Dev} {k : Chunk} {f : Coll}
    (h : (d.eng.flights ++ d.eng.past).find? (fun c => c.op == 0x41 && coCollId c.desc == chCollId k.header) = some f) (hs : k.src ∈ f.tree) :
    ∃ r, f.tree[r]? = some k.src ∧ d.takeRefetch k
      = d.collSend f r 0 (d.markedAt (f.sendAt 0) (f.count f.rank * f.sendSize)) (if f.attaches then f.record f.rank else none) := by
  obtain ⟨r, hr, hk⟩ := findIdx?_getElem? hs
  exact ⟨r, hk, by simp only [Dev.takeRefetch, h, hr]⟩

/-! ## The commands that take a chunk -/

/-- With no chunk to take. -/
theorem inbox_idle (c : Instr) (kind : Nat) (s : State) (h : (c = .collDataChunkReceived ∧ kind = 0) ∨ (c = .fingerprintChunkReceived ∧ kind = 1)
      ∨ (c = .segAckReceived ∧ kind = 2) ∨ (c = .chunkNakReceived ∧ kind = 3) ∨ (c = .refetchReqReceived ∧ kind = 4)
      ∨ (c = .shadowDataReceived ∧ kind = 5) ∨ (c = .shadowCommitReceived ∧ kind = 6)) :
    let reads := kind = 0 ∨ kind = 1 ∨ kind = 2 ∨ kind = 4
    (reads → s.dev.disp.fatal = true → Effect c s s.dev)
    ∧ (s.dev.eng.loop = [] → s.dev.eng.inbox.find? (fun k => chKind k.header == kind) = none → (reads → s.dev.disp.fatal = false) →
        Effect c s (if reads then s.dev.readFlaws else s.dev)) := by
  intro reads
  have hread (f : Dev → Chunk → Dev) (hx : exec c s = run s (fun _ d => d.fromInboxRead kind f)) (hr : reads) :
      (reads → s.dev.disp.fatal = true → Effect c s s.dev)
      ∧ (s.dev.eng.loop = [] → s.dev.eng.inbox.find? (fun k => chKind k.header == kind) = none → (reads → s.dev.disp.fatal = false) →
          Effect c s (if reads then s.dev.readFlaws else s.dev)) :=
    ⟨fun _ hf => effect_inboxRead_fatal hx hf, fun hl hn hf => by rw [if_pos hr]; exact effect_inboxRead_none hx (hf hr) hl hn⟩
  have hplain (f : Dev → Chunk → Dev) (hx : exec c s = run s (fun _ d => d.fromInbox kind f)) (hr : ¬ reads) :
      (reads → s.dev.disp.fatal = true → Effect c s s.dev)
      ∧ (s.dev.eng.loop = [] → s.dev.eng.inbox.find? (fun k => chKind k.header == kind) = none → (reads → s.dev.disp.fatal = false) →
          Effect c s (if reads then s.dev.readFlaws else s.dev)) :=
    ⟨fun h => absurd h hr, fun hl hn _ => by rw [if_neg hr]; exact effect_inbox_none hx hl hn⟩
  obtain ⟨rfl, rfl⟩ | ⟨rfl, rfl⟩ | ⟨rfl, rfl⟩ | ⟨rfl, rfl⟩ | ⟨rfl, rfl⟩ | ⟨rfl, rfl⟩ | ⟨rfl, rfl⟩ := h
  · exact hread Dev.takeChunk rfl (by simp [reads])
  · exact hread Dev.takeChunk rfl (by simp [reads])
  · exact hread Dev.takeSegAck rfl (by simp [reads])
  · exact hplain Dev.takeNak rfl (by simp [reads])
  · exact hread Dev.takeRefetch rfl (by simp [reads])
  · exact hplain Dev.takeShadow rfl (by simp [reads])
  · exact hplain Dev.takeCommit rfl (by simp [reads])

/-- The refetch that a collective in flight, or kept for it, answers. -/
theorem takeRefetch_acts {s : State} {k : Chunk} {f : Coll} (hx : Effect .refetchReqReceived s ((s.dev.readFlaws.withoutChunk k).takeRefetch k))
    (hf : ((s.dev.readFlaws.withoutChunk k).eng.flights ++ (s.dev.readFlaws.withoutChunk k).eng.past).find?
      (fun c => c.op == 0x41 && coCollId c.desc == chCollId k.header) = some f)
    (hs : k.src ∈ f.tree) (hb : 0 < f.count f.rank * f.sendSize) (hn : s.dev.eng.nextSegment < 2 ^ 24) (he : s.dev.eng.exhausted = false) :
    ∃ t chunks, Answers .refetchReqReceived s t ∧ t.dev.segs = s.dev.segs ++ [(some f.id, k.src, s.dev.eng.nextSegment, chunks, 0)]
      ∧ t.dev.mem = s.dev.readFlaws.mem ∧ t.dev.disp = s.dev.disp := by
  obtain ⟨r, hr, hsend⟩ := Dev.takeRefetch_some hf hs
  rw [hsend] at hx
  generalize hd : s.dev.readFlaws.withoutChunk k = d at hx
  have hseg : d.eng.nextSegment = s.dev.eng.nextSegment ∧ d.eng.exhausted = s.dev.eng.exhausted ∧ d.segs = s.dev.segs := by
    rw [← hd, Dev.segs, Dev.segs, ← s.dev.readFlaws_eng]
    exact ⟨rfl, rfl, rfl⟩
  obtain ⟨hnum, hexh, hsegs⟩ := hseg
  have hsent := d.collSend_segs f 0 (if f.attaches then f.record f.rank else none) hr (d.markedAt_isEmpty (f.sendAt 0) hb)
    (hexh.trans he) (hnum.symm ▸ hn)
  rw [hsegs, hnum] at hsent
  obtain ⟨hdisp, hmem, -⟩ := Dev.apart_eq_iff.1 (d.collSend_apart f r 0 (d.markedAt (f.sendAt 0) (f.count f.rank * f.sendSize))
    (if f.attaches then f.record f.rank else none))
  refine ⟨_, _, hx.answers, hsent, hmem.trans ?_, hdisp.trans ?_⟩
  · rw [← hd]; rfl
  · rw [← hd, ← s.dev.readFlaws_disp]; rfl

/-! ## Timers (11 R354-R356) -/

/-- A failed chunk is counted and answered. -/
theorem Dev.chunkFailed_keeps {β : Type} {g : Dev → β} (h : TrafficBlind g) (d : Dev) (k : Chunk) :
    g (d.chunkFailed k) = g (d.addSat 0x3510 3 32 1) := h.sendControl _ _ _ _ _

theorem Dev.chunkFailed_beside (d : Dev) (k : Chunk) :
    (d.chunkFailed k).eng.streams = d.eng.streams ∧ (d.chunkFailed k).mem = d.mem ∧ (d.chunkFailed k).disp = d.disp := by
  have h := Dev.chunkFailed_keeps (g := fun d => (d.eng.streams, d.mem, d.disp)) (.of_atRest fun _ => rfl) d k
  simpa only [Prod.mk.injEq, Dev.addSat_eng, Dev.addSat_mem, Dev.addSat_disp] using h

theorem chunkStreamTimeout_acts (source : BitVec 14) (collId : BitVec 16) (detour : Bool) (s : State) :
    let c : Instr := .chunkStreamTimeout source collId detour
    let it := s.dev.eng.streams.find? (fun x => x.src == source.toNat && x.collId == collId.toNat && x.detour == detour)
    (it = none → Effect c s s.dev)
    ∧ ∀ x, it = some x → (s.dev.now < x.lastAt + 20000 → Effect c s s.dev)
      ∧ (x.lastAt + 20000 ≤ s.dev.now → ∃ t, Answers c s t ∧ t.dev.get 0x3510 3 = min (s.dev.get 0x3510 3 + 1) 0xFFFFFFFF
          ∧ t.dev.eng.streams = s.dev.eng.streams.filter (fun y => !(y.src == source.toNat && y.collId == collId.toNat && y.detour == detour))
          ∧ t.dev.mem = s.dev.mem ∧ t.dev.disp = s.dev.disp) := by
  intro c it
  have hx : exec c s = execChunkStreamTimeout source collId detour s := rfl
  refine ⟨fun h => ?_, fun x h => ⟨fun hn => ?_, fun hn => ?_⟩⟩
  · rw [Effect, hx, execChunkStreamTimeout, run, show List.find? _ _ = none from h]
  · rw [Effect, hx, execChunkStreamTimeout, run, show List.find? _ _ = some x from h]
    dsimp only
    rw [if_neg (not_le.2 hn)]
  · generalize hd : ({ s.dev with eng := { s.dev.eng with streams := dropStream s.dev.eng.streams source.toNat collId.toNat detour } } : Dev) = d
    have he : Effect c s (d.chunkFailed x.chunk) := by
      rw [Effect, hx, execChunkStreamTimeout, run, show List.find? _ _ = some x from h, ← hd]
      dsimp only
      rw [if_pos hn]
    have hcount : (d.chunkFailed x.chunk).get 0x3510 3 = min (s.dev.get 0x3510 3 + 1) 0xFFFFFFFF := by
      rw [Dev.chunkFailed_keeps (g := fun d => d.get 0x3510 3) (trafficBlind_get (untravelled (by decide) (by decide) (by decide))),
        Dev.addSat_get_same d (by decide) 1, ← hd]
      rfl
    obtain ⟨hstreams, hmem, hdisp⟩ := d.chunkFailed_beside x.chunk
    refine ⟨_, he.answers, ?_⟩
    dsimp only
    exact ⟨hcount, hstreams.trans (by rw [← hd]; rfl), hmem.trans (by rw [← hd]), hdisp.trans (by rw [← hd])⟩

theorem Segment.spent_iff (g : Segment) : g.spent (fun _ => true) = true ↔ g.limit ≤ g.resends ∨ ∃ q ∈ g.chunks, g.limit ≤ q.resends := by
  simp [Segment.spent]

theorem collAckTimeout_acts (n : Nat) (s : State) :
    let late (g : Segment) := decide (g.chunks.length ≤ g.sent) && decide (g.lastSend + g.wait * 1000 ≤ s.dev.now)
    let it := s.dev.eng.segments.find? (fun g => g.number == n && late g)
    let spent (g : Segment) := g.limit ≤ g.resends ∨ ∃ q ∈ g.chunks, g.limit ≤ q.resends
    (it = none → Effect (.collAckTimeout n) s s.dev)
    ∧ ∀ g, it = some g →
      (¬ spent g → ∃ t, Answers (.collAckTimeout n) s t
        ∧ t.dev.eng.segments = s.dev.eng.segments.map (fun y => if y = g then
            { g.bump (fun _ => true) s.dev.now (s.dev.get 0x3500 1) with resends := g.resends + 1 } else y)
        ∧ t.dev.mem = s.dev.mem ∧ t.dev.disp = s.dev.disp)
      ∧ (∀ id f e, spent g → g.owner = some id → s.dev.coll id = some f → f.code = 0 → s.dev.entry id = some e → f.id = id →
          ∃ t, Answers (.collAckTimeout n) s t ∧ f.step ∈ t.dev.disp.fatalSteps
            ∧ ∃ done, t.dev.entry id = some { e with done := some done } ∧ done.code = ccCollIntegrity) := by
  intro late it spent
  have hx : exec (.collAckTimeout n) s = execCollAckTimeout n s := rfl
  refine ⟨fun h => ?_, fun g h => ⟨fun hs => ?_, fun id f e hs ho hc hcode he hid => ?_⟩⟩
  · rw [Effect, hx, execCollAckTimeout, run,
      show s.dev.eng.segments.find? (fun g => g.number == n && g.overdue s.dev.now) = none from h]
  · have hfind : s.dev.eng.segments.find? (fun g => g.number == n && g.overdue s.dev.now) = some g := h
    generalize hnew : ({ g.bump (fun _ => true) s.dev.now (s.dev.get 0x3500 1) with resends := g.resends + 1 } : Segment) = new
    have he : Effect (.collAckTimeout n) s (g.chunks.foldl (fun d k => d.resendChunk g.owner k)
        ((s.dev.setSegment g new).noteResent g.owner g.chunks.length)) := by
      rw [Effect, hx, execCollAckTimeout, run, hfind, ← hnew]
      dsimp only
      rw [if_neg (fun q => hs (g.spent_iff.1 q))]
    have hrest := s.dev.resend_staging g new g.chunks.length g.chunks
    simp only [Dev.staging, Prod.mk.injEq] at hrest
    obtain ⟨hsegs, hdisp, hmem⟩ := hrest
    exact ⟨_, he.answers, hsegs, hmem, hdisp⟩
  · have hfind : s.dev.eng.segments.find? (fun g => g.number == n && g.overdue s.dev.now) = some g := h
    have hgive : Effect (.collAckTimeout n) s (s.dev.giveUpSegment g) := by
      rw [Effect, hx, execCollAckTimeout, run, hfind]
      dsimp only
      rw [if_pos (g.spent_iff.2 hs)]
    exact ⟨_, hgive.answers, Dev.giveUpSegment_ends ho hc hcode hid he⟩

theorem earlyHoldExpired_acts (s : State) :
    let late (q : Chunk × Nat) := q.2 ≤ s.dev.now
    ∃ t, Answers .earlyHoldExpired s t ∧ t.dev.eng = { s.dev.eng with early := s.dev.eng.early.filter (fun q => !decide (late q)) }
      ∧ t.dev.get 0x3510 4 = min (s.dev.get 0x3510 4 + (s.dev.eng.early.filter (fun q => decide (late q))).length) 0xFFFFFFFF
      ∧ { t.dev with eng := s.dev.eng, od := s.dev.od } = s.dev := by
  intro late
  generalize hd : ({ s.dev with eng := { s.dev.eng with early := s.dev.eng.early.filter (fun q => !decide (late q)) } } : Dev) = d
  have he : Effect .earlyHoldExpired s (d.addSat 0x3510 4 32 (s.dev.eng.early.filter (fun q => decide (late q))).length) := by
    rw [← hd]; rfl
  refine ⟨_, he.answers, by rw [← hd]; rfl, ?_, by rw [← hd]; rfl⟩
  dsimp only
  rw [Dev.addSat_get_same d (by decide), ← hd]
  rfl

/-! ## O31 -/

/-- Settles O31: a command of the inbox acts on the oldest chunk of its kind, and each timer on what is due. -/
theorem engineActsOnChunksAndTimers : Obligations.EngineActsOnChunksAndTimers := by
  unfold Obligations.EngineActsOnChunksAndTimers
  refine ⟨⟨inbox_idle, ?_⟩, chunkStreamTimeout_acts, collAckTimeout_acts, earlyHoldExpired_acts⟩
  intro s k hl hi b d coll old
  refine ⟨fun hf c hc => ?_, fun hf hk => ?_, fun hk => ?_, fun hf hk => ?_⟩
  · obtain ⟨rfl, hk⟩ | ⟨rfl, hk⟩ := hc
    · rw [hk] at hi
      exact takeChunk_acts rfl hf hl hi
    · rw [hk] at hi
      exact takeChunk_acts rfl hf hl hi
  · rw [hk] at hi
    have hx : Effect .segAckReceived s (d.takeSegAck k) := effect_inboxRead_some rfl hf hl hi
    refine ⟨fun hn => by rwa [Dev.takeSegAck_none hn] at hx, fun g hg => ⟨_, hx.answers, ?_, fun id f ho hc hw => Dev.takeSegAck_waits hg ho hc hw⟩⟩
    rw [← s.dev.readFlaws_eng]
    exact Dev.takeSegAck_segs hg
  · intro d
    rw [hk] at hi
    have hx : Effect .chunkNakReceived s (d.takeNak k) := effect_inbox_some rfl hl hi
    refine ⟨fun hn => by rwa [Dev.takeNak_none hn] at hx, fun g q hg hq => ⟨fun hr => ?_, fun id f e hr ho hc hcode he hid => ?_⟩⟩
    · have hstage := Dev.takeNak_resends hg hq hr
      simp only [Dev.staging, Prod.mk.injEq] at hstage
      exact ⟨_, hx.answers, hstage⟩
    · rw [Dev.takeNak_givesUp hg hq hr] at hx
      exact ⟨_, hx.answers, Dev.giveUpSegment_ends ho hc hcode hid he⟩
  · intro it
    rw [hk] at hi
    have hx : Effect .refetchReqReceived s (d.takeRefetch k) := effect_inboxRead_some rfl hf hl hi
    refine ⟨fun hn => ?_, fun f hf' hs hb hn he => takeRefetch_acts hx hf' hs hb hn he⟩
    rwa [Dev.takeRefetch, show List.find? _ _ = none from hn] at hx

end Sys2Proof.Machine
end

section
/-! PROOF. Collectives over data without poison (11 R359-R365): the marks of what they read, the numbers they hold, and the start of one that is
alone in its tree. -/

namespace Sys2Proof.Machine

/-! ## Pieces of a list -/

section
variable {α : Type} {k : Nat}

theorem chunksOf_length_le (fuel : Nat) (l : List α) : ∀ p ∈ chunksOf k fuel l, p.length ≤ k := by
  induction fuel generalizing l with
  | zero => exact fun p hp => nomatch hp
  | succ fuel ih =>
    intro p hp
    rw [chunksOf] at hp
    split at hp
    · cases hp
    · obtain rfl | hp := List.mem_cons.1 hp
      · exact List.length_take_le k l
      · exact ih _ p hp

theorem mem_of_mem_chunksOf (fuel : Nat) (l : List α) {p : List α} (hp : p ∈ chunksOf k fuel l) {x : α} (hx : x ∈ p) : x ∈ l := by
  induction fuel generalizing l with
  | zero => cases hp
  | succ fuel ih =>
    rw [chunksOf] at hp
    split at hp
    · cases hp
    · obtain rfl | hp := List.mem_cons.1 hp
      · exact List.mem_of_mem_take hx
      · exact List.mem_of_mem_drop (ih _ hp)

theorem chunksOf_flatten (hk : 0 < k) (fuel : Nat) (l : List α) (h : l.length ≤ fuel) : (chunksOf k fuel l).flatten = l := by
  induction fuel generalizing l with
  | zero => rw [List.length_eq_zero_iff.1 (Nat.le_zero.1 h)]; rfl
  | succ fuel ih =>
    rw [chunksOf]
    split
    · next he => rw [List.isEmpty_iff.1 he]; rfl
    · rw [List.flatten_cons, ih _ (by rw [List.length_drop]; omega), List.take_append_drop]

end

/-! ## Numbers with marks -/

theorem numBad_markNum {p : Nat} (h : p < 2 ^ 64) : numBad (markNum p false) = false := by
  simp only [numBad, markNum, Bool.false_eq_true, if_false, Nat.add_zero, decide_eq_false_iff_not, not_le]
  exact h

/-- A pattern fits its layout. -/
theorem Fmt.enc_lt (f : Fmt) (x : Fp) : f.enc x < 2 ^ (f.eb + f.fb + 1) := by
  have htop : (2 ^ f.eb - 1) * 2 ^ f.fb + 2 ^ f.fb = 2 ^ (f.eb + f.fb) := by
    rw [← Nat.succ_mul, Nat.succ_eq_add_one, Nat.sub_add_cancel Nat.one_le_two_pow, pow_add]
  have hfrac : 0 < 2 ^ f.fb := Nat.two_pow_pos _
  have hsign (s : Bool) : b2n s * 2 ^ (f.eb + f.fb) ≤ 2 ^ (f.eb + f.fb) := by cases s <;> simp [b2n]
  rw [pow_succ]
  cases x with
  | nan =>
    have hhalf : 2 ^ (f.fb - 1) ≤ 2 ^ f.fb := Nat.pow_le_pow_right (by decide) (Nat.sub_le _ _)
    simp only [Fmt.enc, Fmt.nanPat]
    omega
  | inf s =>
    have := hsign s
    simp only [Fmt.enc]
    omega
  | fin s m e =>
    have := hsign s
    simp only [Fmt.enc]
    omega

theorem fmtG16_enc_lt (x : Fp) : fmtG16.enc x < 2 ^ 64 := (fmtG16.enc_lt x).trans_le (by decide)
theorem fmtW64_enc_lt (x : Fp) : fmtW64.enc x < 2 ^ 64 := fmtW64.enc_lt x

theorem srG16_lt (v r : Nat) : srG16 v r < 2 ^ 64 := by
  have hb := bits_lt v 16 16
  unfold srG16
  dsimp only
  split
  · decide
  · split
    · omega
    · split <;> omega

theorem Dev.collRound_lt (d : Dev) (c : Coll) (i hop : Nat) (v : Fp) : d.collRound c i hop v < 2 ^ 64 := by
  unfold Dev.collRound
  split
  · exact srG16_lt _ _
  · exact fmtG16_enc_lt _

/-! ## Data without poison -/

section
variable {d : Dev} (h : d.mem.poison = [])
include h

theorem Dev.markedAt_clean (a n : Nat) : ∀ q ∈ d.markedAt a n, q.2 = false := by
  intro q hq
  obtain ⟨x, -, rfl⟩ := List.mem_map.1 hq
  simp [Mem.poisoned, h, sget]

theorem Dev.ownElem_clean (c : Coll) (i : Nat) : numBad (d.ownElem c i) = false := by
  have hp : (d.sendElem c i).2.2 = false := by simp [Dev.sendElem, Mem.anyPoison, Mem.poisoned, h, sget]
  unfold Dev.ownElem
  dsimp only
  rw [hp]
  refine numBad_markNum ?_
  split
  · exact fmtG16_enc_lt _
  · exact d.collRound_lt _ _ _ _

end

theorem numsOf_clean {l : Marked} (h : ∀ q ∈ l, q.2 = false) : ∀ v ∈ numsOf 8 l, numBad v = false := by
  intro v hv
  obtain ⟨p, hp, rfl⟩ := List.mem_map.1 hv
  have hmark : p.any (fun q => q.2) = false := List.any_eq_false.2 fun q hq => by simp [h q (mem_of_mem_chunksOf _ _ hp hq)]
  rw [hmark]
  refine numBad_markNum ((ofBytes_lt _).trans_le (Nat.pow_le_pow_right (by decide) ?_))
  have := chunksOf_length_le _ _ p hp
  rw [List.length_map]
  omega

theorem markedOf_clean {n : Nat} {l : List Nat} (h : ∀ v ∈ l, numBad v = false) : ∀ q ∈ markedOf n l, q.2 = false := by
  intro q hq
  obtain ⟨v, hv, hq⟩ := List.mem_flatMap.1 hq
  obtain ⟨b, -, rfl⟩ := List.mem_map.1 hq
  exact h v hv

theorem Coll.noteBytes_clean (c : Coll) (a : Nat) {l : Marked} (h : ∀ q ∈ l, q.2 = false) : c.noteBytes a l = c := by
  have hnone : l.findIdx? (fun q => q.2) = none := List.findIdx?_eq_none_iff.2 h
  rw [Coll.noteBytes, hnone]

theorem Dev.noteNums_clean (d : Dev) (c : Coll) {l : List (Nat × Nat)} (h : ∀ q ∈ l, numBad q.2 = false) : d.noteNums c l = c := by
  have hnone : l.find? (fun q => numBad q.2) = none := List.find?_eq_none.2 fun q hq => by simp [h q hq]
  rw [Dev.noteNums, hnone]

/-! ## A collective that waits for nothing -/

/-- The collective of a descriptor waits for nothing, has met no poison and has no code. -/
structure Coll.Idle (c : Coll) (id x : Nat) : Prop where
  id : c.id = id
  desc : c.desc = x
  need : c.need = []
  refetch : c.refetch = []
  bad : c.bad = 0
  code : c.code = 0

/-- No number that a collective holds is marked. -/
def Coll.Unmarked (c : Coll) : Prop := ∀ k, numBad (c.at k) = false

section
variable {c : Coll}

theorem Coll.Idle.set {id x : Nat} (h : c.Idle id x) (k v : Nat) : (c.set k v).Idle id x := ⟨h.id, h.desc, h.need, h.refetch, h.bad, h.code⟩

theorem Coll.Idle.foldl_set {id x : Nat} {α : Type} (k v : α → Nat) (l : List α) (h : c.Idle id x) :
    (l.foldl (fun c q => c.set (k q) (v q)) c).Idle id x :=
  List.foldlRecOn (motive := fun c : Coll => c.Idle id x) l _ h fun _ hc _ _ => hc.set _ _

/-- A level that is set shows in the numbers alone. -/
theorem Coll.setLevel_eq (c : Coll) (level : Nat) (l : List Nat) : ∃ acc, c.setLevel level l = { c with acc := acc } := by
  refine List.foldlRecOn (motive := fun x : Coll => ∃ acc, x = { c with acc := acc }) _ _ ⟨c.acc, rfl⟩ fun x hx q _ => ?_
  obtain ⟨acc, rfl⟩ := hx
  exact ⟨_, rfl⟩

theorem Coll.Unmarked.set (h : c.Unmarked) (k : Nat) {v : Nat} (hv : numBad v = false) : (c.set k v).Unmarked := by
  intro j
  unfold Coll.at Coll.set
  rw [sget_sset]
  split
  · exact hv
  · exact h j

theorem Coll.Unmarked.setLevel (h : c.Unmarked) (level : Nat) {l : List Nat} (hl : ∀ v ∈ l, numBad v = false) : (c.setLevel level l).Unmarked :=
  List.foldlRecOn (motive := Coll.Unmarked) _ _ h fun _ hc q hq => hc.set _ (hl q.1 (List.fst_mem_of_mem_zipIdx hq))

theorem Coll.Unmarked.levelNums (h : c.Unmarked) (level : Nat) : ∀ v ∈ c.levelNums level, numBad v = false := by
  intro v hv
  obtain ⟨i, -, rfl⟩ := List.mem_map.1 hv
  exact h _

end

/-! ## The start of a collective that is alone in its tree -/

/-- A start that leaves the engine and the dispatcher, and a collective that waits for nothing. -/
structure Dev.StartsIdle (d : Dev) (c : Coll) (p : Dev × Coll) : Prop where
  eng : p.1.eng = d.eng
  disp : p.1.disp = d.disp
  idle : p.2.Idle c.id c.desc

theorem Dev.wrMarked_eng (d : Dev) (a : Nat) (l : Marked) : (d.wrMarked a l).eng = d.eng := by rw [d.wrMarked_eq a l]
theorem Dev.wrMarked_disp (d : Dev) (a : Nat) (l : Marked) : (d.wrMarked a l).disp = d.disp := by rw [d.wrMarked_eq a l]

section
variable {d : Dev} {c : Coll} (hp : d.mem.poison = []) (hc : c.Idle c.id c.desc)
include hp hc

section
variable (hq : c.q = 1)
include hq

theorem Dev.rsStart_alone : d.StartsIdle c (d.rsStart { c with sLoc := d.noiseLocal c }) := by
  have hidle : ({ c with sLoc := d.noiseLocal c } : Coll).Idle c.id c.desc := ⟨rfl, rfl, hc.need, hc.refetch, hc.bad, hc.code⟩
  generalize hc' : ({ c with sLoc := d.noiseLocal c } : Coll) = c' at hidle
  have hq' : c'.q = 1 := by rw [← hc']; exact hq
  have hclean : ∀ q ∈ (below (c'.count 0)).map (fun i => (i, d.ownElem c' i)), numBad q.2 = false := by
    intro q hmem
    obtain ⟨i, -, rfl⟩ := List.mem_map.1 hmem
    exact Dev.ownElem_clean hp c' i
  unfold Dev.rsStart
  rw [if_pos hq']
  dsimp only
  rw [d.noteNums_clean c' hclean]
  exact ⟨rfl, rfl, hidle.foldl_set _ _ _⟩

theorem Dev.agStart_alone : d.StartsIdle c (d.agStart c)
    ∧ (d.agStart c).1 = d.wrMarked (c.recvAt (c.first c.rank)) (d.markedAt (c.sendAt 0) (c.count c.rank * c.sendSize)) := by
  have hstart : d.agStart c = (d.wrMarked (c.recvAt (c.first c.rank)) (d.markedAt (c.sendAt 0) (c.count c.rank * c.sendSize)),
      if c.attaches then c.setRecord c.rank (some (d.num (coFprintAddr c.desc) 32)) else c) := by
    unfold Dev.agStart
    dsimp only
    rw [Coll.noteBytes_clean _ _ (Dev.markedAt_clean hp _ _)]
    by_cases ha : c.attaches = true
    · rw [if_pos ha]
      exact if_pos hq
    · rw [if_neg ha]
      exact if_pos hq
  rw [hstart]
  refine ⟨⟨d.wrMarked_eng _ _, d.wrMarked_disp _ _, ?_⟩, rfl⟩
  dsimp only
  split
  · exact ⟨rfl, rfl, hc.need, hc.refetch, hc.bad, hc.code⟩
  · exact hc

theorem Dev.bcStart_alone (hr : c.rank = 0) : d.StartsIdle c (d.bcStart c) := by
  have hstart : d.bcStart c = (d, c) := by
    unfold Dev.bcStart
    rw [if_pos hr]
    dsimp only
    rw [if_pos hq, Coll.noteBytes_clean _ _ (Dev.markedAt_clean hp _ _)]
  rw [hstart]
  exact ⟨rfl, rfl, hc⟩

theorem Dev.erStart_alone (hl : c.level = 0) (hr : c.rank = 0) (ha : c.acc = []) : d.StartsIdle c (d.erStart c) := by
  have hneeds : (c.leads.flatMap fun l =>
      if c.rank + 2 ^ l < c.q then needOf (c.rank + 2 ^ l) (l + 1) l 0 (8 * (c.count 0 * c.lanes)) else []) = [] :=
    List.flatMap_eq_nil_iff.2 fun l _ => if_neg (by rw [hq]; have := Nat.two_pow_pos l; omega)
  have hdata := Dev.markedAt_clean hp (c.sendAt 0) (8 * (c.count 0 * c.lanes))
  unfold Dev.erStart
  extract_lets n own leaf needs held
  rw [Coll.noteBytes_clean _ _ hdata]
  have hleaf : ∀ v ∈ leaf, numBad v = false := by
    intro v hv
    obtain ⟨w, hw, rfl⟩ := List.mem_map.1 hv
    rw [numsOf_clean hdata w hw]
    exact numBad_markNum (fmtW64_enc_lt _)
  have hunmarked : held.Unmarked := Coll.Unmarked.setLevel (fun k => by rw [Coll.at, ha]; rfl) 0 hleaf
  obtain ⟨acc, hheld⟩ : ∃ acc, held = { c with acc := acc } := c.setLevel_eq 0 leaf
  rw [hheld] at hunmarked ⊢
  generalize hc' : ({ c with acc := acc, need := needs } : Coll) = c'
  have hidle : ({ c' with level := 100 } : Coll).Idle c.id c.desc := by rw [← hc']; exact ⟨rfl, rfl, hneeds, hc.refetch, hc.bad, hc.code⟩
  have hnums : ∀ v ∈ c'.levelNums 0, numBad v = false := by rw [← hc']; exact hunmarked.levelNums 0
  have hfinish : d.erAdvance c' 20 = d.erDeliver c' (c'.levelNums 0) 0 := by
    have hl' : c'.level = 0 := by rw [← hc']; exact hl
    have hq' : c'.q = 1 := by rw [← hc']; exact hq
    rw [Dev.erAdvance, hl', hq', if_neg (by decide), if_pos (by decide)]
  rw [hfinish]
  unfold Dev.erDeliver
  extract_lets data d1 noted c1
  have hc1 : c1 = { c' with level := 100 } := by
    simp only [c1, noted]
    rw [Coll.noteBytes_clean _ _ (markedOf_clean hnums)]
  rw [hc1]
  exact ⟨d.wrMarked_eng _ _, d.wrMarked_disp _ _, hidle⟩

end

/-- A permutation whose pieces are all for the rank itself copies them. -/
theorem Dev.peStart_alone (hl : ∀ p ∈ d.pieces c.desc, p.peer = c.rank) : d.StartsIdle c (d.peStart c) := by
  unfold Dev.peStart
  extract_lets l out d0 sent
  have hsent : sent = (d, c) := by
    refine List.foldlRecOn (motive := fun s : Dev × Coll => s = (d, c)) _ _ rfl fun s hs p hmem => ?_
    subst hs
    dsimp only
    rw [if_pos (hl p (List.mem_of_mem_filter hmem)), Coll.noteBytes_clean _ _ (Dev.markedAt_clean hp _ _)]
  rw [hsent]
  refine List.foldlRecOn (motive := fun s : Dev × Coll => d.StartsIdle c s) _ _ ⟨rfl, rfl, hc⟩ fun s hs q hmem => ?_
  dsimp only
  split
  · exact hs
  · rw [if_pos (hl q.1 (List.fst_mem_of_mem_zipIdx hmem))]
    split
    · exact ⟨(s.1.wrMarked_eng _ _).trans hs.eng, (s.1.wrMarked_disp _ _).trans hs.disp, hs.idle⟩
    · exact hs

end

end Sys2Proof.Machine
end

section
/-! PROOF. How a collective that waits for nothing ends (11 R363, R364). -/

namespace Sys2Proof.Machine

/-! ## Quantised results leave the dispatcher (02 R31-R33) -/

theorem Job.raise_disp (j : Job) (c a b : Nat) : (j.raise c a b).d.disp = j.d.disp := by rw [Job.raise_d, Dev.raise_disp]
theorem Job.flagIf_disp (j : Job) (c : Bool) (b : Nat) : (j.flagIf c b).d.disp = j.d.disp := by
  unfold Job.flagIf; split <;> rfl

theorem Job.fixScale_disp (j : Job) (k : Nat) (vals : List Fp) : (j.fixScale k vals).1.d.disp = j.d.disp := by
  unfold Job.fixScale
  extract_lets v cur j₁ j₂ l r e c j₃
  have h₁ : j₁.d.disp = j.d.disp := by
    simp only [j₁]
    split
    · exact j.raise_disp _ _ _
    · rfl
  have h₃ : j₃.d.disp = j.d.disp := (j₁.flagIf_disp _ _).trans h₁
  split
  · exact (j₃.raise_disp _ _ _).trans h₃
  · exact h₃

theorem Job.finishScale_disp (j : Job) (k sat : Nat) (vals : List Fp) : (j.finishScale k sat vals).d.disp = j.d.disp := by
  unfold Job.finishScale
  dsimp only
  refine (Job.flagIf_disp _ _ _).trans ?_
  split <;> rfl

theorem Job.produce_disp (j : Job) (k : Nat) (gb8 : Bool) (vals : List Fp) : (j.produce k gb8 vals).1.d.disp = j.d.disp :=
  (Job.finishScale_disp _ _ _ _).trans (j.fixScale_disp _ _)

/-! ## The last acts -/

theorem Job.rsWrite_keeps (j : Job) (c : Coll) : (j.rsWrite c).d.disp = j.d.disp ∧ (j.rsWrite c).done.code = j.done.code := by
  unfold Job.rsWrite
  extract_lets v l vals
  generalize hp : (if v.fmt.isScaled = true then _ else _ : Job × List Nat) = p
  have hd : p.1.d.disp = j.d.disp ∧ p.1.done.code = j.done.code := by
    rw [← hp]
    split
    · exact ⟨j.produce_disp _ _ _, j.produce_code _ _ _⟩
    · exact ⟨rfl, rfl⟩
  exact ⟨(p.1.d.wrMarked_disp _ _).trans hd.1, (p.1.dev_code _).trans hd.2⟩

theorem Dev.noiseAdd_disp (d : Dev) (c : Coll) : (d.noiseAdd c).disp = d.disp := by
  unfold Dev.noiseAdd
  split
  · extract_lets sl n sr a v v1 v2 v3 v4
    split <;> rfl
  · rfl

section
variable (j : Job) {c : Coll} (hb : c.bad = 0)
include hb

/-- Without poison, the last acts leave the dispatcher and the code. -/
theorem Job.lastActs_clean : (j.lastActs c).d.disp = j.d.disp ∧ (j.lastActs c).done.code = j.done.code := by
  unfold Job.lastActs
  extract_lets j1 j2
  have h1 : j1.d.disp = j.d.disp ∧ j1.done.code = j.done.code := by
    simp only [j1]
    split
    · exact j.rsWrite_keeps c
    · exact ⟨rfl, rfl⟩
  have h2 : j2 = j1 := if_pos hb
  rw [h2]
  split
  · exact ⟨(j1.d.noiseAdd_disp c).trans h1.1, (j1.dev_code _).trans h1.2⟩
  · exact h1

/-- Only a reduce-scatter has last acts of its own. -/
theorem Job.lastActs_none (ho : c.op ≠ 0x40) : j.lastActs c = j := by
  unfold Job.lastActs
  rw [if_neg ho]
  dsimp only
  rw [if_pos hb]
  exact if_neg fun h => ho h.1

end

theorem Job.advanceEpoch_keeps (j : Job) (c : Coll) :
    (j.advanceEpoch c).d.disp = j.d.disp ∧ (j.advanceEpoch c).done.code = j.done.code ∧ (j.advanceEpoch c).d.mem = j.d.mem
      ∧ (j.advanceEpoch c).d.eng.flights = j.d.eng.flights := by
  unfold Job.advanceEpoch
  split
  · exact ⟨rfl, j.dev_code _, rfl, rfl⟩
  · exact ⟨rfl, rfl, rfl, rfl⟩

theorem Job.sniff_disp (j : Job) (on : Bool) (u id : Nat) (l : List (Byte × Bool)) : (j.sniff on u id l).d.disp = j.d.disp := by
  unfold Job.sniff
  split
  · unfold Job.dev Dev.snBegin
    dsimp only
    split <;> rfl
  · rfl

theorem Job.sniff_mem (j : Job) (on : Bool) (u id : Nat) (l : List (Byte × Bool)) : (j.sniff on u id l).d.mem = j.d.mem := by
  unfold Job.sniff
  split
  · unfold Job.dev Dev.snBegin
    dsimp only
    split <;> rfl
  · rfl

/-! ## The end -/

section
variable (d : Dev) (c : Coll)

theorem Dev.conclude_flights : (d.conclude c).eng.flights = d.eng.flights.filter (fun x => x.id != c.id) := by
  rw [Dev.conclude_eq]
  dsimp only
  rw [Dev.finish_eng, Job.sniff_eng, (Job.advanceEpoch_keeps _ _).2.2.2]
  exact congrArg (fun x => Engine.flights x.2.1) (Job.lastActs_steering _ c)

variable {c} (hb : c.bad = 0)
include hb

/-- A collective that met no poison ends with the code that it has. -/
theorem Dev.conclude_ends : ∃ (y : Dev) (done : Done), d.conclude c = y.finish c.id done ∧ y.disp = d.disp ∧ done.code = c.code := by
  rw [Dev.conclude_eq]
  refine ⟨_, _, rfl, ?_, ?_⟩
  · rw [Job.sniff_disp, (Job.advanceEpoch_keeps _ _).1, (Job.lastActs_clean _ hb).1]
    rfl
  · rw [Job.result_code, Job.sniff_code, (Job.advanceEpoch_keeps _ _).2.1, (Job.lastActs_clean _ hb).2]

theorem Dev.conclude_mem (ho : c.op ≠ 0x40) : (d.conclude c).mem = d.mem := by
  rw [Dev.conclude_eq]
  dsimp only
  rw [Dev.finish_mem, Job.sniff_mem, (Job.advanceEpoch_keeps _ _).2.2.1, Job.lastActs_none _ hb ho]
  rfl

/-- A permutation that ends well leaves its epoch (11 R364). -/
theorem Dev.conclude_epoch (ho : c.op = 0x43) (hc : c.code = 0) : (d.conclude c).epochOf (coTensor c.desc) = coEpoch c.desc := by
  rw [Dev.conclude_eq]
  dsimp only
  rw [Dev.epochOf, Dev.finish_eng, Job.sniff_eng, Job.lastActs_none _ hb (by rw [ho]; decide), Job.advanceEpoch, if_pos ⟨ho, hc⟩]
  exact sget_sset_same _ _ _ _

end

/-! ## A collective that is over as it starts -/

/-- The new collective of an entry, last in the engine, under its changes so far. -/
def Dev.withColl (d : Dev) (c : Coll) : Dev := { d with eng := { d.eng with flights := d.eng.flights ++ [c] } }

theorem Dev.launchColl_eq (d : Dev) (c : Coll) :
    d.launchColl c = ((((d.withColl c).collGo c).1.putColl ((d.withColl c).collGo c).2).takeEarly ((d.withColl c).collGo c).2).settle
      ((d.withColl c).collGo c).2.id := rfl

theorem Dev.takeEarly_none {d : Dev} (h : d.eng.early = []) (c : Coll) : d.takeEarly c = d := by
  have heng : ({ d.eng with early := [] } : Engine) = d.eng := by rw [← h]
  unfold Dev.takeEarly
  simp only [h, List.filter_nil, List.map_nil, List.foldl_nil, heng]

/-- A collective with no number of its own in the list is replaced where it stands last. -/
theorem map_replace_last {l : List Coll} {id : Nat} (h : ∀ f ∈ l, f.id ≠ id) (c c' : Coll) (hc : c.id = id) (hc' : c'.id = id) :
    (l ++ [c]).map (fun x => if x.id = c'.id then { c' with event := pickEvent x.event c'.event } else x)
      = l ++ [{ c' with event := pickEvent c.event c'.event }] := by
  rw [List.map_append, List.map_cons, List.map_nil, if_pos (hc.trans hc'.symm)]
  refine congrArg (· ++ _) ?_
  conv_rhs => rw [← List.map_id l]
  exact List.map_congr_left fun f hf => if_neg (by rw [hc']; exact h f hf)

theorem find?_last {l : List Coll} {id : Nat} (h : ∀ f ∈ l, f.id ≠ id) (c : Coll) (hc : c.id = id) :
    (l ++ [c]).find? (fun x => x.id == id) = some c := by
  rw [List.find?_append, List.find?_eq_none.2 fun f hf => by simpa using h f hf]
  simp [hc]

theorem filter_last {l : List Coll} {id : Nat} (h : ∀ f ∈ l, f.id ≠ id) (c : Coll) (hc : c.id = id) :
    (l ++ [c]).filter (fun x => x.id != id) = l := by
  rw [List.filter_append, List.filter_eq_self.2 fun f hf => by simpa using h f hf]
  simp [hc]

/-- No segment of a descriptor waits or is under way. -/
def Dev.Unsegmented (d : Dev) (id : Nat) : Prop :=
  (∀ g ∈ d.eng.segments, g.owner ≠ some id) ∧ ∀ g ∈ d.eng.backlog, g.owner ≠ some id

theorem Dev.collOver_idle {d : Dev} {c : Coll} {id x : Nat} (hc : c.Idle id x) (h : d.Unsegmented id) : d.collOver c = true := by
  have hsegs : d.eng.segments.all (fun g => g.owner != some id) = true := List.all_eq_true.2 fun g hg => by simpa using h.1 g hg
  have hwait : d.eng.backlog.all (fun g => g.owner != some id) = true := List.all_eq_true.2 fun g hg => by simpa using h.2 g hg
  rw [Dev.collOver, hc.need, hc.refetch, hc.id, hsegs, hwait]
  rfl

/-- A collective whose start leaves it with nothing to wait for is concluded. -/
theorem Dev.launchColl_idle {d : Dev} {c : Coll} {p : Dev × Coll} (hgo : (d.withColl c).collGo c = p) (hp : (d.withColl c).StartsIdle c p)
    (he : d.eng.early = []) (hf : ∀ f ∈ d.eng.flights, f.id ≠ c.id) (hs : d.Unsegmented c.id) :
    ∃ c', Coll.Idle c' c.id c.desc ∧ d.launchColl c = (p.1.putColl p.2).conclude c' ∧ (p.1.putColl p.2).eng.flights = d.eng.flights ++ [c'] := by
  have hflights : (p.1.putColl p.2).eng.flights = d.eng.flights ++ [{ p.2 with event := pickEvent c.event p.2.event }] := by
    have heng : p.1.eng.flights = d.eng.flights ++ [c] := congrArg Engine.flights hp.eng
    exact (congrArg (List.map _) heng).trans (map_replace_last hf c p.2 rfl hp.idle.id)
  have hidle : Coll.Idle { p.2 with event := pickEvent c.event p.2.event } c.id c.desc :=
    ⟨hp.idle.id, hp.idle.desc, hp.idle.need, hp.idle.refetch, hp.idle.bad, hp.idle.code⟩
  refine ⟨_, hidle, ?_, hflights⟩
  have hearly : (p.1.putColl p.2).eng.early = [] := (congrArg Engine.early hp.eng).trans he
  have hsegs : (p.1.putColl p.2).Unsegmented c.id := by
    unfold Dev.Unsegmented Dev.putColl
    rw [hp.eng]
    exact hs
  rw [Dev.launchColl_eq, hgo, Dev.takeEarly_none hearly, hp.idle.id, Dev.settle, Dev.coll, hflights, find?_last hf _ hidle.id]
  exact if_pos (Dev.collOver_idle hidle hsegs)

end Sys2Proof.Machine
end

section
/-! PROOF. Collectives: the checks, the start of one alone in its tree, a broadcast that goes on (11 R353, R357-R361): O30. -/

namespace Sys2Proof.Machine

/-! ## The checks (11 R357, R358) -/

section
variable {c : Instr} {ecc : List EccHit} {s : State} {e : Entry}

/-- A collective descriptor has no tile to read, so that its command begins with the errors of its reads alone. -/
theorem Dev.begun_collective {d : Dev} (h : opClass (hdOpcode e.desc) = 4) : d.begun e ecc = (d.markStarted e).eccRead [] ecc := by
  have hreads : d.accReads e.desc = [] := by
    unfold Dev.accReads
    split <;> simp_all [opClass]
  rw [Dev.begun, hreads]

theorem CollStarts.entry (h : CollStarts c s e ecc) : s.dev.entry e.id = some e := by
  obtain ⟨-, -, he, -⟩ := h
  exact he

theorem CollStarts.opcode (h : CollStarts c s e ecc) :
    hdOpcode e.desc = 0x40 ∨ hdOpcode e.desc = 0x41 ∨ hdOpcode e.desc = 0x42 ∨ hdOpcode e.desc = 0x43 ∨ hdOpcode e.desc = 0x44 := by
  obtain ⟨op, hc, -, ho, -⟩ := h
  unfold collOf at hc
  split at hc <;> cases hc <;> simp [ho]

theorem CollStarts.begins (h : CollStarts c s e ecc) : Effect c s ((s.dev.begun e ecc).beginColl e) := by
  have hclass : opClass (hdOpcode e.desc) = 4 := by rcases h.opcode with ho | ho | ho | ho | ho <;> rw [ho] <;> rfl
  rw [Dev.begun_collective hclass]
  obtain ⟨op, hc, he, ho, hm⟩ := h
  have hx : exec c s = run s (fun _ d => d.startColl e.id op ecc) := by
    unfold collOf at hc
    split at hc <;> cases hc <;> rfl
  have hstart : s.dev.startColl e.id op ecc = ((s.dev.markStarted e).eccRead [] ecc).beginColl e := by
    simp [Dev.startColl, he, ho, hm]
  rw [Effect, hx, run, hstart]

/-- Ending at once with a code changes the scoreboard alone. -/
theorem Dev.begun_endWith (he : s.dev.entry e.id = some e) (code : Nat) :
    (s.dev.begun e ecc).endWith e.id code = (s.dev.begun e ecc).endedAs s.dev e code := Dev.finish_begun he rfl _

/-- Poisoned control data. -/
theorem Effect.ended_poisoned {step a : Nat} (he : s.dev.entry e.id = some e)
    (h : Effect c s ((s.dev.begun e ecc).endPoisoned e.id step a)) : ∃ t done, Ended c s t e done ∧ done.code = ccPoisoned := by
  unfold Dev.endPoisoned at h
  have hboard := Job.poisonedAt_board (Job.start (s.dev.begun e ecc)) step a
  have hcode := Job.poisonedAt_code (Job.start_code (s.dev.begun e ecc)) step a
  generalize (Job.start (s.dev.begun e ecc)).poisonedAt step a = j at h hboard hcode
  exact ⟨_, j.done, h.ended_begun he hboard, hcode⟩

end

section
variable {d : Dev} {e : Entry}

theorem Dev.beginColl_treePoisoned {a : Nat} (h : d.firstPoison (d.treeExt (coTree e.desc)) = some a) :
    d.beginColl e = d.endPoisoned e.id (d.stepOf e.desc) a := by simp only [Dev.beginColl, h]

section
variable (ht : d.firstPoison (d.treeExt (coTree e.desc)) = none)
include ht

theorem Dev.beginColl_noTree (h : d.treeInfo (coTree e.desc) = none) : d.beginColl e = d.endWith e.id ccInvalidField := by
  simp only [Dev.beginColl, ht, h]

variable {alg rank : Nat} {tree : List Nat} (hi : d.treeInfo (coTree e.desc) = some (alg, tree, rank))
include hi

theorem Dev.beginColl_countsOut (h : (d.countsExt e.desc tree.length).all (d.extentIn coreRegions) = false) :
    d.beginColl e = d.endWith e.id ccAddressRange := by
  simp only [Dev.beginColl, ht, hi, h, Bool.not_false, if_true]

variable (hr : (d.countsExt e.desc tree.length).all (d.extentIn coreRegions) = true)
include hr

theorem Dev.beginColl_countsPoisoned {a : Nat} (h : d.firstPoison (d.countsExt e.desc tree.length) = some a) :
    d.beginColl e = d.endPoisoned e.id (d.stepOf e.desc) a := by
  simp only [Dev.beginColl, ht, hi, hr, h, Bool.not_true, Bool.false_eq_true, if_false]

theorem Dev.beginColl_checks (h : d.firstPoison (d.countsExt e.desc tree.length) = none) :
    d.beginColl e = d.checkColl (newColl e (d.stepOf e.desc) alg tree rank (d.countsOf e.desc tree.length)) := by
  simp only [Dev.beginColl, ht, hi, hr, h, Bool.not_true, Bool.false_eq_true, if_false]

end

theorem Dev.checkColl_invalid {k : Coll} (h : d.collClash k.desc = true ∨ d.collInvalid k = true) :
    d.checkColl k = d.endWith k.id ccInvalidField := by
  rw [Dev.checkColl, if_pos (by simpa using h)]

theorem Dev.checkColl_out {k : Coll} (hc : d.collClash k.desc = false) (hv : d.collInvalid k = false)
    (h : (d.collExts k).all (d.extentIn coreRegions) = false) : d.checkColl k = d.endWith k.id ccAddressRange := by
  rw [Dev.checkColl, if_neg (by simp [hc, hv]), if_pos (by simp [h])]

/-- A collective that passes every check is launched. -/
theorem Dev.CollPasses.launched {k : Coll} (h : d.CollPasses e k) : d.beginColl e = d.launchColl k := by
  obtain ⟨alg, tree, rank, ht, hi, hk, hr, hp, hc, hv, hx, hctl⟩ := h
  have hdesc : k.desc = e.desc := by rw [hk]; rfl
  rw [Dev.beginColl_checks ht hi hr hp, ← hk, Dev.checkColl, if_neg (by simp [hdesc, hc, hv]), if_neg (by simp [hx]), hctl]

theorem Dev.CollPasses.valid {k : Coll} (h : d.CollPasses e k) : d.collInvalid k = false := by
  obtain ⟨-, -, -, -, -, -, -, -, -, hv, -⟩ := h
  exact hv

/-- What the collective of a start is. -/
theorem Dev.CollPasses.fresh {k : Coll} (h : d.CollPasses e k) :
    k.Idle e.id e.desc ∧ k.level = 0 ∧ k.acc = [] ∧ k.rank < k.q := by
  obtain ⟨alg, tree, rank, -, hi, rfl, -⟩ := h
  refine ⟨⟨rfl, rfl, rfl, rfl, rfl, rfl⟩, rfl, rfl, ?_⟩
  unfold Dev.treeInfo at hi
  split at hi
  · cases hi
  · dsimp only at hi
    split at hi
    · cases hi
    · obtain ⟨r, hr, heq⟩ := Option.map_eq_some_iff.1 hi
      simp only [Prod.mk.injEq] at heq
      obtain ⟨-, rfl, rfl⟩ := heq
      exact (List.findIdx?_eq_some_iff_getElem.1 hr).1

end

/-! ## Alone in its tree -/

section
variable {d : Dev} {c : Coll}

theorem Dev.collGo_reduceScatter (h : c.op = 0x40) : d.collGo c = d.rsStart { c with sLoc := d.noiseLocal c } := by simp only [Dev.collGo, h]
theorem Dev.collGo_allGather (h : c.op = 0x41) : d.collGo c = d.agStart c := by simp only [Dev.collGo, h]
theorem Dev.collGo_broadcast (h : c.op = 0x42) : d.collGo c = d.bcStart c := by simp only [Dev.collGo, h]
theorem Dev.collGo_permute (h : c.op = 0x43) : d.collGo c = d.peStart c := by simp only [Dev.collGo, h]
theorem Dev.collGo_exactReduce (h : c.op = 0x44) : d.collGo c = d.erStart c := by simp only [Dev.collGo, h]

/-- The peers of the pieces of a valid permutation are ranks (11 R365). -/
theorem Dev.collInvalid_peers (ho : c.op = 0x43) (hv : d.collInvalid c = false) : ∀ p ∈ d.pieces c.desc, p.peer < c.q := by
  intro p hp
  unfold Dev.collInvalid at hv
  rw [ho] at hv
  simp only [Bool.or_eq_false_iff] at hv
  obtain ⟨⟨-, hpieces⟩, -⟩ := hv
  have hpiece := List.any_eq_false.1 hpieces p hp
  simp only [Bool.or_eq_true, decide_eq_true_eq, not_or, not_le] at hpiece
  exact hpiece.1

theorem Dev.collGo_alone (hp : d.mem.poison = []) (hc : c.Idle c.id c.desc) (hq : c.q = 1) (hr : c.rank = 0) (hl : c.level = 0) (ha : c.acc = [])
    (hv : d.collInvalid c = false) (ho : c.op = 0x40 ∨ c.op = 0x41 ∨ c.op = 0x42 ∨ c.op = 0x43 ∨ c.op = 0x44) :
    d.StartsIdle c (d.collGo c) := by
  rcases ho with ho | ho | ho | ho | ho
  · rw [Dev.collGo_reduceScatter ho]; exact Dev.rsStart_alone hp hc hq
  · rw [Dev.collGo_allGather ho]; exact (Dev.agStart_alone hp hc hq).1
  · rw [Dev.collGo_broadcast ho]; exact Dev.bcStart_alone hp hc hq hr
  · rw [Dev.collGo_permute ho]
    exact Dev.peStart_alone hp hc fun p hmem => by have := Dev.collInvalid_peers ho hv p hmem; omega
  · rw [Dev.collGo_exactReduce ho]; exact Dev.erStart_alone hp hc hq hl hr ha

end

theorem Dev.markedAt_bytes (d : Dev) (a n : Nat) : (d.markedAt a n).map Prod.fst = d.rd a n := by
  rw [Dev.rd, Mem.read_eq_map, Dev.markedAt, List.map_map]
  rfl

theorem Dev.rd_getD (d : Dev) (a : Nat) {i n : Nat} (h : i < n) : (d.rd a n).getD i 0#8 = d.mem.byte (a + i) := by
  rw [Dev.rd, Mem.read_eq_map, upFrom_eq_range', List.getD_eq_getElem?_getD, List.getElem?_map, List.getElem?_range' h]
  simp

/-- An all-gather that is alone copies its own part. -/
theorem Dev.agStart_byte {d : Dev} {c : Coll} (hp : d.mem.poison = []) (hc : c.Idle c.id c.desc) (hq : c.q = 1) (hr : c.rank = 0) {i : Nat}
    (hi : i < c.count 0 * c.sendSize) :
    (d.agStart c).1.mem.byte (slAddr (coRecv c.desc) + i) = d.mem.byte (slAddr (coSend c.desc) + i) := by
  have hlen : (d.markedAt (c.sendAt 0) (c.count 0 * c.sendSize)).length = c.count 0 * c.sendSize := by
    rw [Dev.markedAt, List.length_map, upFrom_eq_range', List.length_range']
  have hto : c.recvAt (c.first 0) = slAddr (coRecv c.desc) := by simp [Coll.recvAt, Coll.first]
  have hfrom : c.sendAt 0 = slAddr (coSend c.desc) := by simp [Coll.sendAt]
  rw [(Dev.agStart_alone hp hc hq).2, hr, Dev.wrMarked_byte, hlen, hto, if_pos ⟨by omega, by omega⟩, Nat.add_sub_cancel_left,
    Dev.markedAt_bytes, Dev.rd_getD _ _ hi, hfrom]

section
variable {c : Instr} {ecc : List EccHit} {s : State} {e : Entry}

theorem Dev.begun_eng (d : Dev) (e : Entry) (ecc : List EccHit) : (d.begun e ecc).eng = d.eng :=
  congrArg (fun x => x.2.1) (Dev.eccRead_steering (d.markStarted e) (d.accReads e.desc) ecc)

/-- A collective that is alone in its tree ends with `OK`, and leaves the engine as it was. -/
theorem CollStarts.alone (h : CollStarts c s e ecc) {k : Coll} (hk : (s.dev.begun e ecc).CollPasses e k) (hearly : s.dev.eng.early = [])
    (hf : ∀ f ∈ s.dev.eng.flights, f.id ≠ e.id) (hq : k.tree.length = 1) (hp : (s.dev.begun e ecc).mem.poison = [])
    (hsegs : ∀ g ∈ s.dev.eng.segments, g.owner ≠ some e.id) (hwait : ∀ g ∈ s.dev.eng.backlog, g.owner ≠ some e.id) :
    ∃ t done, Ended c s t e done ∧ done.code = 0 ∧ t.dev.eng.flights = s.dev.eng.flights ∧ t.dev.eng.segments = s.dev.eng.segments
      ∧ (hdOpcode e.desc = 0x41 → ∀ i < k.count 0 * k.sendSize,
          t.dev.mem.byte (slAddr (coRecv e.desc) + i) = s.dev.mem.byte (slAddr (coSend e.desc) + i))
      ∧ (hdOpcode e.desc = 0x43 → t.dev.epochOf (coTensor e.desc) = coEpoch e.desc) := by
  have hbyte := fun a => Dev.begun_byte (d := s.dev) (e := e) (ecc := ecc) a
  have heng := s.dev.begun_eng e ecc
  have hb := h.begins
  rw [hk.launched] at hb
  obtain ⟨hidle, hlevel, hacc, hlt⟩ := hk.fresh
  have hvalid := hk.valid
  generalize hd : s.dev.begun e ecc = d at *
  have hrank : k.rank = 0 := by rw [Coll.q, hq] at hlt; omega
  have hidle' : k.Idle k.id k.desc := by rw [hidle.id, hidle.desc]; exact hidle
  have hop : k.op = hdOpcode e.desc := by rw [Coll.op, hidle.desc]
  have hgo : (d.withColl k).StartsIdle k ((d.withColl k).collGo k) :=
    Dev.collGo_alone hp hidle' hq hrank hlevel hacc hvalid (by rw [hop]; exact h.opcode)
  obtain ⟨k', hk', hlaunch, hflights⟩ := Dev.launchColl_idle rfl hgo (by rw [heng]; exact hearly) (by rw [heng, hidle.id]; exact hf)
    (by rw [Dev.Unsegmented, heng, hidle.id]; exact ⟨hsegs, hwait⟩)
  rw [hidle.id, hidle.desc] at hk'
  have hop' : k'.op = hdOpcode e.desc := by rw [Coll.op, hk'.desc]
  generalize hx : ((d.withColl k).collGo k).1.putColl ((d.withColl k).collGo k).2 = x at hlaunch hflights
  have hxdisp : x.disp = d.disp := by rw [← hx]; exact hgo.disp
  have hxsegs : x.eng.segments = s.dev.eng.segments := by
    have hkept : ((d.withColl k).collGo k).1.eng.segments = d.eng.segments := (congrArg Engine.segments hgo.eng).trans rfl
    rw [← hx, ← heng]
    exact hkept
  obtain ⟨y, done, hend, hydisp, hcode⟩ := x.conclude_ends hk'.bad
  rw [hk'.id] at hend
  rw [hlaunch, hend] at hb
  refine ⟨_, _, hb.ended_begun (ecc := ecc) h.entry ?_, hcode.trans hk'.code, ?_⟩
  · rw [hd, hydisp, hxdisp]
  dsimp only
  rw [← hend]
  refine ⟨?_, ?_, fun h41 i hi => ?_, fun h43 => ?_⟩
  · rw [Dev.conclude_flights, hflights, hk'.id, heng]
    exact filter_last hf k' hk'.id
  · exact (x.conclude_keeps (g := Engine.segments) (fun _ _ _ _ => rfl) k').trans hxsegs
  · have hmem : x.mem = ((d.withColl k).agStart k).1.mem := by
      rw [← hx, ← Dev.collGo_allGather (hop.trans h41)]
      rfl
    rw [x.conclude_mem hk'.bad (by rw [hop', h41]; decide), hmem, ← hidle.desc, Dev.agStart_byte (d := d.withColl k) hp hidle' hq hrank hi]
    exact hbyte _
  · rw [← hk'.desc]
    exact x.conclude_epoch hk'.bad (hop'.trans h43) hk'.code

end

/-! ## A broadcast that leaves (11 R353, R359) -/

/-- The chunks of a segment without a record hold its data, in order. -/
theorem SegReq.keep_data (r : SegReq) (n key : Nat) (h : r.record = none) :
    (r.keep n key).flatMap (fun q => q.data) = r.data.map Prod.fst := by
  have hparts := chunksOf_flatten (k := chunkMax) (by decide) r.data.length r.data le_rfl
  unfold SegReq.keep
  rw [h]
  dsimp only
  rw [List.flatMap_map]
  dsimp only
  conv_rhs => rw [← hparts, List.map_flatten]
  rw [List.flatMap_def, ← List.zipIdx_map_fst 0 (chunksOf chunkMax r.data.length r.data), List.map_map, List.zipIdx_map_fst]
  rfl

/-- A segment without a record leaves with the data of its chunks. -/
theorem Dev.collSend_plain (d : Dev) (c : Coll) {rank dest : Nat} (stage : Nat) {data : Marked} (hr : c.tree[rank]? = some dest)
    (hdata : data.isEmpty = false) (hx : d.eng.exhausted = false) (hn : d.eng.nextSegment < 2 ^ 24) :
    ∃ chunks, (d.collSend c rank stage data none).segs = d.segs ++ [(some c.id, dest, d.eng.nextSegment, chunks, 0)]
      ∧ chunks.flatMap (fun q => q.data) = data.map Prod.fst :=
  ⟨_, d.collSend_segs c stage none hr hdata hx hn, SegReq.keep_data _ _ _ rfl⟩

theorem feedBlind_early : FeedBlind (fun d => d.eng.early) := ⟨.of_atRest fun _ => rfl, fun _ _ _ _ => rfl⟩

theorem Dev.collSend_early (d : Dev) (c : Coll) (rank stage : Nat) (data : Marked) (record : Option Nat) :
    (d.collSend c rank stage data record).eng.early = d.eng.early := by
  unfold Dev.collSend
  extract_lets x
  split
  · rfl
  · unfold Dev.startSegment
    split
    · rfl
    · exact (feedBlind_early.feedAll _).trans (d.takeNumber_keeps (g := Engine.early) (fun _ _ _ _ => rfl) _)

/-- A collective one of whose segments is under way is not over. -/
theorem Dev.settle_segmented {d : Dev} {id : Nat} (h : ∃ g ∈ d.eng.segments, g.owner = some id) : d.settle id = d := by
  obtain ⟨g, hg, ho⟩ := h
  unfold Dev.settle
  split
  · next c hc =>
    have hid : c.id = id := by simpa using List.find?_some hc
    have hwaits : d.eng.segments.all (fun g => g.owner != some c.id) = false :=
      List.all_eq_false.2 ⟨g, hg, by simp [ho, hid]⟩
    rw [if_neg (by simp [Dev.collOver, hwaits])]
  · rfl

theorem Dev.bcStart_sends {d : Dev} {c : Coll} (hr : c.rank = 0) (hq : c.q ≠ 1) :
    (d.bcStart c).1 = d.collSend c 1 1 (d.markedAt (c.sendAt 0) (c.count 0 * c.sendSize)) none ∧ (d.bcStart c).2.id = c.id := by
  unfold Dev.bcStart
  rw [if_pos hr]
  dsimp only
  rw [if_neg hq]
  refine ⟨rfl, ?_⟩
  unfold Coll.noteBytes
  split
  · unfold Coll.note
    split <;> rfl
  · rfl

/-- A broadcast that sends goes on. -/
theorem Dev.launchColl_broadcast {d : Dev} {k : Coll} (ho : k.op = 0x42) (hr : k.rank = 0) (hq : k.q ≠ 1) (he : d.eng.early = [])
    {z : Dev} (hz : (d.withColl k).collSend k 1 1 ((d.withColl k).markedAt (k.sendAt 0) (k.count 0 * k.sendSize)) none = z)
    (hs : ∃ g ∈ z.eng.segments, g.owner = some k.id) : ∃ k', d.launchColl k = z.putColl k' := by
  obtain ⟨hstart, hid⟩ := Dev.bcStart_sends (d := d.withColl k) hr hq
  rw [Dev.launchColl_eq, Dev.collGo_broadcast ho, hstart, hz, hid]
  have hearly : (z.putColl ((d.withColl k).bcStart k).2).eng.early = [] := by
    rw [← he]
    have hkept := (d.withColl k).collSend_early k 1 1 ((d.withColl k).markedAt (k.sendAt 0) (k.count 0 * k.sendSize)) none
    rw [hz] at hkept
    exact hkept
  refine ⟨((d.withColl k).bcStart k).2, ?_⟩
  rw [Dev.takeEarly_none hearly, Dev.settle_segmented]
  exact hs

section
variable {c : Instr} {ecc : List EccHit} {s : State} {e : Entry}

/-- A broadcast of rank 0 in a larger tree leaves as one segment to rank 1. -/
theorem CollStarts.broadcast (h : CollStarts c s e ecc) {k : Coll} (hk : (s.dev.begun e ecc).CollPasses e k) (hearly : s.dev.eng.early = [])
    (ho : hdOpcode e.desc = 0x42) (hr : k.rank = 0) (hq : 2 ≤ k.tree.length) (hb : 0 < k.count 0 * k.sendSize)
    (hn : s.dev.eng.nextSegment < 2 ^ 24) (hx : s.dev.eng.exhausted = false) :
    ∃ t dest chunks, Answers c s t ∧ t.dev.entry e.id = some (s.dev.startedEntry e) ∧ some dest = k.tree[1]?
      ∧ t.dev.segs = s.dev.segs ++ [(some e.id, dest, s.dev.eng.nextSegment, chunks, 0)]
      ∧ chunks.flatMap (fun q => q.data) = s.dev.rd (slAddr (coSend e.desc)) (k.count 0 * k.sendSize) := by
  have heng := s.dev.begun_eng e ecc
  have hbytes : ∀ a n, (s.dev.begun e ecc).rd a n = s.dev.rd a n := fun a n => by
    rw [Dev.rd, Dev.rd, Mem.read_eq_map, Mem.read_eq_map]
    exact List.map_congr_left fun x _ => Dev.begun_byte x
  have hent : ∀ y : Dev, y.disp = (s.dev.begun e ecc).disp → y.entry e.id = some (s.dev.startedEntry e) := fun y hy =>
    Dev.entry_of_begun h.entry (congrArg Disp.board hy)
  have hbegin := h.begins
  rw [hk.launched] at hbegin
  obtain ⟨hidle, -⟩ := hk.fresh
  generalize s.dev.begun e ecc = d at *
  have hop : k.op = 0x42 := by rw [Coll.op, hidle.desc, ho]
  have hdest : k.tree[1]? = some k.tree[1] := List.getElem?_eq_getElem hq
  generalize hz : (d.withColl k).collSend k 1 1 ((d.withColl k).markedAt (k.sendAt 0) (k.count 0 * k.sendSize)) none = z
  obtain ⟨chunks, hsegs, hdata⟩ := (d.withColl k).collSend_plain k 1 hdest ((d.withColl k).markedAt_isEmpty (k.sendAt 0) hb)
    (by rw [Dev.withColl, heng]; exact hx) (by rw [Dev.withColl, heng]; exact hn)
  have hdisp := congrArg Prod.fst ((d.withColl k).collSend_apart k 1 1 ((d.withColl k).markedAt (k.sendAt 0) (k.count 0 * k.sendSize)) none)
  rw [hz] at hsegs hdisp
  have hown : ∃ g ∈ z.eng.segments, g.owner = some k.id := by
    have hlast := hsegs ▸ List.mem_append_right (d.withColl k).segs (List.mem_singleton_self _)
    obtain ⟨g, hg, hfixed⟩ := List.mem_map.1 hlast
    exact ⟨g, hg, congrArg Prod.fst hfixed⟩
  obtain ⟨k', hlaunch⟩ := Dev.launchColl_broadcast hop hr (by unfold Coll.q; omega) (by rw [heng]; exact hearly) hz hown
  rw [hlaunch] at hbegin
  refine ⟨_, k.tree[1], chunks, hbegin.answers, hent _ hdisp, hdest.symm, hsegs.trans ?_, hdata.trans ?_⟩
  · rw [hidle.id]
    simp only [Dev.segs, Dev.withColl, heng]
  · rw [Dev.markedAt_bytes, Coll.sendAt, hidle.desc, Nat.zero_mul, Nat.add_zero]
    exact hbytes _ _

end

/-! ## O30 -/

/-- Settles O30: the checks in their order, then a collective alone in its tree, which is over as it starts, and a broadcast, which is not. -/
theorem collectivesCheckSendAndEnd : Obligations.CollectivesCheckSendAndEnd := by
  unfold Obligations.CollectivesCheckSendAndEnd
  intro c ecc s e h x d treeOk poisoned
  have hb : Effect c s (d.beginColl e) := h.begins
  have hends (code : Nat) : d.endWith e.id code = d.endedAs s.dev e code := Dev.begun_endWith h.entry code
  refine ⟨fun ht => ?_, fun ht hi => ?_, fun alg tree rank ht hi => ?_, fun k hk hearly hf => ⟨fun hq hp hs hw => ?_, fun ho hr hq hb hn hx => ?_⟩⟩
  · obtain ⟨a, ha⟩ := Option.ne_none_iff_exists'.1 ht
    rw [Dev.beginColl_treePoisoned ha] at hb
    exact hb.ended_poisoned h.entry
  · rw [Dev.beginColl_noTree ht hi, hends] at hb
    exact hb
  · intro k reach clean
    refine ⟨fun hr => ?_, fun hr hp => ?_, fun hr hp hv => ?_, fun hr hp hc hv hx => ?_⟩
    · rw [Dev.beginColl_countsOut ht hi hr, hends] at hb
      exact hb
    · obtain ⟨a, ha⟩ := Option.ne_none_iff_exists'.1 hp
      rw [Dev.beginColl_countsPoisoned ht hi hr ha] at hb
      exact hb.ended_poisoned h.entry
    · rw [(Dev.beginColl_checks ht hi hr hp).trans (Dev.checkColl_invalid (k := k) hv)] at hb
      rw [← hends]
      exact hb
    · rw [(Dev.beginColl_checks ht hi hr hp).trans (Dev.checkColl_out (k := k) hc hv hx)] at hb
      rw [← hends]
      exact hb
  · exact h.alone hk hearly hf hq hp hs hw
  · exact h.broadcast hk hearly ho hr hq hb hn hx

end Sys2Proof.Machine
end

section
/-! PROOF. The Trail (12 R390-R393; 19 R566, R567): what a frozen Trail keeps, how it freezes and is dumped, what a release shows, O46. -/

namespace Sys2Proof.Machine

/-! ## A frozen Trail stands while events are raised (12 R391) -/

/-- The Trail and `TRAIL_STATE`. -/
def Dev.trailView (d : Dev) : Trail × Nat := (d.trail, d.get 0x7100 2)

section
variable (d : Dev)

theorem Dev.post_trailView (a : Nat) (l : List Byte) : (d.post a l).trailView = d.trailView := by
  unfold Dev.post
  split
  · rfl
  · exact Prod.ext rfl (d.addSat_get_ne _ _ _ _ _ _ (by decide))

theorem Dev.message_trailView (v : Nat) : (d.message v).trailView = d.trailView := by
  unfold Dev.message
  split
  · rfl
  · split
    · rfl
    · exact Prod.ext rfl (d.addSat_get_ne _ _ _ _ _ _ (by decide))

theorem Dev.ledger_trailView (k : Nat) (l : List Byte) : (d.ledger k l).trailView = d.trailView := by
  unfold Dev.ledger
  dsimp only
  split
  · rfl
  · exact Prod.ext rfl (d.addSat_get_ne _ _ _ _ _ _ (by decide))

theorem Dev.notifyOne_trailView (c e r i : Nat) : (d.notifyOne c e r i).trailView = d.trailView := by
  have hframe : ∀ a u x l, (d.frame a u x l).trailView = d.trailView := fun a u x l => by unfold Dev.frame; split <;> rfl
  unfold Dev.notifyOne
  split
  · split
    · rfl
    · split
      · exact hframe _ _ _ _
      · split
        · rfl
        · exact Prod.ext rfl (d.addSat_get_ne _ _ _ _ _ _ (by decide))
  · rfl

theorem Dev.notify_trailView (c e r : Nat) : (d.notify c e r).trailView = d.trailView :=
  foldl_keeps (g := Dev.trailView) (fun d i => d.notifyOne_trailView c e r i) (below 4) d

theorem Dev.evqPut_trailView (c a b e : Nat) : (d.evqPut c a b e).trailView = d.trailView := by
  unfold Dev.evqPut
  dsimp only
  split
  · rfl
  · split
    · rfl
    · split
      · exact (Dev.message_trailView _ _).trans (d.post_trailView _ _)
      · exact d.post_trailView _ _

/-- What reaches a frozen Trail is only counted. -/
theorem Dev.note_frozen (k c a : Nat) (h : d.get 0x7100 2 = 2) : (d.note k c a).trailView = d.trailView := by
  unfold Dev.note
  split
  · rfl
  · rw [if_pos (.inl h)]
    exact Prod.ext rfl (d.addWrap_get_ne _ _ _ _ _ (by decide))

/-- No trigger acts on a frozen Trail. -/
theorem Dev.trigger_frozen (b : Nat) (h : d.get 0x7100 2 = 2) : d.trigger b = d := by
  unfold Dev.trigger
  rw [if_neg (by omega)]

theorem Dev.raise_frozen (c a b : Nat) (h : d.get 0x7100 2 = 2) : (d.raise c a b).trailView = d.trailView := by
  have hcount : (d.addWrap 0x1300 3 1).trailView = d.trailView := Prod.ext rfl (d.addWrap_get_ne _ _ _ _ _ (by decide))
  have hnote : ((d.addWrap 0x1300 3 1).note 0 c a).trailView = d.trailView :=
    ((d.addWrap 0x1300 3 1).note_frozen 0 c a ((congrArg Prod.snd hcount).trans h)).trans hcount
  unfold Dev.raise Dev.report
  dsimp only
  rw [Dev.notify_trailView, Dev.evqPut_trailView, if_pos rfl, Dev.ledger_trailView, Dev.trigger_frozen _ _ ((congrArg Prod.snd hnote).trans h)]
  exact hnote

end

/-! ## Dump slots (12 R392; 19 R566) -/

/-- Notices touch no dump slot. -/
theorem Dev.dumps_of_mute {a b : Dev} (h : a.mute = b.mute) : a.store.dumps = b.store.dumps := by
  have h' := congrArg (fun d : Dev => d.store.dumps) h; exact h'

theorem Dev.dumpAt_of_dumps {a b : Dev} (h : a.store.dumps = b.store.dumps) : a.dumpAt = b.dumpAt := by
  funext n; unfold Dev.dumpAt; rw [h]

theorem Dev.freeDump_of_dumps {a b : Dev} (h : a.store.dumps = b.store.dumps) : a.freeDump = b.freeDump := by
  unfold Dev.freeDump; rw [Dev.dumpAt_of_dumps h]

/-- What a dump of the Trail holds at this instant. -/
def Dev.trailCopy (d : Dev) : Dump := ⟨d.nextDump, d.trail.frozenHt, d.trail.trigger, d.newestTseq, d.trail.entries⟩

/-- A dump slot is filled or emptied. -/
def Dev.setDump (d : Dev) (n : Nat) (x : Option Dump) : Dev :=
  { d with store := { d.store with dumps := sset (fun _ => none) d.store.dumps n x } }

theorem Dev.setDump_dumpAt (d : Dev) (n m : Nat) (x : Option Dump) : (d.setDump n x).dumpAt m = if m = n then x else d.dumpAt m :=
  sget_sset _ _ _ _ _

section
variable {d : Dev}

theorem Dev.dump_undumpable (h : d.trail.dumpable = false) : d.dump = d := by unfold Dev.dump; rw [h]; rfl

variable (h : d.trail.dumpable = true)
include h

theorem Dev.dump_full (hf : d.freeDump = none) : d.dump = (d.addSat 0x7100 8 32 1).raise 0x0A09 0 0 := by
  unfold Dev.dump; rw [h, hf]; rfl

theorem Dev.dump_free {n : Nat} (hf : d.freeDump = some n) :
    d.dump = (d.setDump n (some d.trailCopy)).ledger 5 (toBytes 1 n ++ toBytes 4 d.newestTseq) := by
  unfold Dev.dump; rw [h, hf]; rfl

/-- The frozen Trail goes to the lowest free slot, and no other slot changes. -/
theorem Dev.dump_copies {n : Nat} (hf : d.freeDump = some n) :
    d.dump.dumpAt n = some d.trailCopy ∧ ∀ m, m ≠ n → d.dump.dumpAt m = d.dumpAt m := by
  rw [Dev.dump_free h hf, Dev.dumpAt_of_dumps (Dev.dumps_of_mute (Dev.ledger_mute _ _ _))]
  exact ⟨(d.setDump_dumpAt n n _).trans (if_pos rfl), fun m hm => (d.setDump_dumpAt n m _).trans (if_neg hm)⟩

end

/-- A dump leaves the frozen Trail as it is. -/
theorem Dev.dump_trailView {d : Dev} (h : d.get 0x7100 2 = 2) : d.dump.trailView = d.trailView := by
  cases hd : d.trail.dumpable with
  | false => rw [Dev.dump_undumpable hd]
  | true =>
    cases hf : d.freeDump with
    | none =>
      have hlost : (d.addSat 0x7100 8 32 1).trailView = d.trailView := Prod.ext rfl (d.addSat_get_ne _ _ _ _ _ _ (by decide))
      rw [Dev.dump_full hd hf]
      exact (Dev.raise_frozen _ _ _ _ ((congrArg Prod.snd hlost).trans h)).trans hlost
    | some n =>
      rw [Dev.dump_free hd hf]
      exact Dev.ledger_trailView _ _ _

theorem Dev.dump_keeps (d : Dev) : d.dump.disp = d.disp ∧ d.dump.ports = d.ports ∧ d.dump.mem = d.mem := by
  cases hd : d.trail.dumpable with
  | false => rw [Dev.dump_undumpable hd]; exact ⟨rfl, rfl, rfl⟩
  | true =>
    cases hf : d.freeDump with
    | none => rw [Dev.dump_full hd hf, Dev.raise_disp, Dev.raise_ports, Dev.raise_mem]; exact ⟨rfl, rfl, rfl⟩
    | some n => rw [Dev.dump_free hd hf, Dev.ledger_disp, Dev.ledger_ports, Dev.ledger_mem]; exact ⟨rfl, rfl, rfl⟩

/-! ## The freeze (12 R391) -/

/-- The Trail as a freeze leaves it. -/
def Trail.frozen (x : Trail) (how ht : Nat) : Trail := { x with postLeft := 0, trigger := how, frozenHt := ht, loaded := none, dumpable := true }

/-- The device with its Trail frozen, before the event of the freeze. -/
def Dev.stopTrail (d : Dev) (how : Nat) : Dev := { d.put 0x7100 2 2 with trail := d.trail.frozen how d.ht }

theorem Dev.stopTrail_trailView (d : Dev) (how : Nat) : (d.stopTrail how).trailView = (d.trail.frozen how d.ht, 2) :=
  Prod.ext rfl (d.put_get_same 0x7100 2 2)

theorem Dev.stopTrail_event_dumps (d : Dev) (how : Nat) : ((d.stopTrail how).raise 0x0A08 0 0).store.dumps = d.store.dumps :=
  (Dev.dumps_of_mute (Dev.raise_mute (d.stopTrail how) 0x0A08 0 0)).trans rfl

theorem Dev.freeze_frozen {d : Dev} (h : d.get 0x7100 2 = 2) (how : Nat) : d.freeze how = d := by unfold Dev.freeze; rw [if_pos h]

section
variable {d : Dev} (h : d.get 0x7100 2 ≠ 2) (how : Nat)
include h

theorem Dev.freeze_eq : d.freeze how =
    if d.get 0x7100 6 = 1 then ((d.stopTrail how).raise 0x0A08 0 0).dump else (d.stopTrail how).raise 0x0A08 0 0 := by
  have hauto : ((d.stopTrail how).raise 0x0A08 0 0).get 0x7100 6 = d.get 0x7100 6 :=
    (Dev.raise_get _ (by decide) _ _ _).trans (d.put_get_ne 0x7100 2 2 0x7100 6 (by decide))
  rw [← hauto]
  unfold Dev.freeze
  rw [if_neg h]
  rfl

/-- The Trail keeps its entries, and its event, or a dump, is no entry any more. -/
theorem Dev.freeze_trailView : (d.freeze how).trailView = (d.trail.frozen how d.ht, 2) := by
  have hstop := d.stopTrail_trailView how
  have hraise : ((d.stopTrail how).raise 0x0A08 0 0).trailView = (d.trail.frozen how d.ht, 2) :=
    ((d.stopTrail how).raise_frozen _ _ _ (congrArg Prod.snd hstop)).trans hstop
  rw [Dev.freeze_eq h]
  split
  · exact (Dev.dump_trailView (congrArg Prod.snd hraise)).trans hraise
  · exact hraise

theorem Dev.freeze_keeps : (d.freeze how).disp = d.disp ∧ (d.freeze how).ports = d.ports ∧ (d.freeze how).mem = d.mem := by
  have hraise : ((d.stopTrail how).raise 0x0A08 0 0).disp = d.disp ∧ ((d.stopTrail how).raise 0x0A08 0 0).ports = d.ports
      ∧ ((d.stopTrail how).raise 0x0A08 0 0).mem = d.mem := by
    rw [Dev.raise_disp, Dev.raise_ports, Dev.raise_mem]
    exact ⟨rfl, rfl, rfl⟩
  rw [Dev.freeze_eq h]
  split
  · obtain ⟨hdisp, hports, hmem⟩ := ((d.stopTrail how).raise 0x0A08 0 0).dump_keeps
    rwa [hdisp, hports, hmem]
  · exact hraise

theorem Dev.freeze_undumped (ha : d.get 0x7100 6 ≠ 1) : (d.freeze how).store.dumps = d.store.dumps := by
  rw [Dev.freeze_eq h, if_neg ha]
  exact Dev.stopTrail_event_dumps d how

/-- With `TRAIL_AUTODUMP` 1 the freeze dumps. -/
theorem Dev.freeze_dumps (ha : d.get 0x7100 6 = 1) {n : Nat} (hf : d.freeDump = some n) :
    (∃ y, (d.freeze how).dumpAt n = some y ∧ y.entries = d.trail.entries ∧ y.trigger = how)
      ∧ ∀ m, m ≠ n → (d.freeze how).dumpAt m = d.dumpAt m := by
  generalize hx : (d.stopTrail how).raise 0x0A08 0 0 = x
  have htrail : x.trail = d.trail.frozen how d.ht := by
    rw [← hx]
    exact congrArg Prod.fst ((Dev.raise_frozen _ _ _ _ (congrArg Prod.snd (d.stopTrail_trailView how))).trans (d.stopTrail_trailView how))
  have hslots : x.store.dumps = d.store.dumps := by
    rw [← hx]
    exact Dev.stopTrail_event_dumps d how
  obtain ⟨hcopy, hrest⟩ := Dev.dump_copies (d := x) (by rw [htrail]; rfl) ((Dev.freeDump_of_dumps hslots).trans hf)
  rw [Dev.freeze_eq h, if_pos ha, hx]
  rw [Dev.dumpAt_of_dumps hslots] at hrest
  refine ⟨⟨_, hcopy, ?_, ?_⟩, hrest⟩
  · exact (congrArg Trail.entries htrail).trans rfl
  · exact (congrArg Trail.trigger htrail).trans rfl

end

/-! ## Writes of `TRAIL_CTRL` -/

theorem Dev.asked_trail (d : Dev) (who : Requester) : (d.asked who).trail = d.trail := by unfold Dev.asked; split <;> rfl

theorem Dev.asked_freeDump (d : Dev) (who : Requester) : (d.asked who).freeDump = d.freeDump :=
  Dev.freeDump_of_dumps (congrArg Store.dumps (d.asked_store who))

theorem Dev.asked_dumpAt (d : Dev) (who : Requester) : (d.asked who).dumpAt = d.dumpAt :=
  Dev.dumpAt_of_dumps (congrArg Store.dumps (d.asked_store who))

theorem Dev.asked_trailEntry (d : Dev) (who : Requester) (k : Nat) : (d.asked who).get 0x7100 k = d.get 0x7100 k :=
  d.asked_get_ne who (by unfold odKey; omega)

/-- A granted write of a command of `TRAIL_CTRL`, whether or not the flash works. -/
theorem accepted_trailCtrl {c : Instr} {who : Requester} {s : State} {v : Nat} {flashOk : Bool} {x : Dev}
    (hx : exec c s = runF s (fun fuse d => d.writeIn fuse who 0x7100 1 v flashOk none)) (hv : v < 256) (hg : s.dev.Grants who 0x7100 1)
    (h : (s.dev.asked who).trailCtrl v flashOk = some x) : Accepted c s 0x7100 1 x := by
  have hw : (s.dev.asked who).writeEntry s.fuse (ownerOf who == .pcie || s.dev.requesterSecure who) flashOk 0x7100 1
      (v % 2 ^ (8 * entrySize 0x7100 1)) = ⟨true, x, none⟩ := by
    rw [show entrySize 0x7100 1 = 1 from rfl, show v % 2 ^ (8 * 1) = v from Nat.mod_eq_of_lt hv, Dev.writeEntry,
      show (s.dev.asked who).actingEntry s.fuse flashOk 0x7100 1 v = some (.of (s.dev.asked who) ((s.dev.asked who).trailCtrl v flashOk)) from rfl, h]
    rfl
  rw [Accepted, Effect, hx, runF, s.dev.writeIn_stays s.fuse who v flashOk none (by decide) (by decide) hg (by decide) (by simp) (by decide) hw rfl]
  rfl

/-- DUMP acts on a frozen Trail alone; where the flash fails it raises the event of the store (19 R566). -/
theorem Dev.trailCtrl_dump (d : Dev) (flashOk : Bool) : d.trailCtrl 3 flashOk =
    some (if d.get 0x7100 2 = 2 then (if flashOk = true then d.dump else d.raise 0x2F07 0x200000 1) else d) := by
  unfold Dev.trailCtrl
  by_cases h : d.get 0x7100 2 = 2 <;> simp [h]

section
variable {who : Requester} {s : State} (hg : s.dev.Grants who 0x7100 1)
include hg

theorem accepted_trailFreeze : Accepted (.trailFreeze who) s 0x7100 1 ((s.dev.asked who).freeze 0xFF) :=
  accepted_trailCtrl (v := 1) (flashOk := true) rfl (by decide) hg rfl

theorem accepted_trailResume : Accepted (.trailResume who) s 0x7100 1 (s.dev.asked who).resumeTrail :=
  accepted_trailCtrl (v := 2) (flashOk := true) rfl (by decide) hg rfl

theorem accepted_trailDump (ok : Bool) : Accepted (.trailDump who ok) s 0x7100 1
    (if s.dev.get 0x7100 2 = 2 then (if ok = true then (s.dev.asked who).dump else (s.dev.asked who).raise 0x2F07 0x200000 1)
      else s.dev.asked who) := by
  refine accepted_trailCtrl (v := 3) (flashOk := ok) rfl (by decide) hg ?_
  rw [Dev.trailCtrl_dump, Dev.asked_trailEntry]

theorem trailFreeze_freezes (h : s.dev.get 0x7100 2 ≠ 2) : let x := s.dev.trail
    ∃ t, Does (.trailFreeze who) s t 0x7100 1 ∧ t.dev.get 0x7100 2 = 2 ∧ t.dev.trail.entries = x.entries ∧ t.dev.trail.trigger = 0xFF
      ∧ t.dev.trail.postLeft = 0 ∧ t.dev.trail.frozenHt = s.dev.ht
      ∧ (s.dev.get 0x7100 6 ≠ 1 → t.dev.store.dumps = s.dev.store.dumps)
      ∧ (s.dev.get 0x7100 6 = 1 → ∀ n, s.dev.freeDump = some n →
          (∃ y, t.dev.dumpAt n = some y ∧ y.entries = x.entries ∧ y.trigger = 0xFF) ∧ ∀ m, m ≠ n → t.dev.dumpAt m = s.dev.dumpAt m)
      ∧ t.dev.disp = s.dev.disp ∧ t.dev.ports = s.dev.ports ∧ t.dev.mem = s.dev.mem := by
  intro x
  have hdoes := (accepted_trailFreeze hg).does
  have ha : (s.dev.asked who).get 0x7100 2 ≠ 2 := by rwa [Dev.asked_trailEntry]
  have hview := Dev.freeze_trailView ha 0xFF
  obtain ⟨hdisp, hports, hmem⟩ := Dev.freeze_keeps ha 0xFF
  have hplain := Dev.freeze_undumped ha 0xFF
  have hdump := fun hauto n => Dev.freeze_dumps ha 0xFF hauto (n := n)
  rw [Dev.asked_trail, Dev.asked_ht] at hview
  rw [Dev.asked_trailEntry] at hplain hdump
  rw [Dev.asked_store] at hplain
  rw [Dev.asked_trail, Dev.asked_freeDump, Dev.asked_dumpAt] at hdump
  have htrail : ((s.dev.asked who).freeze 0xFF).trail = x.frozen 0xFF s.dev.ht := congrArg Prod.fst hview
  refine ⟨_, hdoes, congrArg Prod.snd hview, (congrArg Trail.entries htrail).trans rfl, (congrArg Trail.trigger htrail).trans rfl, (congrArg Trail.postLeft htrail).trans rfl,
    (congrArg Trail.frozenHt htrail).trans rfl, hplain, fun hauto n hn => hdump hauto n hn, hdisp.trans ?_, hports.trans ?_, hmem.trans ?_⟩
  · exact Dev.of_mute_disp (s.dev.asked_mute who)
  · exact Dev.of_mute_ports (s.dev.asked_mute who)
  · exact Dev.of_mute_mem (s.dev.asked_mute who)

theorem trailResume_resumes (h : s.dev.get 0x7100 2 = 2) : let x := s.dev.trail
    Accepted (.trailResume who) s 0x7100 1 { (s.dev.asked who).put 0x7100 2 0 with
      trail := { x with entries := if x.dumpable then x.entries else [], postLeft := 0, loaded := none, dumpable := false } } := by
  intro x
  have hx : x = (s.dev.asked who).trail := (s.dev.asked_trail who).symm
  have hresume := accepted_trailResume hg
  rw [Dev.resumeTrail, if_neg (by rw [Dev.asked_trailEntry]; exact not_not.2 h)] at hresume
  rw [hx]
  exact hresume

theorem trailResume_rests (h : s.dev.get 0x7100 2 ≠ 2) : Accepted (.trailResume who) s 0x7100 1 (s.dev.asked who) := by
  have hresume := accepted_trailResume hg
  rwa [Dev.resumeTrail, if_pos (by rwa [Dev.asked_trailEntry])] at hresume

/-- A DUMP of a frozen Trail that may be dumped. -/
theorem trailDump_dumps (h : s.dev.get 0x7100 2 = 2) (hd : s.dev.trail.dumpable = true) : let x := s.dev.trail
    (s.dev.freeDump = none → ∃ t, Does (.trailDump who true) s t 0x7100 1
      ∧ t.dev.get 0x7100 8 = min (s.dev.get 0x7100 8 + 1) 0xFFFFFFFF ∧ t.dev.store.dumps = s.dev.store.dumps)
    ∧ ∀ n, s.dev.freeDump = some n → ∃ t y, Does (.trailDump who true) s t 0x7100 1
      ∧ t.dev.dumpAt n = some y ∧ y.entries = x.entries ∧ y.trigger = x.trigger ∧ y.ht = x.frozenHt
      ∧ ∀ m, m ≠ n → t.dev.dumpAt m = s.dev.dumpAt m := by
  intro x
  have hx := accepted_trailDump hg true
  rw [if_pos h, if_pos rfl] at hx
  have hda : (s.dev.asked who).trail.dumpable = true := by rwa [Dev.asked_trail]
  have htrail : (s.dev.asked who).trail = x := s.dev.asked_trail who
  refine ⟨fun hf => ?_, fun n hf => ?_⟩
  · obtain ⟨t, ht, -, hget, hmute⟩ := hx.leaves
    rw [Dev.dump_full hda (by rwa [Dev.asked_freeDump])] at hget hmute
    refine ⟨t, ht, ?_, ?_⟩
    · rw [hget, Dev.raise_get _ (by decide), Dev.addSat_get_same _ (by decide), Dev.asked_trailEntry]
    · rw [Dev.dumps_of_mute (hmute.trans (Dev.raise_mute _ _ _ _)), Dev.addSat_store, Dev.asked_store]
  · obtain ⟨hcopy, hrest⟩ := Dev.dump_copies hda (n := n) (by rwa [Dev.asked_freeDump])
    rw [Dev.asked_dumpAt] at hrest
    exact ⟨_, (s.dev.asked who).trailCopy, hx.does, hcopy, (congrArg Trail.entries htrail).trans rfl,
      (congrArg Trail.trigger htrail).trans rfl, (congrArg Trail.frozenHt htrail).trans rfl, hrest⟩

/-- A DUMP that the flash does not take. -/
theorem trailDump_fails (h : s.dev.get 0x7100 2 = 2) : ∃ t, Does (.trailDump who false) s t 0x7100 1
    ∧ t.dev.SameButNotices (s.dev.asked who) ∧ t.dev.get 0x1300 3 = (s.dev.get 0x1300 3 + 1) % 2 ^ 32 := by
  have hx := accepted_trailDump hg false
  rw [if_pos h, if_neg (by decide)] at hx
  obtain ⟨t, ht, -, hget, hmute⟩ := hx.leaves
  refine ⟨t, ht, ⟨hmute.trans (Dev.raise_mute _ _ _ _), fun i k hk => (hget i k).trans (Dev.raise_get _ hk _ _ _)⟩, ?_⟩
  rw [hget, Dev.raise_counts, s.dev.asked_get_ne who (by decide)]

end

/-! ## The end of the post count (12 R391) -/

theorem exec_trailPostFreeze (s : State) : exec .trailPostFreeze s =
    run s (fun _ d => if d.get 0x7100 2 = 1 ∧ d.trail.postLeft = 0 then d.freeze d.trail.trigger else d) := rfl

theorem trailPostFreeze_rests {s : State} (h : ¬ (s.dev.get 0x7100 2 = 1 ∧ s.dev.trail.postLeft = 0)) : Effect .trailPostFreeze s s.dev := by
  rw [Effect, exec_trailPostFreeze, run, if_neg h]

theorem trailPostFreeze_freezes {s : State} (h : s.dev.get 0x7100 2 = 1 ∧ s.dev.trail.postLeft = 0) :
    ∃ t, Answers .trailPostFreeze s t ∧ t.dev.get 0x7100 2 = 2
      ∧ t.dev.trail.entries = s.dev.trail.entries ∧ t.dev.trail.trigger = s.dev.trail.trigger ∧ t.dev.trail.frozenHt = s.dev.ht := by
  have hx : Effect .trailPostFreeze s (s.dev.freeze s.dev.trail.trigger) := by rw [Effect, exec_trailPostFreeze, run, if_pos h]
  have hview := Dev.freeze_trailView (d := s.dev) (by omega) s.dev.trail.trigger
  have htrail := congrArg Prod.fst hview
  exact ⟨_, hx.answers, congrArg Prod.snd hview, (congrArg Trail.entries htrail).trans rfl, (congrArg Trail.trigger htrail).trans rfl, (congrArg Trail.frozenHt htrail).trans rfl⟩

/-! ## Marks (12 R390) -/

/-- A mark as the Trail takes it. -/
def Trail.marked (x : Trail) (st value : Nat) : Trail :=
  { x with entries := (value :: x.entries).take 4096, postLeft := if st = 1 then x.postLeft - 1 else x.postLeft }

section
variable {d : Dev} {k : Nat}

theorem Dev.note_masked (h : bit (d.get 0x7100 5) k = false) (c a : Nat) : d.note k c a = d := by
  unfold Dev.note; rw [h]; rfl

variable (h : bit (d.get 0x7100 5) k = true) (c a : Nat)
include h

/-- A happening whose kind is unmasked counts. -/
theorem Dev.note_counts : (d.note k c a).get 0x7100 7 = (d.get 0x7100 7 + 1) % 2 ^ 32 := by
  have hcount : (d.addWrap 0x7100 7 1).get 0x7100 7 = (d.get 0x7100 7 + 1) % 2 ^ 32 := d.put_get_same _ _ _
  unfold Dev.note
  rw [h]
  dsimp only
  split
  · next hk => cases hk
  · split
    · exact hcount
    · exact hcount

/-- It is recorded while the Trail records. -/
theorem Dev.note_trail : let st := d.get 0x7100 2
    (d.note k c a).trail = if st = 2 ∨ st = 1 ∧ d.trail.postLeft = 0 then d.trail
      else d.trail.marked st (trailValue d.ht (d.get 0x7100 7) k c d.step a) := by
  have hstep : (d.addWrap 0x7100 7 1).step = d.step := d.addWrap_get_ne _ _ _ _ _ (by decide)
  have hht : (d.addWrap 0x7100 7 1).ht = d.ht := rfl
  intro st
  unfold Dev.note
  rw [h]
  dsimp only
  rw [hstep, hht]
  split
  · next hk => cases hk
  · split <;> rfl

end

theorem accepted_trailMark {who : Requester} {s : State} (hg : s.dev.Grants who 0x7100 9) (v : DWord) :
    Accepted (.trailMarkWrite who v) s 0x7100 9 ((s.dev.asked who).note 9 0 v.toNat) := by
  refine acting_write (c := .trailMarkWrite who v) (w := ⟨true, _, none⟩) rfl (by decide) (by decide) (by decide) (by decide) (by decide) hg ?_ rfl
  rw [show entrySize 0x7100 9 = 8 from rfl, show v.toNat % 2 ^ (8 * 8) = v.toNat from Nat.mod_eq_of_lt v.isLt]
  rfl

theorem trailMark_marks {who : Requester} {s : State} (hg : s.dev.Grants who 0x7100 9) (v : DWord) :
    let st := s.dev.get 0x7100 2
    let frozen := st = 2 ∨ st = 1 ∧ s.dev.trail.postLeft = 0
    (bit (s.dev.get 0x7100 5) 9 = false → Accepted (.trailMarkWrite who v) s 0x7100 9 (s.dev.asked who))
    ∧ (bit (s.dev.get 0x7100 5) 9 = true → ∃ t, Does (.trailMarkWrite who v) s t 0x7100 9 ∧ t.dev.SameButNotices (s.dev.asked who)
        ∧ t.dev.get 0x7100 7 = (s.dev.get 0x7100 7 + 1) % 2 ^ 32
        ∧ (frozen → t.dev.trail = s.dev.trail)
        ∧ (¬ frozen → t.dev.trail = { s.dev.trail with
            entries := (trailValue s.dev.ht (s.dev.get 0x7100 7) 9 0 s.dev.step v.toNat :: s.dev.trail.entries).take 4096
            postLeft := if st = 1 then s.dev.trail.postLeft - 1 else s.dev.trail.postLeft })) := by
  intro st frozen
  have hmark := accepted_trailMark hg v
  have hstep : (s.dev.asked who).step = s.dev.step := s.dev.asked_get_ne who (by decide)
  refine ⟨fun hm => ?_, fun hm => ?_⟩
  · rwa [Dev.note_masked (by rwa [Dev.asked_trailEntry])] at hmark
  · rw [← s.dev.asked_trailEntry who] at hm
    have htrail := Dev.note_trail hm 0 v.toNat
    have hcount := Dev.note_counts hm 0 v.toNat
    rw [Dev.asked_trailEntry, Dev.asked_trailEntry, Dev.asked_trail, Dev.asked_ht, hstep] at htrail
    rw [Dev.asked_trailEntry] at hcount
    exact ⟨_, hmark.does, ⟨Dev.note_mute _ _ _ _, fun i k hk => Dev.note_get _ hk _ _ _⟩, hcount, fun hf => htrail.trans (if_pos hf),
      fun hf => htrail.trans (if_neg hf)⟩

/-! ## Releases (19 R566, R567) -/

/-- The newest of two dumps, each with its slot, where the first was found first. -/
def newerDump (m : Option (Nat × Dump)) (n : Nat) (x : Option Dump) : Option (Nat × Dump) :=
  match x, m with
  | some x, some (k, y) => if y.order < x.order then some (n, x) else some (k, y)
  | some x, none => some (n, x)
  | none, m => m

/-- The newest dump, with its slot. -/
def Dev.newestDump (d : Dev) : Option (Nat × Dump) := (below 4).foldl (fun m n => newerDump m n (d.dumpAt n)) none

/-- A slot's dump that is as new as any in the slots of a list; none where the list's slots are empty. -/
def Dev.Newest (d : Dev) (l : List Nat) (m : Option (Nat × Dump)) : Prop :=
  (m = none → ∀ k ∈ l, d.dumpAt k = none)
    ∧ ∀ n y, m = some (n, y) → d.dumpAt n = some y ∧ ∀ k ∈ l, ∀ z, d.dumpAt k = some z → z.order ≤ y.order

theorem Dev.Newest.next {d : Dev} {l : List Nat} {m : Option (Nat × Dump)} (h : d.Newest l m) (n : Nat) :
    d.Newest (l ++ [n]) (newerDump m n (d.dumpAt n)) := by
  obtain ⟨hnone, hsome⟩ := h
  have hmem : ∀ {k}, k ∈ l ++ [n] → k ∈ l ∨ k = n := by simp
  cases hx : d.dumpAt n with
  | none =>
    have hskip : newerDump m n none = m := by cases m <;> rfl
    rw [hskip]
    refine ⟨fun hm k hk => ?_, fun i y hm => ⟨(hsome i y hm).1, fun k hk z hz => ?_⟩⟩
    · obtain hk | rfl := hmem hk
      · exact hnone hm k hk
      · exact hx
    · obtain hk | rfl := hmem hk
      · exact (hsome i y hm).2 k hk z hz
      · rw [hx] at hz; cases hz
  | some x =>
    cases m with
    | none =>
      refine ⟨fun hm => (nomatch hm), fun i y hm => ?_⟩
      cases hm
      refine ⟨hx, fun k hk z hz => ?_⟩
      obtain hk | rfl := hmem hk
      · rw [hnone rfl k hk] at hz; cases hz
      · rw [hx] at hz; cases hz; exact le_rfl
    | some q =>
      obtain ⟨j, y⟩ := q
      obtain ⟨hj, hold⟩ := hsome j y rfl
      have hpick : newerDump (some (j, y)) n (some x) = if y.order < x.order then some (n, x) else some (j, y) := rfl
      rw [hpick]
      split
      · next hlt =>
        refine ⟨fun hm => (nomatch hm), fun i z hm => ?_⟩
        cases hm
        refine ⟨hx, fun k hk z hz => ?_⟩
        obtain hk | rfl := hmem hk
        · exact (hold k hk z hz).trans hlt.le
        · rw [hx] at hz; cases hz; exact le_rfl
      · next hge =>
        refine ⟨fun hm => (nomatch hm), fun i z hm => ?_⟩
        cases hm
        refine ⟨hj, fun k hk z hz => ?_⟩
        obtain hk | rfl := hmem hk
        · exact hold k hk z hz
        · rw [hx] at hz; cases hz; exact not_lt.1 hge

theorem Dev.newestDump_newest (d : Dev) : d.Newest (below 4) d.newestDump := by
  have hstart : d.Newest [] none := ⟨fun _ _ hk => (nomatch hk), fun _ _ hm => (nomatch hm)⟩
  exact (((hstart.next 0).next 1).next 2).next 3

/-- The Trail shows a dump, or, after the last, nothing (19 R567). -/
def Trail.showing (x : Trail) (m : Option (Nat × Dump)) : Trail :=
  { x with entries := (m.map (fun q => q.2.entries)).getD [], loaded := m.map Prod.fst, dumpable := false, postLeft := 0 }

theorem Dev.loadNewestDump_eq (d : Dev) : d.loadNewestDump = { d.put 0x7100 2 2 with trail := d.trail.showing d.newestDump } := by
  have hbest : d.loadNewestDump = (match d.newestDump with
      | some (n, x) => ({ d.put 0x7100 2 2 with trail := { d.trail with entries := x.entries, loaded := some n, dumpable := false, postLeft := 0 } } : Dev)
      | none => { d.put 0x7100 2 2 with trail := { d.trail with entries := [], loaded := none, dumpable := false, postLeft := 0 } }) := rfl
  rw [hbest]
  cases d.newestDump <;> rfl

theorem Dev.releaseDump_refused {d : Dev} {n : Nat} (h : 3 < n ∨ d.dumpAt n = none) : d.releaseDump n = none := by
  unfold Dev.releaseDump
  rw [if_pos (h.imp_right fun hn => by rw [hn]; rfl)]

theorem Dev.releaseDump_some {d : Dev} {n : Nat} (h3 : n ≤ 3) (h : d.dumpAt n ≠ none) :
    d.releaseDump n = some (if d.trail.loaded = some n then (d.setDump n none).loadNewestDump else d.setDump n none) := by
  have hgone : ¬ (3 < n ∨ (d.dumpAt n).isNone = true) := by
    rw [Option.isNone_iff_eq_none]
    exact fun hc => hc.elim (not_lt.2 h3) h
  unfold Dev.releaseDump
  rw [if_neg hgone]
  exact congrArg some (if_congr beq_iff_eq rfl rfl)

theorem trailDumpRelease_releases {who : Requester} {s : State} (hg : s.dev.Grants who 0x9020 3) (n : Byte) :
    let c : Instr := .trailDumpRelease who n
    let dumps := sset (fun _ => none) s.dev.store.dumps n.toNat none
    (3 < n.toNat ∨ s.dev.dumpAt n.toNat = none → Declined c who s 0x9020 3)
    ∧ (n.toNat ≤ 3 → s.dev.dumpAt n.toNat ≠ none → s.dev.trail.loaded ≠ some n.toNat →
        Accepted c s 0x9020 3 { s.dev.asked who with store := { s.dev.store with dumps := dumps } })
    ∧ (n.toNat ≤ 3 → s.dev.dumpAt n.toNat ≠ none → s.dev.trail.loaded = some n.toNat → ∃ t, Does c s t 0x9020 3
        ∧ t.dev.store.dumps = dumps ∧ t.dev.get 0x7100 2 = 2 ∧ t.dev.trail.dumpable = false
        ∧ (t.dev.trail.loaded = none → t.dev.trail.entries = [] ∧ ∀ m < 4, t.dev.dumpAt m = none)
        ∧ (∀ m, t.dev.trail.loaded = some m → ∃ y, t.dev.dumpAt m = some y ∧ t.dev.trail.entries = y.entries
            ∧ ∀ k < 4, ∀ z, t.dev.dumpAt k = some z → z.order ≤ y.order)) := by
  intro c dumps
  have ho : (s.dev.asked who).actingEntry s.fuse true 0x9020 3 (n.toNat % 2 ^ (8 * entrySize 0x9020 3))
      = some (.of (s.dev.asked who) ((s.dev.asked who).releaseDump n.toNat)) := by
    rw [show entrySize 0x9020 3 = 1 from rfl, show n.toNat % 2 ^ (8 * 1) = n.toNat from Nat.mod_eq_of_lt n.isLt]
    rfl
  obtain ⟨hno, hyes⟩ := granted_write (c := c) rfl (by decide) (by decide) (by decide) (by decide) (by decide) hg ho
  have hslots : ((s.dev.asked who).setDump n.toNat none).store = { s.dev.store with dumps := dumps } := by
    rw [Dev.setDump, Dev.asked_store]
  refine ⟨fun h => hno (Dev.releaseDump_refused (by rwa [Dev.asked_dumpAt])), fun h3 hn hl => ?_, fun h3 hn hl => ?_⟩
  · rw [← Dev.asked_dumpAt (who := who)] at hn
    have hx := hyes _ (Dev.releaseDump_some h3 hn)
    rw [if_neg (by rwa [Dev.asked_trail])] at hx
    rw [← hslots]
    exact hx
  · rw [← Dev.asked_dumpAt (who := who)] at hn
    have hx := hyes _ (Dev.releaseDump_some h3 hn)
    rw [if_pos (by rwa [Dev.asked_trail]), Dev.loadNewestDump_eq] at hx
    generalize (s.dev.asked who).setDump n.toNat none = d at hslots hx
    obtain ⟨hnone, hsome⟩ := d.newestDump_newest
    refine ⟨_, hx.does, congrArg Store.dumps hslots, d.put_get_same 0x7100 2 2, rfl, fun hm => ?_, fun m hm => ?_⟩
    · have hbest : d.newestDump = none := Option.map_eq_none_iff.1 hm
      refine ⟨?_, fun m hm => hnone hbest m (mem_below.2 hm)⟩
      exact congrArg (fun q => (d.trail.showing q).entries) hbest
    · obtain ⟨⟨k, y⟩, hbest, rfl⟩ := Option.map_eq_some_iff.1 hm
      obtain ⟨hy, hnew⟩ := hsome k y hbest
      exact ⟨y, hy, congrArg (fun q => (d.trail.showing q).entries) hbest, fun k hk z hz => hnew k (mem_below.2 hk) z hz⟩

/-! ## O46 -/

/-- Settles O46: a command of `TRAIL_CTRL` by whether the Trail is frozen, the end of the post count as the same freeze, a mark by its
mask, and a release by the slot that is shown. -/
theorem trailCommands : Obligations.TrailCommands := by
  unfold Obligations.TrailCommands
  refine ⟨fun who s hg => ?_, fun s => ⟨fun h h' => trailPostFreeze_freezes ⟨h, h'⟩, trailPostFreeze_rests⟩,
    fun who v s hg => trailMark_marks hg v, fun who n s hg => trailDumpRelease_releases hg n⟩
  intro st x
  refine ⟨fun h => ?_, trailFreeze_freezes hg, trailResume_rests hg, trailResume_resumes hg, fun ok h => ?_, fun h hd => ?_,
    fun h hd => (trailDump_dumps hg h hd).1, fun h hd => (trailDump_dumps hg h hd).2, trailDump_fails hg⟩
  · have hx := accepted_trailFreeze hg
    rwa [Dev.freeze_frozen (by rwa [Dev.asked_trailEntry])] at hx
  · have hx := accepted_trailDump hg ok
    rwa [if_neg h] at hx
  · have hx := accepted_trailDump hg true
    rwa [if_pos h, if_pos rfl, Dev.dump_undumpable (by rwa [Dev.asked_trail])] at hx

end Sys2Proof.Machine
end

section
/-! PROOF. Littermate shadows (12 R382-R387): what a hold slot stores, what a commit leaves, what the owner sends, O32. -/

namespace Sys2Proof.Machine

/-! ## Header fields and serial numbers -/

/-- No number is newer than itself, at any width. -/
theorem serialNewer_irrefl (w e : Nat) : serialNewer w e e = false := by
  have hzero : (e + 2 ^ w - e % 2 ^ w) % 2 ^ w = 0 := by
    have hsplit : e + 2 ^ w - e % 2 ^ w = 2 ^ w * (e / 2 ^ w + 1) := by
      have hdiv := Nat.div_add_mod e (2 ^ w)
      rw [Nat.mul_add, mul_one]
      omega
    rw [hsplit, Nat.mul_mod_right]
  unfold serialNewer
  rw [hzero]
  rfl

theorem ChunkHead.chKind_value (h : ChunkHead) (data : List Byte) : chKind (h.value data) = h.kind % 16 := by
  have hshift (x m : Nat) : 16 ∣ x <<< (m + 4) := ⟨x <<< m, by rw [Nat.shiftLeft_eq, Nat.shiftLeft_eq]; ring⟩
  have hlow : 16 ∣ h.low - bits h.kind 0 4 := by
    unfold ChunkHead.low
    rw [Nat.add_sub_cancel]
    exact (((((((hshift _ 101).add (hshift _ 85)).add (hshift _ 77)).add (hshift _ 63)).add (hshift _ 56)).add (hshift _ 40)).add (hshift _ 16)).add (hshift _ 0)
  have hle : bits h.kind 0 4 ≤ h.low := Nat.le_add_left _ _
  have hkind : bits h.kind 0 4 = h.kind % 16 := rfl
  have hhigh : 16 ∣ ecrcOf h.low data <<< 145 := hshift _ 141
  have hvalue : chKind (h.value data) = (h.low + ecrcOf h.low data <<< 145) % 16 := rfl
  rw [hvalue]
  generalize ecrcOf h.low data <<< 145 = e at hhigh
  omega

@[simp] theorem Chunk.marked_data (c : Chunk) : c.marked.map Prod.fst = c.data := by
  unfold Chunk.marked
  rw [List.map_map]
  exact List.zipIdx_map_fst 0 c.data

/-! ## Hold slots (12 R386) -/

theorem Dev.setHold_hold (d : Dev) (h : Nat) (x : Hold) : (d.setHold h x).hold h = x := sget_sset_same _ _ _ _

theorem Dev.holdOf_lt {d : Dev} {src h : Nat} (hs : d.holdOf src = some h) : h < 4 := mem_below.1 (List.mem_of_find?_eq_some hs)

/-- The entries of the hold slots count no flits. -/
theorem untravelled_hold {h k : Nat} (hh : h < 4) (hk : k < 256) : Untravelled (odKey (0x7210 + h) k) :=
  untravelled hk (.inr (by omega)) (by omega)

theorem odSize_hold {h : Nat} (hh : h < 4) : odSize (odKey (0x7210 + h) 4) = 8 ∧ odSize (odKey (0x7210 + h) 5) = 1 :=
  (by decide +kernel : ∀ h < 4, odSize (odKey (0x7210 + h) 4) = 8 ∧ odSize (odKey (0x7210 + h) 5) = 1) h hh

/-- What the answer to a shadow chunk leaves alone. -/
theorem TrafficBlind.ackShadow {β : Type} {g : Dev → β} (hg : TrafficBlind g) (d : Dev) (src tc epoch header : Nat) :
    g (d.ackShadow src tc epoch header) = g d := hg.sendControl d _ _ _ _

/-! ## A data chunk is stored (12 R385, R386) -/

/-- The slot's generation with one chunk more. -/
def Hold.grown (x : Hold) (c : Chunk) : Hold :=
  let last := if c.endsShard then [(chSegment c.header, 65536 + chChunk c.header)] else []
  { x with keys := (chSegment c.header, chChunk c.header) :: (last ++ x.keys), bytes := x.bytes + c.data.length }

/-- Where a slot stores a chunk: in the half that the step's parity names. -/
def Dev.holdAddr (d : Dev) (h : Nat) (c : Chunk) : Nat :=
  d.get (0x7210 + h) 2 + chTensor c.header % 2 * d.get (0x7210 + h) 3 + chOffset c.header

/-- The chunk's bytes are in memory and its slot counts them. -/
def Dev.holdGrown (d : Dev) (h : Nat) (x : Hold) (c : Chunk) : Dev := (d.wrMarked (d.holdAddr h c) c.marked).setHold h (x.grown c)

/-- The chunk is stored, and a slot that was not EMPTY is RECEIVING. -/
def Dev.holdStored (d : Dev) (h : Nat) (x : Hold) (c : Chunk) : Dev :=
  if d.get (0x7210 + h) 5 = 0 then d.holdGrown h x c else (d.holdGrown h x c).put (0x7210 + h) 5 2

section
variable (d : Dev) (h : Nat) (x : Hold) (c : Chunk)

theorem Dev.holdGrown_get (i k : Nat) : (d.holdGrown h x c).get i k = d.get i k := by
  unfold Dev.holdGrown
  rw [d.wrMarked_eq]
  rfl

theorem Dev.holdStored_hold : (d.holdStored h x c).hold h = x.grown c := by
  unfold Dev.holdStored
  split <;> exact Dev.setHold_hold _ _ _

theorem Dev.holdStored_mem : (d.holdStored h x c).mem = (d.wrMarked (d.holdAddr h c) c.marked).mem := by
  unfold Dev.holdStored
  split <;> rfl

theorem Dev.holdStored_eng : (d.holdStored h x c).eng = d.eng := by
  have hgrown : (d.holdGrown h x c).eng = d.eng := d.wrMarked_eng _ _
  unfold Dev.holdStored
  split <;> exact hgrown

theorem Dev.holdStored_state (hh : h < 4) : (d.holdStored h x c).get (0x7210 + h) 5 = if d.get (0x7210 + h) 5 = 0 then 0 else 2 := by
  unfold Dev.holdStored
  split
  · next hempty => rw [Dev.holdGrown_get, hempty]
  · rw [Dev.put_get_same, (odSize_hold hh).2]
    rfl

end

/-- A slot without a held commit takes none. -/
theorem Dev.tryHeld_none {d : Dev} {h : Nat} (src : Nat) (hc : (d.hold h).commit = none) : d.tryHeld h src = d := by
  unfold Dev.tryHeld
  dsimp only
  rw [hc]

theorem trafficBlind_mem : TrafficBlind Dev.mem := .of_atRest fun _ => rfl
theorem trafficBlind_hold (h : Nat) : TrafficBlind (fun d => d.hold h) := .of_atRest fun _ => rfl

/-- Without a held commit an accepted chunk shows as it is stored, whether or not it is acknowledged. -/
theorem TrafficBlind.acceptShadow {β : Type} {g : Dev → β} (hg : TrafficBlind g) (d : Dev) (h : Nat) {x : Hold} (c : Chunk)
    (hx : x.commit = none) : g (d.acceptShadow h x c) = g (d.holdStored h x c) := by
  have hshape : d.acceptShadow h x c = (if (x.grown c).shardWhole (chSegment c.header)
      then (d.holdStored h x c).ackShadow c.src c.tc c.epoch c.header else d.holdStored h x c).tryHeld h c.src := by
    unfold Dev.holdStored
    rw [← d.holdGrown_get h x c]
    rfl
  have hnone : ((d.holdStored h x c).hold h).commit = none := by rw [Dev.holdStored_hold]; exact hx
  rw [hshape]
  split
  · rw [Dev.tryHeld_none]
    · exact hg.ackShadow _ _ _ _ _
    · exact (congrArg Hold.commit ((trafficBlind_hold h).ackShadow _ _ _ _ _)).trans hnone
  · rw [Dev.tryHeld_none _ hnone]

section
variable {d : Dev} {k : Chunk} {h : Nat}

/-- A chunk of the slot's own generation that it has not yet had is accepted. -/
theorem Dev.takeShadow_accepts (hs : d.holdOf k.src = some h) (hok : d.holdStepOk h (chTensor k.header) = true)
    (hfit : chOffset k.header + k.data.length ≤ d.get (0x7210 + h) 3) (hstep : (d.hold h).step = some (chTensor k.header))
    (hatt : (d.hold h).attempt = chStage k.header) (hkey : (chSegment k.header, chChunk k.header) ∉ (d.hold h).keys) :
    d.takeShadow k = d.acceptShadow h (d.hold h) k := by
  have hroom : ¬ d.get (0x7210 + h) 3 < chOffset k.header + k.data.length := by omega
  simp [Dev.takeShadow, hs, hok, hroom, hstep, hatt, hkey, serialNewer_irrefl]

/-- The bytes of an accepted chunk stand at its address, and no other has changed. -/
theorem Dev.holdStored_bytes (x : Hold) :
    (∀ i (hi : i < k.data.length), (d.holdStored h x k).mem.byte (d.holdAddr h k + i) = k.data[i])
    ∧ ∀ b, b < d.holdAddr h k ∨ d.holdAddr h k + k.data.length ≤ b → (d.holdStored h x k).mem.byte b = d.mem.byte b := by
  have hlen : k.marked.length = k.data.length := by rw [← k.marked_data, List.length_map]
  simp only [Dev.holdStored_mem, Dev.wrMarked_byte, Chunk.marked_data, hlen]
  refine ⟨fun i hi => ?_, fun b hb => if_neg (by omega)⟩
  rw [if_pos ⟨by omega, by omega⟩, Nat.add_sub_cancel_left, List.getD_eq_getElem _ _ hi]

end

/-- A data chunk of a source without a slot stores nothing: it shows at most as an event. -/
theorem Dev.takeShadow_unknown {β : Type} {g : Dev → β} (hl : ∀ (d : Dev) l, g { d with limits := l } = g d)
    (hr : ∀ (d : Dev) c a b, g (d.raise c a b) = g d) {d : Dev} {k : Chunk} (hs : d.holdOf k.src = none) : g (d.takeShadow k) = g d := by
  unfold Dev.takeShadow
  rw [hs]
  exact Dev.oncePerSecond_keeps g hl hr _ _ _ _ _

/-! ## A commit (12 R387) -/

section
variable (d : Dev) {h : Nat} (s : Nat)

theorem Dev.commitHold_hold (h : Nat) : (d.commitHold h s).hold h = Hold.init := by
  unfold Dev.commitHold Dev.hold
  rw [Dev.note_shadow]
  exact Dev.setHold_hold _ _ _

theorem Dev.commitHold_mem (h : Nat) : (d.commitHold h s).mem = d.mem := Dev.note_mem _ _ _ _

theorem Dev.commitHold_step (hh : h < 4) (hs : s < 2 ^ 64) : (d.commitHold h s).get (0x7210 + h) 4 = s := by
  have hnotice : odKey (0x7210 + h) 4 ∉ noticeKeys := (by decide : ∀ h < 4, odKey (0x7210 + h) 4 ∉ noticeKeys) h hh
  have hother : odKey (0x7210 + h) 4 ≠ odKey (0x7210 + h) 5 := by unfold odKey; omega
  calc (d.commitHold h s).get (0x7210 + h) 4
      = ((d.put (0x7210 + h) 4 s).put (0x7210 + h) 5 1).get (0x7210 + h) 4 := Dev.note_get _ hnotice _ _ _
    _ = (d.put (0x7210 + h) 4 s).get (0x7210 + h) 4 := Dev.put_get_ne _ _ _ _ _ _ hother
    _ = s := by rw [Dev.put_get_same, (odSize_hold hh).1, Nat.mod_eq_of_lt hs]

theorem Dev.commitHold_state (hh : h < 4) : (d.commitHold h s).get (0x7210 + h) 5 = 1 := by
  have hnotice : odKey (0x7210 + h) 5 ∉ noticeKeys := (by decide : ∀ h < 4, odKey (0x7210 + h) 5 ∉ noticeKeys) h hh
  calc (d.commitHold h s).get (0x7210 + h) 5
      = ((d.put (0x7210 + h) 4 s).put (0x7210 + h) 5 1).get (0x7210 + h) 5 := Dev.note_get _ hnotice _ _ _
    _ = 1 := by rw [Dev.put_get_same, (odSize_hold hh).2]; rfl

end

section
variable {d : Dev} {k : Chunk} {h : Nat}

/-- The slot with the commit of a chunk held. -/
def Dev.heldBy (d : Dev) (h : Nat) (k : Chunk) : Dev :=
  d.setHold h { d.hold h with commit := some (ofBytes (k.data.take 8), ofBytes ((k.data.drop 8).take 8), d.now + d.get 0x3500 1 * 1000, k.header,
    k.tc * 65536 + k.epoch) }

/-- A held commit of the slot's generation whose total is reached is applied and acknowledged. -/
theorem Dev.tryHeld_commits {st total at_ header way : Nat} (src : Nat) (hc : (d.hold h).commit = some (st, total, at_, header, way))
    (hstep : (d.hold h).step = some (st % 65536)) (hatt : (d.hold h).attempt = chStage header) (hbytes : (d.hold h).bytes = total) :
    d.tryHeld h src = (d.commitHold h st).ackShadow src (way / 65536) (way % 65536) header := by
  unfold Dev.tryHeld
  dsimp only
  rw [hc]
  exact if_pos ⟨hstep, hatt, hbytes⟩

/-- A commit that is neither a repeat nor out of turn nor of another generation is held, and applied if its total is reached. -/
theorem Dev.takeCommit_holds (hs : d.holdOf k.src = some h) (hnew : d.get (0x7210 + h) 5 = 0 ∨ d.get (0x7210 + h) 4 ≠ ofBytes (k.data.take 8))
    (hok : d.holdStepOk h (ofBytes (k.data.take 8) % 65536) = true) (hstep : (d.hold h).step = some (ofBytes (k.data.take 8) % 65536))
    (hatt : (d.hold h).attempt = chStage k.header) : d.takeCommit k = (d.heldBy h k).tryHeld h k.src := by
  have hrepeat : ¬ (d.get (0x7210 + h) 5 ≠ 0 ∧ d.get (0x7210 + h) 4 = ofBytes (k.data.take 8)) := fun hr => hnew.elim hr.1 fun hn => hn hr.2
  have hturn : ¬ (!d.holdStepOk h (ofBytes (k.data.take 8) % 65536)) = true := by rw [hok]; decide
  have hempty : ¬ ((d.hold h).step ≠ some (ofBytes (k.data.take 8) % 65536) ∧ ofBytes ((k.data.drop 8).take 8) = 0) := fun he => he.1 hstep
  have holder : ¬ ((d.hold h).step = some (ofBytes (k.data.take 8) % 65536) ∧ serialNewer 8 (d.hold h).attempt (chStage k.header) = true) := by
    rw [hatt, serialNewer_irrefl]
    exact fun ho => Bool.false_ne_true ho.2
  unfold Dev.takeCommit
  dsimp only
  rw [hs]
  dsimp only
  rw [if_neg hrepeat, if_neg hturn, if_neg hempty, if_neg holder]
  rfl

/-- A commit whose total is reached shows as it is applied. -/
theorem TrafficBlind.takeCommit {β : Type} {g : Dev → β} (hg : TrafficBlind g) (hs : d.holdOf k.src = some h)
    (hnew : d.get (0x7210 + h) 5 = 0 ∨ d.get (0x7210 + h) 4 ≠ ofBytes (k.data.take 8))
    (hok : d.holdStepOk h (ofBytes (k.data.take 8) % 65536) = true) (hstep : (d.hold h).step = some (ofBytes (k.data.take 8) % 65536))
    (hatt : (d.hold h).attempt = chStage k.header) (hbytes : (d.hold h).bytes = ofBytes ((k.data.drop 8).take 8)) :
    g (d.takeCommit k) = g ((d.heldBy h k).commitHold h (ofBytes (k.data.take 8))) := by
  have hhold : (d.heldBy h k).hold h = { d.hold h with commit := some (ofBytes (k.data.take 8), ofBytes ((k.data.drop 8).take 8),
      d.now + d.get 0x3500 1 * 1000, k.header, k.tc * 65536 + k.epoch) } := Dev.setHold_hold _ _ _
  rw [Dev.takeCommit_holds hs hnew hok hstep hatt, Dev.tryHeld_commits k.src (congrArg Hold.commit hhold) ((congrArg Hold.step hhold).trans hstep)
    ((congrArg Hold.attempt hhold).trans hatt) ((congrArg Hold.bytes hhold).trans hbytes)]
  exact hg.ackShadow _ _ _ _ _

end

/-! ## The chunks as commands (12 R386, R387) -/

section
variable {s : State} {k : Chunk} (hl : s.dev.eng.loop = [])
  (hk : s.dev.eng.inbox.find? (fun k' => chKind k'.header == chKind k.header) = some k)
include hl hk

theorem effect_shadowData (h5 : chKind k.header = 5) : Effect .shadowDataReceived s ((s.dev.withoutChunk k).takeShadow k) :=
  effect_inbox_some rfl hl (by rw [← h5]; exact hk)

theorem effect_shadowCommit (h6 : chKind k.header = 6) : Effect .shadowCommitReceived s ((s.dev.withoutChunk k).takeCommit k) :=
  effect_inbox_some rfl hl (by rw [← h6]; exact hk)

theorem shadowData_dropped (h5 : chKind k.header = 5) (hs : (s.dev.withoutChunk k).holdOf k.src = none) :
    ∃ t, Answers .shadowDataReceived s t ∧ t.dev.mem = s.dev.mem ∧ t.dev.shadow = s.dev.shadow ∧ t.dev.eng = (s.dev.withoutChunk k).eng :=
  ⟨_, (effect_shadowData hl hk h5).answers, Dev.takeShadow_unknown (g := Dev.mem) (fun _ _ => rfl) Dev.raise_mem hs,
    Dev.takeShadow_unknown (g := Dev.shadow) (fun _ _ => rfl) Dev.raise_shadow hs,
    Dev.takeShadow_unknown (g := Dev.eng) (fun _ _ => rfl) Dev.raise_eng hs⟩

variable {h : Nat}

/-- A chunk of the slot's own generation is stored before anything travels, and what travels shows neither in memory nor in the slots. -/
theorem shadowData_stored (h5 : chKind k.header = 5) (hs : (s.dev.withoutChunk k).holdOf k.src = some h)
    (hok : (s.dev.withoutChunk k).holdStepOk h (chTensor k.header) = true)
    (hfit : chOffset k.header + k.data.length ≤ (s.dev.withoutChunk k).get (0x7210 + h) 3)
    (hstep : ((s.dev.withoutChunk k).hold h).step = some (chTensor k.header)) (hatt : ((s.dev.withoutChunk k).hold h).attempt = chStage k.header)
    (hkey : (chSegment k.header, chChunk k.header) ∉ ((s.dev.withoutChunk k).hold h).keys) (hc : ((s.dev.withoutChunk k).hold h).commit = none) :
    let a := (s.dev.withoutChunk k).holdAddr h k
    ∃ t, Answers .shadowDataReceived s t ∧ (∀ i (hi : i < k.data.length), t.dev.mem.byte (a + i) = k.data[i])
      ∧ (∀ b, b < a ∨ a + k.data.length ≤ b → t.dev.mem.byte b = s.dev.mem.byte b)
      ∧ (t.dev.hold h).bytes = ((s.dev.withoutChunk k).hold h).bytes + k.data.length ∧ t.dev.eng.inbox = (s.dev.withoutChunk k).eng.inbox
      ∧ t.dev.get (0x7210 + h) 5 = (if (s.dev.withoutChunk k).get (0x7210 + h) 5 = 0 then 0 else 2) := by
  intro a
  have hx := effect_shadowData hl hk h5
  rw [Dev.takeShadow_accepts hs hok hfit hstep hatt hkey] at hx
  have hh := Dev.holdOf_lt hs
  have hmem := trafficBlind_mem.acceptShadow (s.dev.withoutChunk k) h k hc
  have hhold := (trafficBlind_hold h).acceptShadow (s.dev.withoutChunk k) h k hc
  have hinbox : TrafficBlind (fun d => d.eng.inbox) := .of_atRest fun _ => rfl
  obtain ⟨hin, hout⟩ := (s.dev.withoutChunk k).holdStored_bytes (k := k) (h := h) ((s.dev.withoutChunk k).hold h)
  refine ⟨_, hx.answers, fun i hi => ?_, fun b hb => ?_, ?_, ?_, ?_⟩
  · exact (congrArg (fun m => Mem.byte m _) hmem).trans (hin i hi)
  · exact (congrArg (fun m => Mem.byte m _) hmem).trans (hout b hb)
  · exact congrArg Hold.bytes (hhold.trans (Dev.holdStored_hold _ _ _ _))
  · exact (hinbox.acceptShadow _ h k hc).trans (congrArg Engine.inbox (Dev.holdStored_eng _ _ _ _))
  · exact ((trafficBlind_get (untravelled_hold hh (by decide))).acceptShadow _ h k hc).trans (Dev.holdStored_state _ _ _ _ hh)

theorem shadowCommit_unknown (h6 : chKind k.header = 6) (hs : (s.dev.withoutChunk k).holdOf k.src = none) :
    Effect .shadowCommitReceived s (s.dev.withoutChunk k) := by
  have hx := effect_shadowCommit hl hk h6
  have hkept : (s.dev.withoutChunk k).takeCommit k = s.dev.withoutChunk k := by simp [Dev.takeCommit, hs]
  rwa [hkept] at hx

/-- A commit whose total is reached is held and applied at once. -/
theorem shadowCommit_applied (h6 : chKind k.header = 6) (hs : (s.dev.withoutChunk k).holdOf k.src = some h)
    (hnew : (s.dev.withoutChunk k).get (0x7210 + h) 5 = 0 ∨ (s.dev.withoutChunk k).get (0x7210 + h) 4 ≠ ofBytes (k.data.take 8))
    (hok : (s.dev.withoutChunk k).holdStepOk h (ofBytes (k.data.take 8) % 65536) = true)
    (hstep : ((s.dev.withoutChunk k).hold h).step = some (ofBytes (k.data.take 8) % 65536))
    (hatt : ((s.dev.withoutChunk k).hold h).attempt = chStage k.header)
    (hbytes : ((s.dev.withoutChunk k).hold h).bytes = ofBytes ((k.data.drop 8).take 8)) :
    ∃ t, Answers .shadowCommitReceived s t ∧ t.dev.get (0x7210 + h) 4 = ofBytes (k.data.take 8) ∧ t.dev.get (0x7210 + h) 5 = 1
      ∧ t.dev.hold h = Hold.init ∧ t.dev.mem = s.dev.mem := by
  have hh := Dev.holdOf_lt hs
  have hsmall : ofBytes (k.data.take 8) < 2 ^ 64 :=
    (ofBytes_lt _).trans_le (Nat.pow_le_pow_right (by decide) (by rw [List.length_take]; omega))
  have happlied {β : Type} {g : Dev → β} (hg : TrafficBlind g) := hg.takeCommit hs hnew hok hstep hatt hbytes
  refine ⟨_, (effect_shadowCommit hl hk h6).answers, ?_, ?_, ?_, ?_⟩
  · exact (happlied (trafficBlind_get (untravelled_hold hh (by decide)))).trans (Dev.commitHold_step _ _ hh hsmall)
  · exact (happlied (trafficBlind_get (untravelled_hold hh (by decide)))).trans (Dev.commitHold_state _ _ hh)
  · exact (happlied (trafficBlind_hold h)).trans (Dev.commitHold_hold _ _ _)
  · exact (happlied trafficBlind_mem).trans (Dev.commitHold_mem _ _ _)

end

/-! ## The owner's commit (12 R382, R383) -/

/-- A segment that is launched shows in the segments and the key alone. -/
theorem FeedBlind.launch {β : Type} {g : Dev → β} (hg : FeedBlind g) (d : Dev) (owner : Option Nat) (dest number : Nat) (l : List Kept) :
    g (d.launch owner dest number l) = g { d with eng := { d.eng with
      segments := d.eng.segments ++ [⟨owner, dest, number, l, 0, d.now, d.get 0x3500 1, d.get 0x3500 2, 0⟩]
      nextKey := d.eng.nextKey + l.length } } := hg.feedAll _

theorem Dev.launch_segs (d : Dev) (owner : Option Nat) (dest number : Nat) (l : List Kept) :
    (d.launch owner dest number l).segs = d.segs ++ [(owner, dest, number, l, 0)] :=
  (feedBlind_segs.launch d owner dest number l).trans (List.map_append ..)

theorem feedBlind_shadow : FeedBlind Dev.shadow := ⟨.of_atRest fun _ => rfl, fun _ _ _ _ => rfl⟩
theorem feedBlind_mem : FeedBlind Dev.mem := ⟨trafficBlind_mem, fun _ _ _ _ => rfl⟩

/-- The owner's commit of its current step is due: the step's boundary is executed, and no data segment of it is unacknowledged. -/
def Dev.CommitDue (d : Dev) (p : Nat) : Prop :=
  d.shadow.boundary = true ∧ d.shadow.commitSent = false ∧ d.shadow.failed = false ∧ ∀ g ∈ d.eng.segments, g.shadowOf 5 p = false

/-- The device that has noted its commit. -/
def Dev.commitNoted (d : Dev) (p : Nat) : Dev := ({ d with shadow := { d.shadow with commitSent := true } } : Dev).note 10 0 p

/-- The chunk that commits step `p` at the holder. -/
def Dev.ownCommit (d : Dev) (p : Nat) : Kept :=
  commitChunk (bits (d.get 0x7200 2) 0 14) (d.commitNoted p).eng.nextKey p (d.commitNoted p).shadow.attempt (d.commitNoted p).shadow.total

theorem Dev.commitNoted_shadow (d : Dev) (p : Nat) : (d.commitNoted p).shadow = { d.shadow with commitSent := true } := Dev.note_shadow _ _ _ _

theorem Dev.commitNoted_segs (d : Dev) (p : Nat) : (d.commitNoted p).segs = d.segs := by
  unfold Dev.commitNoted Dev.segs
  rw [Dev.note_eng]

theorem Dev.ownCommit_kind (d : Dev) (p : Nat) : chKind (d.ownCommit p).header = 6 := ChunkHead.chKind_value _ _

theorem Dev.ownCommit_data (d : Dev) (p : Nat) : (d.ownCommit p).data = toBytes 8 p ++ toBytes 8 d.shadow.total := by
  unfold Dev.ownCommit
  rw [Dev.commitNoted_shadow]
  rfl

section
variable {s : State} {p : Nat}

theorem shadowCommitSend_idle (h : s.dev.shadow.current = none) : Effect .shadowCommitSend s s.dev := by
  have hx : exec .shadowCommitSend s = execShadowCommitSend s := rfl
  rw [Effect, hx, execShadowCommitSend, run, h]

theorem shadowCommitSend_undue (h : s.dev.shadow.current = some p) (hd : ¬ s.dev.CommitDue p) : Effect .shadowCommitSend s s.dev := by
  have hx : exec .shadowCommitSend s = execShadowCommitSend s := rfl
  have hwait : (!s.dev.shadow.boundary || s.dev.shadow.commitSent || s.dev.shadow.failed || s.dev.eng.segments.any fun g => g.shadowOf 5 p) = true := by
    by_contra hn
    exact hd (by simpa [Dev.CommitDue, and_assoc] using hn)
  rw [Effect, hx, execShadowCommitSend, run, h]
  dsimp only
  rw [if_pos hwait]

theorem shadowCommitSend_due (h : s.dev.shadow.current = some p) (hd : s.dev.CommitDue p) :
    Effect .shadowCommitSend s ((s.dev.commitNoted p).launch none (bits (s.dev.get 0x7200 2) 0 14) 0 [s.dev.ownCommit p]) := by
  have hx : exec .shadowCommitSend s = execShadowCommitSend s := rfl
  obtain ⟨hb, hsent, hf, hall⟩ := hd
  have hgo : ¬ (!s.dev.shadow.boundary || s.dev.shadow.commitSent || s.dev.shadow.failed || s.dev.eng.segments.any fun g => g.shadowOf 5 p) = true := by
    simpa [hb, hsent, hf] using hall
  rw [Effect, hx, execShadowCommitSend, run, h]
  dsimp only
  rw [if_neg hgo]
  rfl

/-- The owner's commit is one segment more, for the holder. -/
theorem shadowCommitSend_sends (h : s.dev.shadow.current = some p) (hd : s.dev.CommitDue p) : ∃ t q, Answers .shadowCommitSend s t
    ∧ t.dev.shadow = { s.dev.shadow with commitSent := true }
    ∧ t.dev.segs = s.dev.segs ++ [(none, bits (s.dev.get 0x7200 2) 0 14, 0, [q], 0)]
    ∧ chKind q.header = 6 ∧ q.data = toBytes 8 p ++ toBytes 8 s.dev.shadow.total ∧ t.dev.mem = s.dev.mem := by
  refine ⟨_, s.dev.ownCommit p, (shadowCommitSend_due h hd).answers, ?_, ?_, s.dev.ownCommit_kind p, s.dev.ownCommit_data p, ?_⟩
  · exact (feedBlind_shadow.launch _ _ _ _ _).trans (s.dev.commitNoted_shadow p)
  · exact (Dev.launch_segs _ _ _ _ _).trans (congrArg (· ++ _) (s.dev.commitNoted_segs p))
  · exact (feedBlind_mem.launch _ _ _ _ _).trans (Dev.note_mem _ _ _ _)

end

/-! ## A held commit's time (12 R387) -/

theorem shadowCommitHoldTimeout_some (slot : Fin 4) {s : State} {step total at_ header way : Nat}
    (h : (s.dev.hold slot).commit = some (step, total, at_, header, way)) :
    Effect (.shadowCommitHoldTimeout slot) s
      (if at_ ≤ s.dev.now then s.dev.setHold slot { s.dev.hold slot with commit := none } else s.dev) := by
  have hx : exec (.shadowCommitHoldTimeout slot) s = execShadowCommitHoldTimeout slot s := rfl
  rw [Effect, hx, execShadowCommitHoldTimeout, run]
  dsimp only
  rw [h]

theorem shadowCommitHoldTimeout_none (slot : Fin 4) {s : State} (h : (s.dev.hold slot).commit = none) :
    Effect (.shadowCommitHoldTimeout slot) s s.dev := by
  have hx : exec (.shadowCommitHoldTimeout slot) s = execShadowCommitHoldTimeout slot s := rfl
  rw [Effect, hx, execShadowCommitHoldTimeout, run]
  dsimp only
  rw [h]

/-! ## O32 -/

/-- Settles O32, clause by clause: the holder's data and commits, the time of a held commit, the owner's commit. -/
theorem shadowsStoreAndCommit : Obligations.ShadowsStoreAndCommit := by
  refine ⟨fun s k hl hk => ⟨fun h5 => ⟨shadowData_dropped hl hk h5, fun h => shadowData_stored hl hk h5⟩,
    fun h6 => ⟨shadowCommit_unknown hl hk h6, fun h => shadowCommit_applied hl hk h6⟩⟩,
    fun slot s => ⟨fun step total at_ header way hc => ?_, shadowCommitHoldTimeout_none slot⟩, fun s => shadowCommitSend_idle,
    fun s p hp => ⟨shadowCommitSend_undue hp, shadowCommitSend_sends hp⟩⟩
  have hx := shadowCommitHoldTimeout_some slot hc
  exact ⟨fun hle => by rwa [if_pos hle] at hx, fun hlt => by rwa [if_neg (not_le.2 hlt)] at hx⟩

end Sys2Proof.Machine
end

section
/-! PROOF. Barks (12 R371-R373): what leaves a port, what a received one renews. -/

namespace Sys2Proof.Machine

/-! ## The counters of flits on a port (10 R326) -/

theorem odSize_flits (p : Fin 6) : odSize (odKey (0x3020 + p) 1) = 8 ∧ odSize (odKey (0x3020 + p) 2) = 8 :=
  (by decide +kernel : ∀ p : Fin 6, odSize (odKey (0x3020 + p) 1) = 8 ∧ odSize (odKey (0x3020 + p) 2) = 8) p

theorem odSize_health (p : Fin 6) : odSize (odKey 0x7321 (p + 1)) = 1 :=
  (by decide +kernel : ∀ p : Fin 6, odSize (odKey 0x7321 (p + 1)) = 1) p

/-- A 64-bit counter that wraps. -/
theorem Dev.addWrap_get_same (d : Dev) {i k : Nat} (h : odSize (odKey i k) = 8) (n : Nat) :
    (d.addWrap i k n).get i k = (d.get i k + n) % 2 ^ 64 := by
  rw [Dev.addWrap, Dev.put_get_same, h]

/-- The entries of received flits do not count what is sent. -/
theorem untravelled_received (p : Fin 6) : Untravelled (odKey (0x3020 + p) 2) := by
  have hp := p.isLt
  constructor
  · unfold odKey; omega
  · intro q hq; unfold odKey; omega

/-! ## BARK_SEND (12 R371) -/

/-- A Bark is due on a port: a multiple of 10 μs of hall time has passed since the last. -/
def Dev.BarkDue (d : Dev) (p : Nat) : Prop :=
  (d.port p).state = .active ∧ d.fabricOn = true ∧ d.tb.running = true ∧ (d.pax p).barkPeriod < d.ht / 10000

/-- The device whose port has counted its Bark. -/
def Dev.barkCounted (d : Dev) (p : Nat) : Dev :=
  d.setPax p { d.pax p with barkPeriod := d.ht / 10000, barkSeq := ((d.pax p).barkSeq + 1) % 2 ^ 32 }

theorem padPayload_take (l : List Byte) (h : l.length ≤ 240) : (padPayload l).take l.length = l := by
  unfold padPayload
  rw [List.take_of_length_le h, List.take_left]

theorem exec_barkSend (p : Fin 6) (s : State) : exec (.barkSend p) s = execBarkSend p s := rfl

section
variable {p : Fin 6} {s : State}

theorem barkDue_iff : ((s.dev.port p).state == .active && s.dev.fabricOn && s.dev.tb.running && decide ((s.dev.pax p).barkPeriod < s.dev.ht / 10000)) = true
    ↔ s.dev.BarkDue p := by
  simp [Dev.BarkDue, and_assoc]

theorem barkSend_undue (h : ¬ s.dev.BarkDue p) : Effect (.barkSend p) s s.dev := by
  rw [Effect, exec_barkSend, execBarkSend, run]
  dsimp only
  rw [if_neg (mt barkDue_iff.1 h)]

theorem barkSend_due (h : s.dev.BarkDue p) : Effect (.barkSend p) s ((s.dev.barkCounted p).control p 4 (toBytes 32 (s.dev.barkValue p))) := by
  rw [Effect, exec_barkSend, execBarkSend, run]
  dsimp only
  rw [if_pos (barkDue_iff.2 h)]
  rfl

end

/-- An unsequenced flit leaves with its payload first, and is counted. -/
theorem Dev.control_sends (d : Dev) (p : Fin 6) (t : Nat) (l : List Byte) (h : l.length ≤ 240) :
    (∃ f, (d.control p t l).out = .flit p f :: d.out ∧ f.payload.take l.length = l)
      ∧ (d.control p t l).get (0x3020 + p) 1 = (d.get (0x3020 + p) 1 + 1) % 2 ^ 64 :=
  ⟨⟨_, rfl, padPayload_take l h⟩, Dev.addWrap_get_same _ (odSize_flits p).1 1⟩

/-! ## What sending leaves of the neighbour's Barks (12 R372, R373) -/

/-- When the last good Bark of each neighbour came, and how many of them in a row were not healthy. -/
def Dev.barkView (d : Dev) (q : Nat) : Nat × Nat := ((d.pax q).lastBark, (d.pax q).unhealthy)

/-- What a port keeps of its neighbour's Barks. -/
def PortAux.barks (x : PortAux) : Nat × Nat := (x.lastBark, x.unhealthy)

section
variable (d : Dev)

theorem Dev.barkView_of_aux {a b : Dev} (h : a.aux = b.aux) : a.barkView = b.barkView := by
  funext q
  have hq : a.pax q = b.pax q := congrArg (fun m => sget (fun _ => PortAux.init) m q) h
  rw [Dev.barkView, Dev.barkView, hq]

theorem Dev.lastBark_of_barkView {a b : Dev} (h : a.barkView = b.barkView) (q : Nat) : (a.pax q).lastBark = (b.pax q).lastBark :=
  congrArg (fun v => (v q).1) h

theorem Dev.unhealthy_of_barkView {a b : Dev} (h : a.barkView = b.barkView) (q : Nat) : (a.pax q).unhealthy = (b.pax q).unhealthy :=
  congrArg (fun v => (v q).2) h

theorem Dev.setPax_barkView {p : Nat} {x : PortAux} (h : x.barks = (d.pax p).barks) : (d.setPax p x).barkView = d.barkView := by
  funext q
  rw [Dev.barkView, Dev.barkView, Dev.setPax_pax]
  split
  · next hq => subst hq; exact h
  · rfl

theorem Dev.giveCredit_aux (p c : Nat) : (d.giveCredit p c).aux = d.aux := by
  unfold Dev.giveCredit
  dsimp only
  split
  · rfl
  · split <;> rfl

theorem Dev.returnCredit_aux (w : Waiting) : (d.returnCredit w).aux = d.aux := by
  unfold Dev.returnCredit
  dsimp only
  split
  · split
    · exact d.giveCredit_aux _ _
    · rfl
  · rfl

/-- A turn changes only the records of turns. -/
theorem Dev.pickClass_barks {x y : PortAux} {l : List Nat} {c : Nat} (h : d.pickClass x l = some (c, y)) : y.barks = x.barks := by
  unfold Dev.pickClass at h
  dsimp only at h
  split at h
  · cases h; rfl
  · split at h
    · cases h; rfl
    · split at h
      · cases h; rfl
      · generalize (if (l.filter fun c => d.get 0x3400 (c + 1) != 0).isEmpty = true then l else l.filter fun c => d.get 0x3400 (c + 1) != 0) = pool at h
        split at h
        · cases h; rfl
        · split at h <;> cases h
          rfl

theorem Dev.pumpBest_barkView {d d' : Dev} {p : Nat} (h : d.pumpBest p = some d') : d'.barkView = d.barkView := by
  unfold Dev.pumpBest at h
  dsimp only at h
  split at h
  · cases h
  · next hpick =>
    split at h
    · cases h
    · split at h
      · cases h
      · cases h
        have hbarks := d.pickClass_barks hpick
        exact (Dev.barkView_of_aux (Dev.returnCredit_aux _ _)).trans (d.setPax_barkView (by exact hbarks))

theorem Dev.pumpOnce_barkView {d d' : Dev} {p : Nat} (h : d.pumpOnce p = some d') : d'.barkView = d.barkView := by
  unfold Dev.pumpOnce at h
  split at h
  · cases h
  · split at h
    · cases h
      rfl
    · exact Dev.pumpBest_barkView h

theorem Dev.pump_barkView (p n : Nat) : (d.pump p n).barkView = d.barkView := by
  induction n generalizing d with
  | zero => rfl
  | succ n ih =>
    rw [Dev.pump]
    split
    · next h => rw [ih, Dev.pumpOnce_barkView h]
    · rfl

theorem Dev.pumpAll_barkView : d.pumpAll.barkView = d.barkView :=
  foldl_keeps (g := Dev.barkView) (f := fun d p => d.pump p d.waiting.length) (fun d p => d.pump_barkView p _) (below 6) d

/-- Where no flit waits, none leaves. -/
theorem Dev.pumpAll_of_empty (h : d.waiting = []) : d.pumpAll = d := by
  have hone : ∀ p, d.pump p d.waiting.length = d := fun p => by rw [h]; rfl
  have hfold : ∀ l : List Nat, l.foldl (fun d p => d.pump p d.waiting.length) d = d := fun l => by
    induction l with
    | nil => rfl
    | cons p l ih => rw [List.foldl_cons, hone, ih]
  exact hfold (below 6)

/-! ## BARK_RECEIVED (12 R372, R373) -/

/-- The acknowledgement that a flit carries shows only in its port. -/
theorem TrafficBlind.takeAck {β : Type} {g : Dev → β} (hg : TrafficBlind g) (p : Nat) (ack : Option Nat) : g (d.takeAck p ack) = g d := by
  unfold Dev.takeAck
  dsimp only
  split
  · rfl
  · split
    · exact hg.port d p _
    · rfl

theorem Dev.takeAck_aux (p : Nat) (ack : Option Nat) : (d.takeAck p ack).aux = d.aux := by
  unfold Dev.takeAck
  dsimp only
  split
  · rfl
  · split <;> rfl

theorem Dev.takeAck_state (p : Nat) (ack : Option Nat) (q : Nat) : ((d.takeAck p ack).port q).state = (d.port q).state := by
  unfold Dev.takeAck
  dsimp only
  split
  · rfl
  · split
    · rw [Dev.setPort_port]
      split
      · next hq => rw [hq]
      · rfl
    · rfl

/-- The device that has received a good flit with its acknowledgement, and sends what it may. -/
def Dev.heard (d : Dev) (p : Nat) (ack : Option Nat) : Dev := ((d.addWrap (0x3020 + p) 2 1).takeAck p ack).pumpAll

theorem Dev.heard_state (p : Nat) (ack : Option Nat) (q : Nat) : ((d.heard p ack).port q).state = (d.port q).state :=
  (Dev.state_of_linkView (Dev.pumpAll_linkView _) q).trans (Dev.takeAck_state _ _ _ _)

theorem Dev.heard_barkView (p : Nat) (ack : Option Nat) : (d.heard p ack).barkView = d.barkView :=
  (Dev.pumpAll_barkView _).trans (Dev.barkView_of_aux (Dev.takeAck_aux _ _ _))

theorem TrafficBlind.heard {β : Type} {g : Dev → β} (hg : TrafficBlind g) (p : Nat) (ack : Option Nat) :
    g (d.heard p ack) = g (d.addWrap (0x3020 + p) 2 1) := (hg.pumpAll _).trans (hg.takeAck _ _ _)

/-- Where no flit waits and nothing is acknowledged, a flit received is counted and no more. -/
theorem Dev.heard_calm {p : Nat} {ack : Option (BitVec 12)} (h : ack = none ∧ d.waiting = []) :
    d.heard p (ack.map BitVec.toNat) = d.addWrap (0x3020 + p) 2 1 := by
  obtain ⟨rfl, hw⟩ := h
  exact Dev.pumpAll_of_empty _ hw

theorem Dev.heard_get {i k : Nat} (p : Nat) (ack : Option Nat) (hu : Untravelled (odKey i k)) (hne : odKey i k ≠ odKey (0x3020 + p) 2) :
    (d.heard p ack).get i k = d.get i k := ((trafficBlind_get hu).heard d p ack).trans (d.addWrap_get_ne _ _ _ _ _ hne)

theorem Dev.heard_counts (p : Fin 6) (ack : Option Nat) : (d.heard p ack).get (0x3020 + p) 2 = (d.get (0x3020 + p) 2 + 1) % 2 ^ 64 :=
  ((trafficBlind_get (untravelled_received p)).heard d p ack).trans (d.addWrap_get_same (odSize_flits p).2 1)

end

/-- The health that a Bark states: `CORE_OK`, and `SHEPHERD_OK` above it. -/
def barkHealth (b : Nat) : Nat := bits b 142 1 + 2 * bits b 141 1

theorem barkHealth_lt (b : Nat) : barkHealth b < 4 := by
  have hcore := bits_lt b 142 1
  have hshepherd := bits_lt b 141 1
  unfold barkHealth
  omega

/-- How many Barks in a row were not healthy, with one of a health more. -/
def barkRun (n health : Nat) : Nat := if health = 3 then 0 else n + 1

/-- The device that has noted the health of a good Bark and its time. -/
def Dev.barkNoted (d : Dev) (p b : Nat) : Dev :=
  (d.put 0x7321 (p + 1) (barkHealth b)).setPax p { d.pax p with lastBark := d.now, unhealthy := barkRun (d.pax p).unhealthy (barkHealth b) }

section
variable (d : Dev) (p : Fin 6) (b : Nat)

theorem Dev.barkNoted_get (i k : Nat) : (d.barkNoted p b).get i k = (d.put 0x7321 (p + 1) (barkHealth b)).get i k := rfl

theorem Dev.takeBark_eq : d.takeBark p b =
    if barkRun (d.pax p).unhealthy (barkHealth b) = 100 then (d.barkNoted p b).raise 0x0A07 p 0 else d.barkNoted p b := rfl

theorem Dev.takeBark_hundredth (h : barkRun (d.pax p).unhealthy (barkHealth b) = 100) : d.takeBark p b = (d.barkNoted p b).raise 0x0A07 p 0 := by
  rw [Dev.takeBark_eq, if_pos h]

/-- What neither an event nor its notices change shows a good Bark alone. -/
theorem Dev.takeBark_keeps {β : Type} {g : Dev → β} (hr : ∀ (d : Dev) c a b, g (d.raise c a b) = g d) :
    g (d.takeBark p b) = g (d.barkNoted p b) := by
  rw [Dev.takeBark_eq]
  split
  · exact hr _ _ _ _
  · rfl

theorem Dev.takeBark_pax : (d.takeBark p b).pax p = { d.pax p with lastBark := d.now, unhealthy := barkRun (d.pax p).unhealthy (barkHealth b) } :=
  (d.takeBark_keeps p b (g := fun d => d.pax p) fun d c a b => d.raise_pax_at c a b p).trans (Dev.setPax_pax_same _ _ _)

theorem Dev.takeBark_ports : (d.takeBark p b).ports = d.ports := d.takeBark_keeps p b (g := Dev.ports) Dev.raise_ports

theorem Dev.takeBark_health : (d.takeBark p b).get 0x7321 (p + 1) = barkHealth b := by
  have hnotice : odKey 0x7321 (p + 1) ∉ noticeKeys := (by decide : ∀ p : Fin 6, odKey 0x7321 (p + 1) ∉ noticeKeys) p
  rw [d.takeBark_keeps p b (g := fun d => d.get 0x7321 (p + 1)) fun d => d.raise_get hnotice]
  rw [Dev.barkNoted_get, Dev.put_get_same, odSize_health, Nat.mod_eq_of_lt ((barkHealth_lt b).trans (by decide))]

theorem Dev.takeBark_received : (d.takeBark p b).get (0x3020 + p) 2 = d.get (0x3020 + p) 2 := by
  have hp := p.isLt
  have hnotice : odKey (0x3020 + p) 2 ∉ noticeKeys := (by decide : ∀ p : Fin 6, odKey (0x3020 + p) 2 ∉ noticeKeys) p
  rw [d.takeBark_keeps p b (g := fun d => d.get (0x3020 + p) 2) fun d c a b => d.raise_get hnotice c a b]
  rw [Dev.barkNoted_get]
  exact d.put_get_ne _ _ _ _ _ (by unfold odKey; omega)

/-- The hundredth Bark in a row that is not healthy is an event, and no other is (12 R373). -/
theorem Dev.takeBark_events : (d.takeBark p b).get 0x1300 3 =
    if barkRun (d.pax p).unhealthy (barkHealth b) = 100 then (d.get 0x1300 3 + 1) % 2 ^ 32 else d.get 0x1300 3 := by
  have hkept : (d.barkNoted p b).get 0x1300 3 = d.get 0x1300 3 :=
    (d.barkNoted_get p b _ _).trans (d.put_get_ne _ _ _ _ _ (by unfold odKey; omega))
  rw [Dev.takeBark_eq]
  split
  · rw [Dev.raise_counts, hkept]
  · exact hkept

end

/-- What a port does with a Bark, by its state. -/
def Dev.hearBark (d : Dev) (p b : Nat) (ack : Option Nat) : Dev :=
  if !d.listens p then d
  else if ((d.heard p ack).port p).state == .active then (d.heard p ack).takeBark p b else (d.heard p ack).portCount p 8 1

theorem effect_barkReceived (p : Fin 6) (bark : BitVec 256) (ack : Option (BitVec 12)) (s : State) :
    Effect (.barkReceived p ⟨bark, ack⟩) s (s.dev.hearBark p bark.toNat (ack.map BitVec.toNat)) := by
  have hx : exec (.barkReceived p ⟨bark, ack⟩) s = execBarkReceived p ⟨bark, ack⟩ s := rfl
  rw [Effect, hx, execBarkReceived, run]
  rfl

section
variable {d : Dev} {p : Nat} (b : Nat) (ack : Option Nat)

theorem Dev.hearBark_deaf (ha : (d.port p).state ≠ .active) (hq : (d.port p).state ≠ .quarantine) : d.hearBark p b ack = d := by
  have hdeaf : (!d.listens p) = true := by simp [Dev.listens, ha, hq]
  exact if_pos hdeaf

/-- A port in QUARANTINE counts the Bark as one of its drops (10 R317). -/
theorem Dev.hearBark_quarantine (hq : (d.port p).state = .quarantine) : d.hearBark p b ack = (d.heard p ack).portCount p 8 1 := by
  have hlistens : ¬ (!d.listens p) = true := by simp [Dev.listens, hq]
  unfold Dev.hearBark
  rw [if_neg hlistens, Dev.heard_state, hq]
  exact if_neg (by decide)

theorem Dev.hearBark_active (ha : (d.port p).state = .active) : d.hearBark p b ack = (d.heard p ack).takeBark p b := by
  have hlistens : ¬ (!d.listens p) = true := by simp [Dev.listens, ha]
  unfold Dev.hearBark
  rw [if_neg hlistens, Dev.heard_state, ha]
  exact if_pos (by decide)

end

theorem Dev.portCount_aux (d : Dev) (p sub n : Nat) : (d.portCount p sub n).aux = d.aux := by
  unfold Dev.portCount
  dsimp only
  split <;> rfl

theorem trafficBlind_now : TrafficBlind Dev.now := .of_atRest fun _ => rfl

section
variable (p : Fin 6) (s : State)

/-- What a port that sends a Bark puts on the wire, and what it keeps of it. -/
theorem barkSend_sends (h : s.dev.BarkDue p) : ∃ t f, Answers (.barkSend p) s t ∧ t.dev.out = .flit p f :: s.dev.out
    ∧ f.payload.take 32 = toBytes 32 (s.dev.barkValue p)
    ∧ t.dev.pax p = { s.dev.pax p with barkPeriod := s.dev.ht / 10000, barkSeq := ((s.dev.pax p).barkSeq + 1) % 2 ^ 32 }
    ∧ t.dev.get (0x3020 + p) 1 = (s.dev.get (0x3020 + p) 1 + 1) % 2 ^ 64 ∧ t.dev.ports = s.dev.ports := by
  have hlen : (toBytes 32 (s.dev.barkValue p)).length = 32 := toBytes_length _ _
  obtain ⟨⟨f, hout, hpay⟩, hsent⟩ := (s.dev.barkCounted p).control_sends p 4 (toBytes 32 (s.dev.barkValue p)) (by omega)
  rw [hlen] at hpay
  exact ⟨_, f, (barkSend_due h).answers, hout, hpay, Dev.setPax_pax_same _ _ _, hsent, rfl⟩

variable (bark : BitVec 256) (ack : Option (BitVec 12))

/-- A Bark that a quarantined port hears is dropped and counted; it renews nothing. -/
theorem barkReceived_drops (hq : (s.dev.port p).state = .quarantine) : ∃ t, Answers (.barkReceived p ⟨bark, ack⟩) s t
    ∧ t.dev.get (0x3020 + p) 8 = min (s.dev.get (0x3020 + p) 8 + 1) 0xFFFFFFFF ∧ (t.dev.pax p).lastBark = (s.dev.pax p).lastBark
    ∧ (ack = none ∧ s.dev.waiting = [] → t.dev.aux = s.dev.aux ∧ t.dev.ports = s.dev.ports) := by
  have hp := p.isLt
  have hdrops : Untravelled (odKey (0x3020 + p) 8) := ⟨by unfold odKey; omega, fun q hq => by unfold odKey; omega⟩
  have hx := effect_barkReceived p bark ack s
  rw [Dev.hearBark_quarantine _ _ hq] at hx
  have hkept := s.dev.heard_get p (ack.map BitVec.toNat) hdrops (by unfold odKey; omega)
  have hcount := (s.dev.heard p (ack.map BitVec.toNat)).portCount_counts p 1 (sub := 8) (by decide)
  rw [hkept] at hcount
  have hview := s.dev.heard_barkView p (ack.map BitVec.toNat)
  have hcalm := s.dev.heard_calm (p := p) (ack := ack)
  generalize s.dev.heard p (ack.map BitVec.toNat) = d at *
  refine ⟨_, hx.answers, hcount, Dev.lastBark_of_barkView ((Dev.barkView_of_aux (d.portCount_aux p 8 1)).trans hview) p, fun hc => ⟨?_, ?_⟩⟩
  · exact (d.portCount_aux p 8 1).trans ((congrArg Dev.aux (hcalm hc)).trans rfl)
  · exact (d.portCount_ports p 8 1).trans ((congrArg Dev.ports (hcalm hc)).trans rfl)

/-- A good Bark renews the neighbour's interval and its health. -/
theorem barkReceived_renews (ha : (s.dev.port p).state = .active) : let health := barkHealth bark.toNat
    let n := barkRun (s.dev.pax p).unhealthy health
    ∃ t, Answers (.barkReceived p ⟨bark, ack⟩) s t ∧ t.dev.get 0x7321 (p + 1) = health
      ∧ t.dev.get (0x3020 + p) 2 = (s.dev.get (0x3020 + p) 2 + 1) % 2 ^ 64 ∧ (t.dev.pax p).lastBark = s.dev.now ∧ (t.dev.pax p).unhealthy = n
      ∧ (ack = none ∧ s.dev.waiting = [] → t.dev.pax p = { s.dev.pax p with lastBark := s.dev.now, unhealthy := n } ∧ t.dev.ports = s.dev.ports)
      ∧ (n = 100 → ∃ d : Dev, t.dev = d.raise 0x0A07 p 0)
      ∧ t.dev.get 0x1300 3 = (if n = 100 then (s.dev.get 0x1300 3 + 1) % 2 ^ 32 else s.dev.get 0x1300 3) := by
  intro health n
  have hx := effect_barkReceived p bark ack s
  rw [Dev.hearBark_active _ _ ha] at hx
  have hnow : (s.dev.heard p (ack.map BitVec.toNat)).now = s.dev.now := trafficBlind_now.heard _ _ _
  have hrun : ((s.dev.heard p (ack.map BitVec.toNat)).pax p).unhealthy = (s.dev.pax p).unhealthy :=
    Dev.unhealthy_of_barkView (s.dev.heard_barkView p (ack.map BitVec.toNat)) p
  have hreceived := s.dev.heard_counts p (ack.map BitVec.toNat)
  have hevents : (s.dev.heard p (ack.map BitVec.toNat)).get 0x1300 3 = s.dev.get 0x1300 3 :=
    s.dev.heard_get p _ (untravelled (by decide) (by decide) (by decide)) (by unfold odKey; omega)
  have hcalm := s.dev.heard_calm (p := p) (ack := ack)
  generalize s.dev.heard p (ack.map BitVec.toNat) = d at *
  have hpax := d.takeBark_pax p bark.toNat
  rw [hnow, hrun] at hpax
  refine ⟨_, hx.answers, d.takeBark_health p _, (d.takeBark_received p _).trans hreceived, congrArg PortAux.lastBark hpax,
    congrArg PortAux.unhealthy hpax, fun hc => ⟨?_, ?_⟩, fun hn => ⟨d.barkNoted p bark.toNat, ?_⟩, ?_⟩
  · have hsame : d.pax p = s.dev.pax p := congrArg (fun d => d.pax p) (hcalm hc)
    rw [hsame] at hpax
    exact hpax
  · exact (d.takeBark_ports p _).trans ((congrArg Dev.ports (hcalm hc)).trans rfl)
  · have hhundred : barkRun (d.pax p).unhealthy (barkHealth bark.toNat) = 100 := by rw [hrun]; exact hn
    exact d.takeBark_hundredth p _ hhundred
  · refine (d.takeBark_events p _).trans ?_
    rw [hrun, hevents]

end

end Sys2Proof.Machine
end

section
/-! PROOF. Originated Howls (12 R374, R375, R379): what a Howl leaves of the device and of its ports; O55. -/

namespace Sys2Proof.Machine

/-! ## A Howl on one port (12 R374) -/

section
variable {β : Type} {g : Dev → β} (hg : TrafficBlind g) (hd : ∀ d : Dev, g (d.addSat 0x3410 2 32 1) = g d)
include hg hd

/-- What shows neither the course of flits nor the Howls that a fence stops does not show a Howl on a port. -/
theorem TrafficBlind.howlOn (d : Dev) (f : Flit) {p : Nat} (hp : p < 6) : g (d.howlOn f p) = g d := by
  unfold Dev.howlOn
  split
  · rfl
  · split
    · exact hd d
    · split
      · exact hg.transmit d hp f 0
      · exact hg.waiting d _

theorem TrafficBlind.howlOnAll (d : Dev) (f : Flit) : g ((below 6).foldl (fun d p => d.howlOn f p) d) = g d :=
  foldl_keeps_of_mem (below 6) (fun d _ hp => hg.howlOn hd d f (mem_below.1 hp)) d

end

/-- What decides whether port `q` may send a Howl, apart from the port itself. -/
def Dev.gate (d : Dev) (q : Nat) : Bool × Bool × Bool := (d.fenced q, d.quiet q, d.dataOn)

theorem Dev.gate_congr {a b : Dev} {q : Nat} (hs : a.slots = b.slots) (ht : a.tb = b.tb) (hp : a.power = b.power)
    (hf : a.get 0x3420 (q + 1) = b.get 0x3420 (q + 1)) : a.gate q = b.gate q := by
  unfold Dev.gate Dev.fenced Dev.quiet Dev.dataOn Dev.ht
  rw [hf, hs, ht, hp]

section
variable (d : Dev) (f : Flit)

theorem Dev.howlOn_gate {p q : Nat} (hp : p < 6) (hq : q < 6) : (d.howlOn f p).gate q = d.gate q := by
  have hfence : (d.howlOn f p).get 0x3420 (q + 1) = d.get 0x3420 (q + 1) :=
    (trafficBlind_get (untravelled (by omega) (by decide) (by decide))).howlOn (fun d => d.addSat_get_ne _ _ _ _ _ _ (by unfold odKey; omega)) d f hp
  have hquiet : (d.howlOn f p).quiet q = d.quiet q := (TrafficBlind.of_atRest (g := fun d => d.quiet q) fun _ => rfl).howlOn (fun _ => rfl) d f hp
  have hon : (d.howlOn f p).dataOn = d.dataOn := (TrafficBlind.of_atRest (g := Dev.dataOn) fun _ => rfl).howlOn (fun _ => rfl) d f hp
  unfold Dev.gate Dev.fenced
  rw [hfence, hquiet, hon]

theorem Dev.transmit_port_ne {p q : Nat} (h : q ≠ p) (chunk : Nat) : (d.transmit p f chunk).port q = d.port q :=
  (Dev.setPort_port _ _ _ _).trans (if_neg h)

/-- A Howl on a port changes no other. -/
theorem Dev.howlOn_port_ne {p q : Nat} (h : q ≠ p) : (d.howlOn f p).port q = d.port q := by
  unfold Dev.howlOn
  split
  · rfl
  · split
    · rfl
    · split
      · exact d.transmit_port_ne f h 0
      · rfl

theorem Dev.howlOn_inactive {p : Nat} (h : (d.port p).state ≠ .active) : d.howlOn f p = d := if_pos (by simpa using h)

/-- On an ACTIVE port that may send it a Howl takes a place in the replay buffer. -/
theorem Dev.howlOn_sends {p : Nat} (ha : (d.port p).state = .active) (hf : d.fenced p = false) (hq : d.quiet p = false) (hon : d.dataOn = true)
    (hroom : (d.port p).txBuf.length < 4095) (hcredit : 0 < sget (fun _ => 256) (d.port p).credits f.tc) :
    ((d.howlOn f p).port p).txBuf.length = (d.port p).txBuf.length + 1 := by
  have hsend : d.canSend p f = true := by simp [Dev.canSend, ha, hon, hroom, hcredit]
  have hleaves : d.howlOn f p = d.transmit p f 0 := by simp [Dev.howlOn, ha, hf, hq, hsend]
  have hport : (d.transmit p f 0).port p = _ := Dev.setPort_port_same _ _ _
  rw [hleaves, hport, List.length_append, List.length_singleton]

theorem foldl_howlOn_port_notMem (l : List Nat) {q : Nat} (h : q ∉ l) : (l.foldl (fun d p => d.howlOn f p) d).port q = d.port q :=
  foldl_keeps_of_mem (g := fun d : Dev => d.port q) l (fun d _ hp => d.howlOn_port_ne f fun hqp => h (hqp ▸ hp)) d

/-- What a Howl does to a port it does at that port's turn: until then the port and what decides for it are as before. -/
theorem foldl_howlOn_port {q : Nat} (hq : q < 6) (l : List Nat) (hl : ∀ p ∈ l, p < 6) (hn : l.Nodup) (hm : q ∈ l) :
    ∃ e : Dev, e.port q = d.port q ∧ e.gate q = d.gate q ∧ (l.foldl (fun d p => d.howlOn f p) d).port q = (e.howlOn f q).port q := by
  induction l generalizing d with
  | nil => cases hm
  | cons p l ih =>
    obtain ⟨hp, hn⟩ := List.nodup_cons.1 hn
    by_cases hqp : q = p
    · subst hqp
      exact ⟨d, rfl, rfl, foldl_howlOn_port_notMem (d.howlOn f q) f l hp⟩
    · obtain ⟨e, hport, hgate, he⟩ := ih (d.howlOn f p) (fun x hx => hl x (List.mem_cons_of_mem _ hx)) hn ((List.mem_cons.1 hm).resolve_left hqp)
      exact ⟨e, hport.trans (d.howlOn_port_ne f hqp), hgate.trans (d.howlOn_gate f (hl p List.mem_cons_self) hq), he⟩

theorem Dev.howlOnAll_sends {q : Nat} (hq : q < 6) (ha : (d.port q).state = .active) (hf : d.fenced q = false) (hquiet : d.quiet q = false)
    (hon : d.dataOn = true) (hroom : (d.port q).txBuf.length < 4095) (hcredit : 0 < sget (fun _ => 256) (d.port q).credits f.tc) :
    (((below 6).foldl (fun d p => d.howlOn f p) d).port q).txBuf.length = (d.port q).txBuf.length + 1 := by
  obtain ⟨e, hport, hgate, he⟩ := foldl_howlOn_port d f hq (below 6) (fun _ hp => mem_below.1 hp) (by decide) (mem_below.2 hq)
  obtain ⟨hf', hquiet', hon'⟩ : e.fenced q = d.fenced q ∧ e.quiet q = d.quiet q ∧ e.dataOn = d.dataOn := by simpa [Dev.gate] using hgate
  rw [he, ← hport]
  rw [← hport] at ha hroom hcredit
  exact e.howlOn_sends f ha (hf'.trans hf) (hquiet'.trans hquiet) (hon'.trans hon) hroom hcredit

theorem Dev.howlOnAll_inactive {q : Nat} (h : (d.port q).state ≠ .active) :
    ((below 6).foldl (fun d p => d.howlOn f p) d).port q = d.port q := by
  by_cases hq : q < 6
  · obtain ⟨e, hport, -, he⟩ := foldl_howlOn_port d f hq (below 6) (fun _ hp => mem_below.1 hp) (by decide) (mem_below.2 hq)
    rw [← hport] at h
    rw [he, e.howlOn_inactive f h, hport]
  · exact foldl_howlOn_port_notMem d f _ fun hm => hq (mem_below.1 hm)

end

/-! ## A Howl (12 R374) -/

/-- The sequence number of the next Howl. -/
def Dev.nextHowl (d : Dev) : Nat := (d.get 0x7300 3 + 1) % 65536

/-- The device that has taken the next sequence number for a Howl, and counted and noted it. -/
def Dev.howlCounted (d : Dev) (kind subject : Nat) : Dev :=
  ((d.put 0x7300 3 d.nextHowl).addSat 0x7300 4 32 1).note 2 kind (d.nextHowl * 65536 + subject)

/-- The device that has also noted its own Howl as one that it has accepted (log entry 81). -/
def Dev.howlNumbered (d : Dev) (kind subject : Nat) : Dev :=
  { d.howlCounted kind subject with
    howls := sset (fun _ => 0) (d.howlCounted kind subject).howls (d.howlCounted kind subject).self (d.nextHowl + 1) }

/-- The header fields of a flit that carries a Howl. -/
def howlHead (self : Nat) : FlitHead := ⟨6, false, false, false, true, 63, self, self, 0, 32⟩

/-- A flit that carries a Howl. -/
def howlFlit (self : Nat) (payload : List Byte) : Flit := dataFlit (howlHead self) payload

/-- The class stands in header bits 66 to 63: nothing below reaches them. -/
theorem flitLow_howlHead (self : Nat) : ∃ r < 2 ^ 63, flitLow 1 0 0 false (howlHead self) = 2 ^ 92 + 6 * 2 ^ 63 + r := by
  have haddr : bits self 0 14 < 2 ^ 14 := bits_lt self 0 14
  refine ⟨2 ^ 59 + 63 * 2 ^ 53 + bits self 0 14 * 2 ^ 39 + bits self 0 14 * 2 ^ 25 + 64, by omega, ?_⟩
  unfold flitLow howlHead
  generalize bits self 0 14 = a
  simp only [bits, b2n, Nat.shiftLeft_eq]
  norm_num
  omega

/-- A Howl travels in class 6. -/
theorem howlFlit_tc (self : Nat) (payload : List Byte) : (howlFlit self payload).tc = 6 := by
  obtain ⟨r, hr, hlow⟩ := flitLow_howlHead self
  have htc : (howlFlit self payload).tc = flitLow 1 0 0 false (howlHead self) % 2 ^ 128 / 2 ^ 63 % 2 ^ 4 := by
    rw [← Nat.shiftRight_eq_div_pow]
    rfl
  have hdiv : (2 ^ 92 + 6 * 2 ^ 63 + r) / 2 ^ 63 = 2 ^ 29 + 6 := by omega
  have hfits : 2 ^ 92 + 6 * 2 ^ 63 + r < 2 ^ 128 := by omega
  rw [htc, hlow, Nat.mod_eq_of_lt hfits, hdiv]
  rfl

section
variable (d : Dev) (kind port subject event step : Nat) (v : Bool)

/-- READY or RUN, in which Howls originate. -/
def Dev.Howls (d : Dev) : Prop := d.power.pstate = .ready ∨ d.power.pstate = .run

theorem Dev.howl_silent (h : ¬ d.Howls) : d.howl kind port subject v event step = d := by
  unfold Dev.howl
  refine if_pos ?_
  simpa [Dev.Howls] using h

theorem Dev.howl_speaks (h : d.Howls) : ∃ self payload, d.howl kind port subject v event step
    = (below 6).foldl (fun d p => d.howlOn (howlFlit self payload) p) (d.howlNumbered kind subject) := by
  have hspeaks : ¬ (d.power.pstate != .ready && d.power.pstate != .run) = true := by
    obtain h | h := h <;> simp [h]
  unfold Dev.howl
  rw [if_neg hspeaks]
  exact ⟨_, _, rfl⟩

theorem Dev.howlNumbered_get_kept {i k : Nat} (h : odKey i k ∉ deliveryKeys) (h3 : odKey i k ≠ odKey 0x7300 3) (h4 : odKey i k ≠ odKey 0x7300 4) :
    (d.howlNumbered kind subject).get i k = d.get i k :=
  (Dev.note_get_kept _ h _ _ _).trans ((Dev.addSat_get_ne _ _ _ _ _ _ _ h4).trans (Dev.put_get_ne _ _ _ _ _ _ h3))

/-- A Howl changes no counter of events and of attempts. -/
theorem Dev.howl_get_kept {i k : Nat} (h : odKey i k ∉ deliveryKeys) (hu : Untravelled (odKey i k)) (h3 : odKey i k ≠ odKey 0x7300 3)
    (h4 : odKey i k ≠ odKey 0x7300 4) (hd : odKey i k ≠ odKey 0x3410 2) : (d.howl kind port subject v event step).get i k = d.get i k := by
  by_cases hs : d.Howls
  · obtain ⟨self, payload, hhowl⟩ := d.howl_speaks kind port subject event step v hs
    rw [hhowl]
    exact ((trafficBlind_get hu).howlOnAll (fun d => d.addSat_get_ne _ _ _ _ _ _ hd) _ _).trans (d.howlNumbered_get_kept kind subject h h3 h4)
  · rw [d.howl_silent _ _ _ _ _ _ hs]

theorem odSize_howlSeq : odSize (odKey 0x7300 3) = 2 := by decide +kernel

theorem Dev.howlNumbered_seq : (d.howlNumbered kind subject).get 0x7300 3 = (d.get 0x7300 3 + 1) % 65536 := by
  have hput : (d.put 0x7300 3 d.nextHowl).get 0x7300 3 = (d.get 0x7300 3 + 1) % 65536 := by
    rw [Dev.put_get_same, odSize_howlSeq]
    exact Nat.mod_mod _ _
  exact (Dev.note_get _ (by decide) _ _ _).trans ((Dev.addSat_get_ne _ _ _ _ _ _ _ (by decide)).trans hput)

theorem Dev.howlNumbered_count : (d.howlNumbered kind subject).get 0x7300 4 = min (d.get 0x7300 4 + 1) 0xFFFFFFFF := by
  refine (Dev.note_get _ (by decide) _ _ _).trans ((Dev.addSat_get_same _ (by decide +kernel) 1).trans ?_)
  rw [Dev.put_get_ne _ _ _ _ _ _ (by decide)]

theorem Dev.howlNumbered_own : sget (fun _ => 0) (d.howlNumbered kind subject).howls d.self = (d.get 0x7300 3 + 1) % 65536 + 1 := by
  have hself : (d.howlCounted kind subject).self = d.self :=
    congrArg (fun n => bits n 0 14) (d.howlNumbered_get_kept kind subject (by decide) (by decide) (by decide))
  unfold Dev.howlNumbered
  rw [hself, sget_sset_same, Dev.nextHowl]

theorem Dev.howlNumbered_port (q : Nat) : (d.howlNumbered kind subject).port q = d.port q := Dev.note_port_at _ _ _ _ q

theorem Dev.howlNumbered_gate {q : Nat} (hq : q < 6) : (d.howlNumbered kind subject).gate q = d.gate q := by
  have hfence : (d.howlNumbered kind subject).get 0x3420 (q + 1) = d.get 0x3420 (q + 1) :=
    d.howlNumbered_get_kept kind subject (by simp [deliveryKeys, odKey]; omega) (by unfold odKey; omega) (by unfold odKey; omega)
  exact Dev.gate_congr (Dev.note_slots _ _ _ _) (Dev.note_tb _ _ _ _) (Dev.note_power _ _ _ _) hfence

end

/-! ## HOWL_SEND and STEP_ABANDON (12 R374, R379) -/

section
variable (d : Dev) (kind port subject event step : Nat) (v : Bool)

/-- What a Howl leaves of the device that sends it. -/
theorem Dev.howl_leaves (h : d.Howls) : let x := d.howl kind port subject v event step
    x.get 0x7300 3 = (d.get 0x7300 3 + 1) % 65536 ∧ x.get 0x7300 4 = min (d.get 0x7300 4 + 1) 0xFFFFFFFF
      ∧ sget (fun _ => 0) x.howls d.self = (d.get 0x7300 3 + 1) % 65536 + 1
      ∧ (∀ q < 6, (d.port q).state = .active → d.fenced q = false → d.quiet q = false → (d.port q).txBuf.length < 4095 →
          0 < sget (fun _ => 256) (d.port q).credits 6 → (x.port q).txBuf.length = (d.port q).txBuf.length + 1)
      ∧ ∀ q, (d.port q).state ≠ .active → x.port q = d.port q := by
  obtain ⟨self, payload, hhowl⟩ := d.howl_speaks kind port subject event step v h
  intro x
  have hx : x = _ := hhowl
  have hunsent (k : Nat) (hk : k < 256) : TrafficBlind (fun d => d.get 0x7300 k) := trafficBlind_get (untravelled hk (by decide) (by decide))
  have hstopped (k : Nat) (hk : k < 256) (d : Dev) : (d.addSat 0x3410 2 32 1).get 0x7300 k = d.get 0x7300 k :=
    d.addSat_get_ne _ _ _ _ _ _ (by unfold odKey; omega)
  have hport := d.howlNumbered_port kind subject
  rw [hx]
  refine ⟨?_, ?_, ?_, fun q hq ha hf hquiet hroom hcredit => ?_, fun q hi => ?_⟩
  · exact ((hunsent 3 (by decide)).howlOnAll (hstopped 3 (by decide)) _ _).trans (d.howlNumbered_seq kind subject)
  · exact ((hunsent 4 (by decide)).howlOnAll (hstopped 4 (by decide)) _ _).trans (d.howlNumbered_count kind subject)
  · have hhowls : TrafficBlind Dev.howls := .of_atRest fun _ => rfl
    rw [hhowls.howlOnAll (fun _ => rfl)]
    exact d.howlNumbered_own kind subject
  · obtain ⟨hf', hquiet', hon'⟩ : (d.howlNumbered kind subject).fenced q = d.fenced q ∧ (d.howlNumbered kind subject).quiet q = d.quiet q
        ∧ (d.howlNumbered kind subject).dataOn = d.dataOn := by simpa [Dev.gate] using d.howlNumbered_gate kind subject hq
    have hon : d.dataOn = true := by simpa [Dev.dataOn, Dev.Howls] using h
    rw [← hport q] at ha hroom hcredit ⊢
    exact Dev.howlOnAll_sends _ _ hq ha (hf'.trans hf) (hquiet'.trans hquiet) (hon'.trans hon) hroom (by rwa [howlFlit_tc])
  · rw [← hport q] at hi ⊢
    exact Dev.howlOnAll_inactive _ _ hi

theorem odSize_attempt : odSize (odKey 0x7200 5) = 1 := by decide +kernel

/-- A step-fatal event counts itself, and the attempt at the step (00 R10; 12 R384). -/
theorem Dev.raiseStep_counts (code a b s : Nat) : (d.raiseStep code a b s).get 0x7200 5 = (d.get 0x7200 5 + 1) % 256
    ∧ (d.raiseStep code a b s).get 0x1300 3 = (d.get 0x1300 3 + 1) % 2 ^ 32 := by
  unfold Dev.raiseStep
  extract_lets x disp y z
  have hx5 : x.get 0x7200 5 = d.get 0x7200 5 := d.report_get (by decide) code a b true
  have hx3 : x.get 0x1300 3 = (d.get 0x1300 3 + 1) % 2 ^ 32 := d.report_counts code a b true
  have hy5 : y.get 0x7200 5 = x.get 0x7200 5 := x.withDisp_get _ _ _
  have hy3 : y.get 0x1300 3 = x.get 0x1300 3 := x.withDisp_get _ _ _
  have hz3 : z.get 0x1300 3 = y.get 0x1300 3 := y.put_get_ne _ _ _ _ _ (by decide)
  have hz5 : z.get 0x7200 5 = (y.get 0x7200 5 + 1) % 256 % 2 ^ (8 * odSize (odKey 0x7200 5)) := y.put_get_same _ _ _
  have hattempt : z.get 0x7200 5 = (d.get 0x7200 5 + 1) % 256 := by
    rw [hz5, hy5, hx5, odSize_attempt]
    exact Nat.mod_mod _ _
  have hcount := hz3.trans (hy3.trans hx3)
  split
  · rw [z.howl_get_kept _ _ _ _ _ _ (by decide) (untravelled (by decide) (by decide) (by decide)) (by decide) (by decide) (by decide),
      z.howl_get_kept _ _ _ _ _ _ (by decide) (untravelled (by decide) (by decide) (by decide)) (by decide) (by decide) (by decide)]
    exact ⟨hattempt, hcount⟩
  · exact ⟨hattempt, hcount⟩

end

section
variable {who : Requester} {s : State}

theorem howlSend_accepted {v : BitVec 16} (hg : s.dev.Grants who 0x7300 2) :
    Accepted (.howlSendWrite who v) s 0x7300 2 ((s.dev.asked who).howl 5 7 0 false v.toNat (s.dev.asked who).step) := by
  have hsize : v.toNat % 2 ^ (8 * entrySize 0x7300 2) = v.toNat := Nat.mod_eq_of_lt v.isLt
  refine acting_write (w := ⟨true, _, none⟩) rfl (by decide) (by decide) (by decide) (by decide) (by decide) hg ?_ rfl
  rw [hsize]
  rfl

theorem stepAbandon_write {v : DWord} (hg : s.dev.Grants who 0x7300 6) :
    ((s.dev.asked who).abandon v.toNat = none → Declined (.stepAbandonWrite who v) who s 0x7300 6)
      ∧ ∀ x, (s.dev.asked who).abandon v.toNat = some x → Accepted (.stepAbandonWrite who v) s 0x7300 6 x := by
  have hsize : v.toNat % 2 ^ (8 * entrySize 0x7300 6) = v.toNat := Nat.mod_eq_of_lt v.isLt
  refine granted_write rfl (by decide) (by decide) (by decide) (by decide) (by decide) hg ?_
  rw [hsize]
  rfl

end

theorem Dev.asked_step (d : Dev) (who : Requester) : (d.asked who).step = d.step := d.asked_get_ne who (by decide)

theorem Dev.asked_self (d : Dev) (who : Requester) : (d.asked who).self = d.self :=
  congrArg (fun n => bits n 0 14) (d.asked_get_ne who (by decide))

theorem Dev.asked_howls (d : Dev) (who : Requester) : (d.asked who).Howls ↔ d.Howls := by
  unfold Dev.Howls
  rw [Dev.of_mute_power (d.asked_mute who)]

theorem Dev.asked_gate (d : Dev) (who : Requester) {q : Nat} (hq : q < 6) : (d.asked who).gate q = d.gate q :=
  Dev.gate_congr (Dev.of_mute_slots (d.asked_mute who)) (Dev.of_mute_tb (d.asked_mute who)) (Dev.of_mute_power (d.asked_mute who))
    (d.asked_get_ne who (by unfold odKey; omega))

section
variable {who : Requester} {s : State}

/-- What HOWL_SEND leaves where Howls originate: the Howl of the device that has counted the request. -/
theorem howlSend_sends {v : BitVec 16} (hg : s.dev.Grants who 0x7300 2) (hr : s.dev.Howls) : ∃ t, Does (.howlSendWrite who v) s t 0x7300 2
    ∧ t.dev.get 0x7300 3 = (s.dev.get 0x7300 3 + 1) % 65536 ∧ t.dev.get 0x7300 4 = min (s.dev.get 0x7300 4 + 1) 0xFFFFFFFF
    ∧ sget (fun _ => 0) t.dev.howls s.dev.self = (s.dev.get 0x7300 3 + 1) % 65536 + 1
    ∧ (∀ q < 6, (s.dev.port q).state = .active → s.dev.fenced q = false → s.dev.quiet q = false → (s.dev.port q).txBuf.length < 4095 →
        0 < sget (fun _ => 256) (s.dev.port q).credits 6 → (t.dev.port q).txBuf.length = (s.dev.port q).txBuf.length + 1)
    ∧ (∀ q, (s.dev.port q).state ≠ .active → t.dev.port q = s.dev.port q) ∧ t.dev.disp = s.dev.disp ∧ t.dev.mem = s.dev.mem := by
  obtain ⟨t, hdoes, hport, hget, hmute⟩ := (howlSend_accepted (v := v) hg).leaves
  obtain ⟨hseq, hcount, hown, hsends, hinactive⟩ :=
    (s.dev.asked who).howl_leaves 5 7 0 v.toNat (s.dev.asked who).step false ((s.dev.asked_howls who).2 hr)
  have hdisp := (s.dev.asked who).howl_disp 5 7 0 v.toNat (s.dev.asked who).step false
  have hmem := (Dev.contents_eq_iff.1 ((s.dev.asked who).howl_contents 5 7 0 v.toNat (s.dev.asked who).step false)).2
  have h3 : (s.dev.asked who).get 0x7300 3 = s.dev.get 0x7300 3 := s.dev.asked_get_ne who (by decide)
  have h4 : (s.dev.asked who).get 0x7300 4 = s.dev.get 0x7300 4 := s.dev.asked_get_ne who (by decide)
  generalize (s.dev.asked who).howl 5 7 0 false v.toNat (s.dev.asked who).step = x at *
  rw [h3] at hseq hown
  rw [h4] at hcount
  rw [s.dev.asked_self who, ← Dev.of_mute_howls hmute] at hown
  simp only [Dev.asked_port] at hsends hinactive
  refine ⟨t, hdoes, (hget _ _).trans hseq, (hget _ _).trans hcount, hown, fun q hq ha hf hquiet hroom hcredit => ?_,
    fun q hi => (hport q).trans (hinactive q hi), ?_, ?_⟩
  · obtain ⟨hf', hquiet', -⟩ : (s.dev.asked who).fenced q = s.dev.fenced q ∧ (s.dev.asked who).quiet q = s.dev.quiet q
        ∧ (s.dev.asked who).dataOn = s.dev.dataOn := by simpa [Dev.gate] using s.dev.asked_gate who hq
    rw [hport]
    exact hsends q hq ha (hf'.trans hf) (hquiet'.trans hquiet) hroom hcredit
  · exact (Dev.of_mute_disp hmute).trans (hdisp.trans (Dev.of_mute_disp (s.dev.asked_mute who)))
  · exact (Dev.of_mute_mem hmute).trans (hmem.trans (Dev.of_mute_mem (s.dev.asked_mute who)))

/-- The abandoning of the present step makes it fatal, as a step-fatal event does. -/
theorem stepAbandon_marks {v : DWord} (hg : s.dev.Grants who 0x7300 6) (hv : v.toNat = s.dev.step) : ∃ t, Does (.stepAbandonWrite who v) s t 0x7300 6
    ∧ s.dev.step ∈ t.dev.disp.fatalSteps ∧ t.dev.get 0x7200 5 = (s.dev.get 0x7200 5 + 1) % 256
    ∧ t.dev.get 0x1300 3 = (s.dev.get 0x1300 3 + 1) % 2 ^ 32 ∧ t.dev.mem = s.dev.mem ∧ t.dev.power = s.dev.power := by
  have habandon : (s.dev.asked who).abandon v.toNat = some ((s.dev.asked who).raiseStep 0x3A04 v.toNat 0 v.toNat) :=
    if_pos (by rw [hv, s.dev.asked_step who])
  obtain ⟨t, hdoes, -, hget, hmute⟩ := ((stepAbandon_write hg).2 _ habandon).leaves
  obtain ⟨-, hmark⟩ := (s.dev.asked who).raiseStep_marks 0x3A04 v.toNat 0 v.toNat
  obtain ⟨hattempt, hcount⟩ := (s.dev.asked who).raiseStep_counts 0x3A04 v.toNat 0 v.toNat
  have hmem := (Dev.contents_eq_iff.1 ((s.dev.asked who).raiseStep_contents 0x3A04 v.toNat 0 v.toNat)).2
  have hpower : ((s.dev.asked who).raiseStep 0x3A04 v.toNat 0 v.toNat).power = (s.dev.asked who).power :=
    congrArg (fun x => x.1.1) ((s.dev.asked who).raiseStep_steering 0x3A04 v.toNat 0 v.toNat)
  have h5 : (s.dev.asked who).get 0x7200 5 = s.dev.get 0x7200 5 := s.dev.asked_get_ne who (by decide)
  have h3 : (s.dev.asked who).get 0x1300 3 = s.dev.get 0x1300 3 := s.dev.asked_get_ne who (by decide)
  generalize (s.dev.asked who).raiseStep 0x3A04 v.toNat 0 v.toNat = x at *
  rw [h5] at hattempt
  rw [h3] at hcount
  rw [hv, ← Dev.of_mute_disp hmute] at hmark
  exact ⟨t, hdoes, hmark, (hget _ _).trans hattempt, (hget _ _).trans hcount,
    (Dev.of_mute_mem hmute).trans (hmem.trans (Dev.of_mute_mem (s.dev.asked_mute who))),
    (Dev.of_mute_power hmute).trans (hpower.trans (Dev.of_mute_power (s.dev.asked_mute who)))⟩

end

/-! ## O55 -/

/-- Settles O55: a flit that a Bark sets off changes nothing of what the port keeps of Barks; a Howl reaches each port at that port's turn, and no
other port's turn changes it. -/
theorem barksAndHowls : Obligations.BarksAndHowls := by
  refine ⟨fun p s => ⟨barkSend_undue, barkSend_sends p s⟩, fun p bark ack s => ⟨fun ha hq => ?_, barkReceived_drops p s bark ack,
    barkReceived_renews p s bark ack⟩, fun who v s hg => ⟨fun hr => ?_, howlSend_sends hg⟩,
    fun who v s hg => ⟨fun hv => ?_, stepAbandon_marks hg⟩⟩
  · have hx := effect_barkReceived p bark ack s
    rwa [Dev.hearBark_deaf _ _ ha hq] at hx
  · have hx := howlSend_accepted (v := v) hg
    rwa [Dev.howl_silent _ _ _ _ _ _ _ (mt (s.dev.asked_howls who).1 hr)] at hx
  · refine (stepAbandon_write hg).1 (if_neg ?_)
    rwa [s.dev.asked_step who]

end Sys2Proof.Machine
end
